-- ==== Sys2Proof/Word.lean ====
section
/-! DEFINITION. The word types of the block and their plainest arithmetic. -/
namespace Sys2Proof

/-- A 32-bit register value (every register access of the control space is 32 bits wide, R44). -/
abbrev Word := BitVec 32

/-- A byte of a capsule, a sector or a memory. -/
abbrev Byte := BitVec 8

/-- Time in ticks of the 800 MHz time base (R4). -/
abbrev Tick := Nat

/-- The word that holds a number modulo 2^32. -/
abbrev Word.ofNum (n : Nat) : Word := BitVec.ofNat 32 n

end Sys2Proof
end

