-- ==== Sys2Proof/Machine/Tab.lean ====
section
/-! DEFINITION. Finite tables keyed by a number, in one canonical form (keys strictly rising), and the bit-field,
byte-order and list helpers that every family of commands uses. -/
namespace Sys2Proof.Machine

/-- A finite table keyed by numbers. Canonical form: `Tab.wf`. -/
structure Tab (α : Type) where
  /-- the entries, keys strictly rising -/
  entries : List (Nat × α)
  deriving DecidableEq, Repr

/-- The empty table. -/
def Tab.empty {α : Type} : Tab α := ⟨[]⟩

/-- Lookup in an entry list. -/
def findKey {α : Type} (k : Nat) : List (Nat × α) → Option α
  | [] => none
  | (j, v) :: r => if j = k then some v else findKey k r

/-- Sorted insertion (replacement where the key is there). -/
def insertKey {α : Type} (k : Nat) (v : α) : List (Nat × α) → List (Nat × α)
  | [] => [(k, v)]
  | (j, w) :: r =>
    if k < j then (k, v) :: (j, w) :: r
    else if j = k then (k, v) :: r
    else (j, w) :: insertKey k v r

/-- Removal of a key. -/
def eraseKey {α : Type} (k : Nat) : List (Nat × α) → List (Nat × α)
  | [] => []
  | (j, w) :: r => if j = k then eraseKey k r else (j, w) :: eraseKey k r

/-- The entry at a key. -/
def Tab.get {α : Type} (t : Tab α) (k : Nat) : Option α := findKey k t.entries

/-- The entry at a key, or a default. -/
def Tab.getD {α : Type} (t : Tab α) (k : Nat) (d : α) : α := (t.get k).getD d

/-- The table with an entry written. -/
def Tab.set {α : Type} (t : Tab α) (k : Nat) (v : α) : Tab α := ⟨insertKey k v t.entries⟩

/-- The table with a key removed. -/
def Tab.erase {α : Type} (t : Tab α) (k : Nat) : Tab α := ⟨eraseKey k t.entries⟩

/-- The table with the entry at a key changed by a function, from a default where there is none. -/
def Tab.modify {α : Type} (t : Tab α) (k : Nat) (d : α) (f : α → α) : Tab α :=
  t.set k (f (t.getD k d))

/-- Does the table hold the key? -/
def Tab.has {α : Type} (t : Tab α) (k : Nat) : Bool := (t.get k).isSome

/-- All values, in key order. -/
def Tab.values {α : Type} (t : Tab α) : List α := t.entries.map (·.2)

/-- All keys, rising. -/
def Tab.keys {α : Type} (t : Tab α) : List Nat := t.entries.map (·.1)

/-- Change every value. -/
def Tab.mapVals {α β : Type} (t : Tab α) (f : Nat → α → β) : Tab β := ⟨t.entries.map fun e => (e.1, f e.1 e.2)⟩

/-- Keep the entries that satisfy a test. -/
def Tab.filter {α : Type} (t : Tab α) (p : Nat → α → Bool) : Tab α := ⟨t.entries.filter fun e => p e.1 e.2⟩

/-- Are all the keys of a list above a bound and rising? -/
def risingFrom {α : Type} (b : Nat) : List (Nat × α) → Bool
  | [] => true
  | (j, _) :: r => decide (b ≤ j) && risingFrom (j + 1) r

/-- The canonical form of a table: keys strictly rising. -/
def Tab.wf {α : Type} (t : Tab α) : Bool := risingFrom 0 t.entries

/-- The field of a word that starts at bit `lo` and is `w` bits wide. -/
def field (v : Word) (lo w : Nat) : Nat := (v.toNat >>> lo) % 2 ^ w

/-- One bit of a word as a Boolean. -/
def bit (v : Word) (i : Nat) : Bool := v.getLsbD i

/-- A Boolean as a number. -/
def num (b : Bool) : Nat := if b then 1 else 0

/-- A word whose only set bit is bit `i`. -/
def oneBit (i : Nat) : Word := BitVec.ofNat 32 (2 ^ i)

/-- A word built from (low bit, value) pairs that do not overlap. -/
def packWord (fs : List (Nat × Nat)) : Word := BitVec.ofNat 32 ((fs.map fun f => f.2 * 2 ^ f.1).sum)

/-- The word whose bit `i` is set for each `i` of the list. -/
def maskOf (is : List Nat) : Word := is.foldl (fun m i => m ||| oneBit i) 0#32

/-- Bounded to a range, as "stored clamped" says. -/
def clampTo (lo hi n : Nat) : Nat := if n < lo then lo else if hi < n then hi else n

/-- A number from its bytes, least significant first (multi-byte fields are little-endian). -/
def leNat : List Byte → Nat
  | [] => 0
  | b :: r => b.toNat + 256 * leNat r

/-- The `n` low bytes of a number, least significant first. -/
def leBytes : Nat → Nat → List Byte
  | 0, _ => []
  | n + 1, v => BitVec.ofNat 8 (v % 256) :: leBytes n (v / 256)

/-- `n` bytes of a list from an offset, short where the list ends. -/
def slice (bs : List Byte) (off n : Nat) : List Byte := (bs.drop off).take n

/-- A little-endian field of a byte list: `n` bytes from `off`. -/
def leField (bs : List Byte) (off n : Nat) : Nat := leNat (slice bs off n)

/-- `n` zero bytes. -/
def zeros (n : Nat) : List Byte := List.replicate n 0#8

/-- A byte list brought to a length: cut or filled with zero bytes. -/
def padTo (n : Nat) (bs : List Byte) : List Byte := bs.take n ++ zeros (n - bs.length)

/-- A list with the entry at an index replaced. -/
def setAt {α : Type} (l : List α) (i : Nat) (v : α) : List α := l.set i v

/-- The quotient rounded up. -/
def ceilDiv (a b : Nat) : Nat := (a + b - 1) / b

/-- How far `b` lies ahead of `a` in counting modulo 2^w. -/
def wrapGap (w a b : Nat) : Nat := (BitVec.ofNat w b - BitVec.ofNat w a).toNat

/-- A two's complement number of `w` bits as an integer. -/
def signedOf (w n : Nat) : Int := if n < 2 ^ (w - 1) then (n : Int) else (n : Int) - (2 ^ w : Nat)

/-- An integer as a two's complement number of `w` bits. -/
def unsignedOf (w : Nat) (i : Int) : Nat := (i % ((2 ^ w : Nat) : Int)).toNat

end Sys2Proof.Machine
end

