-- ==== Sys2Proof/Machine/Parts/Boot.lean ====
section
/-! DEFINITION. The state of clocks, power domains, boot and the SMBus sideband (chapter 16), of command tracing
(chapter 17) and of the test access port and reset pin (chapter 18). Every default below is the value after reset. -/
namespace Sys2Proof.Machine

/-- The five PLL-fed clocks in the bit order of CLK_STAT.ON_PLL, and the always-on oscillator (Table 16-1). -/
inductive ClkName | reg | time | fab | cc | dp | aon
  deriving DecidableEq, Repr

/-- One divided clock (R418): its divider, and whether it runs from the PLL. -/
structure DivClock where
  /-- present divider; reset 256 -/
  div : Nat := 256
  /-- runs from the PLL (ON_PLL); reset 0: from the oscillator -/
  onPll : Bool := false
  /-- the divider is on its way: a ramp of this clock is running -/
  ramping : Bool := false
  /-- tick at which the next divider step is due (R418) -/
  nextAt : Tick := 0
  /-- cycles counted since power-on, and VCO periods since the last of them (CYC, R47) -/
  cycles : Nat := 0
  part : Nat := 0
  deriving DecidableEq, Repr

/-- The clock block CLK (R413 to R420). -/
structure Clk where
  /-- REFCLK present (R414); reset 0 -/
  refclk : Bool := false
  /-- root PLL locked; reset 0 -/
  pllLock : Bool := false
  /-- PLL in holdover (R420); reset 0 -/
  holdover : Bool := false
  /-- the ramp goes down towards the targets (true) or up to 256 (R418, R420) -/
  down : Bool := true
  reg : DivClock := {}
  time : DivClock := {}
  fab : DivClock := {}
  cc : DivClock := {}
  dp : DivClock := {}
  aon : DivClock := {}
  /-- fused trim code and trim code in use (R416): fuses; DESIGN CHOICE 512 (log entry 6) -/
  fuse : Nat := 512
  code : Nat := 512
  /-- acquisition complete; reset 0 -/
  locked : Bool := false
  /-- acquisition bit of the next window: 9 down to 0 (R417); reset 9 -/
  acqBit : Nat := 9
  /-- source of the windows so far: 0 none, 1 REFCLK, 2 1PPS (R417) -/
  source : Nat := 0
  /-- CLK_OSC_ERR.PPM; reset 0 -/
  ppm : Int := 0
  deriving DecidableEq, Repr

/-- The power controller PWR (R421 to R423). -/
structure Pwr where
  /-- domains that are on (PWR_DOM_STAT.IS_ON), by number; reset none -/
  isOn : List Nat := []
  /-- domain being switched, and whether on (BUSY, DOMAIN); reset none -/
  switching : Option (Nat × Bool) := none
  deriving DecidableEq, Repr

/-- A patch set as it stands in a slot of the patch store (Table 16-5). The digest and the signature are held as
whether they verify. -/
structure PatchSet where
  magic : Nat
  format : Nat
  romVer : Nat
  level : Nat
  length : Nat
  entries : Nat
  /-- per table entry: ROM entry address, code offset in the set, code length -/
  table : List (Nat × Nat × Nat)
  digestOk : Bool
  sigOk : Bool
  deriving DecidableEq, Repr

/-- Where a patch activation stands (R431). -/
inductive ActPhase | none | draining | applying
  deriving DecidableEq, Repr

/-- The boot block (R425 to R432). -/
structure Boot where
  /-- BOOT_STAT.STAGE (Table 16-3): right after reset the boot is in step 1 -/
  stage : Nat := 1
  failStage : Nat := 0
  /-- ROM digest matched; reset 0 -/
  romOk : Bool := false
  /-- controller id strap (R15): DESIGN CHOICE controller 0 (log entry 7) -/
  ctrlId : Nat := 0
  /-- tick at which the last reset ended, and BOOT_TIME -/
  resetAt : Tick := 0
  timeMs : Nat := 0
  /-- patch store slots A and B, in MRAM (R428); reset empty -/
  slotA : Option PatchSet := none
  slotB : Option PatchSet := none
  /-- MRAM boot record: slot B is active (R428); reset A -/
  useB : Bool := false
  /-- active patch level and the loaded patch table (R428); reset 0, empty -/
  level : Nat := 0
  table : List (Nat × Nat × Nat) := []
  /-- activation in progress (R431), and the tick its hold began -/
  act : ActPhase := .none
  actAt : Tick := 0
  /-- BOOT_ACT.ABANDONED and HOLD_MS; reset 0 -/
  abandoned : Bool := false
  holdMs : Nat := 0
  /-- how far the present step of the power-up has come: its enables have been started (Table 16-3); reset 0 -/
  part : Nat := 0
  /-- MRAM unusable at step 5 or 6 (R426) -/
  mramBad : Bool := false
  /-- what the rest of the power-up will find: outcomes of its steps (R425, R426), as the reset command gave them -/
  checksOk : Bool := true
  ddrOk : Bool := true
  mramOk : Bool := true
  deriving DecidableEq, Repr

/-- The SMBus sideband MGT (R433 to R438). -/
structure Mgt where
  /-- snapshot buffers A and B, by word 0 to 511; a word not listed reads 0 (R436) -/
  bufA : Tab Word := .empty
  bufB : Tab Word := .empty
  /-- buffer B is current; reset A -/
  curB : Bool := false
  /-- tick of the last commit; none before the first -/
  commitAt : Option Tick := none
  /-- SNAP_VALID was 1 when last looked at (R437, cause 1) -/
  fresh : Bool := false
  /-- MGT_CAUSE; reset 0 -/
  cause : Nat := 0
  /-- an alert response has released MGT_ALERT_N (R437) -/
  released : Bool := false
  /-- MGT_CFG.ADDR in effect since the last STOP condition (MGT_CFG); reset 0x5A on controller 0 -/
  addr : Nat := 0x5A
  /-- highest main die junction sensor, 0.1 degrees C (Table 16-6); reset DESIGN CHOICE 250 (log entry 9) -/
  tempMain : Int := 250
  deriving DecidableEq, Repr

/-- A command that PMT traces (R444, R445). -/
structure Traced where
  conn : Nat
  cid : Nat
  op : Nat
  ns : Nat := 0
  zone : Nat := 0
  len : Nat := 0
  /-- FLAGS of Table 17-4, bits 1 to 4 -/
  flags : Nat := 0
  /-- stamps S0 to S11 by point; a point not reached is not listed -/
  stamps : Tab Tick := .empty
  deriving DecidableEq, Repr

/-- The trace block PMT (R444 to R448). -/
structure Trace where
  /-- LFSR state; reset 1 (PMT_SEED) -/
  lfsr : Nat := 1
  /-- PMT_WR; reset 0 -/
  wr : Nat := 0
  /-- tagged commands in flight; reset none -/
  live : List Traced := []
  /-- RING_FULL has been raised for the present filling (R446) -/
  full : Bool := false
  deriving DecidableEq, Repr

/-- The TAP instructions of R463. -/
inductive TapInstr | idcode | bypass | samplePreload | extest | clamp | highz
  deriving DecidableEq, Repr

/-- The test access port and PORST_N (R424, R459, R463). -/
structure Tap where
  /-- instruction in effect: IEEE 1149.1 selects IDCODE at Test-Logic-Reset (PRESUMED, log entry 10) -/
  instr : TapInstr := .idcode
  /-- bits preloaded into the boundary register, first bit first -/
  boundary : List Bool := []
  /-- PORST_N is low: the part is held in reset (R424); reset high -/
  porstLow : Bool := false
  /-- the outputs are driven from the boundary register (EXTEST, CLAMP), or are high-impedance (HIGHZ) -/
  driving : Bool := false
  floating : Bool := false
  deriving DecidableEq, Repr

end Sys2Proof.Machine
end

