-- ==== Sys2Proof/Machine/Parts/Host.lean ====
section
/-! DEFINITION. The state of the host side: namespaces, zones, tokens (chapter 03), commands (04), connections, regions
and transport engines (05). Every default below is the value after reset. -/
namespace Sys2Proof.Machine

/-- The namespace states of Table 3-2 (R53). -/
inductive NsState | unused | locked | active | retiring
  deriving DecidableEq, Repr

/-- The latency classes of Table 3-6 (R68). -/
inductive LatClass | pinned | seasonal | patrol
  deriving DecidableEq, Repr

/-- One namespace: the attributes of Table 3-1 (R51) and its state (R53); the wrapped key NSK that the security core
stores for it and the unlock policy of NS_CREATE (R319, R323). -/
structure Namespace where
  /-- state of Table 3-2 (R53); reset UNUSED -/
  st : NsState := .unused
  /-- log2 of the zone size, 32 to 36 (R51); no namespace at reset -/
  shift : Nat := 34
  /-- zone count, 1 to 1,048,576 (R51) -/
  zoneCount : Nat := 0
  /-- 12-bit group set (R51) -/
  groupSet : Nat := 0
  /-- latency class (R51, R68) -/
  cls : LatClass := .seasonal
  /-- wake limit in seconds, 1 to 60 (R51) -/
  wakeLimit : Nat := 5
  /-- unlock policy AUTO: the key is loaded at boot and takeover (R323) -/
  autoUnlock : Bool := false
  deriving DecidableEq, Repr

/-- The zone states of Table 3-4 (R57), in the code order of Table 4-10. -/
inductive ZoneState | empty | opened | closed | full | readOnly | degraded | offline
  deriving DecidableEq, Repr

/-- The ZONE_MGMT actions (R105). -/
inductive ZoneAction | openZ | closeZ | finishZ | resetZ
  deriving DecidableEq, Repr

/-- One zone of the zone table (R52, R57 to R71). Sectors count from the zone start. -/
structure Zone where
  /-- state (R57); reset EMPTY -/
  st : ZoneState := .empty
  /-- the group the zone lies on (R59); none for EMPTY and for a zone finished from EMPTY (R55) -/
  group : Option Nat := none
  /-- width and layout of its stripes: those of its group when it was placed, or of a reshape since (R280) -/
  w : Nat := 0
  dual : Bool := false
  /-- capacity in sectors, fixed when the zone leaves EMPTY (R55) -/
  capacity : Nat := 0
  /-- accepted pointer (Write pointer, R63) -/
  accepted : Nat := 0
  /-- written pointer (R62) -/
  written : Nat := 0
  /-- end of the sectors handed to encryption: the placed pointer (R64) -/
  placed : Nat := 0
  /-- fill point of a finished zone (R65) -/
  fill : Option Nat := none
  /-- the ZONE_MGMT command that holds the zone, by acceptance number (R65) -/
  hold : Option Nat := none
  /-- READ_ONLY because the group lacks erase blocks: lasts until reset (R60) -/
  noBlocks : Bool := false
  /-- report required for every connection since a takeover (R69) -/
  markAll : Bool := false
  /-- connections that cleared the takeover mark (R69) -/
  cleared : List Nat := []
  /-- connections that carry the mark of their own (R69) -/
  marks : List Nat := []
  /-- extent map: zone stripe ordinal to group stripe (R11) -/
  extents : Tab Nat := .empty
  /-- sectors named by the loss log (R276) -/
  lost : List Nat := []
  deriving DecidableEq, Repr

/-- An attached access token (R72 to R76). -/
structure Token where
  /-- verification key slot KEY_ID -/
  keyId : Nat
  /-- generation of that key when the token was attached (R76) -/
  keyGen : Nat
  serial : Nat
  /-- RIGHTS: bit 0 READ, bit 1 WRITE, bit 2 ZONE_MGMT -/
  rights : Nat
  expiry : Nat
  /-- NS_RANGES: (first, last) pairs -/
  ranges : List (Nat × Nat)
  deriving DecidableEq, Repr

/-- Where a command stands between acceptance and its completion entry. -/
inductive Phase
  /-- its status is decided; its entry waits for ring space (R81) -/
  | ended
  /-- waits for its group to be in Summer (R68) -/
  | summerWait
  /-- waits for an OUT member to return (R259) -/
  | memberWait
  /-- a write that waits for staging windows (R92) -/
  | windowWait
  /-- a write whose XRDY waits for completion ring space (R93) -/
  | xrdyWait
  /-- a write that awaits DATA_DONE (R95, R98) -/
  | dataWait
  /-- DATA_DONE taken, window counters drain (R96) -/
  | draining
  /-- seal tags under check (R97) -/
  | sealCheck
  /-- read sectors under decryption (R328) -/
  | decrypting
  /-- payload under sealing (R102, R328) -/
  | sealing
  /-- content valid; waits to be placed (R64) -/
  | valid
  /-- placed: sectors handed to encryption (R64) -/
  | placed
  /-- meets R17 and waits for lower writes to be marked (R62) -/
  | programmed
  /-- a read whose lookup is made and whose sectors are fetched (R20) -/
  | reading
  /-- read or report data goes to the host by RDMA WRITE (R100) -/
  | delivering
  /-- strict placement: RDMA FLUSH issued, response awaited (R101) -/
  | flushing
  /-- ZONE_MGMT holds its zone (R65) -/
  | holding
  /-- the token's RDMA READ is issued (R109) -/
  | tokenRead
  /-- a FLUSH capsule waits for its covered writes (R104) -/
  | barrier
  /-- a QUEUE_RESET waits for the commands it acts on (R111) -/
  | resetting
  deriving DecidableEq, Repr

/-- A command accepted by CMD and not yet completed. `State.commands` holds them by acceptance number. -/
structure Command where
  conn : Nat
  cid : Nat
  /-- opcode of Table 4-3 -/
  op : Nat
  ns : Nat := 0
  zone : Nat := 0
  /-- offset in sectors; an APPEND's is the one assigned (R63) -/
  offset : Nat := 0
  len : Nat := 0
  bufKey : Word := 0#32
  bufAddr : Nat := 0
  sealIdx : Nat := 0
  arg : Nat := 0
  /-- controller-wide acceptance order (R92) -/
  seq : Nat := 0
  /-- tick of acceptance: the wake limit runs from it (R68) -/
  born : Tick := 0
  phase : Phase
  /-- does it hold a credit? (R83) -/
  credit : Bool := true
  /-- its windows: region indices, in window order (R92) -/
  windows : List Nat := []
  /-- data timeout deadline, once the XRDY header is handed to XPT (R98) -/
  deadline : Option Tick := none
  /-- acted on by a QUEUE_RESET: its completion is replaced by ABORTED_BY_RESET (R110) -/
  aborted : Bool := false
  /-- its connection failed, or its controller was demoted: it runs on without an entry (R103, R355) -/
  orphan : Bool := false
  /-- sectors of a read delivered so far: (sector, bytes or none for zeros) (R66) -/
  got : Tab (Option (List Byte)) := .empty
  /-- sectors of a read still being fetched from the medium -/
  want : List Nat := []
  /-- some sector was lost (R67): the first one -/
  lostAt : Option Nat := none
  /-- some sector was delivered as zeros (R67) -/
  zeroed : Bool := false
  /-- the data a report, identify, log or read delivers, once complete -/
  payload : List Byte := []
  /-- acceptance numbers of the commands a FLUSH or QUEUE_RESET waits for (R104, R111) -/
  awaits : List Nat := []
  /-- writes that ended with a status other than SUCCESS, or commands aborted (R104, R111) -/
  count : Nat := 0
  /-- crypto jobs of it not yet ended (R328) -/
  jobsLeft : Nat := 0
  /-- seal tags of the chunks of a sealed payload, by chunk (R102) -/
  tags : Tab (List Byte) := .empty
  /-- capsules parsed on the connection before this one (R330) -/
  capsule : Nat := 0
  /-- tokens and other values that a phase keeps: the record whose acknowledgement it waits for (R344) -/
  recNo : Nat := 0
  /-- interim log copies of its sectors still to program (R17): (sector, how many) -/
  logLeft : Tab Nat := .empty
  /-- full stripes it touches still to commit (R17): group stripe keys -/
  stripesLeft : List Nat := []
  deriving DecidableEq, Repr

/-- The connection states of Table 5-5 (R124). -/
inductive ConnState | free | setup | ready | error | closing
  deriving DecidableEq, Repr

/-- An entry waiting for completion ring space (R81), or the run of entries of one XRDY (R93). -/
structure Entry where
  cid : Nat
  status : Nat
  /-- type of Table 4-6 -/
  typ : Nat
  result : Nat
  /-- the command that it completes, or whose XRDY it is -/
  cmd : Option Nat := none
  /-- windows of an XRDY: region key and length, in window order (Table 4-8) -/
  windows : List (Nat × Nat) := []
  /-- data timeout in ms in effect when an XRDY was posted (CMD_DATA_TMO) -/
  tmo : Nat := 0
  deriving DecidableEq, Repr

/-- A request the engine has sent and not seen acknowledged (R137, R146). -/
inductive SentKind | write | read | flush
  deriving DecidableEq, Repr

/-- One request of the requester side. -/
structure Sent where
  psn : Nat
  kind : SentKind
  /-- acceptance number of the command it serves; none for a completion entry -/
  cmd : Option Nat
  /-- payload in bytes: written, or asked for -/
  len : Nat
  packets : Nat := 1
  deriving DecidableEq, Repr

/-- One RDMA connection: transport context (Table 5-6), rings and credits (R78 to R84, R119 to R128, R146, R147). -/
structure Conn where
  st : ConnState := .free
  /-- transport engine 0 to 3, fixed for its life (R126, R127) -/
  engine : Nat := 0
  port : Nat := 0
  sub : Nat := 0
  /-- egress queue (R126, R153) -/
  queue : Nat := 0
  udpPort : Nat := 0
  hostQpn : Nat := 0
  hostIp : Nat := 0
  mtu : Nat := 4096
  /-- first expected PSN of the host and the controller's next PSN (R123) -/
  ePsn : Nat := 0
  nPsn : Nat := 0
  /-- oldest unacknowledged PSN (R146) -/
  uPsn : Nat := 0
  /-- message sequence number of the responder (Table 5-6) -/
  msn : Nat := 0
  retryCount : Nat := 7
  retriesLeft : Nat := 7
  /-- retransmission timer deadline (R146) -/
  retxAt : Option Tick := none
  /-- acknowledgement coalescing: packets since the last ACK, and its timer (R144) -/
  ackCount : Nat := 0
  ackAt : Option Tick := none
  /-- a sequence error NAK was drawn and the expected PSN has not yet arrived (R144) -/
  nakked : Bool := false
  /-- rate, step, rises, last cut and next rise (R147), 100 Mb/s units -/
  rate : Nat := 0
  step : Nat := 0
  rises : Nat := 0
  lastCut : Option Tick := none
  riseAt : Tick := 0
  /-- tick of the last CNP sent (R145) -/
  cnpSent : Option Tick := none
  /-- requests sent and not acknowledged, oldest first (R137) -/
  sent : List Sent := []
  /-- READ and FLUSH requests that wait because 16 are outstanding (R117): kind, command, length -/
  held16 : List (SentKind × Option Nat × Nat) := []
  /-- packets that wait in the engine for the pacer and the port: frame lengths (R128, R147), and the tick at which
  the pacer lets the next one go -/
  txq : List Nat := []
  paceAt : Tick := 0
  /-- IP traffic class or DSCP, and 802.1Q priority, of the REQ (R123) -/
  dscp : Nat := 0
  pcp : Option Nat := none
  /-- the 16 responder resources of R138: (PSN, region index, offset, length, is it a FLUSH) -/
  resources : List (Nat × Nat × Nat × Nat × Bool) := []
  /-- setup options (R101, R120, R124) -/
  sealed : Bool := false
  ordered : Bool := false
  hostId : Nat := 0
  cqShift : Nat := 10
  cqKey : Word := 0#32
  cqAddr : Nat := 0
  htagKey : Word := 0#32
  htagAddr : Nat := 0
  /-- ring and tag regions (R124) -/
  ringRegion : Nat := 0
  ctagRegion : Option Nat := none
  /-- credits: grant (R82, R83) -/
  grant : Nat := 0
  /-- setup timeout, DREP timeout or number reuse deadline (R124, R125) -/
  deadline : Option Tick := none
  /-- the DREQ in CLOSING was the controller's own (R125) -/
  ownDreq : Bool := false
  /-- submission ring: next slot to parse, triggered slots with the tick count of the trigger, count parsed (R79, R80, R89) -/
  parse : Nat := 0
  slots : Tab Tick := .empty
  sqHead : Nat := 0
  /-- completion ring: next entry number k, CQ_HEAD copy, waiting entries in generation order (R81) -/
  nextEntry : Nat := 0
  cqHead : Nat := 0
  waiting : List Entry := []
  /-- attached tokens by handle 1 to 16 (R73) -/
  tokens : Tab Token := .empty
  /-- controller tag region contents, sealed connections only (R97) -/
  ctags : List Host.Cell := []
  /-- contents of the submission ring region: slots and head block (R78, R81) -/
  ringBytes : List Host.Cell := []
  /-- capsules held at intake, oldest first, with the tick of holding and the capsule number of R330 (R110,
  R112, R358) -/
  heldCaps : List (List Byte × Tick × Nat) := []
  /-- a QUEUE_RESET is in progress (R110) -/
  resetting : Bool := false
  /-- a context fetch is in progress (R132) -/
  fetching : Bool := false
  deriving DecidableEq, Repr

/-- The region states of Table 5-7 and R141. -/
inductive RegionState | free | valid | revoking
  deriving DecidableEq, Repr

/-- What lies behind a region: a ring, a staging window, a tag region, or a range of DRAM that a register port
registration named (R148). -/
inductive RegionKind | ring | window | ctag | dram
  deriving DecidableEq, Repr

/-- One entry of the region table (R139 to R141). -/
structure Region where
  st : RegionState := .free
  /-- generation 1 to 255; an entry never registered holds 1 (R140) -/
  gen : Nat := 1
  owner : Nat := 0
  kind : RegionKind := .dram
  base : Nat := 0
  len : Nat := 0
  canRead : Bool := false
  canWrite : Bool := false
  canFlush : Bool := false
  trigger : Bool := false
  /-- packets between the check and the end of step 2 of R141 -/
  inflight : Nat := 0
  /-- bytes placed since allocation (R96) -/
  placed : Nat := 0
  /-- contents of a staging window -/
  bytes : List Host.Cell := []
  /-- the revoke was requested at the register port of this engine (R148): REVOKE_DONE alert is due -/
  byPort : Option Nat := none
  deriving DecidableEq, Repr

/-- One transport engine (R126 to R134). Its counters and configuration are registers. -/
structure Engine where
  /-- the 256 cache entries that hold a context: entry number to connection (R131) -/
  cache : Tab Nat := .empty
  /-- tree pseudo-LRU bits of the cache, root at bit 1; reset 0 (R131) -/
  tree : Nat := 0
  /-- cells of the miss buffer in use, and the most since the last soft reset (R133) -/
  cells : Nat := 0
  high : Nat := 0
  deriving DecidableEq, Repr

/-- An entry of the error log (R108). -/
structure LogEntry where
  tick : Tick
  code : Nat
  conn : Nat
  cid : Nat
  deriving DecidableEq, Repr

end Sys2Proof.Machine
end

