-- ==== Sys2Proof/Machine/Parts/Fabric.lean ====
section
/-! DEFINITION. The state of the fabric, arbiters, DMA channels and memories (chapter 14). Every default below is the
value after reset. -/
namespace Sys2Proof.Machine

/-- One access presented to the register bus (R375, R48). -/
structure BusAccess where
  req : Nat
  addr : Nat
  write : Bool
  value : Word
  deriving DecidableEq, Repr

/-- A transfer that a requester presents to a DDR or MRAM arbiter (R371): requester id and bytes. -/
structure Presented where
  req : Nat
  len : Nat
  deriving DecidableEq, Repr

/-- The state of one requester at one arbiter (R370 to R374). -/
structure Requester where
  /-- bytes that it presents: of a whole transfer, or of the remainder of one (R371); 0 when it presents nothing -/
  want : Nat := 0
  /-- whole length of that transfer, for a restart (R373) -/
  whole : Nat := 0
  /-- lengths of its later transfers, in issue order (R369) -/
  next : List Nat := []
  /-- arbiter cycle in which the transfer first presented (R374) -/
  since : Nat := 0
  /-- the alarm of this wait has been raised (R374) -/
  alarmed : Bool := false
  losses : Nat := 0
  /-- back-off: arbiter cycle at which it presents again, while it is backing off (R371) -/
  backoff : Option Nat := none
  /-- register accesses waiting, oldest first, on the register bus (R375) -/
  accesses : List BusAccess := []
  /-- FAB_REQ_CFG.CLASS when written; none for the reset class of Table 14-2 -/
  cls : Option Nat := none
  maxw : Nat := 0
  alarm : Nat := 0
  grants : Nat := 0
  preempts : Nat := 0
  deriving DecidableEq, Repr

/-- One of the six arbiters (R371 to R375). -/
structure Arbiter where
  /-- owner of the port and bytes of its transfer left; a parked owner has 0 left (R371, R372) -/
  owner : Option Nat := none
  left : Nat := 0
  /-- round-robin pointers by class (R371); reset 0 -/
  rr : Tab Nat := .empty
  reqs : Tab Requester := .empty
  deriving DecidableEq, Repr

/-- An outbound read of a descriptor (R403, R406): its tag, the bytes of the block that it covers, and its data once
complete. -/
structure DmaRead where
  tag : Nat
  off : Nat
  len : Nat
  data : Option (List Byte) := none
  /-- what partial completions have brought -/
  got : List Byte := []
  /-- it has ended without its data -/
  failed : Bool := false
  deriving DecidableEq, Repr

/-- A fetched DMA descriptor (R377) and how far its channel has come with it. -/
structure DmaDesc where
  /-- its count and DRAM address -/
  count : Nat
  addr : Nat
  src : Nat
  dst : Nat
  /-- the LENGTH word as fetched -/
  length : Nat
  ctrl : Word
  /-- bytes written to the destination, and those bytes in stream order for the CRC (R379) -/
  moved : Nat := 0
  stream : List Byte := []
  /-- bytes asked for by outbound reads, and the reads outstanding, oldest first (R403, R406) -/
  asked : Nat := 0
  reads : List DmaRead := []
  /-- STATUS once the descriptor has ended (R380), and RESULT -/
  status : Option Nat := none
  result : Nat := 0
  /-- the channel halts with cause MASTER_DISABLED after it (R381, R406) -/
  disabled : Bool := false
  deriving DecidableEq, Repr

/-- One DMA channel (R376 to R382). The ring base, size and tail are its registers. -/
structure DmaChan where
  /-- DMA_HEAD (R376); reset 0; kept through soft reset (R382) -/
  head : Nat := 0
  /-- HALT and its cause (R380, R381); reset 0 -/
  halt : Bool := false
  cause : Nat := 0
  /-- STATUS of the last write-back -/
  last : Nat := 0
  /-- descriptor in progress, processed and not yet written back -/
  desc : Option DmaDesc := none
  /-- bytes moved, below one MiB, for DMA_MIB_CNT -/
  bytes : Nat := 0
  deriving DecidableEq, Repr

/-- One DDR5 channel (R383 to R387). -/
structure Ddr where
  /-- TRAINED, SELF_REFRESH; reset 0 -/
  trained : Bool := false
  selfRefresh : Bool := false
  /-- next channel address of the patrol scrub (R386); reset 0 -/
  scrub : Nat := 0
  deriving DecidableEq, Repr

/-- MRAM control (R388 to R393). -/
structure Mrm where
  /-- dies 0 and 1 respond: MRM_STAT (R393); reset both up -/
  die0 : Bool := true
  die1 : Bool := true
  scrub : Nat := 0
  /-- bytes written, below one MiB, for MRM_WRITE_MIB_CNT -/
  bytes : Nat := 0
  deriving DecidableEq, Repr

end Sys2Proof.Machine
end

