-- ==== Sys2Proof/Machine/Parts/Medium.lean ====
section
/-! DEFINITION. The state of the medium side: modules, slot links, decoding and journal (chapter 08), stripe groups (09),
failure, rebuild and reshape (10). Every default below is the value after reset. -/
namespace Sys2Proof.Machine

/-- A place on a module: the ADDR field of Table 8-4 (R208). -/
structure FlashAddr where
  chan : Nat := 0
  die : Nat := 0
  plane : Nat := 0
  block : Nat := 0
  page : Nat := 0
  deriving DecidableEq, Repr

/-- The block states of Table 8-10 (R218). -/
inductive BlockState | free | opened | full | suspect | retired | slc | metadata
  deriving DecidableEq, Repr

/-- What a block is used for while it takes programs. -/
inductive BlockUse | none | strips | log | journal | checkpoint
  deriving DecidableEq, Repr

/-- One block table entry (R218) with the block's mode and fill (R197, R233). -/
structure EraseBlock where
  st : BlockState := .free
  /-- P/E cycles, saturating at 131,071 -/
  pe : Nat := 0
  /-- retry score (R215), saturating at 255 -/
  score : Nat := 0
  /-- retention age in equivalent days, saturating at 4,095 (R220) -/
  heat : Nat := 0
  /-- device hours of the first program since erase; 0 when never programmed -/
  progHours : Nat := 0
  /-- the block's last erase was in SLC mode (R197) -/
  slc : Bool := false
  use : BlockUse := .none
  /-- the group the block serves; none for a FREE block -/
  group : Option Nat := none
  /-- pages handed out so far, in ascending order (R209, R233) -/
  nextPage : Nat := 0
  /-- obsolete codewords of a log block (R243) -/
  obsolete : Nat := 0
  /-- a refresh of the block is scheduled (R215, R221) -/
  refreshDue : Bool := false
  /-- to be erased before its next use (R65, R277) -/
  dirty : Bool := false
  /-- reserved for the distributed spare (R248) -/
  reserved : Bool := false
  /-- order in which blocks were taken into use, for the oldest log block (R243) -/
  order : Nat := 0
  /-- tick of the last patrol visit, or of the first program (R221) -/
  visitAt : Tick := 0
  deriving DecidableEq, Repr

/-- What the controller knows of the module in a slot, from its identity page and telemetry (R196, R220). -/
structure Module where
  serial : List Byte
  channels : Nat
  dies : Nat
  planes : Nat
  bits : Nat
  blocks : Nat
  pagesNative : Nat
  pagesSlc : Nat
  pageUser : Nat
  pageRaw : Nat
  capacity : Nat
  /-- passed the tests of R196 -/
  admitted : Bool
  /-- read-level sets loaded (R208) -/
  levels : List Nat := []
  /-- block table, by linear block number (R218); a block not listed is FREE -/
  table : Tab EraseBlock := .empty
  /-- last temperature in degrees C and the one of the module's last Autumn (R220) -/
  temp : Int := 25
  autumnTemp : Int := 25
  /-- Winter days charged at the Autumn temperature (R220) -/
  winterDays : Nat := 0
  deriving DecidableEq, Repr

/-- A sector of host data: namespace, zone, sector in zone. -/
structure SectorId where
  ns : Nat
  zone : Nat
  sector : Nat
  deriving DecidableEq, Repr

/-- What a codeword that is read is needed for. -/
inductive Need
  /-- a sector of a host read: the command's acceptance number and the sector of the zone -/
  | host (cmd sector : Nat)
  /-- an input of a row reconstruction: the row job and the member (R236) -/
  | row (job member : Nat)
  /-- refill of an open zone's stripe buffer: zone key and sector of the zone (R241) -/
  | refill (zone sector : Nat)
  deriving DecidableEq, Repr

/-- A codeword to be programmed: its metadata (Table 8-2) and the 4,096 bytes it carries. -/
structure Codeword where
  kind : Nat
  group : Nat
  member : Nat
  sector : Nat
  stripe : Nat
  seq : Nat
  ns : Nat
  zone : Nat
  claim : Nat
  data : List Byte
  deriving DecidableEq, Repr

/-- Why the controller issues a module command. -/
inductive Purpose
  /-- a page of a strip that is being folded: group stripe key, member index, page of the strip (R242) -/
  | strip (stripe member page : Nat)
  /-- an interim log page: group, member, log page number (R240) -/
  | logPage (group member page : Nat)
  /-- a stripes-in-flight journal page: group, member, journal page number (R245) -/
  | journal (group member page : Nat)
  /-- a page read for the codewords it lists -/
  | read
  /-- an erase of a block before its first use (R277) -/
  | erase
  /-- identity page after training (R196) -/
  | identify
  /-- the claim broadcast or probe: a status read that carries the claim (R356, R358) -/
  | probe
  /-- other telemetry, status and read-level commands -/
  | internal
  deriving DecidableEq, Repr

/-- A module command, waiting in MLK or in flight under a tag (R208). -/
structure LinkCmd where
  /-- opcode of Table 8-6 -/
  op : Nat
  addr : FlashAddr := {}
  arg : Nat := 0
  why : Purpose := .internal
  /-- of a read: the codewords of the page that are wanted, and what for -/
  cws : List (Nat × Need) := []
  /-- of a program: the codewords of the page -/
  out : List Codeword := []
  issued : Tick := 0
  /-- read already reissued once after a timeout (R210) -/
  reissued : Bool := false
  /-- the tag of a read that timed out and was reissued is told from a first issue; data frames that arrived -/
  frames : Nat := 0
  deriving DecidableEq, Repr

/-- The link states of Table 8-3 (R201), in the code order of MLK_LINK_STAT. -/
inductive LinkState | down | train | active | retrain | failed
  deriving DecidableEq, Repr

/-- A sequenced frame in the replay buffer (R203). -/
structure HeldFrame where
  seq : Nat
  tag : Nat
  /-- opcode byte of the frame -/
  op : Nat
  /-- times it has been replayed (R204, R205) -/
  replays : Nat := 0
  /-- tick at which it was last sent (R203) -/
  sentAt : Tick := 0
  deriving DecidableEq, Repr

/-- One slot link MLKnn (R201 to R210). -/
structure Link where
  /-- MLK_LINK_STAT.STATE (R201); reset DOWN -/
  st : LinkState := .down
  /-- consecutive failed retrains (R205); reset 0 -/
  retrainFails : Nat := 0
  /-- lane lock bits of MLK_LINK_STAT.LOCK; reset 0 -/
  lock : Nat := 0
  /-- SLOTnn_PRSNT_N asserted, SLOTnn_ALERT_N asserted (R207); reset 0 -/
  prsnt : Bool := false
  alert : Bool := false
  /-- SLOTnn_MRST_N asserted (R207); reset 1 -/
  mrst : Bool := true
  /-- tick of its last assertion, and of its release -/
  mrstAt : Tick := 0
  mrstOff : Tick := 0
  /-- a release was written within 100 us of the assertion (R207) -/
  mrstDue : Bool := false
  /-- start of the training in progress, and the time the next one may start (R201) -/
  trainAt : Option Tick := none
  retryAt : Tick := 0
  /-- SERIAL of the last LINK_PARAM (MLK_SERIAL0-3); reset zeros -/
  serial : List Byte := []
  /-- command and data credits held; cumulative counts last received (R206); reset 0 -/
  credCmd : Nat := 0
  credData : Nat := 0
  cumCmd : Nat := 0
  cumData : Nat := 0
  /-- credits owed back to the bridge: cumulative data and status frames consumed (R206) -/
  outData : Nat := 0
  outSts : Nat := 0
  /-- next sequence to send, next expected (R203); reset 0 -/
  txSeq : Nat := 0
  rxSeq : Nat := 0
  /-- a NAK was drawn for the present gap (R203) -/
  nakSent : Bool := false
  /-- frames accepted and not yet acknowledged, and the tick of the first (R203) -/
  ackDue : Nat := 0
  ackAt : Option Tick := none
  /-- replay buffer, oldest first, at most 64 (R203) -/
  held : List HeldFrame := []
  /-- commands in flight, by tag (R208) -/
  tags : Tab LinkCmd := .empty
  /-- commands held and not yet sent, in issue order -/
  waiting : List LinkCmd := []
  /-- data frames of sent commands that wait for a data credit or replay room, by tag, in order (R206) -/
  dataQueue : List Nat := []
  deriving DecidableEq, Repr

/-- A read-retry climb for one page (R211, R212). -/
structure Climb where
  slot : Nat
  addr : FlashAddr
  /-- ladder step now running: 1 to 8, or 9 for the soft decode -/
  step : Nat
  /-- codewords still failing: codeword, what for, and the best candidate so far: unsatisfied checks and step (R212) -/
  cws : List (Nat × Need × Option (Nat × Nat))
  deriving DecidableEq, Repr

/-- A codeword waiting for, or in, an LDPC engine (R19). -/
structure DecodeJob where
  slot : Nat
  tag : Nat
  /-- codeword in page -/
  index : Nat
  addr : FlashAddr
  /-- ladder step: 0 nominal, 1 to 8 of the ladder, 9 soft -/
  step : Nat
  need : Need
  deriving DecidableEq, Repr

/-- Where a strip or a log codeword lies on the medium. -/
structure Place where
  slot : Nat
  addr : FlashAddr
  /-- codeword in page, for log sectors -/
  cw : Nat := 0
  deriving DecidableEq, Repr

/-- One group stripe of the extent map (R233): the zone stripe it carries and the strip location of each member
index; a member without an entry has an absent strip (R260). -/
structure Stripe where
  ns : Nat
  zone : Nat
  q : Nat
  /-- width and layout under which it was laid out (R280) -/
  w : Nat
  dual : Bool
  strips : Tab Place := .empty
  deriving DecidableEq, Repr

/-- A sector row that is being reconstructed (R236): for whom, and the codewords gathered so far. -/
structure RowJob where
  /-- key of the stripe, and its extent map entry as the lookup found it (R20) -/
  stripe : Nat
  map : Stripe
  row : Nat
  /-- member whose strip is wanted, and what for -/
  target : Nat
  need : Need
  /-- members whose codeword of the row is unreadable -/
  bad : List Nat := []
  /-- ciphertext of the row by member -/
  inputs : Tab (List Byte) := .empty
  /-- members whose codeword is awaited -/
  awaiting : List Nat := []
  /-- a job of it failed in DRAM and its inputs were read again (R237) -/
  again : Bool := false
  deriving DecidableEq, Repr

/-- A stripe that is being folded (R242, R244, R245). -/
structure Fold where
  ns : Nat
  zone : Nat
  q : Nat
  /-- lowest codeword SEQ (Table 9-4) -/
  seqFirst : Nat
  claim : Nat
  /-- members whose strips are programmed (Table 9-4) -/
  members : List Nat
  /-- journal members whose copy has programmed (R245) -/
  journalled : List Nat := []
  /-- ciphertext by sector of the stripe's data span: the stripe buffer, kept until the commit (R242) -/
  buf : Tab (List Byte) := .empty
  /-- parity generated by PQE (R242): the P and the Q sector of each row; none before -/
  parity : Option (Tab (List Byte) × Tab (List Byte)) := none
  /-- where the strips go, by member; a member without an entry has an absent strip (R260) -/
  places : Tab Place := .empty
  /-- the strip programs have been released (R245) -/
  released : Bool := false
  /-- strip pages not yet passed: member, page -/
  pagesLeft : List (Nat × Nat) := []
  /-- lock-step as it stood when the stripe was folded (R251), and program rows still to release (R250) -/
  locked : Bool := false
  rows : List Nat := []
  /-- journal record sequence of its OPEN entry -/
  recNo : Nat := 0
  /-- the padding of a ZONE_MGMT finish: sectors from here on hold no host data (R65) -/
  padFrom : Option Nat := none
  deriving DecidableEq, Repr

/-- The stripe buffer of an open zone: ciphertext of the zone stripe being filled, by sector in stripe (R241). -/
structure StripeBuf where
  q : Nat
  sectors : Tab (List Byte) := .empty
  /-- sectors of a refill from the log still to come (R241) -/
  refill : List Nat := []
  deriving DecidableEq, Repr

/-- A codeword of an open log page: sector, group stripe, member index of the sector's strip, the member that takes
the other copy, the write it belongs to, by acceptance number, and its ciphertext (R239, R240). -/
structure LogCw where
  sec : SectorId
  stripe : Nat
  member : Nat
  other : Nat
  write : Option Nat
  data : List Byte
  deriving DecidableEq, Repr

/-- An interim log page of a member: gathering codewords, or released (R240). -/
structure LogPage where
  num : Nat
  cws : List LogCw := []
  firstAt : Tick := 0
  released : Bool := false
  deriving DecidableEq, Repr

/-- A stripes-in-flight journal page on its way to one journal member (R245): its number, the member, the flash pages
not yet passed, and its entries: type of Table 9-4 and group stripe key. -/
structure JrnlSent where
  num : Nat
  member : Nat
  left : Nat
  entries : List (Nat × Nat)
  deriving DecidableEq, Repr

/-- The member states of Table 10-1 (R254), in its code order. -/
inductive MemberState | online | out | failed | rebuilding | resync | spared | copyback | leaving
  deriving DecidableEq, Repr

/-- One member index of a group (R254 to R278). -/
structure Member where
  st : MemberState := .online
  slot : Nat
  /-- serial and capacity recorded when the module was admitted at the index (R248, R277) -/
  serial : List Byte := []
  capacity : Nat := 0
  /-- tick at which it became OUT, and the state it left (R257, R263) -/
  outAt : Tick := 0
  before : MemberState := .online
  /-- sweep: next stripe, START, END, wrapped to 0, and log copies still to restore (R265, R270) -/
  sweeping : Bool := false
  cursor : Nat := 0
  start : Nat := 0
  stop : Nat := 0
  wrapped : Bool := false
  logRestore : Bool := false
  /-- stripes whose strip at this index is absent (R261) -/
  dirty : List Nat := []
  /-- a target slot has taken the index (Table 10-5) -/
  taken : Bool := false
  /-- a new module waits in its slot for the index to become SPARED (Table 10-5) -/
  heldModule : Bool := false
  /-- open interim log page and next log page number (R240) -/
  log : Option LogPage := none
  logNum : Nat := 0
  /-- released log pages whose program has not ended -/
  logSent : List LogPage := []
  deriving DecidableEq, Repr

/-- The spare modes of R248. -/
inductive SpareMode | none | slot | distributed
  deriving DecidableEq, Repr

/-- The seasons of Table 11-1 (R288), in the code order of ZSQ_SEASON. -/
inductive Season | winter | spring | summer | autumn
  deriving DecidableEq, Repr

/-- Why a group waits for its wake, in the order of R298. -/
inductive WakeKind | demand | season | internal | patrol
  deriving DecidableEq, Repr

/-- One stripe group (R230 to R252, R254 to R285, R288 to R301). -/
structure Group where
  w : Nat
  dual : Bool
  spare : SpareMode := .none
  lock : Bool := false
  /-- LOCK_TMO_MS code (R251) -/
  lockTmo : Nat := 0
  jmem0 : Nat := 0
  jmem1 : Nat := 0
  /-- journal members being seeded: (role, member, pages left) (R247) -/
  seeding : List (Nat × Nat × Nat) := []
  members : Tab Member := .empty
  /-- next-stripe counter (R233); 0 for a new group -/
  next : Nat := 0
  lost : Bool := false
  /-- open journal page: entries gathered, type of Table 9-4 and group stripe key, with the tick of the first (R245) -/
  jrnlPage : List (Nat × Nat) := []
  jrnlAt : Tick := 0
  jrnlNum : Nat := 0
  /-- released journal pages whose programs have not all passed -/
  jrnlSent : List JrnlSent := []
  /-- last checkpoint: device ns, journal sequence (R225) -/
  ckptNs : Nat := 0
  ckptSeq : Nat := 0
  /-- season, tick of its entry (R288); a new group starts in Winter (R231) -/
  season : Season := .winter
  since : Tick := 0
  /-- members whose ramp has been ordered in this Spring (R289) -/
  ramped : Nat := 0
  /-- tick of the last host command or write in flight (R291) -/
  idleAt : Tick := 0
  /-- wake request outstanding: kind and order (R298), and whether WAKE_WAIT has been raised for it -/
  wake : Option (WakeKind × Nat) := none
  wakeWaited : Bool := false
  deriving DecidableEq, Repr

/-- A running reshape (R279 to R285). -/
structure Reshape where
  group : Nat
  w : Nat
  dual : Bool
  /-- slots of the new member list -/
  slots : List Nat
  /-- zone keys still to reshape, in order (R280) -/
  zones : List Nat
  done : Nat := 0
  /-- boundary in the zone being reshaped, sectors (R280) -/
  bound : Nat := 0
  /-- new zone stripes of the zone at the boundary: new ordinal to group stripe (R281) -/
  fresh : Tab Nat := .empty
  /-- boundary of the last checkpoint record, and new stripes since it (R283) -/
  ckptBound : Nat := 0
  since : Nat := 0
  suspended : Bool := false
  /-- the zone at the boundary is held (R282) -/
  held : Bool := false
  deriving DecidableEq, Repr

/-- One loss log entry (Table 10-3). -/
structure Loss where
  ns : Nat
  zone : Nat
  first : Nat
  count : Nat
  group : Nat
  cause : Nat
  time : Nat
  stripe : Nat
  deriving DecidableEq, Repr

/-- What a journal record says (R224): the new contents of a table entry, or a stripes-in-flight entry. -/
inductive RecordBody
  | zone (ns idx : Nat) (z : Zone)
  | block (slot idx : Nat) (b : EraseBlock)
  | stripe (key : Nat) (s : Stripe)
  | unstripe (key : Nat)
  | foldOpen (key : Nat) (f : Fold)
  | foldClose (key : Nat)
  | foldAbandon (key : Nat)
  | logPlace (key : Nat) (places : List Place)
  | group (g : Nat) (x : Option Group)
  | member (group idx : Nat) (m : Member)
  | loss (l : Loss)
  | reshape (r : Reshape)
  /-- no reshape is running any more (R274, R285) -/
  | reshapeEnd (group : Nat)
  /-- a module admitted in a slot, treated as new or not, so that the partner knows it (R277) -/
  | admitted (slot : Nat) (m : Module) (fresh : Bool)
  | nsState (ns : Nat) (st : NsState)
  /-- the mirrored part of the security core's store: a namespace's attributes, its wrapped keys NWK and NSK, a token
  verification key, the owner's key with the last nonce (R319, R321, R345) -/
  | nsEntry (ns : Nat) (x : Namespace)
  | nwk (ns : Nat) (key : Option Nat)
  | nsk (ns : Nat) (key : Option Nat)
  | tvk (k : Nat) (key : Option Nat)
  | owner (key : Option Nat) (nonce : Nat)
  deriving DecidableEq, Repr

/-- One record of the MRAM journal (R224). -/
structure JournalRecord where
  seq : Nat
  body : RecordBody
  deriving DecidableEq, Repr

end Sys2Proof.Machine
end

