-- ==== Sys2Proof/Machine/Parts/Pairing.lean ====
section
/-! DEFINITION. The state of PAIR (chapter 13): roles, mirroring, heartbeats, claims, takeover, drills. Every default
below is the value after reset. -/
namespace Sys2Proof.Machine

/-- PAIR_ROLE.ROLE, in its code order (R360, R358, R356). -/
inductive Role | boot | standby | active | takingOver | isolated | handingOver
  deriving DecidableEq, Repr

/-- PAIR_ROLE.MIRROR, in its code order (R345). -/
inductive Mirror | none | syncing | mirroring | degraded
  deriving DecidableEq, Repr

/-- One heartbeat path as its receiver sees it (R349). -/
structure HbPath where
  /-- missed-period count; reset 0 -/
  missed : Nat := 0
  /-- a valid heartbeat arrived since the previous 50 us boundary -/
  heard : Bool := false
  /-- PATH_LOST raised and not yet recovered -/
  lost : Bool := false
  /-- a heartbeat has been heard since power-on reset -/
  ever : Bool := false
  deriving DecidableEq, Repr

/-- Where a takeover, drill or hand-back stands. -/
inductive DrillPhase | none | draining | handover | dwelling | returning | awaiting
  deriving DecidableEq, Repr

/-- The pair block (R341 to R366). -/
structure Pair where
  /-- role; reset BOOT (R360) -/
  role : Role := .boot
  /-- mirror; reset NONE (R345) -/
  mirror : Mirror := .none
  /-- own epoch, in MRAM (R351) -/
  epoch : Nat := 0
  /-- last partner claim heard, and the partner's last epoch and role heard -/
  peerClaim : Nat := 0
  peerEpoch : Nat := 0
  peerRole : Option Role := none
  /-- partner's last record sequence and running CRC as its last HEARTBEAT frame gave them (R346); reset 0 -/
  peerSeq : Nat := 0
  peerCrc : Nat := 0
  /-- link path and wire path (R349) -/
  link : HbPath := {}
  wire : HbPath := {}
  /-- tick of the last valid heartbeat (R358) -/
  lastHeard : Tick := 0
  /-- last valid count on the wire received, and own count sent (R343) -/
  wireLast : Option Nat := none
  wireCount : Nat := 0
  /-- the ROM wrote PAIR_KICK within KICK_US (R348), and the tick of the last kick -/
  kicked : Bool := false
  kickAt : Tick := 0
  /-- partner lost since its last heartbeat (R349): declared once -/
  lostDeclared : Bool := false
  /-- tick of the loss that isolated this controller (R356) -/
  isolatedAt : Tick := 0
  /-- capsules are held: TAKING_OVER or a drill (R358, R362) -/
  holding : Bool := false
  /-- last record sequence acknowledged by the partner, and records sent unacknowledged (PAIR_MSEQ, PAIR_MLAG) -/
  acked : Nat := 0
  sentSeq : Nat := 0
  /-- running CRC over records (R346) -/
  crc : Nat := 0xFFFFFFFF
  /-- the image as it arrives, and records that came before its end (R345); reset empty -/
  image : List RecordBody := []
  early : List JournalRecord := []
  /-- ticks of the last heartbeat sent and of the last 50 us boundary (R348, R349); reset 0 -/
  sendAt : Tick := 0
  boundaryAt : Tick := 0
  /-- moment of the last loss declaration (R358); reset 0 -/
  declaredAt : Tick := 0
  /-- tick of the last state record over SPX (R353); reset none -/
  spxAt : Option Tick := none
  /-- the die's outputs are released 1 us after the new owner starts (R353) -/
  releaseAt : Option Tick := none
  /-- private store: NSK of AUTO namespaces (R347) -/
  store : Tab Nat := .empty
  /-- drill: phase, and the moment it began; RESULT and slots that failed of the last one; DAYS; due raised (R362, R363) -/
  drill : DrillPhase := .none
  drillAt : Tick := 0
  drillResult : Nat := 0
  drillDays : Nat := 0xFFFF
  drillDue : Bool := false
  drillSlots : List Nat := []
  /-- this controller started the drill -/
  drillMine : Bool := false
  /-- days of device time since MIRRORING was first reached (R363) -/
  mirrorDays : Option Nat := none
  /-- end of journal recovery: boot waits run from it (R360) -/
  bootAt : Option Tick := none
  /-- tick of the last loss declaration and us from it to serving (PAIR_TKO) -/
  tkoTick : Tick := 0
  tkoUs : Nat := 0
  /-- device seconds of the last takeover (Table 13-3) -/
  tkoSec : Nat := 0
  /-- a claim broadcast is under way: the tick it began, and the slots, with 48 for SPX, whose answer is awaited (R358,
  R363); reset none -/
  confirmAt : Option Tick := none
  probes : List Nat := []
  /-- a zeroize order was received: the controller cannot take over (R364); reset no -/
  barred : Bool := false
  /-- RESULT field of PAIR_DRILL_CMD -/
  cmdResult : Nat := 0
  deriving DecidableEq, Repr

end Sys2Proof.Machine
end

