-- ==== Sys2Proof/Machine/Parts/Power.lean ====
section
/-! DEFINITION. The state of the slot power die (chapter 11): the common logic SPC and one channel SPW per slot. Every
default below is the value after reset. -/
namespace Sys2Proof.Machine

/-- The channel states of Table 11-3 (R307), in its code order. -/
inductive ChanState | off | insert | ready | ramp | on | fault | latched
  deriving DecidableEq, Repr

/-- The fault causes of SPW_FAULT (R309 to R313), in bit order. -/
inductive FaultCause | breaker | fast | rampLimit | rampTmo | uv | ov | ot
  deriving DecidableEq, Repr

/-- One slot power channel SPWnn (R303 to R316). Times are in ticks of the time base. -/
structure Channel where
  /-- SPW_STAT state (R307); reset OFF -/
  st : ChanState := .off
  /-- standing ON order ON_REQ (R308); reset 0 -/
  onReq : Bool := false
  /-- RESULT of the last order (R308, R315); reset 0 -/
  result : Nat := 0
  /-- presence pin asserted, feeds A and B in their windows (R304); reset 0 -/
  present : Bool := false
  feedA : Bool := false
  feedB : Bool := false
  /-- feeds above the OV falling threshold (R306); reset 0 -/
  ovA : Bool := false
  ovB : Bool := false
  /-- ideal-diode FETs of feeds A and B on (R305); reset 0 -/
  fetA : Bool := false
  fetB : Bool := false
  /-- last voltages of the feeds in mV; reset 0 -/
  mvA : Nat := 0
  mvB : Nat := 0
  /-- power-good (R309); reset 0 -/
  pg : Bool := false
  pgAt : Tick := 0
  /-- SLOTnn_PWARN_N asserted (R314); reset 0 -/
  pwarn : Bool := false
  /-- tick at which it asserted (R251) -/
  pwarnAt : Tick := 0
  /-- tick at which the last warning condition ended (R314) -/
  warnOff : Tick := 0
  /-- the gate was turned off by fault or surprise removal while ON (R314) -/
  warnGate : Bool := false
  /-- start of the insertion delay (R307) -/
  insAt : Tick := 0
  /-- start of the ramp, and whether the fault timer has run on it (R309) -/
  rampAt : Tick := 0
  rampTimer : Bool := false
  /-- fault timer: its count, since when it runs, and since when the sense is below BRK_MV (R310); reset 0 -/
  ftCount : Tick := 0
  ftRun : Option Tick := none
  ftBelow : Option Tick := none
  /-- moment since which no feed is in its window (R306) -/
  feedLost : Option Tick := none
  /-- consecutive retries and retry timer deadline (R311); reset 0 -/
  retries : Nat := 0
  retryAt : Tick := 0
  /-- presence has been lost since the fault (R311, R312) -/
  lostSince : Bool := false
  /-- the fault being served has cause OT (R311); reset 0 -/
  otCause : Bool := false
  /-- OT_HOLD (R311); reset 0 -/
  otHold : Bool := false
  /-- DIODE_FITTED, detected at enable (R313); reset 0 -/
  diodeFitted : Bool := false
  /-- model temperature rise above the die, in 0.001 degrees C (R313); reset 0 -/
  rise : Int := 0
  /-- FET temperature, 0.1 degrees C (R313); reset 0 -/
  fetTemp : Int := 0
  /-- output voltage mV, current mA, power 10 mW (SPW_MEAS registers, R467); reset 0 -/
  outMv : Nat := 0
  cur : Nat := 0
  power : Nat := 0
  /-- power samples of the last 1 ms, newest first, at most 10 (SPC_PWR) -/
  powers : List Nat := []
  /-- the season of a slot that is in no group (R295), as a code of Table 11-1; reset Winter -/
  ownSeason : Nat := 0
  /-- the slot waits for a Spring of its own (R295) -/
  ownWake : Bool := false
  /-- the slot's module has been identified since power-on and since its insertion (R295) -/
  identified : Bool := false
  deriving DecidableEq, Repr

/-- What the slot power die holds besides its channels (R315, R316, R352, R455). -/
structure PowerDie where
  /-- highest claim seen: SPC_CLAIM (R315); reset 0 -/
  claim : Nat := 0
  /-- die-to-die control link up (R316); reset up -/
  linkUp : Bool := true
  /-- die temperature in 0.1 degrees C: SPC_STAT.TEMP; reset 0 -/
  temp : Int := 0
  /-- undervoltage lockout of SP_VCC and SP_VIN (R455); reset out of lockout -/
  uvlo : Bool := false
  /-- SPC_PWR.TOTAL from each moment it changed, newest first, for the 1 s mean of Table 16-6 -/
  totals : List (Tick × Nat) := []
  /-- this die owns the slot drive: controller id = SPC_CLAIM[0] (R352); reset: controller 0 with claim 0 -/
  owner : Bool := true
  deriving DecidableEq, Repr

end Sys2Proof.Machine
end

