-- ==== Sys2Proof/Machine/Parts/Security.lean ====
section
/-! DEFINITION. The state of the security core, key vault, crypto scheduler, alarm monitor and random number generator
(chapter 12). Every default below is the value after reset. A key is a number (its bits); a wrapped key is held as the
key it unwraps to, because the wrapping is an opaque function (log entry 12). -/
namespace Sys2Proof.Machine

/-- SEC_STATE.STATE (R336, R337), in its code order. -/
inductive SecMode | boot | ready | halted | zeroized
  deriving DecidableEq, Repr

/-- PAIR_BIND (R322): the two identity points named, and what the two sides know of each other. -/
structure PairBind where
  ownPoint : Nat
  peerPoint : Nat
  /-- the partner holds a namespace -/
  peerHolds : Bool
  /-- the digest of the partner's point is the higher -/
  peerHigher : Bool
  deriving DecidableEq, Repr

/-- The security core (R318 to R324). -/
structure Sec where
  /-- SEC_STATE.STATE; reset BOOT -/
  mode : SecMode := .boot
  /-- wrapped in MRAM: pair wrapping key PWK (R319); reset none -/
  pwk : Option Nat := none
  /-- the operator public key and the last nonce accepted under it (R321); reset none -/
  owner : Option Nat := none
  nonce : Nat := 0
  /-- the PWK is shared with the partner (R322); reset no -/
  bound : Bool := false
  /-- namespace wrapping keys NWK_n in MRAM (R319); reset none -/
  nwk : Tab Nat := .empty
  /-- namespace keys NSK_n, wrapped, in MRAM and group metadata (R319); reset none -/
  nsk : Tab Nat := .empty
  /-- token verification keys TVK0 to 7: key and its generation (R76, R319); reset none -/
  tvk : Tab (Nat × Nat) := .empty
  /-- counts TVK_SET, so that a replacement is told from the key it replaces (R76) -/
  tvkGen : Nat := 0
  /-- deny list and ordered-delivery list (R73, R101), at most 256 each; reset empty -/
  deny : List Nat := []
  ordered : List Nat := []
  /-- request ring head: entries served (R321); reset 0 -/
  head : Nat := 0
  /-- namespaces that were ACTIVE at the alarm (R336) -/
  wasActive : List Nat := []
  /-- PUF helper data intact (R337); reset intact -/
  pufIntact : Bool := true
  /-- 12 words of SEC_ID_HASH as one number: SHA-384 of the IDK public point; reset 0 -/
  idHash : Nat := 0
  /-- the security core's working copies of NWK, TVK and sealing secrets are present (R335) -/
  working : Bool := false
  /-- the exchange of PAIR_BIND under way (R322); reset none -/
  binding : Option PairBind := none
  /-- nonce of the request under way, PAIR_BIND or PATCH_ACTIVATE, which is accepted when it ends well (R321); reset 0 -/
  heldNonce : Nat := 0
  /-- security log: request opcode or token failure reason, newest first (R73, R321) -/
  log : List Nat := []
  deriving DecidableEq, Repr

/-- The key vault KEY (R325 to R327). -/
structure Vault where
  /-- namespace key slots that hold a key (R325); reset none -/
  slots : Tab Nat := .empty
  /-- seal bank entries that hold a key (R325); reset none -/
  seals : Tab Nat := .empty
  /-- KEY_LOCK holder's token, and the last token given (R326); reset free, 0 -/
  holder : Option Nat := none
  lastToken : Nat := 0
  /-- RESULT of the last load (KEY_STAT); reset 0 -/
  result : Nat := 0
  /-- KEY_KCV (R323); reset 0 -/
  kcv : Word := 0#32
  deriving DecidableEq, Repr

/-- The job kinds of Table 12-4 (R328). -/
inductive JobKind | xtsEncrypt | xtsDecrypt | gcmOpen | gcmSeal
  deriving DecidableEq, Repr

/-- One crypto job (R328): its kind, the key's bank index, the command (acceptance number) it serves, the sector or
chunk it works on, and the key captured when it started (R327). -/
structure CryptoJob where
  kind : JobKind
  index : Nat
  cmd : Nat
  unit : Nat
  deriving DecidableEq, Repr

/-- A crypto core CX (R328, R331): its running job with the key it uses, and the round keys it holds. -/
structure CxCore where
  job : Option (CryptoJob × Nat) := none
  /-- round keys: (seal bank, index, key) -/
  round : Option (Bool × Nat × Nat) := none
  /-- bytes processed, below one MiB, for CX_MIB_CNT -/
  bytes : Nat := 0
  deriving DecidableEq, Repr

/-- The crypto scheduler CRY (R328 to R331, R335). -/
structure Crypto where
  /-- CRY_STAT.HALTED (R335); reset 0 -/
  halted : Bool := false
  /-- queued jobs, oldest first, at most 4,096 (R328); reset empty -/
  queue : List CryptoJob := []
  /-- cores CX0 to CX7; a core not listed is idle with no round keys -/
  cores : Tab CxCore := .empty
  deriving DecidableEq, Repr

/-- The alarm monitor ALM (R333 to R337). -/
structure Alarm where
  /-- sources armed (R333); reset not armed -/
  armed : Bool := false
  /-- sources whose condition holds now, as a mask (ALM_STAT.PRESENT) (R336); reset 0 -/
  present : Nat := 0
  /-- ALM_FIRST.SOURCES and ALM_TIME (R334); reset 0 -/
  first : Nat := 0
  firstTick : Tick := 0
  /-- ALM_STAT bits: ZEROIZE done, partner acknowledged (R337, R364); reset 0 -/
  zeroized : Bool := false
  partnerAck : Bool := false
  /-- the ZEROIZE fuse is blown (R334): a fuse -/
  fuse : Bool := false
  /-- next repetition of the zeroize order and the time it ends (R364) -/
  orderAt : Option (Tick × Tick) := none
  deriving DecidableEq, Repr

/-- The random number generator RNG (R339). -/
structure Rng where
  /-- RNG_STAT.READY and HEALTH_FAIL; reset 0 -/
  ready : Bool := false
  fail : Bool := false
  /-- tick at which the source restarts after a failure (R339); reset none -/
  restartAt : Option Tick := none
  /-- the entropy source runs (R339, Table 16-3); reset no -/
  running : Bool := false
  /-- requests since the last reseed (R339); reset 0 -/
  requests : Nat := 0
  deriving DecidableEq, Repr

end Sys2Proof.Machine
end

