-- ==== Sys2Proof/Syntax.lean ====
section
/-! DEFINITION. The commands of the block: `Instr` has one constructor per row of spec/opcode_table.json, and the
records below are the operands that take more than a number. What the physical world decides (a decode's outcome,
whether a signature verifies, which of several free resources the hardware takes) stands in an operand. -/
namespace Sys2Proof
open Machine

/-- The connection management messages that the controller ignores (R119). -/
inductive CmKind | mra | lap | apr
  deriving DecidableEq, Repr

/-- A Communication Management REQ (R119 to R126). -/
structure CmReq where
  /-- port and sub-port on which it arrived -/
  port : Nat
  sub : Nat
  serviceId : Nat
  /-- transport type is RC -/
  rc : Bool
  /-- path MTU in bytes -/
  mtu : Nat
  hostQpn : Nat
  /-- host source IP address as 128 bits, IPv4 as IPv4-mapped IPv6 (R126) -/
  hostIp : Nat
  udpPort : Nat
  /-- IP traffic class or DSCP, and 802.1Q priority where tagged (R123) -/
  dscp : Nat := 0
  pcp : Option Nat := none
  psn : Nat
  retryCount : Nat
  /-- private data (Table 5-2) -/
  priv : List Byte
  /-- HOST_POINT is a valid P-384 point -/
  pointOk : Bool
  /-- region table entries the controller takes for the ring and the tag region -/
  ring : Nat
  ctag : Nat
  deriving DecidableEq, Repr

/-- What every RDMA request packet carries (R135 to R139, R144, R145). -/
structure Packet where
  qpn : Nat
  psn : Nat
  key : Word := 0#32
  /-- offset of the first byte in the region -/
  off : Nat := 0
  /-- last packet of its request, and its AckReq bit (R144) -/
  last : Bool := true
  ackReq : Bool := false
  /-- CE-marked (R145) -/
  ce : Bool := false
  /-- tick of its arrival -/
  at_ : Tick := 0
  deriving DecidableEq, Repr

/-- A received Ethernet frame as the wire gives it (R151, R152, R166 to R170). -/
structure Frame where
  port : Nat
  sub : Nat
  len : Nat
  /-- a symbol lay in an uncorrectable codeword (R151) -/
  fecBad : Bool := false
  fcsOk : Bool := true
  /-- destination MAC address as 48 bits -/
  dmac : Nat
  /-- 802.1Q tag: PCP -/
  pcp : Option Nat := none
  etherType : Nat := 0x0800
  /-- IP frame: DSCP and ECN fields -/
  dscp : Option Nat := none
  ecn : Nat := 0
  /-- ICMP or ICMPv6 -/
  icmp : Bool := false
  udpDst : Option Nat := none
  /-- BTH destination QP -/
  qpn : Nat := 0
  deriving DecidableEq, Repr

/-- A LINK_PARAM payload (R201): receive credits of each channel, largest payload, and the module's serial. -/
structure LinkParam where
  cmd : Nat
  data : Nat
  sts : Nat
  maxPayload : Nat
  serial : List Byte
  deriving DecidableEq, Repr

/-- The header fields of a received module frame (Table 8-4). -/
structure LinkHdr where
  seq : Nat
  /-- ACKSEQ, where VALID -/
  ack : Option Nat := none
  claim : Nat
  tag : Nat
  last : Bool := true
  deriving DecidableEq, Repr

/-- How a hard or soft decode of a codeword ends (R198, R199, R213). -/
inductive DecodeResult
  /-- syndrome zero, with the decoded data, metadata CRC and bits corrected -/
  | good (data : List Byte) (crcOk : Bool) (bits : Nat)
  /-- no convergence: unsatisfied checks left -/
  | bad (checks : Nat)
  deriving DecidableEq, Repr

/-- How a PQE job ends (R237). -/
inductive PqeResult
  | done
  /-- an uncorrectable DRAM error in the input, at an address -/
  | eccError (addr : Nat)
  deriving DecidableEq, Repr

/-- One measurement sample of a slot power channel (R467). -/
structure Measurement where
  feedA : Nat
  feedB : Nat
  out : Nat
  cur : Nat
  power : Nat
  /-- SENSE_P to SENSE_N in microvolts, mean over the sample -/
  senseUv : Nat
  /-- temperature that the sense diode gives, 0.1 degrees C, where one is fitted (R313) -/
  diode : Int
  deriving DecidableEq, Repr

/-- What every security request entry carries (Table 12-2). -/
structure SecReq where
  nonce : Nat
  /-- SIG verifies under the installed operator key (R321) -/
  sigOk : Bool
  /-- the body obeys its layout -/
  bodyOk : Bool := true
  deriving DecidableEq, Repr

/-- The attributes of NS_CREATE (Table 3-1, R321, R323). -/
structure NsAttr where
  ns : Nat
  shift : Nat
  zoneCount : Nat
  groupSet : Nat
  cls : LatClass
  wakeLimit : Nat
  autoUnlock : Bool
  deriving DecidableEq, Repr

/-- NS_SET: the attributes it changes. -/
structure NsChange where
  ns : Nat
  groupSet : Option Nat
  cls : Option LatClass
  wakeLimit : Option Nat
  deriving DecidableEq, Repr

/-- The payload of a HEARTBEAT frame (Table 13-1, R346), its claim, and the tick of its arrival. -/
structure Heartbeat where
  claim : Nat
  role : Role
  epoch : Nat
  lastSeq : Nat
  crc : Nat
  drill : Nat
  at_ : Tick := 0
  deriving DecidableEq, Repr

/-- A piece of the table and key image of SYNCING (R345). -/
structure SyncImage where
  /-- table entries, wrapped keys and the nonce state, in the form of journal records -/
  entries : List RecordBody
  epoch : Nat
  deriving DecidableEq, Repr

/-- One channel in an SPX state record (R352, R353). -/
structure SpxChannel where
  slot : Nat
  st : ChanState
  onReq : Bool
  pg : Bool
  ftCount : Nat
  retries : Nat
  fetTemp : Int
  deriving DecidableEq, Repr

/-- What the error correction of a memory word finds (R385, R388). -/
inductive WordCheck | good | corrected | uncorrectable
  deriving DecidableEq, Repr

/-- The inbound requests that SVP does not support (Table 15-3, first row). -/
inductive TlpKind | io | lockedRead | atomicOp | config1
  deriving DecidableEq, Repr

/-- Completion status (R404). -/
inductive CplStatus | sc | ur | ca
  deriving DecidableEq, Repr

/-- What a reset finds and how the power-up that follows will go (R15, R424 to R426, R432). -/
structure BootInputs where
  /-- PORST_N stays low: the part is still held in reset -/
  porstLow : Bool := false
  /-- the reset came from PORST_N, otherwise from the supply monitor (PWR_RST_CAUSE) -/
  byPin : Bool := true
  /-- controller id strap (R15) -/
  strap : Nat := 0
  /-- fused trim code (R416) and ZEROIZE fuse (R334) -/
  trimFuse : Nat := 512
  zeroizeFuse : Bool := false
  /-- ROM digest and known-answer tests pass; DDR trains; MRAM is usable -/
  checksOk : Bool := true
  ddrOk : Bool := true
  mramOk : Bool := true
  deriving DecidableEq, Repr

/-- What every SMBus transaction carries (R433, R434): the address it names, how many bytes the host reads, and
whether it reads a further byte for the PEC. -/
structure SmbXfer where
  address : Nat
  /-- data bytes the host takes -/
  count : Nat
  pec : Bool
  deriving DecidableEq, Repr
/-- The commands of the block, one constructor per row of spec/opcode_table.json. -/
inductive Instr where
  /-- REGISTER_WRITE (R45): A register write to a register with no row of its own stores its writable fields,
  drops or logs reserved, RO, locked or reserved-page writes. -/
  | registerWrite (req addr : Nat) (value : Word)
  /-- INVALID_REGISTER_ACCESS (R44): A register access that is unaligned or not 32 bits wide is rejected with an
  access-error response and logged in FAB. -/
  | invalidRegisterAccess (req addr size : Nat) (write : Bool)
  /-- COUNTER_WRITE (R116): A write to a saturating ..._CNT counter clears it when 0 and is otherwise ignored.
  -/
  | counterWrite (req addr : Nat) (value : Word)
  /-- ENABLE (R26): Writing ENABLE = 1 starts the block's enable, or sets REENABLE_PENDING during a shutdown. -/
  | enable (req page : Nat)
  /-- ENABLE_DONE (R26): The enable completes, ENABLED becomes 1, ENABLE_DONE is raised and a stored ENABLE = 0
  starts a shutdown. -/
  | enableDone (page : Nat)
  /-- SHUTDOWN (R27): Writing ENABLE = 0 in ENABLED starts a shutdown unless the block refuses it. -/
  | shutdown (req page : Nat)
  /-- SHUTDOWN_DONE (R27): The block's work in flight has ended; SHUTDOWN_ACTIVE clears, SHUTDOWN_DONE is raised
  and a pending re-enable starts. -/
  | shutdownDone (page : Nat)
  /-- QUIESCE (R29): Writing QUIESCE stops intake (1) or resumes it (0). -/
  | quiesce (req page : Nat) (on : Bool)
  /-- QUIESCE_DONE (R29): Nothing remains in flight after a quiesce request; QUIESCED becomes 1. -/
  | quiesceDone (page : Nat)
  /-- SOFT_RESET (R33): Writing SOFT_RESET = 1 in DISABLED starts a soft reset, or is refused and logged. -/
  | softReset (req page : Nat)
  /-- SOFT_RESET_DONE (R35): The soft reset completes, returning the page to its reset values except kept
  fields. -/
  | softResetDone (page : Nat)
  /-- LOCK_REQ (R42): Writing LOCK_REQ = 1 on an unlocked page posts a lock request to the security core. -/
  | lockReq (req page : Nat)
  /-- LOCK_REQ_ANSWER (R42): The security core sets LOCK or declines by its policy and clears LOCK_REQ. -/
  | lockReqAnswer (page : Nat)
  /-- PG_LOCK_WRITE (R41): A write to PG_LOCK is applied only from the security core, otherwise dropped and
  logged LOCK_WRITE. -/
  | pgLockWrite (req page : Nat) (value : Word)
  /-- FAULT (R32): A block detects an internal fault, sets FAULT, captures the error and starts a shutdown. -/
  | fault (page code addr : Nat)
  /-- INT_SET (R38): A write to INT_SET sets each written cause bit as if its event had occurred. -/
  | intSet (req page : Nat) (value : Word)
  /-- ERR_COUNT_WRITE (R40): Writing 0 to ERR_COUNT clears ERR_COUNT, ERR_FIRST and ERR_ADDR together. -/
  | errCountWrite (req page : Nat) (value : Word)
  /-- CYC_LO_READ (R47): A read of CYC_LO latches the high half of the cycle counter for the reading requester.
  -/
  | cycLoRead (req page : Nat)
  /-- NS_ZONE_RELEASE (R468): ZSQ journals the return of one zone of a RETIRING namespace to EMPTY in the
  background, and the namespace becomes UNUSED when all are released. -/
  | nsZoneRelease (ns : Nat)
  /-- RING_TRIGGER (R79): Byte 63 of a submission ring slot is placed in DRAM and the slot's trigger fires. -/
  | ringTrigger (conn slot : Nat) (capsule : List Byte)
  /-- CQ_HEAD_UPDATE (R81): An RDMA WRITE placing byte 0x1_0003 updates CMD's CQ_HEAD copy and lets waiting
  entries be written. -/
  | cqHeadUpdate (conn : Nat) (value : Word)
  /-- READ (R100): A parsed READ capsule is checked, accepted and served by mapping, reading, decrypting and
  RDMA-writing its sectors. -/
  | read (conn : Nat)
  /-- WRITE (R63): A parsed WRITE capsule is checked at the accepted pointer and accepted into its zone. -/
  | write (conn : Nat)
  /-- APPEND (R63): A parsed APPEND capsule is assigned the accepted pointer as its offset and accepted. -/
  | append (conn : Nat)
  /-- DATA_DONE (R96): A parsed DATA_DONE names a write awaiting its data, or is rejected with INVALID_FIELD. -/
  | dataDone (conn : Nat)
  /-- DATA_DONE_DRAINED (R96): The write's window in-flight counters have drained; STG compares placed bytes
  with LEN and validates or fails the write. -/
  | dataDoneDrained (conn cid : Nat)
  /-- FLUSH (R104): A FLUSH capsule covers earlier unposted writes of its connection and completes when they
  have all posted. -/
  | flush (conn : Nat)
  /-- ZONE_OPEN (R65): ZONE_MGMT open places or reopens a zone and completes at once. -/
  | zoneOpen (conn : Nat)
  /-- ZONE_CLOSE (R65): ZONE_MGMT close holds the zone until its interim log copies have programmed. -/
  | zoneClose (conn : Nat)
  /-- ZONE_FINISH (R65): ZONE_MGMT finish pads the filling stripe with encrypted zeros and sets both pointers to
  capacity. -/
  | zoneFinish (conn : Nat)
  /-- ZONE_RESET (R65): ZONE_MGMT reset returns the zone to EMPTY once journalled, clears its loss entries and
  schedules background erase. -/
  | zoneReset (conn : Nat)
  /-- ZONE_MGMT_COMPLETE (R65): The awaited condition of a held ZONE_MGMT is met; the zone hold ends and the
  command completes. -/
  | zoneMgmtComplete (conn cid : Nat)
  /-- ZONE_REPORT (R106): ZONE_REPORT delivers zone descriptors and clears the report-required mark for the
  connection. -/
  | zoneReport (conn : Nat)
  /-- IDENTIFY_CONTROLLER (R107): IDENTIFY with CNS 0 returns the controller data. -/
  | identifyController (conn : Nat)
  /-- IDENTIFY_NAMESPACE (R107): IDENTIFY with CNS 1 returns the namespace data in any namespace state. -/
  | identifyNamespace (conn : Nat)
  /-- IDENTIFY_NS_LIST (R107): IDENTIFY with CNS 2 returns the list of namespaces not UNUSED. -/
  | identifyNsList (conn : Nat)
  /-- GET_LOG_ERROR (R108): GET_LOG 0x01 returns the error log from the given sector. -/
  | getLogError (conn : Nat)
  /-- GET_LOG_HEALTH (R286): GET_LOG 0x02 returns the health log with group and pair records. -/
  | getLogHealth (conn : Nat)
  /-- GET_LOG_LOSS (R276): GET_LOG 0x03 returns the loss log of the named namespace. -/
  | getLogLoss (conn : Nat)
  /-- TOKEN_ATTACH (R73): TOKEN_ATTACH RDMA-reads a token into a handle for verification, or fails with
  RETRY_LATER when time is unset or CRY halted. -/
  | tokenAttach (conn : Nat)
  /-- TOKEN_DETACH (R109): TOKEN_ATTACH with DETACH set empties the named handle at once. -/
  | tokenDetach (conn : Nat)
  /-- QUEUE_RESET (R110): QUEUE_RESET aborts queued commands, replaces executing completions with
  ABORTED_BY_RESET and holds later capsules. -/
  | queueReset (conn : Nat)
  /-- WINDOW_ALLOCATE (R92): STG allocates the windows a waiting accepted write needs, in acceptance order, once
  enough are free and its group is in Summer. -/
  | windowAllocate (keys : List Nat)
  /-- DATA_TIMEOUT (R98): A write's data timeout expires without a valid DATA_DONE; the write fails, its windows
  are revoked and later zone writes fail. -/
  | dataTimeout (conn cid : Nat)
  /-- WRITE_PLACE (R64): A validated write whose earlier zone writes are placed hands its first sector to
  encryption and is split into stripe and log sectors. -/
  | writePlace (conn cid : Nat)
  /-- PATCH_HOLD_TIMEOUT (R112): Commands remain unfinished 200 ms after a patch hold began; the activation is
  abandoned and the hold ends. -/
  | patchHoldTimeout
  /-- HOLD_OVERRUN (R112): A capsule held 250 ms completes with RETRY_LATER and raises HOLD_OVERRUN. -/
  | holdOverrun (conn : Nat)
  /-- WAKE_LIMIT_EXPIRY (R68): A command waiting for Summer or for an OUT member passes its wake limit and
  completes with RETRY_LATER. -/
  | wakeLimitExpiry (conn cid : Nat)
  /-- REQ (R119): A Communication Management REQ is checked and answered within 2 ms by REP, with connection,
  engine and regions assigned, or by REJ. -/
  | req (r : CmReq)
  /-- RTU (R124): An RTU moves a connection in SETUP to READY. -/
  | rtu (conn : Nat)
  /-- CM_IGNORED (R119): A received MRA, LAP or APR is ignored. -/
  | cmIgnored (kind : CmKind)
  /-- SETUP_TIMEOUT (R124): A connection still in SETUP 1 s after REP returns to FREE with no REJ. -/
  | setupTimeout (conn : Nat)
  /-- DREQ (R125): A received DREQ moves the connection to CLOSING, ends its commands and is answered with DREP.
  -/
  | dreq (conn : Nat)
  /-- DREP (R125): A DREP received in CLOSING ends CLOSING; regions are revoked, credits returned and the
  connection freed. -/
  | drep (conn : Nat)
  /-- DREP_TIMEOUT (R125): No DREP arrives 10 ms after the controller's own DREQ; CLOSING ends. -/
  | drepTimeout (conn : Nat)
  /-- CONN_NUMBER_REUSE (R125): A connection number becomes free for reassignment 10 ms after the connection
  returned to FREE. -/
  | connNumberReuse (conn : Nat)
  /-- RDMA_WRITE (R135): An arriving RDMA WRITE packet passes the key check and is placed in PSN order, or draws
  a NAK. -/
  | rdmaWrite (p : Packet) (data : List Byte)
  /-- RDMA_READ (R138): An arriving RDMA READ request passes the key check and returns the bytes in DRAM. -/
  | rdmaRead (p : Packet) (length : Nat)
  /-- RDMA_FLUSH (R136): An arriving FLUSH request is answered once every earlier RDMA WRITE byte is placed. -/
  | rdmaFlush (p : Packet) (length : Nat) (whole persist : Bool)
  /-- UNSUPPORTED_PACKET (R118): A packet of an unsupported opcode draws an invalid request NAK and puts the
  connection in ERROR. -/
  | unsupportedPacket (qpn opcode psn : Nat)
  /-- RDMA_ACK (R146): A received acknowledgement advances the oldest unacknowledged PSN and restores the retry
  count. -/
  | rdmaAck (conn psn : Nat)
  /-- RDMA_NAK (R146): A received NAK triggers go-back-N for a sequence error, or ERROR otherwise. -/
  | rdmaNak (conn psn : Nat) (sequence : Bool)
  /-- RDMA_READ_RESPONSE (R137): The last response packet of an RDMA READ issued by the engine is placed and the
  read is done. -/
  | rdmaReadResponse (conn cid : Nat) (data : List Byte) (tagOk : Bool)
  /-- RDMA_FLUSH_RESPONSE (R101): The response to a requester FLUSH arrives and a strict-placement completion
  may be written. -/
  | rdmaFlushResponse (conn cid : Nat)
  /-- RDMA_WRITE_DONE (R137): The last packet of an RDMA WRITE issued by the engine leaves the port and is
  reported to CMD. -/
  | rdmaWriteDone (conn cid : Nat)
  /-- CNP (R147): A received CNP cuts the connection's rate unless within the hold. -/
  | cnp (conn at_ : Nat)
  /-- CONTEXT_FETCH_DONE (R132): A context fetch completes and the parked packets of that connection are
  processed in order. -/
  | contextFetchDone (conn : Nat) (eccBad : Bool)
  /-- ACK_TIMER (R144): ACK_US passes after the first unacknowledged packet and the engine sends an
  acknowledgement. -/
  | ackTimer (conn : Nat)
  /-- RETX_TIMEOUT (R146): No acknowledgement arrives within the retransmission timeout; the engine retransmits
  or enters ERROR. -/
  | retxTimeout (conn : Nat)
  /-- RATE_RISE (R147): RISE_US passes without a cut and the connection's rate and step rise. -/
  | rateRise (conn : Nat)
  /-- RT_REGISTER (R469): XPT_RT_CMD REGISTER validates and registers a FREE region entry. -/
  | rtRegister (req engine : Nat)
  /-- RT_REVOKE (R141): XPT_RT_CMD REVOKE marks a VALID entry REVOKING and begins its drain. -/
  | rtRevoke (req engine : Nat)
  /-- RT_QUERY (R469): XPT_RT_CMD QUERY reports an entry's state and in-flight count. -/
  | rtQuery (req engine : Nat)
  /-- REVOKE_DONE (R141): A revoking entry's in-flight counter reaches 0; the entry becomes FREE and its
  generation advances. -/
  | revokeDone (index : Nat)
  /-- FRAME_RECEIVE (R152): A received Ethernet frame is filtered, classified, steered, policed and admitted to
  the shared buffer. -/
  | frameReceive (f : Frame) (at_ : Nat)
  /-- PAUSE_FRAME (R156): A received 802.3x PAUSE frame stops or resumes the whole sub-port. -/
  | pauseFrame (port sub quanta at_ : Nat)
  /-- PFC_FRAME (R156): A received PFC frame stops or resumes the queues of the named priorities. -/
  | pfcFrame (port sub enable : Nat) (quanta : List Nat) (at_ : Nat)
  /-- PAUSE_EXPIRY (R156): A received pause's quanta time runs out and transmission resumes. -/
  | pauseExpiry (port sub prio : Nat)
  /-- PAUSE_REFRESH (R157): REFRESH_US passes while the count stays above XON and the pause is repeated. -/
  | pauseRefresh (port sub cls : Nat)
  /-- LINK_UP (R154): A sub-port's Ethernet link comes up. -/
  | linkUp (port sub : Nat)
  /-- LINK_DOWN (R154): A sub-port's Ethernet link goes down and its egress queues are discarded. -/
  | linkDown (port sub : Nat)
  /-- TIME_STEP (R160): TIME_CMD STEP adds the signed offset at the next tick and moves active gate lists. -/
  | timeStep (req : Nat)
  /-- TIME_LOAD (R160): TIME_CMD LOAD sets the absolute time at the next tick. -/
  | timeLoad (req : Nat)
  /-- TIME_FREQ_WRITE (R158): A TIME_FREQ write changes the time base rate from the next tick. -/
  | timeFreqWrite (req : Nat) (value : Word)
  /-- TIME_NS_READ (R159): A read of TIME_NS latches seconds and tick count for the requester. -/
  | timeNsRead (req : Nat)
  /-- PPS_IN_EDGE (R162): A rising edge arrives on TIME_PPS_IN and its time is held pending the 100 ns rule. -/
  | ppsInEdge (at_ : Nat)
  /-- PPS_CAPTURE (R162): The PPS input has stayed high 100 ns; the capture, PPS_VALID and PPS_IN become
  visible. -/
  | ppsCapture (stayedHigh : Bool)
  /-- PPS_NS_READ (R162): A read of TIME_PPS_NS clears PPS_VALID and OVERRUN. -/
  | ppsNsRead (req : Nat)
  /-- PPS_OUT_PULSE (R163): The time reaches a whole second plus OFFSET_NS and TIME_PPS_OUT goes high. -/
  | ppsOutPulse
  /-- PPS_OUT_END (R163): The pulse width WIDTH_US ends and TIME_PPS_OUT goes low. -/
  | ppsOutEnd
  /-- TXTS_READ (R165): A read of TIME_TXTS_INFO pops the TXTS FIFO and latches the entry's time. -/
  | txtsRead (req : Nat)
  /-- POL_READ (R171): POL_CMD READ copies a policer's configuration and counts into the data registers. -/
  | polRead (req : Nat)
  /-- POL_WRITE (R171): POL_CMD WRITE loads the data registers into a policer atomically. -/
  | polWrite (req : Nat)
  /-- POL_CLEAR (R171): POL_CMD CLEAR zeroes a policer's three counts. -/
  | polClear (req : Nat)
  /-- WRED_READ (R174): SWC_WRED_CMD READ copies a colour set into the WRED data registers. -/
  | wredRead (req : Nat)
  /-- WRED_WRITE (R174): SWC_WRED_CMD WRITE applies the WRED data registers atomically to a colour set. -/
  | wredWrite (req : Nat)
  /-- QPROF_WRITE (R172): A write to SWC_QPROF applies at once to the indexed queue, or is dropped for a
  reserved queue. -/
  | qprofWrite (req : Nat) (value : Word)
  /-- EGRESS_SELECT (R179): At a frame boundary the sub-port tags eligible queues and sends the head frame with
  the smallest finish tag. -/
  | egressSelect (port sub at_ : Nat)
  /-- GATE_ENTRY_BOUNDARY (R185): The device time reaches a gate or program gate list entry boundary and the new
  mask applies. -/
  | gateEntryBoundary (page : Nat)
  /-- GCL_SWAP (R186): Writing SWAP = 1 requests a gate list swap, or is refused while the time base is unset.
  -/
  | gclSwap (req page : Nat)
  /-- SWAP_DONE (R186): The swap takes place at its boundary; lists exchange roles and held frames that can
  never pass are dropped. -/
  | swapDone (page : Nat)
  /-- GCL_READ (R187): The gate list command READ copies an entry into the mask and duration registers. -/
  | gclRead (req page : Nat)
  /-- GCL_WRITE (R187): The gate list command WRITE stores an entry of the pending list unless a swap is
  pending. -/
  | gclWrite (req page : Nat)
  /-- SHAPER_REFILL (R183): A refill boundary adds tokens to every shaper and applies stored shaper writes. -/
  | shaperRefill (port : Nat)
  /-- HIST_SAMPLE (R192): At every INTERVAL_US tick multiple every queue's depth and sojourn are binned. -/
  | histSample (port : Nat)
  /-- HIST_SNAP (R193): EGS_HIST_CMD SNAP copies a histogram's bins. -/
  | histSnap (req port : Nat)
  /-- HIST_SNAP_CLEAR (R193): EGS_HIST_CMD SNAP_CLEAR copies and zeroes a histogram's bins in one cycle. -/
  | histSnapClear (req port : Nat)
  /-- HIST_CLEAR_ALL (R193): EGS_HIST_CMD CLEAR_ALL zeroes every histogram of the port. -/
  | histClearAll (req port : Nat)
  /-- TRAINING_START (R201): A slot link in DOWN starts training once enabled, powered and 10 ms past MRST
  release. -/
  | trainingStart (slot : Nat)
  /-- TRAIN_TIMEOUT (R201): A training has not reached ACTIVE 400 ms after its start; the link returns to DOWN.
  -/
  | trainTimeout (slot : Nat)
  /-- LINK_PARAM (R201): A LINK_PARAM frame completes the exchange and the link enters ACTIVE. -/
  | linkParam (slot : Nat) (p : LinkParam)
  /-- READ_DATA (R209): A READ_DATA frame delivers page data for a tag. -/
  | readData (slot : Nat) (h : LinkHdr) (data : List Byte)
  /-- STATUS (R209): A module STATUS frame ends a command and frees its tag, driving the treatment of Table 8-7.
  -/
  | status (slot : Nat) (h : LinkHdr) (code : Nat) (payload : List Byte)
  /-- LINK_ACK (R203): A link ACK frees acknowledged frames from the replay buffer. -/
  | linkAck (slot seq claim : Nat)
  /-- LINK_NAK (R203): A link NAK replays held frames, or enters RETRAIN at the third replay of a frame. -/
  | linkNak (slot seq claim : Nat)
  /-- CREDIT (R206): A CREDIT frame updates the cumulative per-channel credits. -/
  | credit (slot cmd data sts claim : Nat)
  /-- LINK_ACK_TIMER (R203): 1 µs passes after an unacknowledged in-order frame and an acknowledgement is sent.
  -/
  | linkAckTimer (slot : Nat)
  /-- REPLAY_TIMER (R203): The replay timer expires and held frames are replayed, or RETRAIN begins. -/
  | replayTimer (slot : Nat)
  /-- RETRAIN_RESULT (R205): A retraining passes and the link returns to ACTIVE, or fails and retrains again or
  enters FAILED. -/
  | retrainResult (slot : Nat) (pass : Bool)
  /-- PRSNT_CHANGE (R207): An edge on SLOTnn_PRSNT_N updates presence and raises PRSNT_CHANGE. -/
  | prsntChange (slot : Nat) (asserted : Bool)
  /-- MODULE_ALERT (R207): SLOTnn_ALERT_N falls while ACTIVE and the ROM reads TELEMETRY page 1. -/
  | moduleAlert (slot : Nat)
  /-- MRST_WRITE (R207): A write of MLK_SB_CTRL.MRST asserts or releases SLOTnn_MRST_N. -/
  | mrstWrite (req slot : Nat) (assert : Bool)
  /-- MRST_RELEASE (R207): A deassertion written within 100 µs of assertion takes effect at 100 µs. -/
  | mrstRelease (slot : Nat)
  /-- READ_PAGE (R208): The controller issues READ_PAGE with a read-level set. -/
  | readPage (slot tag : Nat) (a : FlashAddr) (level : Nat)
  /-- READ_SOFT (R212): The controller issues READ_SOFT for soft decode. -/
  | readSoft (slot tag : Nat) (a : FlashAddr) (level : Nat)
  /-- PROGRAM_PAGE (R229): The controller releases PROGRAM_PAGE while the slot's gate is open and PWARN clear.
  -/
  | programPage (slot tag : Nat) (a : FlashAddr) (slc : Bool)
  /-- ERASE_BLOCK (R229): The controller releases ERASE_BLOCK while the slot's gate is open and PWARN clear. -/
  | eraseBlock (slot tag : Nat) (a : FlashAddr) (slc : Bool)
  /-- READ_STATUS (R208): The controller issues READ_STATUS to a die. -/
  | readStatus (slot tag : Nat) (a : FlashAddr)
  /-- SET_READ_LEVELS (R208): The controller loads a read-level set 1–8 into the module. -/
  | setReadLevels (slot tag : Nat) (a : FlashAddr) (set : Nat) (offsets : List Int)
  /-- DIE_RESET (R210): The controller issues DIE_RESET to a die. -/
  | dieReset (slot tag : Nat) (a : FlashAddr)
  /-- TELEMETRY (R208): The controller issues TELEMETRY for the identity, health or temperature page. -/
  | telemetry (slot tag page : Nat)
  /-- MODULE_CMD_TIMEOUT (R210): A module command has no STATUS within MLK_TMO; its tag is freed and it is
  reissued or treated as a failure. -/
  | moduleCmdTimeout (slot tag : Nat)
  /-- CODEWORD_DECODE (R211): An ECC engine finishes decoding a codeword, ending, continuing or escalating its
  read-retry ladder. -/
  | codewordDecode (slot tag index : Nat) (r : DecodeResult)
  /-- HEAT_UPDATE (R220): Once a day the ROM adds temperature-weighted retention age to every programmed block.
  -/
  | heatUpdate (slot : Nat) (temp : Int)
  /-- PATROL_VISIT (R221): The retention patrol samples a block's pages and schedules a refresh when its error
  rate is high. -/
  | patrolVisit (group member block rberPpm : Nat) (unreadable : List Nat)
  /-- BLOCK_REFRESH (R222): A refresh or relocation copies a block's strips to a new block and switches the map
  after PASS. -/
  | blockRefresh (group member block newBlock : Nat) (pass : Bool)
  /-- WEAR_LEVEL (R219): The ROM relocates a member's lowest-PE full block when the wear spread exceeds the gap.
  -/
  | wearLevel (group member : Nat)
  /-- CHECKPOINT (R225): After CKPT_MIN or CKPT_MIB the ROM writes a group checkpoint in two copies. -/
  | checkpoint (group memberA memberB : Nat) (passA passB : Bool)
  /-- GROUP_DEFINE (R231): ZSQ_GRP_CMD DEFINE creates a group in Winter after its tests. -/
  | groupDefine (req : Nat)
  /-- GROUP_RETIRE (R231): ZSQ_GRP_CMD RETIRE frees a group that holds no zone. -/
  | groupRetire (req : Nat)
  /-- GROUP_QUERY (R231): ZSQ_GRP_CMD QUERY loads a group's values, or the proposals for an undefined group. -/
  | groupQuery (req : Nat)
  /-- GROUP_SETLOCK (R251): ZSQ_GRP_CMD SETLOCK applies LOCK and LOCK_TMO_MS to a defined group. -/
  | groupSetlock (req : Nat)
  /-- SPARE_MASK_WRITE (R252): A write to the spare mask stores slot spares, refusing member slots with
  SPARE_CONFLICT. -/
  | spareMaskWrite (req : Nat) (high : Bool) (value : Word)
  /-- LOG_PAGE_FLUSH (R240): FLUSH_US passes after a log page's first codeword and the page is released with
  padding. -/
  | logPageFlush (group member : Nat)
  /-- JOURNAL_PAGE_FLUSH (R245): BATCH_US passes after a journal page's first entry and the page is released. -/
  | journalPageFlush (group : Nat)
  /-- LOG_RECLAIM (R243): The ROM copies live codewords out of a member's oldest log block and erases it. -/
  | logReclaim (group member : Nat) (pass : Bool)
  /-- LOCKSTEP_RELEASE (R250): At tick T, when every targeted slot meets its conditions, one program row is
  released together. -/
  | lockstepRelease (group stripe row at_ : Nat)
  /-- LOCK_TIMEOUT (R251): A member's PROG_INHIBIT lasts LOCK_TMO_MS and the row is released without it. -/
  | lockTimeout (group stripe member : Nat)
  /-- PQE_JOB_DONE (R237): A PQE parity, reconstruction or VERIFY job ends and its result is used or its failure
  handled. -/
  | pqeJobDone (inst : Nat) (r : PqeResult)
  /-- OUT_TIMEOUT (R263): A member has been OUT for OUT_TMO_S and becomes FAILED, starting its rebuild. -/
  | outTimeout (group member : Nat)
  /-- MEMBER_QUERY (R263): ZSQ_MBR_CMD QUERY reports a member's state, slot and cursor. -/
  | memberQuery (req : Nat)
  /-- MEMBER_FAIL (R263): ZSQ_MBR_CMD FAIL declares a member failed, unless it would make the group LOST without
  FORCE. -/
  | memberFail (req : Nat) (force : Bool)
  /-- REBUILD_STRIPE (R266): A rebuild, resync or copy-back reconstructs and programs the strip of its next
  stripe under the rate limit. -/
  | rebuildStripe (group : Nat) (pass : Bool) (unreadable : List Nat)
  /-- RESHAPE_START (R279): ZSQ_RSH_CMD START begins an online reshape after its tests. -/
  | reshapeStart (req : Nat)
  /-- RESHAPE_QUERY (R279): ZSQ_RSH_CMD QUERY reports the reshape's state, zone and boundary. -/
  | reshapeQuery (req : Nat)
  /-- RESHAPE_STRIPE (R281): The reshape builds and commits its next new-geometry stripe and advances the
  boundary. -/
  | reshapeStripe (pass : Bool) (unreadable : List Nat)
  /-- WAKE_ADMIT (R298): A waiting wake fits the budget and summer limit and its group's Spring begins. -/
  | wakeAdmit
  /-- SPRING_STAGGER (R289): STAGGER_MS passes and the ROM orders ON to the next member channel. -/
  | springStagger (group : Nat)
  /-- SPRING_END (R290): All members are ACTIVE or SPRING_MAX_MS passes; the group enters Summer and waiting
  work proceeds. -/
  | springEnd (group : Nat)
  /-- IDLE_TIMEOUT (R291): No command addressed the group for IDLE_S and it enters Autumn if allowed. -/
  | idleTimeout (group : Nat)
  /-- AUTUMN_CHOICE (R299): The ROM chooses a group for Autumn to make room for a waiting wake or a lowered
  budget. -/
  | autumnChoice
  /-- AUTUMN_END (R292): Released programs have ended; the ROM quiesces links, asserts MRST, orders OFF and the
  group enters Winter. -/
  | autumnEnd (group : Nat)
  /-- SEASON_WAKE (R298): ZSQ_SEASON_CMD WAKE requests a group's Spring. -/
  | seasonWake (req group : Nat)
  /-- SEASON_SLEEP (R291): ZSQ_SEASON_CMD SLEEP sends an eligible group to Autumn. -/
  | seasonSleep (req group : Nat)
  /-- SPW_ON (R308): An ON order, claim-checked, starts or stores a ramp of the slot channel. -/
  | spwOn (slot claim : Nat)
  /-- SPW_OFF (R308): An OFF order clears ON_REQ and turns the gate off. -/
  | spwOff (slot claim : Nat)
  /-- SPW_CLEAR (R308): A CLEAR order ends a retry timer or releases LATCHED. -/
  | spwClear (slot claim : Nat)
  /-- PRESENCE_ASSERT (R307): Presence is asserted with a feed in its window and the channel enters INSERT. -/
  | presenceAssert (slot : Nat)
  /-- PRESENCE_LOSS (R307): Presence is lost; the channel goes to OFF as a surprise removal. -/
  | presenceLoss (slot : Nat)
  /-- INSERT_DELAY_END (R307): INS_MS passes in INSERT and the channel enters READY, ramping if ON_REQ is set.
  -/
  | insertDelayEnd (slot : Nat)
  /-- FEED_WINDOW_CHANGE (R304): A feed enters or leaves its UV/OV window after 1 µs and its ideal-diode FET
  follows. -/
  | feedWindowChange (slot : Nat) (feedB : Bool) (mv : Nat)
  /-- REVERSE_CURRENT (R305): A feed falls 10 mV below the common node and its FET turns off. -/
  | reverseCurrent (slot : Nat) (feedB : Bool) (mv : Nat)
  /-- FEED_LOSS_TIMEOUT (R306): No feed is in its window for 20 µs with the gate on; the channel enters FAULT
  with UV or OV. -/
  | feedLossTimeout (slot : Nat)
  /-- RAMP_END (R309): The output reaches within 0.3 V of the active feed; power-good asserts or RAMP_LIMIT
  faults. -/
  | rampEnd (slot outMv senseUv : Nat)
  /-- RAMP_TIMEOUT (R309): A ramp has not ended RAMP_MAX_MS after it began and faults with RAMP_TMO. -/
  | rampTimeout (slot : Nat)
  /-- FAST_TRIP (R309): The sense voltage reaches FAST_MV and the gate turns off within 1 µs. -/
  | fastTrip (slot senseUv : Nat)
  /-- BREAKER_CROSSING (R310): The sense voltage reaches BRK_MV; current is regulated and the fault timer runs.
  -/
  | breakerCrossing (slot senseUv at_ : Nat)
  /-- FAULT_TIMER_EXPIRY (R310): The fault timer reaches FT_MS; the gate turns off and the channel faults with
  BREAKER. -/
  | faultTimerExpiry (slot : Nat)
  /-- FAULT_TIMER_RESET (R310): The sense voltage stays below BRK_MV for 1 ms and the fault timer count returns
  to zero. -/
  | faultTimerReset (slot : Nat)
  /-- RETRY_TIMER_END (R311): The retry timer ends and the channel leaves FAULT to LATCHED, INSERT, RAMP, READY
  or OFF. -/
  | retryTimerEnd (slot : Nat)
  /-- OT_COOL (R311): The FET temperature falls below OT_C − 10 °C and a held OT fault continues. -/
  | otCool (slot : Nat) (temp : Int)
  /-- RETRY_COUNT_RESET (R311): Power-good has held for 10 s and the retry count returns to 0. -/
  | retryCountReset (slot : Nat)
  /-- OVER_TEMPERATURE (R313): The FET temperature reaches OT_C with the gate on and the channel faults with OT.
  -/
  | overTemperature (slot : Nat) (temp : Int)
  /-- PWARN_DEASSERT (R314): The feed has stayed healthy for 1 ms and SLOTnn_PWARN_N deasserts. -/
  | pwarnDeassert (slot : Nat)
  /-- D2D_LINK_DOWN (R316): The die-to-die control link goes down; SPC and SPW accesses end with access errors
  and channels run on alone. -/
  | d2dLinkDown
  /-- LINK_RESTORED (R316): The die-to-die control link returns and LINK_RESTORED is raised. -/
  | linkRestored
  /-- MEASUREMENT_SAMPLE (R467): Every 100 µs the channel replaces its measurement registers with a new sample.
  -/
  | measurementSample (slot : Nat) (m : Measurement)
  /-- SP_UVLO (R455): SP_VCC or SP_VIN falls below lockout and the slot power die is held in reset. -/
  | spUvlo (vcc vin : Nat)
  /-- SP_UVLO_RECOVER (R455): Both slot power supplies recover and the die runs its own power-on reset. -/
  | spUvloRecover (vcc vin : Nat)
  /-- IDENTITY (R321): The IDENTITY request returns the identity public point and device serial. -/
  | identity (r : SecReq)
  /-- BIND_OWNER (R321): BIND_OWNER installs the operator public key and generates PWK if none exists. -/
  | bindOwner (r : SecReq) (key : Nat)
  /-- PAIR_BIND (R322): PAIR_BIND runs the ECDH exchange over the pair link and shares PWK. -/
  | pairBind (r : SecReq) (b : PairBind)
  /-- NS_CREATE (R321): NS_CREATE creates a namespace with its attributes and keys. -/
  | nsCreate (r : SecReq) (a : NsAttr)
  /-- NS_SET (R321): NS_SET changes a namespace's group set, latency class or wake limit. -/
  | nsSet (r : SecReq) (a : NsChange)
  /-- NS_UNLOCK (R323): NS_UNLOCK loads NSK_n and moves the namespace from LOCKED to ACTIVE. -/
  | nsUnlock (r : SecReq) (ns : Nat)
  /-- NS_RETIRE (R338): NS_RETIRE crypto-erases a namespace within 1 ms and moves it to RETIRING. -/
  | nsRetire (r : SecReq) (ns : Nat)
  /-- TVK_SET (R321): TVK_SET installs or replaces a token verification key. -/
  | tvkSet (r : SecReq) (k key : Nat)
  /-- TVK_REMOVE (R321): TVK_REMOVE removes a token verification key. -/
  | tvkRemove (r : SecReq) (k : Nat)
  /-- DENY_ADD (R321): DENY_ADD adds a token serial to the deny list. -/
  | denyAdd (r : SecReq) (serial : Nat)
  /-- DENY_REMOVE (R321): DENY_REMOVE removes a token serial from the deny list. -/
  | denyRemove (r : SecReq) (serial : Nat)
  /-- ORDERED_ADD (R321): ORDERED_ADD adds a HOST_ID to the ordered-delivery list. -/
  | orderedAdd (r : SecReq) (hostId : Nat)
  /-- ORDERED_REMOVE (R321): ORDERED_REMOVE removes a HOST_ID from the ordered-delivery list. -/
  | orderedRemove (r : SecReq) (hostId : Nat)
  /-- RECOVER (R336): RECOVER unwraps the keys again, reloads the slots and ends an ERASE halt. -/
  | recover (r : SecReq)
  /-- PAGE_UNLOCK (R324): PAGE_UNLOCK clears PG_LOCK of a named page. -/
  | pageUnlock (r : SecReq) (page : Nat)
  /-- PATCH_STAGE (R430): PATCH_STAGE copies and checks a patch set into the inactive slot. -/
  | patchStage (r : SecReq) (p : PatchSet)
  /-- PATCH_ACTIVATE (R431): PATCH_ACTIVATE verifies the staged set and begins the CMD hold for activation. -/
  | patchActivate (r : SecReq) (level : Nat)
  /-- PATCH_APPLY (R431): All held commands have posted; cores stop at their barrier, BOOT loads the patch and
  the cores resume. -/
  | patchApply
  /-- KEY_LOCK_ACQUIRE (R326): A security core read of KEY_LOCK acquires the load-port lock with a fresh token.
  -/
  | keyLockAcquire (req : Nat)
  /-- KEY_LOCK_RELEASE (R326): Writing the holder's token to KEY_LOCK frees the lock. -/
  | keyLockRelease (req : Nat) (value : Word)
  /-- KEY_LOAD (R325): KEY_LOAD LOAD copies KEY_DATA into a key slot or seal bank entry and clears the data
  registers. -/
  | keyLoad (req : Nat) (bank : Bool) (index token : Nat)
  /-- KEY_ZERO (R327): KEY_LOAD ZERO clears one slot or entry and fails its queued jobs. -/
  | keyZero (req : Nat) (bank : Bool) (index token : Nat)
  /-- KEY_ZERO_ALL (R325): KEY_LOAD ZERO_ALL clears a whole bank. -/
  | keyZeroAll (req : Nat) (bank : Bool) (token : Nat)
  /-- CRYPTO_JOB_DONE (R328): A crypto core finishes an XTS or GCM job and takes the oldest queued job. -/
  | cryptoJobDone (core : Nat) (tagOk : Bool)
  /-- ALARM_ERASE (R335): An alarm source of class ERASE acts: CRY halts and every key slot and seal entry is
  zeroed. -/
  | alarmErase (sources : Nat)
  /-- ALARM_ZEROIZE (R337): A ZEROIZE alarm acts as ERASE, destroys the PUF helper data and sends the zeroize
  order. -/
  | alarmZeroize (sources : Nat)
  /-- ZEROIZE_REPEAT (R364): 50 µs passes without ZACK and the zeroize order is sent again, until 1 s has
  passed. -/
  | zeroizeRepeat
  /-- ZEROIZE (R364): A received ZEROIZE frame or word makes the partner destroy its wrapped PWK and mirrored
  NWKs and answer ZACK. -/
  | zeroize (wire : Bool)
  /-- ZACK (R364): A received ZACK stops the zeroize order and sets PARTNER_ACK. -/
  | zack (wire : Bool)
  /-- RNG_HEALTH_FAIL (R339): An entropy health test fails and RNG output stops. -/
  | rngHealthFail (adaptive : Bool)
  /-- RNG_RESTART (R339): 64 ms after a health failure the entropy source restarts. -/
  | rngRestart
  /-- RNG_OUT_READ (R339): A read of RNG_OUT returns 32 fresh DRBG bits. -/
  | rngOutRead (req : Nat)
  /-- HEARTBEAT_SEND (R348): Every 50 µs, while the watchdog is kicked, a heartbeat is sent on the link and the
  wire. -/
  | heartbeatSend
  /-- HEARTBEAT (R349): A valid HEARTBEAT frame from the partner resets the link path's missed count and carries
  its claim and CRC. -/
  | heartbeat (h : Heartbeat)
  /-- HEARTBEAT_WORD (R343): A valid wire heartbeat word resets the wire path's missed count. -/
  | heartbeatWord (word : Word)
  /-- HEARTBEAT_BOUNDARY (R349): At each 50 µs boundary the missed counts advance, raising PATH_LOST or
  declaring the partner lost. -/
  | heartbeatBoundary
  /-- PAIR_KICK (R348): A write to PAIR_KICK refreshes the heartbeat watchdog. -/
  | pairKick (req : Nat) (value : Word)
  /-- WATCHDOG_EXPIRY (R348): KICK_US passes without a PAIR_KICK write and heartbeats stop on both paths. -/
  | watchdogExpiry
  /-- RECORD (R344): A RECORD frame's journal records are placed in the standby's MRAM, applied and
  acknowledged. -/
  | record (claim first : Nat) (records : List JournalRecord)
  /-- MIRROR_ACK (R344): A MIRROR_ACK marks records as written for R224 and R245, and ends SYNCING when the
  image is covered. -/
  | mirrorAck (claim seq : Nat)
  /-- SYNC (R345): A SYNC frame carries table and key image data to the standby during SYNCING. -/
  | sync (claim seq : Nat) (last : Bool) (image : SyncImage)
  /-- HANDOVER (R362): A HANDOVER frame names the last record of a drill handover and is acknowledged. -/
  | handover (claim seq : Nat)
  /-- SECURE (R322): A SECURE frame carries a security core exchange of PAIR_BIND. -/
  | secure (claim : Nat) (pwk : Nat) (sigOk : Bool)
  /-- FENCE_PROBE (R356): FENCE_US after an isolated loss, the active probes its claim and demotes or returns to
  ACTIVE. -/
  | fenceProbe (spcClaim : Nat) (bridges : List Nat)
  /-- SPX_STATE_RECORD (R352): A state record or claim arrives over the slot power cross link. -/
  | spxStateRecord (claim : Nat) (channels : List SpxChannel)
  /-- DRIVE_RELEASE (R353): 1 µs after the new owner starts, the former owner releases its gate outputs. -/
  | driveRelease
  /-- BOOT_WAIT_EXPIRY (R360): BOOT_WAIT passes with no partner heard and the controller becomes ACTIVE with
  MIRROR NONE. -/
  | bootWaitExpiry
  /-- DRILL (R362): PAIR_DRILL_CMD DRILL starts a swap drill of two handovers, or is refused. -/
  | drill (req : Nat)
  /-- TAKEOVER_COMMAND (R350): PAIR_DRILL_CMD TAKEOVER makes a standby with its partner lost take over. -/
  | takeoverCommand (req : Nat)
  /-- DRILL_DRAIN_TIMEOUT (R363): A drill's handover drain has not completed 200 ms after the hold began; the
  drill ends with DRAIN. -/
  | drillDrainTimeout
  /-- DRILL_DWELL_END (R362): DWELL_S passes and the new active hands back. -/
  | drillDwellEnd
  /-- DRILL_DAY (R363): A day of device time passes; DAYS advances and DRILL_DUE may be raised. -/
  | drillDay
  /-- ARBITER_DECISION (R371): At a DDR or MRAM decision point the arbiter grants by class and round robin and
  sets back-off for losers. -/
  | arbiterDecision (arb : Nat) (arrivals : List Presented)
  /-- BACKOFF_EXPIRY (R371): A requester's back-off count reaches 0 and it presents again. -/
  | backoffExpiry (arb requester : Nat)
  /-- PRIVILEGED_PREEMPT (R373): A privileged requester presents and preempts a non-privileged owner, whose
  transfer restarts. -/
  | privilegedPreempt (arb requester length : Nat)
  /-- REGISTER_BUS_ARBITRATION (R375): Each REG cycle the register bus grants up to four accesses by privilege
  and class. -/
  | registerBusArbitration (arrivals : List BusAccess)
  /-- DMA_TAIL_WRITE (R376): A write of DMA_TAIL posts descriptors to a channel. -/
  | dmaTailWrite (req chan : Nat) (value : Word)
  /-- DMA_DESCRIPTOR (R377): With HEAD ≠ TAIL an enabled channel fetches and processes descriptor HEAD. -/
  | dmaDescriptor (chan : Nat)
  /-- DMA_WRITEBACK (R380): A descriptor ends and is written back with STATUS and RESULT, and HEAD advances. -/
  | dmaWriteback (chan : Nat) (ok : Bool)
  /-- DMA_RESUME (R381): Writing DMA_CTRL.RESUME = 1 clears a channel's halt. -/
  | dmaResume (req chan : Nat)
  /-- DDR_SCRUB (R386): The DDR patrol scrub reads the next word and writes back a corrected one. -/
  | ddrScrub (chan : Nat) (w : WordCheck) (raced : Bool)
  /-- MRAM_SCRUB (R392): The MRAM scrub reads the next word and writes back a corrected one. -/
  | mramScrub (w : WordCheck) (raced : Bool)
  /-- MRAM_DIE_FAIL (R393): An MRAM die stops responding; MRM faults and MRAM counts as unusable. -/
  | mramDieFail (die : Nat)
  /-- CONFIG_REQUEST (R396): An inbound configuration type 0 request reads or writes the function's
  configuration space. -/
  | configRequest (write : Bool) (offset : Nat) (value : Word)
  /-- BAR0_REQUEST (R399): An inbound BAR0 memory request is translated through its window into register
  accesses. -/
  | bar0Request (write : Bool) (offset : Nat) (values : List Word) (allBe ep : Bool)
  /-- BAR2_REQUEST (R401): An inbound BAR2 memory request reaches DRAM through its window. -/
  | bar2Request (write : Bool) (offset length : Nat) (data : List Byte) (ep : Bool)
  /-- UNSUPPORTED_REQUEST (R402): An inbound I/O, locked, AtomicOp or type 1 request is answered with UR. -/
  | unsupportedRequest (kind : TlpKind)
  /-- BAR0_ENTRY_WRITE (R400): A write of SVP_W0_ENTRY applies a BAR0 window entry, or refuses it for an
  unmappable page. -/
  | bar0EntryWrite (req : Nat) (value : Word)
  /-- BAR2_ENTRY_WRITE (R401): A write of SVP_W2_CTRL applies a BAR2 window entry, or refuses it. -/
  | bar2EntryWrite (req : Nat) (value : Word)
  /-- OUTBOUND_REQUEST (R403): A request to the outbound range is issued as PCIe memory TLPs. -/
  | outboundRequest (req addr length : Nat) (write : Bool) (data : List Byte) (tags : List Nat)
  /-- COMPLETION_TLP (R405): A received completion delivers read data, or is discarded as late or unexpected. -/
  | completionTlp (tag : Nat) (status : CplStatus) (data : List Byte)
  /-- COMPLETION_TIMEOUT (R404): An outbound read lacks its data SVP_CPL_TMO after issue and times out. -/
  | completionTimeout (tag : Nat)
  /-- TAG_QUARANTINE_END (R404): 2 × SVP_CPL_TMO after a timeout the tag may be reused. -/
  | tagQuarantineEnd (tag : Nat)
  /-- BME_CLEAR (R406): Bus Master Enable is cleared and no further outbound request or MSI-X message issues. -/
  | bmeClear
  /-- FLR (R407): An FLR resets the function, frees outbound tags and counts the event. -/
  | flr
  /-- FLR_DONE (R407): The function is back at its defaults after an FLR and stops answering with retry status.
  -/
  | flrDone
  /-- PERST_ASSERT (R408): SVP_PERST_N asserts or a hot reset occurs, acting as FLR and taking the link down. -/
  | perstAssert (hot : Bool)
  /-- PERST_DEASSERT (R408): SVP_PERST_N deasserts and link training starts. -/
  | perstDeassert
  /-- L1_ENTRY (R409): The link has been idle IDLE_US with ASPM L1 enabled and SVP requests L1. -/
  | l1Entry
  /-- L1_EXIT (R409): A TLP to send or a partner exit takes the link out of L1. -/
  | l1Exit
  /-- MSIX_CAUSE_EDGE (R410): A vector's cause rises and its MSI-X message is sent or left pending. -/
  | msixCauseEdge (vector : Nat)
  /-- SVP_EOI (R411): A write of SVP_EOI re-arms a vector, treating a still-high cause as a new edge. -/
  | svpEoi (req : Nat) (value : Word)
  /-- SVP_SWI (R411): A write of SVP_SWI raises a vector's cause for one cycle. -/
  | svpSwi (req : Nat) (value : Word)
  /-- POWER_ON_RESET (R424): A supply below threshold or PORST_N low resets the whole die, and the power-up
  sequence then runs. -/
  | powerOnReset (b : BootInputs)
  /-- DEVICE_RESET (R424): BOOT_CTRL.DEVICE_RESET from the security core resets every block outside the always-
  on domain. -/
  | deviceReset (req : Nat) (b : BootInputs)
  /-- REFCLK_PRESENT (R414): 1,024 REFCLK periods measure in range and the root PLL starts. -/
  | refclkPresent
  /-- REFCLK_LOST (R420): REFCLK is absent for 1 µs; the PLL holds over, clocks move to the oscillator and
  CLKMON alarms. -/
  | refclkLost
  /-- PLL_LOCK (R414): The root PLL locks and the divider ramps begin. -/
  | pllLock
  /-- PLL_UNLOCK (R420): The root PLL loses lock and CLK moves clocks to the oscillator. -/
  | pllUnlock
  /-- DIVIDER_STEP (R418): After 64 cycles a clock divider moves one step toward its target. -/
  | dividerStep (clock : Nat)
  /-- TRIM_WINDOW (R417): An oscillator trim window ends and the trim code is set or adjusted. -/
  | trimWindow (count : Nat)
  /-- PWR_DOMAIN_WRITE (R421): A write of PWR_DOM_ON requests domains on or off, refusing busy switch-offs. -/
  | pwrDomainWrite (req : Nat) (high : Bool) (value : Word)
  /-- DOMAIN_SWITCH_DONE (R422): A power domain finishes switching on or off and the next pending switch starts.
  -/
  | domainSwitchDone (domain : Nat)
  /-- SMB_STATUS (R435): SMBus command 0x00 returns the STATUS word. -/
  | smbStatus (a : SmbXfer)
  /-- SMB_TEMP_MAIN (R435): SMBus command 0x01 returns the main die temperature. -/
  | smbTempMain (a : SmbXfer)
  /-- SMB_TEMP_SP (R435): SMBus command 0x02 returns the slot power die temperature. -/
  | smbTempSp (a : SmbXfer)
  /-- SMB_SLOT_POWER (R435): SMBus command 0x03 returns the averaged slot power. -/
  | smbSlotPower (a : SmbXfer)
  /-- SMB_BOOT (R435): SMBus command 0x04 returns the boot stage. -/
  | smbBoot (a : SmbXfer)
  /-- SMB_CAUSE (R437): SMBus command 0x05 returns MGT_CAUSE and clears the returned bits. -/
  | smbCause (a : SmbXfer)
  /-- SMB_IDENTITY (R436): SMBus command 0x10 returns the identity snapshot record. -/
  | smbIdentity (a : SmbXfer)
  /-- SMB_PAIR (R436): SMBus command 0x11 returns the pair snapshot record. -/
  | smbPair (a : SmbXfer)
  /-- SMB_GROUP (R436): SMBus commands 0x20–0x2B return a group snapshot record. -/
  | smbGroup (a : SmbXfer) (group : Nat)
  /-- SMB_SLOT (R436): SMBus commands 0x40–0x6F return a slot snapshot record. -/
  | smbSlot (a : SmbXfer) (slot : Nat)
  /-- SMB_RECEIVE_BYTE (R434): An SMBus Receive Byte returns the low byte of STATUS. -/
  | smbReceiveByte (a : SmbXfer)
  /-- SMB_UNKNOWN_COMMAND (R434): An unlisted command code is not acknowledged and counted. -/
  | smbUnknownCommand (a : SmbXfer) (code : Nat)
  /-- SMB_WRITE (R434): An SMBus write transaction is refused at its first data byte and changes nothing. -/
  | smbWrite (a : SmbXfer) (code : Nat)
  /-- ALERT_RESPONSE (R437): A read of the Alert Response Address takes part in arbitration and releases
  MGT_ALERT_N when won. -/
  | alertResponse (win : Bool)
  /-- SMB_TIMEOUT (R433): SCL is held low 25 ms in a transaction and MGT abandons it. -/
  | smbTimeout
  /-- SNAP_COMMIT (R436): Writing MGT_SNAP_CTRL.COMMIT makes the open snapshot buffer current. -/
  | snapCommit (req : Nat)
  /-- SNAP_DATA_ACCESS (R436): A read or write of MGT_SNAP_DATA accesses the open buffer and advances the index.
  -/
  | snapDataAccess (req : Nat) (write : Bool) (value : Word)
  /-- SNAP_STALE (R436): 1 s passes since the last commit and SNAP_VALID falls. -/
  | snapStale
  /-- CAUSE_SET (R437): A write of MGT_CAUSE_SET sets alert cause bits. -/
  | causeSet (req : Nat) (value : Word)
  /-- PMC_CLEAR (R442): PMC_CTRL.CLEAR zeroes all eight page counters in one cycle. -/
  | pmcClear (req page : Nat)
  /-- PMC_CHAIN_READ (R441): A read of the low counter of a chained pair latches its high half. -/
  | pmcChainRead (req page pair : Nat)
  /-- PMT_SEED (R444): A write of PMT_SEED loads the tagging LFSR. -/
  | pmtSeed (req : Nat) (value : Word)
  /-- PMT_GLOBAL (R440): A write of PMT_GLOBAL.RUN starts or stops global counters on every page in one tick. -/
  | pmtGlobal (req : Nat) (value : Word)
  /-- IDCODE (R463): The TAP IDCODE instruction selects the identification register. -/
  | idcode
  /-- BYPASS (R463): The TAP BYPASS instruction selects the bypass register. -/
  | bypass
  /-- SAMPLE_PRELOAD (R463): The TAP SAMPLE/PRELOAD instruction samples and preloads the boundary scan chain. -/
  | samplePreload (preload : List Bool)
  /-- EXTEST (R463): The TAP EXTEST instruction drives the boundary scan chain while PORST_N is low. -/
  | extest
  /-- CLAMP (R463): The TAP CLAMP instruction holds outputs from the chain while PORST_N is low. -/
  | clamp
  /-- HIGHZ (R463): The TAP HIGHZ instruction floats outputs while PORST_N is low. -/
  | highz
  /-- FEED_FET_TURN_ON (R305): A feed in its window comes to lie 50 mV or more above the common node and its off
  ideal-diode FET turns on. -/
  | feedFetTurnOn (slot : Nat) (feedB : Bool) (mv : Nat)
  /-- FEED_WARNING (R314): The active feed falls below WARN, or falls faster than SLOPE, and SLOTnn_PWARN_N
  asserts within 2 µs. -/
  | feedWarning (slot : Nat) (mv fall : Nat)
  /-- BREAKER_RELEASE (R310): The sense voltage falls below BRK_MV, the fault timer stops and regulation ends
  while the count is kept. -/
  | breakerRelease (slot senseUv at_ : Nat)
  /-- DIE_OT (R464): The slot power die temperature rises through 125 °C and SPC raises DIE_OT. -/
  | dieOt (temp : Int)
  /-- STATUS_HOT_RISE (R437): TEMP_MAIN reaches 100.0 °C or TEMP_SP reaches 115.0 °C, STATUS.HOT rises and the
  HOT and STATUS_CHANGE causes are set. -/
  | statusHotRise (tempMain : Int)
  /-- BOOT_LINK_WAIT_EXPIRY (R360): A controller in BOOT that hears its partner only on the wire path reaches 10
  × BOOT_WAIT without the pair link, and the higher claim becomes ACTIVE. -/
  | bootLinkWaitExpiry
  /-- CLAIM_CONFIRM_TIMEOUT (R358): 100 µs pass without a bridge STATUS or SPX confirming a broadcast claim, so
  the member goes OUT at takeover, or the drill ends with RESULT CLAIM. -/
  | claimConfirmTimeout (slots : List Nat) (spx : Bool)
  /-- RNG_READY (R339): 1,024 consecutive entropy samples pass after a start or restart, READY becomes 1 and
  waiting key generation and REQ handling resume. -/
  | rngReady
  /-- DATA_LINK_UP (R408): The service port's data link layer comes up after training and LINK_UP is raised in
  SVP_ALERT. -/
  | dataLinkUp (speed width : Nat)
  /-- DATA_LINK_DOWN (R408): The service port's data link layer goes down and LINK_DOWN is raised in SVP_ALERT.
  -/
  | dataLinkDown
  /-- BAD_CRC_FRAME (R202): A module or pair link frame with a bad CRC is discarded and counted in
  MLK_CRC_ERR_CNT. -/
  | badCrcFrame (slot : Nat) (pair : Bool)
  /-- INVALID_OPCODE_CAPSULE (R87): A parsed capsule whose OPCODE is not in Table 4-3 is rejected at intake with
  INVALID_OPCODE and the REJECTED flag. -/
  | invalidOpcodeCapsule (conn : Nat)
  deriving DecidableEq, Repr

end Sys2Proof
end

