-- ==== Sys2Proof/Decode.lean ====
section
/-! DEFINITION. The commands that a word spells: the table of commands gives no row any bits, so no word spells one. -/
namespace Sys2Proof

/-- The command that the word `w` of `nbits` bits spells by the bits of the command table. The table gives no row any
bits: none. -/
def decodeTableWord (_nbits _w : Nat) : Option Instr := none

end Sys2Proof
end

