-- ==== Sys2Proof/Config.lean ====
section
/-! DEFINITION. What an implementation fixes and the manual leaves open: constants without a body, so that no proof can
see their value. Each is named in the assumption log. -/
namespace Sys2Proof.Config

/-- A fresh 32-bit value nothing constrains, for the n-th draw (log entry 2). -/
opaque freeWord : Nat → BitVec 32

/-- A fresh byte nothing constrains, for the n-th draw (log entry 2). -/
opaque freeByte : Nat → BitVec 8

/-- A fresh number nothing constrains, for the n-th draw (log entry 2). -/
opaque freeNat : Nat → Nat

/-- What a byte of MRAM that the model does not list reads as, at the n-th draw: the ROM, the journal writer and the
security core keep their records there, and the manual does not lay out their bytes (R390, log entry 13). -/
opaque mramByte : Nat → Nat → BitVec 8

/-- AES-256-XTS encryption of a sector under a key with a tweak (R13, R328). -/
opaque xtsEncrypt : Nat → Nat → List Byte → List Byte

/-- AES-256-XTS decryption of a sector under a key with a tweak (R13, R328). -/
opaque xtsDecrypt : Nat → Nat → List Byte → List Byte

/-- AES-256-GCM: the text of a chunk enciphered or deciphered under a sealing key and an IV (R97, R328, R330). -/
opaque gcmCrypt : Nat → List Byte → List Byte → List Byte

/-- AES-256-GCM: the tag of a chunk's ciphertext under a sealing key, an IV and an AAD (R97, R102, R330). -/
opaque gcmTag : Nat → List Byte → List Byte → List Byte → List Byte

/-- First 4 bytes of AES-256 under the first half of a key, applied to a zero block: KEY_KCV (R323). -/
opaque kcv : Nat → BitVec 32

/-- The n-th output of the random number generator: keys, points, PSNs (R123, R319, R339). -/
opaque random : Nat → Nat

/-- The identity key's public point, 97 bytes as one number (R319, Table 12-3). -/
opaque idPoint : Nat

/-- SHA-384 of the identity key's public point (SEC_ID_HASH), by fuse lot (R318). -/
opaque idHash : Nat

/-- The device's 16-byte serial number, a fuse value (R107, R466). -/
opaque serial : Nat

/-- Vendor ID, Revision ID and Device Serial Number of configuration space: fuse values (R396). -/
opaque pciVendor : BitVec 16
opaque pciRevision : BitVec 8
opaque pciSerial : Nat

/-- A dword of configuration space whose value the PCI Express specification, not the manual, gives (R396). -/
opaque pciDefault : Nat → BitVec 32

/-- NET_MAC base addresses of the two ports: fuse values (R152). -/
opaque macBase : Nat → Nat

/-- LTSSM state code of the service port, by link state (SVP_LINK): the manual gives no code table. -/
opaque ltssm : Bool → Nat

end Sys2Proof.Config
end

