-- ==== Sys2Proof/Machine/RegTable.lean ====
section
/-! DEFINITION. The register tables of the manual: every block register with its offset, access, fields, reset values and
the rule by which a written value is stored. Names are the manual's. -/
namespace Sys2Proof.Machine

/-- The block types of Table 1-1. -/
inductive Block
  | clk | pwr | time | boot | sec | key | alm | rng | pair | net | xpt | swc | pol | egs | cmd | zsq | stg | pqe | ecc | mlx | mlk | spc | spw | cry | cx | fab | dma | ddr | mrm | svp | pmt | mgt
  deriving DecidableEq, Repr

/-- First page and number of instances of a block type (Table 1-1, R7). -/
def Block.place : Block → Nat × Nat
  | .clk => (0x000, 1)
  | .pwr => (0x001, 1)
  | .time => (0x002, 1)
  | .boot => (0x003, 1)
  | .sec => (0x008, 1)
  | .key => (0x009, 1)
  | .alm => (0x00A, 1)
  | .rng => (0x00B, 1)
  | .pair => (0x010, 1)
  | .net => (0x020, 2)
  | .xpt => (0x028, 4)
  | .swc => (0x030, 1)
  | .pol => (0x031, 1)
  | .egs => (0x038, 2)
  | .cmd => (0x040, 1)
  | .zsq => (0x041, 1)
  | .stg => (0x042, 1)
  | .pqe => (0x048, 4)
  | .ecc => (0x050, 12)
  | .mlx => (0x060, 6)
  | .mlk => (0x080, 48)
  | .spc => (0x0C0, 1)
  | .spw => (0x0D0, 48)
  | .cry => (0x100, 1)
  | .cx => (0x101, 8)
  | .fab => (0x110, 1)
  | .dma => (0x118, 16)
  | .ddr => (0x130, 4)
  | .mrm => (0x134, 1)
  | .svp => (0x140, 1)
  | .pmt => (0x150, 1)
  | .mgt => (0x160, 1)

/-- All block types, in page order. -/
def allBlocks : List Block :=
  [.clk, .pwr, .time, .boot, .sec, .key, .alm, .rng, .pair, .net, .xpt, .swc, .pol, .egs, .cmd, .zsq,
   .stg, .pqe, .ecc, .mlx, .mlk, .spc, .spw, .cry, .cx, .fab, .dma, .ddr, .mrm, .svp, .pmt, .mgt]

/-- The block type whose pages hold a page number, looked for in a list of types. -/
def blockIn (page : Nat) : List Block → Option Block
  | [] => none
  | b :: r => if b.place.1 ≤ page ∧ page < b.place.1 + b.place.2 then some b else blockIn page r

/-- The block type of a defined page; none for a reserved page (R23, Table 1-1). -/
def blockOf (page : Nat) : Option Block := blockIn page allBlocks

/-- The page of an instance of a block type (R7). -/
def pageOf (b : Block) (i : Nat) : Nat := b.place.1 + i

/-- Access of a field (R45): read-write, read-only, write-only, write one to clear. -/
inductive Acc | rw | ro | wo | w1c
  deriving DecidableEq, Repr

/-- How a written field value is stored (R45): as it is, clamped to a range, a value outside a range as the top of it,
one value in place of another, or a signed number clamped to plus or minus a bound. -/
inductive Norm
  | keep
  | clamp (lo hi : Nat)
  | elseMax (lo hi : Nat)
  | swap (v into : Nat)
  | signed (m : Nat)
  deriving DecidableEq, Repr

/-- One field of a register: low bit, width, access, reset value, store rule, quiesce-only (R31). -/
structure FieldDef where
  lo : Nat
  w : Nat
  acc : Acc
  reset : Nat
  norm : Norm
  quiesce : Bool
  deriving DecidableEq, Repr

/-- One register, or `count` registers `stride` apart. A counter stops at 0xFFFF_FFFF, is cleared by a write of 0 and
ignores any other written value. -/
structure RegDef where
  name : String
  off : Nat
  count : Nat
  stride : Nat
  counter : Bool
  fields : List FieldDef
  deriving DecidableEq, Repr

/-- Registers of CLK. -/
def clkRegs : List RegDef :=
  [⟨"CLK_STAT", 0x100, 1, 4, false,
    [⟨31, 1, .ro, 0, .keep, false⟩, ⟨30, 1, .ro, 0, .keep, false⟩, ⟨29, 1, .ro, 0, .keep, false⟩,
     ⟨28, 1, .ro, 0, .keep, false⟩, ⟨0, 5, .ro, 0, .keep, false⟩]⟩,
   ⟨"CLK_OSC_CFG", 0x104, 1, 4, false, [⟨0, 2, .rw, 0, .keep, false⟩]⟩,
   ⟨"CLK_OSC_TRIM", 0x108, 1, 4, false,
    [⟨31, 1, .ro, 0, .keep, false⟩, ⟨16, 10, .ro, 0, .keep, false⟩, ⟨0, 10, .ro, 0, .keep, false⟩]⟩,
   ⟨"CLK_OSC_ERR", 0x10C, 1, 4, false, [⟨0, 32, .ro, 0, .keep, false⟩]⟩,
   ⟨"CLK_DIV0", 0x110, 1, 4, false,
    [⟨18, 9, .ro, 256, .keep, false⟩, ⟨9, 9, .ro, 256, .keep, false⟩, ⟨0, 9, .ro, 256, .keep, false⟩]⟩,
   ⟨"CLK_DIV1", 0x114, 1, 4, false, [⟨9, 9, .ro, 256, .keep, false⟩, ⟨0, 9, .ro, 256, .keep, false⟩]⟩,
   ⟨"CLK_CC_GATE", 0x118, 1, 4, false, [⟨0, 16, .rw, 65535, .keep, false⟩]⟩,
   ⟨"CLK_LOSS_CNT", 0x120, 1, 4, true, [⟨0, 32, .rw, 0, .keep, false⟩]⟩,
   ⟨"CLK_ALERT", 0x140, 1, 4, false,
    [⟨4, 1, .w1c, 0, .keep, false⟩, ⟨3, 1, .w1c, 0, .keep, false⟩, ⟨2, 1, .w1c, 0, .keep, false⟩,
     ⟨1, 1, .w1c, 0, .keep, false⟩, ⟨0, 1, .w1c, 0, .keep, false⟩]⟩]

/-- Registers of PWR. -/
def pwrRegs : List RegDef :=
  [⟨"PWR_DOM_ON0", 0x100, 1, 4, false, [⟨0, 32, .rw, 0, .keep, false⟩]⟩,
   ⟨"PWR_DOM_ON1", 0x104, 1, 4, false, [⟨0, 4, .rw, 0, .keep, false⟩]⟩,
   ⟨"PWR_DOM_STAT0", 0x108, 1, 4, false, [⟨0, 32, .ro, 0, .keep, false⟩]⟩,
   ⟨"PWR_DOM_STAT1", 0x10C, 1, 4, false,
    [⟨31, 1, .ro, 0, .keep, false⟩, ⟨16, 6, .ro, 0, .keep, false⟩, ⟨0, 4, .ro, 0, .keep, false⟩]⟩,
   ⟨"PWR_RST_CAUSE", 0x110, 1, 4, false,
    [⟨2, 1, .w1c, 0, .keep, false⟩, ⟨1, 1, .w1c, 0, .keep, false⟩, ⟨0, 1, .w1c, 0, .keep, false⟩]⟩,
   ⟨"PWR_ALERT", 0x140, 1, 4, false,
    [⟨2, 1, .w1c, 0, .keep, false⟩, ⟨1, 1, .w1c, 0, .keep, false⟩, ⟨0, 1, .w1c, 0, .keep, false⟩]⟩]

/-- Registers of TIME. -/
def timeRegs : List RegDef :=
  [⟨"TIME_S_LO", 0x100, 1, 4, false, [⟨0, 32, .ro, 0, .keep, false⟩]⟩,
   ⟨"TIME_S_HI", 0x104, 1, 4, false, [⟨0, 16, .ro, 0, .keep, false⟩]⟩,
   ⟨"TIME_NS", 0x108, 1, 4, false, [⟨0, 30, .ro, 0, .keep, false⟩]⟩,
   ⟨"TIME_TICK_LO", 0x10C, 1, 4, false, [⟨0, 32, .ro, 0, .keep, false⟩]⟩,
   ⟨"TIME_TICK_HI", 0x110, 1, 4, false, [⟨0, 32, .ro, 0, .keep, false⟩]⟩,
   ⟨"TIME_FREQ", 0x114, 1, 4, false, [⟨0, 32, .rw, 0, .signed 65536000, false⟩]⟩,
   ⟨"TIME_ADJ_S_LO", 0x118, 1, 4, false, [⟨0, 32, .rw, 0, .keep, false⟩]⟩,
   ⟨"TIME_ADJ_S_HI", 0x11C, 1, 4, false, [⟨0, 16, .rw, 0, .keep, false⟩]⟩,
   ⟨"TIME_ADJ_NS", 0x120, 1, 4, false, [⟨0, 30, .rw, 0, .clamp 0 999999999, false⟩]⟩,
   ⟨"TIME_CMD", 0x124, 1, 4, false, [⟨1, 1, .rw, 0, .keep, false⟩, ⟨0, 1, .rw, 0, .keep, false⟩]⟩,
   ⟨"TIME_STAT", 0x128, 1, 4, false, [⟨0, 7, .ro, 0, .keep, false⟩]⟩,
   ⟨"TIME_STAT2", 0x12C, 1, 4, false,
    [⟨2, 1, .ro, 0, .keep, false⟩, ⟨1, 1, .ro, 0, .keep, false⟩, ⟨0, 1, .ro, 0, .keep, false⟩]⟩,
   ⟨"TIME_PPS_S_LO", 0x130, 1, 4, false, [⟨0, 32, .ro, 0, .keep, false⟩]⟩,
   ⟨"TIME_PPS_S_HI", 0x134, 1, 4, false, [⟨0, 16, .ro, 0, .keep, false⟩]⟩,
   ⟨"TIME_PPS_NS", 0x138, 1, 4, false, [⟨0, 30, .ro, 0, .keep, false⟩]⟩,
   ⟨"TIME_PPS_OUT_CFG", 0x140, 1, 4, false,
    [⟨31, 1, .rw, 0, .keep, false⟩, ⟨0, 19, .rw, 100000, .clamp 1 500000, false⟩]⟩,
   ⟨"TIME_PPS_OFFSET", 0x144, 1, 4, false, [⟨0, 30, .rw, 0, .clamp 0 999999999, false⟩]⟩,
   ⟨"TIME_TXTS_INFO", 0x150, 1, 4, false,
    [⟨31, 1, .ro, 0, .keep, false⟩, ⟨24, 3, .ro, 0, .keep, false⟩, ⟨16, 4, .ro, 0, .keep, false⟩,
     ⟨0, 16, .ro, 0, .keep, false⟩]⟩,
   ⟨"TIME_TXTS_S_LO", 0x154, 1, 4, false, [⟨0, 32, .ro, 0, .keep, false⟩]⟩,
   ⟨"TIME_TXTS_S_HI", 0x158, 1, 4, false, [⟨0, 16, .ro, 0, .keep, false⟩]⟩,
   ⟨"TIME_TXTS_NS", 0x15C, 1, 4, false, [⟨0, 30, .ro, 0, .keep, false⟩]⟩,
   ⟨"TIME_ALERT", 0x160, 1, 4, false,
    [⟨2, 1, .w1c, 0, .keep, false⟩, ⟨1, 1, .w1c, 0, .keep, false⟩, ⟨0, 1, .w1c, 0, .keep, false⟩]⟩]

/-- Registers of BOOT. -/
def bootRegs : List RegDef :=
  [⟨"BOOT_STAT", 0x100, 1, 4, false,
    [⟨28, 4, .ro, 0, .keep, false⟩, ⟨24, 4, .ro, 0, .keep, false⟩, ⟨2, 1, .ro, 0, .keep, false⟩,
     ⟨1, 1, .ro, 0, .keep, false⟩, ⟨0, 1, .ro, 0, .keep, false⟩]⟩,
   ⟨"BOOT_ROM_VER", 0x104, 1, 4, false, [⟨0, 32, .ro, 16973841, .keep, false⟩]⟩,
   ⟨"BOOT_PATCH_LEVEL", 0x108, 1, 4, false, [⟨0, 32, .ro, 0, .keep, false⟩]⟩,
   ⟨"BOOT_PATCH_STAGED", 0x10C, 1, 4, false, [⟨0, 32, .ro, 0, .keep, false⟩]⟩,
   ⟨"BOOT_TIME", 0x110, 1, 4, false, [⟨0, 32, .ro, 0, .keep, false⟩]⟩,
   ⟨"BOOT_ACT", 0x114, 1, 4, false,
    [⟨31, 1, .ro, 0, .keep, false⟩, ⟨30, 1, .ro, 0, .keep, false⟩, ⟨0, 16, .ro, 0, .keep, false⟩]⟩,
   ⟨"BOOT_CTRL", 0x118, 1, 4, false, [⟨0, 1, .rw, 0, .keep, false⟩]⟩,
   ⟨"BOOT_ALERT", 0x140, 1, 4, false,
    [⟨3, 1, .w1c, 0, .keep, false⟩, ⟨2, 1, .w1c, 0, .keep, false⟩, ⟨1, 1, .w1c, 0, .keep, false⟩,
     ⟨0, 1, .w1c, 0, .keep, false⟩]⟩]

/-- Registers of SEC. -/
def secRegs : List RegDef :=
  [⟨"SEC_STATE", 0x100, 1, 4, false,
    [⟨28, 4, .ro, 0, .keep, false⟩, ⟨2, 1, .ro, 0, .keep, false⟩, ⟨1, 1, .ro, 0, .keep, false⟩,
     ⟨0, 1, .ro, 0, .keep, false⟩]⟩,
   ⟨"SEC_REQ_BASE_LO", 0x104, 1, 4, false, [⟨0, 32, .rw, 0, .keep, false⟩]⟩,
   ⟨"SEC_REQ_BASE_HI", 0x108, 1, 4, false, [⟨0, 16, .rw, 0, .keep, false⟩]⟩,
   ⟨"SEC_REQ_HEAD", 0x10C, 1, 4, false, [⟨0, 32, .ro, 0, .keep, false⟩]⟩,
   ⟨"SEC_ID_HASH", 0x140, 12, 4, false, [⟨0, 32, .ro, 0, .keep, false⟩]⟩,
   ⟨"SEC_REQ_FAIL_CNT", 0x180, 1, 4, true, [⟨0, 32, .rw, 0, .keep, false⟩]⟩,
   ⟨"SEC_ALERT", 0x190, 1, 4, false, [⟨1, 1, .w1c, 0, .keep, false⟩, ⟨0, 1, .w1c, 0, .keep, false⟩]⟩]

/-- Registers of KEY. -/
def keyRegs : List RegDef :=
  [⟨"KEY_LOCK", 0x100, 1, 4, false, [⟨0, 16, .rw, 0, .keep, false⟩]⟩,
   ⟨"KEY_LOAD", 0x104, 1, 4, false,
    [⟨31, 1, .rw, 0, .keep, false⟩, ⟨30, 1, .rw, 0, .keep, false⟩, ⟨28, 2, .rw, 0, .keep, false⟩,
     ⟨16, 12, .rw, 0, .keep, false⟩, ⟨0, 16, .rw, 0, .keep, false⟩]⟩,
   ⟨"KEY_STAT", 0x108, 1, 4, false,
    [⟨31, 1, .ro, 0, .keep, false⟩, ⟨24, 4, .ro, 0, .keep, false⟩, ⟨0, 1, .ro, 0, .keep, false⟩]⟩,
   ⟨"KEY_KCV", 0x10C, 1, 4, false, [⟨0, 32, .ro, 0, .keep, false⟩]⟩,
   ⟨"KEY_DATA", 0x140, 16, 4, false, [⟨0, 32, .wo, 0, .keep, false⟩]⟩,
   ⟨"KEY_VALID", 0x180, 32, 4, false, [⟨0, 32, .ro, 0, .keep, false⟩]⟩,
   ⟨"KEY_LOAD_CNT", 0x200, 1, 4, true, [⟨0, 32, .rw, 0, .keep, false⟩]⟩,
   ⟨"KEY_BUSY_CNT", 0x204, 1, 4, true, [⟨0, 32, .rw, 0, .keep, false⟩]⟩,
   ⟨"KEY_ALERT", 0x210, 1, 4, false, [⟨1, 1, .w1c, 0, .keep, false⟩, ⟨0, 1, .w1c, 0, .keep, false⟩]⟩]

/-- Registers of ALM. -/
def almRegs : List RegDef :=
  [⟨"ALM_CFG", 0x100, 1, 4, false,
    [⟨0, 2, .rw, 1, .keep, false⟩, ⟨2, 2, .rw, 1, .keep, false⟩, ⟨4, 2, .rw, 1, .keep, false⟩,
     ⟨6, 2, .rw, 1, .keep, false⟩, ⟨8, 2, .rw, 1, .keep, false⟩]⟩,
   ⟨"ALM_STAT", 0x104, 1, 4, false,
    [⟨31, 1, .ro, 0, .keep, false⟩, ⟨30, 1, .ro, 0, .keep, false⟩, ⟨29, 1, .ro, 0, .keep, false⟩,
     ⟨28, 1, .ro, 0, .keep, false⟩, ⟨0, 5, .ro, 0, .keep, false⟩]⟩,
   ⟨"ALM_FIRST", 0x108, 1, 4, false, [⟨0, 5, .ro, 0, .keep, false⟩]⟩,
   ⟨"ALM_TIME_LO", 0x10C, 1, 4, false, [⟨0, 32, .ro, 0, .keep, false⟩]⟩,
   ⟨"ALM_TIME_HI", 0x110, 1, 4, false, [⟨0, 32, .ro, 0, .keep, false⟩]⟩,
   ⟨"ALM_CNT", 0x120, 5, 4, false, [⟨0, 32, .rw, 0, .keep, false⟩]⟩,
   ⟨"ALM_ALERT", 0x140, 1, 4, false, [⟨1, 1, .w1c, 0, .keep, false⟩, ⟨0, 1, .w1c, 0, .keep, false⟩]⟩]

/-- Registers of RNG. -/
def rngRegs : List RegDef :=
  [⟨"RNG_CFG", 0x100, 1, 4, false, [⟨0, 12, .rw, 256, .clamp 1 4095, false⟩]⟩,
   ⟨"RNG_STAT", 0x104, 1, 4, false, [⟨31, 1, .ro, 0, .keep, false⟩, ⟨30, 1, .ro, 0, .keep, false⟩]⟩,
   ⟨"RNG_OUT", 0x108, 1, 4, false, [⟨0, 32, .ro, 0, .keep, false⟩]⟩,
   ⟨"RNG_RCT_CNT", 0x120, 1, 4, true, [⟨0, 32, .rw, 0, .keep, false⟩]⟩,
   ⟨"RNG_APT_CNT", 0x124, 1, 4, true, [⟨0, 32, .rw, 0, .keep, false⟩]⟩,
   ⟨"RNG_ALERT", 0x140, 1, 4, false, [⟨0, 1, .w1c, 0, .keep, false⟩]⟩]

/-- Registers of PAIR. -/
def pairRegs : List RegDef :=
  [⟨"PAIR_CFG", 0x100, 1, 4, false,
    [⟨31, 1, .rw, 1, .keep, false⟩, ⟨16, 10, .rw, 50, .clamp 10 1000, false⟩,
     ⟨0, 10, .rw, 200, .clamp 150 1000, false⟩]⟩,
   ⟨"PAIR_KICK", 0x104, 1, 4, false, [⟨0, 32, .wo, 0, .keep, false⟩]⟩,
   ⟨"PAIR_WDOG", 0x108, 1, 4, false, [⟨0, 10, .rw, 100, .clamp 50 1000, false⟩]⟩,
   ⟨"PAIR_ROLE", 0x10C, 1, 4, false, [⟨28, 4, .ro, 0, .keep, false⟩, ⟨24, 4, .ro, 0, .keep, false⟩]⟩,
   ⟨"PAIR_CLAIM", 0x110, 1, 4, false, [⟨0, 32, .ro, 0, .keep, false⟩]⟩,
   ⟨"PAIR_PEER_CLAIM", 0x114, 1, 4, false, [⟨0, 32, .ro, 0, .keep, false⟩]⟩,
   ⟨"PAIR_PATH", 0x118, 1, 4, false,
    [⟨24, 3, .ro, 0, .keep, false⟩, ⟨16, 3, .ro, 0, .keep, false⟩, ⟨4, 4, .ro, 0, .keep, false⟩,
     ⟨1, 1, .ro, 0, .keep, false⟩, ⟨0, 1, .ro, 0, .keep, false⟩]⟩,
   ⟨"PAIR_SPX", 0x11C, 1, 4, false, [⟨1, 1, .ro, 0, .keep, false⟩, ⟨0, 1, .ro, 0, .keep, false⟩]⟩,
   ⟨"PAIR_MSEQ_LO", 0x120, 1, 4, false, [⟨0, 32, .ro, 0, .keep, false⟩]⟩,
   ⟨"PAIR_MSEQ_HI", 0x124, 1, 4, false, [⟨0, 32, .ro, 0, .keep, false⟩]⟩,
   ⟨"PAIR_MLAG", 0x128, 1, 4, false, [⟨0, 32, .ro, 0, .keep, false⟩]⟩,
   ⟨"PAIR_DRILL_CFG", 0x130, 1, 4, false,
    [⟨16, 8, .rw, 7, .clamp 1 90, false⟩, ⟨0, 16, .rw, 60, .clamp 10 3600, false⟩]⟩,
   ⟨"PAIR_DRILL_CMD", 0x134, 1, 4, false,
    [⟨31, 1, .rw, 0, .keep, false⟩, ⟨24, 4, .ro, 0, .keep, false⟩, ⟨0, 2, .rw, 0, .keep, false⟩]⟩,
   ⟨"PAIR_DRILL_STAT", 0x138, 1, 4, false, [⟨30, 2, .ro, 0, .keep, false⟩, ⟨0, 16, .ro, 65535, .keep, false⟩]⟩,
   ⟨"PAIR_TKO_TICK_LO", 0x140, 1, 4, false, [⟨0, 32, .ro, 0, .keep, false⟩]⟩,
   ⟨"PAIR_TKO_TICK_HI", 0x144, 1, 4, false, [⟨0, 32, .ro, 0, .keep, false⟩]⟩,
   ⟨"PAIR_TKO_US", 0x148, 1, 4, false, [⟨0, 32, .ro, 0, .keep, false⟩]⟩,
   ⟨"PAIR_TKO_CNT", 0x150, 1, 4, true, [⟨0, 32, .rw, 0, .keep, false⟩]⟩,
   ⟨"PAIR_LINK_MISS_CNT", 0x154, 1, 4, true, [⟨0, 32, .rw, 0, .keep, false⟩]⟩,
   ⟨"PAIR_WIRE_MISS_CNT", 0x158, 1, 4, true, [⟨0, 32, .rw, 0, .keep, false⟩]⟩,
   ⟨"PAIR_MIRROR_ERR_CNT", 0x15C, 1, 4, true, [⟨0, 32, .rw, 0, .keep, false⟩]⟩,
   ⟨"PAIR_DEMOTE_CNT", 0x160, 1, 4, true, [⟨0, 32, .rw, 0, .keep, false⟩]⟩,
   ⟨"PAIR_DRILL_CNT", 0x164, 1, 4, true, [⟨0, 32, .rw, 0, .keep, false⟩]⟩,
   ⟨"PAIR_ALERT", 0x170, 1, 4, false,
    [⟨8, 1, .w1c, 0, .keep, false⟩, ⟨7, 1, .w1c, 0, .keep, false⟩, ⟨6, 1, .w1c, 0, .keep, false⟩,
     ⟨5, 1, .w1c, 0, .keep, false⟩, ⟨4, 1, .w1c, 0, .keep, false⟩, ⟨3, 1, .w1c, 0, .keep, false⟩,
     ⟨2, 1, .w1c, 0, .keep, false⟩, ⟨1, 1, .w1c, 0, .keep, false⟩, ⟨0, 1, .w1c, 0, .keep, false⟩]⟩]

/-- Registers of NET. -/
def netRegs : List RegDef :=
  [⟨"NET_CFG", 0x100, 1, 4, false,
    [⟨17, 1, .rw, 0, .keep, false⟩, ⟨16, 1, .rw, 0, .keep, false⟩, ⟨8, 8, .rw, 0, .keep, false⟩,
     ⟨4, 2, .rw, 0, .swap 3 0, false⟩, ⟨0, 2, .rw, 0, .keep, false⟩]⟩,
   ⟨"NET_MAX_FRAME", 0x104, 1, 4, false, [⟨0, 14, .rw, 9216, .clamp 1518 9216, false⟩]⟩,
   ⟨"NET_MAC_LO", 0x108, 1, 4, false, [⟨2, 30, .rw, 0, .keep, false⟩]⟩,
   ⟨"NET_MAC_HI", 0x10C, 1, 4, false, [⟨0, 16, .rw, 0, .keep, false⟩]⟩,
   ⟨"NET_LINK", 0x110, 1, 4, false,
    [⟨8, 4, .ro, 0, .keep, false⟩, ⟨4, 4, .ro, 0, .keep, false⟩, ⟨0, 4, .ro, 0, .keep, false⟩]⟩,
   ⟨"NET_TS_ADJ", 0x114, 1, 4, false, [⟨16, 16, .rw, 0, .keep, false⟩, ⟨0, 16, .rw, 0, .keep, false⟩]⟩,
   ⟨"NET_PAUSE", 0x118, 1, 4, false, [⟨16, 16, .rw, 32, .clamp 1 65535, false⟩, ⟨0, 16, .rw, 65535, .keep, false⟩]⟩,
   ⟨"NET_CNT_SEL", 0x11C, 1, 4, false, [⟨0, 2, .rw, 0, .keep, false⟩]⟩,
   ⟨"NET_RX_FRAMES", 0x130, 1, 4, false, [⟨0, 32, .rw, 0, .keep, false⟩]⟩,
   ⟨"NET_TX_FRAMES", 0x134, 1, 4, false, [⟨0, 32, .rw, 0, .keep, false⟩]⟩,
   ⟨"NET_RX_BAD", 0x138, 1, 4, false, [⟨0, 32, .rw, 0, .keep, false⟩]⟩,
   ⟨"NET_RX_OVERSIZE", 0x13C, 1, 4, false, [⟨0, 32, .rw, 0, .keep, false⟩]⟩,
   ⟨"NET_RX_FILTERED", 0x140, 1, 4, false, [⟨0, 32, .rw, 0, .keep, false⟩]⟩,
   ⟨"NET_FEC_CORR", 0x144, 1, 4, false, [⟨0, 32, .rw, 0, .keep, false⟩]⟩,
   ⟨"NET_FEC_UNCORR", 0x148, 1, 4, false, [⟨0, 32, .rw, 0, .keep, false⟩]⟩,
   ⟨"NET_PAUSE_RX", 0x14C, 1, 4, false, [⟨0, 32, .rw, 0, .keep, false⟩]⟩,
   ⟨"NET_PAUSE_TX", 0x150, 1, 4, false, [⟨0, 32, .rw, 0, .keep, false⟩]⟩,
   ⟨"NET_FC_IGNORED", 0x154, 1, 4, false, [⟨0, 32, .rw, 0, .keep, false⟩]⟩,
   ⟨"NET_ALERT", 0x160, 1, 4, false,
    [⟨2, 1, .w1c, 0, .keep, false⟩, ⟨1, 1, .w1c, 0, .keep, false⟩, ⟨0, 1, .w1c, 0, .keep, false⟩]⟩]

/-- Registers of XPT. -/
def xptRegs : List RegDef :=
  [⟨"XPT_CFG", 0x100, 1, 4, false,
    [⟨17, 1, .rw, 1, .keep, false⟩, ⟨16, 1, .rw, 1, .keep, false⟩, ⟨8, 8, .rw, 2, .clamp 1 255, false⟩,
     ⟨0, 8, .rw, 8, .clamp 1 64, false⟩]⟩,
   ⟨"XPT_RETX_CFG", 0x104, 1, 4, false, [⟨0, 5, .rw, 12, .clamp 8 20, false⟩]⟩,
   ⟨"XPT_CNP_CFG", 0x108, 1, 4, false, [⟨0, 16, .rw, 50, .clamp 1 1000, false⟩]⟩,
   ⟨"XPT_CC_CFG", 0x10C, 1, 4, false,
    [⟨16, 16, .rw, 100, .clamp 10 10000, false⟩, ⟨8, 8, .rw, 50, .clamp 1 255, false⟩,
     ⟨0, 8, .rw, 64, .clamp 1 255, false⟩]⟩,
   ⟨"XPT_CC_STEP", 0x110, 1, 4, false, [⟨16, 16, .rw, 250, .keep, false⟩, ⟨0, 16, .rw, 10, .clamp 1 4000, false⟩]⟩,
   ⟨"XPT_CC_LIMIT", 0x114, 1, 4, false, [⟨16, 16, .rw, 4000, .clamp 1 4000, false⟩, ⟨0, 16, .rw, 1, .keep, false⟩]⟩,
   ⟨"XPT_QMAP", 0x118, 16, 4, false,
    [⟨24, 6, .rw, 0, .keep, false⟩, ⟨16, 6, .rw, 0, .keep, false⟩, ⟨8, 6, .rw, 0, .keep, false⟩,
     ⟨0, 6, .rw, 0, .keep, false⟩]⟩,
   ⟨"XPT_CONN_CNT", 0x160, 1, 4, false, [⟨16, 9, .ro, 0, .keep, false⟩, ⟨0, 13, .ro, 0, .keep, false⟩]⟩,
   ⟨"XPT_MISS_BUF", 0x164, 1, 4, false, [⟨16, 11, .ro, 0, .keep, false⟩, ⟨0, 11, .ro, 0, .keep, false⟩]⟩,
   ⟨"XPT_CTX_MISS_CNT", 0x170, 1, 4, true, [⟨0, 32, .rw, 0, .keep, false⟩]⟩,
   ⟨"XPT_CTX_EVICT_CNT", 0x174, 1, 4, true, [⟨0, 32, .rw, 0, .keep, false⟩]⟩,
   ⟨"XPT_MISS_DROP_CNT", 0x178, 1, 4, true, [⟨0, 32, .rw, 0, .keep, false⟩]⟩,
   ⟨"XPT_KEY_NAK_CNT", 0x17C, 1, 4, true, [⟨0, 32, .rw, 0, .keep, false⟩]⟩,
   ⟨"XPT_SEQ_NAK_CNT", 0x180, 1, 4, true, [⟨0, 32, .rw, 0, .keep, false⟩]⟩,
   ⟨"XPT_RETX_CNT", 0x184, 1, 4, true, [⟨0, 32, .rw, 0, .keep, false⟩]⟩,
   ⟨"XPT_CNP_RX_CNT", 0x188, 1, 4, true, [⟨0, 32, .rw, 0, .keep, false⟩]⟩,
   ⟨"XPT_CNP_TX_CNT", 0x18C, 1, 4, true, [⟨0, 32, .rw, 0, .keep, false⟩]⟩,
   ⟨"XPT_UNSUP_CNT", 0x190, 1, 4, true, [⟨0, 32, .rw, 0, .keep, false⟩]⟩,
   ⟨"XPT_ERR_DROP_CNT", 0x194, 1, 4, true, [⟨0, 32, .rw, 0, .keep, false⟩]⟩,
   ⟨"XPT_RT_CMD", 0x1A0, 1, 4, false, [⟨31, 1, .rw, 0, .keep, false⟩, ⟨0, 2, .rw, 0, .keep, false⟩]⟩,
   ⟨"XPT_RT_KEY", 0x1A4, 1, 4, false, [⟨8, 24, .rw, 0, .keep, false⟩, ⟨0, 8, .ro, 0, .keep, false⟩]⟩,
   ⟨"XPT_RT_BASE_LO", 0x1A8, 1, 4, false, [⟨0, 32, .rw, 0, .keep, false⟩]⟩,
   ⟨"XPT_RT_BASE_HI", 0x1AC, 1, 4, false, [⟨0, 16, .rw, 0, .keep, false⟩]⟩,
   ⟨"XPT_RT_LEN", 0x1B0, 1, 4, false, [⟨0, 21, .rw, 0, .keep, false⟩]⟩] ++
  [⟨"XPT_RT_ATTR", 0x1B4, 1, 4, false,
    [⟨19, 1, .rw, 0, .keep, false⟩, ⟨18, 1, .rw, 0, .keep, false⟩, ⟨17, 1, .rw, 0, .keep, false⟩,
     ⟨16, 1, .rw, 0, .keep, false⟩, ⟨0, 12, .rw, 0, .keep, false⟩]⟩,
   ⟨"XPT_RT_STAT", 0x1B8, 1, 4, false,
    [⟨31, 1, .ro, 0, .keep, false⟩, ⟨28, 3, .ro, 0, .keep, false⟩, ⟨24, 4, .ro, 0, .keep, false⟩,
     ⟨0, 16, .ro, 0, .keep, false⟩]⟩,
   ⟨"XPT_ALERT", 0x1BC, 1, 4, false,
    [⟨4, 1, .w1c, 0, .keep, false⟩, ⟨3, 1, .w1c, 0, .keep, false⟩, ⟨2, 1, .w1c, 0, .keep, false⟩,
     ⟨1, 1, .w1c, 0, .keep, false⟩, ⟨0, 1, .w1c, 0, .keep, false⟩]⟩]

/-- Registers of SWC. -/
def swcRegs : List RegDef :=
  [⟨"SWC_DSCP_CLASS", 0x100, 8, 4, false,
    [⟨28, 3, .rw, 0, .keep, false⟩, ⟨24, 3, .rw, 0, .keep, false⟩, ⟨20, 3, .rw, 0, .keep, false⟩,
     ⟨16, 3, .rw, 0, .keep, false⟩, ⟨12, 3, .rw, 0, .keep, false⟩, ⟨8, 3, .rw, 0, .keep, false⟩,
     ⟨4, 3, .rw, 0, .keep, false⟩, ⟨0, 3, .rw, 0, .keep, false⟩]⟩,
   ⟨"SWC_PCP_CLASS", 0x120, 1, 4, false,
    [⟨0, 3, .rw, 0, .keep, false⟩, ⟨4, 3, .rw, 1, .keep, false⟩, ⟨8, 3, .rw, 2, .keep, false⟩,
     ⟨12, 3, .rw, 3, .keep, false⟩, ⟨16, 3, .rw, 4, .keep, false⟩, ⟨20, 3, .rw, 5, .keep, false⟩,
     ⟨24, 3, .rw, 6, .keep, false⟩, ⟨28, 3, .rw, 7, .keep, false⟩]⟩,
   ⟨"SWC_PUSHOUT", 0x124, 1, 4, false, [⟨31, 1, .rw, 0, .keep, false⟩, ⟨0, 17, .rw, 114688, .keep, false⟩]⟩,
   ⟨"SWC_BUF", 0x128, 1, 4, false, [⟨0, 18, .ro, 0, .keep, false⟩]⟩,
   ⟨"SWC_HEADROOM", 0x12C, 1, 4, false, [⟨0, 12, .rw, 64, .keep, false⟩]⟩,
   ⟨"SWC_PFC_THR", 0x140, 8, 4, false, [⟨16, 16, .rw, 256, .keep, false⟩, ⟨0, 16, .rw, 512, .keep, false⟩]⟩,
   ⟨"SWC_WRED_IDX", 0x180, 1, 4, false, [⟨4, 2, .rw, 0, .clamp 0 2, false⟩, ⟨0, 4, .rw, 0, .keep, false⟩]⟩,
   ⟨"SWC_WRED_MIN", 0x184, 1, 4, false, [⟨0, 17, .rw, 0, .keep, false⟩]⟩,
   ⟨"SWC_WRED_MAX", 0x188, 1, 4, false, [⟨0, 17, .rw, 0, .keep, false⟩]⟩,
   ⟨"SWC_WRED_PRM", 0x18C, 1, 4, false,
    [⟨31, 1, .rw, 0, .keep, false⟩, ⟨8, 4, .rw, 0, .keep, false⟩, ⟨0, 8, .rw, 0, .keep, false⟩]⟩,
   ⟨"SWC_WRED_CMD", 0x190, 1, 4, false, [⟨31, 1, .rw, 0, .keep, false⟩, ⟨0, 2, .rw, 0, .keep, false⟩]⟩,
   ⟨"SWC_QPROF_IDX", 0x1A0, 1, 4, false, [⟨0, 8, .rw, 0, .keep, false⟩]⟩,
   ⟨"SWC_QPROF", 0x1A4, 1, 4, false, [⟨16, 16, .rw, 16384, .keep, false⟩, ⟨0, 4, .rw, 0, .keep, false⟩]⟩,
   ⟨"SWC_QPN_DROP_CNT", 0x1C0, 1, 4, true, [⟨0, 32, .rw, 0, .keep, false⟩]⟩,
   ⟨"SWC_OTHER_DROP_CNT", 0x1C4, 1, 4, true, [⟨0, 32, .rw, 0, .keep, false⟩]⟩,
   ⟨"SWC_DEST_DROP_CNT", 0x1C8, 1, 4, true, [⟨0, 32, .rw, 0, .keep, false⟩]⟩,
   ⟨"SWC_WRED_DROP_CNT", 0x1CC, 1, 4, true, [⟨0, 32, .rw, 0, .keep, false⟩]⟩,
   ⟨"SWC_ECN_MARK_CNT", 0x1D0, 1, 4, true, [⟨0, 32, .rw, 0, .keep, false⟩]⟩,
   ⟨"SWC_PUSHOUT_CNT", 0x1D4, 1, 4, true, [⟨0, 32, .rw, 0, .keep, false⟩]⟩,
   ⟨"SWC_BUF_DROP_CNT", 0x1D8, 1, 4, true, [⟨0, 32, .rw, 0, .keep, false⟩]⟩,
   ⟨"SWC_ALERT", 0x1E0, 1, 4, false,
    [⟨2, 1, .w1c, 0, .keep, false⟩, ⟨1, 1, .w1c, 0, .keep, false⟩, ⟨0, 1, .w1c, 0, .keep, false⟩]⟩]

/-- Registers of POL. -/
def polRegs : List RegDef :=
  [⟨"POL_IDX", 0x100, 1, 4, false, [⟨0, 13, .rw, 0, .keep, false⟩]⟩,
   ⟨"POL_CMD", 0x104, 1, 4, false, [⟨31, 1, .rw, 0, .keep, false⟩, ⟨0, 2, .rw, 0, .keep, false⟩]⟩,
   ⟨"POL_MODE", 0x108, 1, 4, false,
    [⟨4, 1, .rw, 0, .keep, false⟩, ⟨3, 1, .rw, 0, .keep, false⟩, ⟨2, 1, .rw, 0, .keep, false⟩,
     ⟨1, 1, .rw, 0, .keep, false⟩, ⟨0, 1, .rw, 0, .keep, false⟩]⟩,
   ⟨"POL_CIR", 0x10C, 1, 4, false, [⟨0, 19, .rw, 0, .clamp 0 400000, false⟩]⟩,
   ⟨"POL_CBS", 0x110, 1, 4, false, [⟨0, 24, .rw, 0, .keep, false⟩]⟩,
   ⟨"POL_PIR", 0x114, 1, 4, false, [⟨0, 19, .rw, 0, .keep, false⟩]⟩,
   ⟨"POL_PBS", 0x118, 1, 4, false, [⟨0, 24, .rw, 0, .keep, false⟩]⟩,
   ⟨"POL_GREEN", 0x11C, 1, 4, false, [⟨0, 32, .ro, 0, .keep, false⟩]⟩,
   ⟨"POL_YELLOW", 0x120, 1, 4, false, [⟨0, 32, .ro, 0, .keep, false⟩]⟩,
   ⟨"POL_RED", 0x124, 1, 4, false, [⟨0, 32, .ro, 0, .keep, false⟩]⟩,
   ⟨"POL_DSCP_COLOUR", 0x140, 4, 4, false,
    [⟨30, 2, .rw, 0, .keep, false⟩, ⟨28, 2, .rw, 0, .keep, false⟩, ⟨26, 2, .rw, 0, .keep, false⟩,
     ⟨24, 2, .rw, 0, .keep, false⟩, ⟨22, 2, .rw, 0, .keep, false⟩, ⟨20, 2, .rw, 0, .keep, false⟩,
     ⟨18, 2, .rw, 0, .keep, false⟩, ⟨16, 2, .rw, 0, .keep, false⟩, ⟨14, 2, .rw, 0, .keep, false⟩,
     ⟨12, 2, .rw, 0, .keep, false⟩, ⟨10, 2, .rw, 0, .keep, false⟩, ⟨8, 2, .rw, 0, .keep, false⟩,
     ⟨6, 2, .rw, 0, .keep, false⟩, ⟨4, 2, .rw, 0, .keep, false⟩, ⟨2, 2, .rw, 0, .keep, false⟩,
     ⟨0, 2, .rw, 0, .keep, false⟩]⟩,
   ⟨"POL_DROP_CNT", 0x150, 1, 4, true, [⟨0, 32, .rw, 0, .keep, false⟩]⟩]

/-- Registers of EGS. -/
def egsRegs : List RegDef :=
  [⟨"EGS_CFG", 0x100, 1, 4, false, [⟨1, 1, .rw, 0, .keep, false⟩, ⟨0, 1, .rw, 0, .keep, false⟩]⟩,
   ⟨"EGS_QIDX", 0x104, 1, 4, false, [⟨0, 6, .rw, 0, .keep, false⟩]⟩,
   ⟨"EGS_QCFG", 0x108, 1, 4, false, [⟨16, 3, .rw, 0, .keep, false⟩, ⟨0, 16, .rw, 1, .clamp 1 65535, false⟩]⟩,
   ⟨"EGS_QSHP_RATE", 0x10C, 1, 4, false, [⟨31, 1, .rw, 0, .keep, false⟩, ⟨0, 19, .rw, 0, .clamp 0 400000, false⟩]⟩,
   ⟨"EGS_QSHP_BURST", 0x110, 1, 4, false, [⟨0, 24, .rw, 16384, .clamp 9236 16777215, false⟩]⟩,
   ⟨"EGS_QDEPTH", 0x114, 1, 4, false, [⟨31, 1, .ro, 0, .keep, false⟩, ⟨0, 18, .ro, 0, .keep, false⟩]⟩,
   ⟨"EGS_QSOJ", 0x118, 1, 4, false, [⟨0, 32, .ro, 0, .keep, false⟩]⟩,
   ⟨"EGS_PSHP_RATE", 0x120, 4, 8, false, [⟨31, 1, .rw, 0, .keep, false⟩, ⟨0, 19, .rw, 0, .clamp 0 400000, false⟩]⟩,
   ⟨"EGS_PSHP_BURST", 0x124, 4, 8, false, [⟨0, 24, .rw, 16384, .clamp 9236 16777215, false⟩]⟩,
   ⟨"EGS_GCL_CTRL", 0x140, 1, 4, false, [⟨0, 1, .rw, 0, .keep, false⟩]⟩,
   ⟨"EGS_GCL_STAT", 0x144, 1, 4, false,
    [⟨31, 1, .ro, 0, .keep, false⟩, ⟨30, 1, .ro, 0, .keep, false⟩, ⟨0, 8, .ro, 0, .keep, false⟩]⟩,
   ⟨"EGS_GCL_IDX", 0x148, 1, 4, false, [⟨8, 1, .rw, 0, .keep, false⟩, ⟨0, 8, .rw, 0, .keep, false⟩]⟩,
   ⟨"EGS_GCL_MASK_LO", 0x14C, 1, 4, false, [⟨0, 32, .rw, 0, .keep, false⟩]⟩,
   ⟨"EGS_GCL_MASK_HI", 0x150, 1, 4, false, [⟨0, 32, .rw, 0, .keep, false⟩]⟩,
   ⟨"EGS_GCL_DUR", 0x154, 1, 4, false, [⟨0, 30, .rw, 0, .clamp 1 1000000000, false⟩]⟩,
   ⟨"EGS_GCL_CMD", 0x158, 1, 4, false, [⟨31, 1, .rw, 0, .keep, false⟩, ⟨0, 2, .rw, 0, .keep, false⟩]⟩,
   ⟨"EGS_GCL_PBASE_S_LO", 0x160, 1, 4, false, [⟨0, 32, .rw, 0, .keep, false⟩]⟩,
   ⟨"EGS_GCL_PBASE_S_HI", 0x164, 1, 4, false, [⟨0, 16, .rw, 0, .keep, false⟩]⟩,
   ⟨"EGS_GCL_PBASE_NS", 0x168, 1, 4, false, [⟨0, 30, .rw, 0, .clamp 0 999999999, false⟩]⟩,
   ⟨"EGS_GCL_PCYCLE", 0x16C, 1, 4, false, [⟨0, 30, .rw, 1000000, .clamp 1000 1000000000, false⟩]⟩,
   ⟨"EGS_GCL_PLEN", 0x170, 1, 4, false, [⟨0, 9, .rw, 1, .clamp 1 256, false⟩]⟩,
   ⟨"EGS_GCL_ABASE_S_LO", 0x180, 1, 4, false, [⟨0, 32, .ro, 0, .keep, false⟩]⟩,
   ⟨"EGS_GCL_ABASE_S_HI", 0x184, 1, 4, false, [⟨0, 16, .ro, 0, .keep, false⟩]⟩,
   ⟨"EGS_GCL_ABASE_NS", 0x188, 1, 4, false, [⟨0, 30, .ro, 0, .keep, false⟩]⟩] ++
  [⟨"EGS_GCL_ACYCLE", 0x18C, 1, 4, false, [⟨0, 30, .ro, 0, .keep, false⟩]⟩,
   ⟨"EGS_GCL_ALEN", 0x190, 1, 4, false, [⟨0, 9, .ro, 0, .keep, false⟩]⟩,
   ⟨"EGS_HIST_CFG", 0x1A0, 1, 4, false,
    [⟨31, 1, .rw, 0, .keep, false⟩, ⟨24, 5, .rw, 6, .clamp 0 20, false⟩, ⟨16, 4, .rw, 0, .clamp 0 12, false⟩,
     ⟨0, 10, .rw, 100, .clamp 1 1000, false⟩]⟩,
   ⟨"EGS_HIST_SEL", 0x1A4, 1, 4, false, [⟨8, 1, .rw, 0, .keep, false⟩, ⟨0, 6, .rw, 0, .keep, false⟩]⟩,
   ⟨"EGS_HIST_CMD", 0x1A8, 1, 4, false, [⟨31, 1, .rw, 0, .keep, false⟩, ⟨0, 2, .rw, 0, .keep, false⟩]⟩,
   ⟨"EGS_HIST_BIN", 0x1C0, 16, 4, false, [⟨0, 32, .ro, 0, .keep, false⟩]⟩,
   ⟨"EGS_GUARD_HOLD_CNT", 0x200, 1, 4, true, [⟨0, 32, .rw, 0, .keep, false⟩]⟩,
   ⟨"EGS_GUARD_DROP_CNT", 0x204, 1, 4, true, [⟨0, 32, .rw, 0, .keep, false⟩]⟩,
   ⟨"EGS_OVERRUN_CNT", 0x208, 1, 4, true, [⟨0, 32, .rw, 0, .keep, false⟩]⟩,
   ⟨"EGS_SWAP_CNT", 0x20C, 1, 4, true, [⟨0, 32, .rw, 0, .keep, false⟩]⟩,
   ⟨"EGS_ALERT", 0x220, 1, 4, false,
    [⟨3, 1, .w1c, 0, .keep, false⟩, ⟨2, 1, .w1c, 0, .keep, false⟩, ⟨1, 1, .w1c, 0, .keep, false⟩,
     ⟨0, 1, .w1c, 0, .keep, false⟩]⟩]

/-- Registers of CMD. -/
def cmdRegs : List RegDef :=
  [⟨"CMD_DATA_TMO", 0x100, 1, 4, false, [⟨0, 16, .rw, 2000, .clamp 10 60000, false⟩]⟩,
   ⟨"CMD_CREDIT_DEFAULT", 0x104, 1, 4, false, [⟨0, 11, .rw, 64, .clamp 1 1024, false⟩]⟩,
   ⟨"CMD_CREDIT_POOL", 0x108, 1, 4, false, [⟨0, 17, .ro, 0, .keep, false⟩]⟩,
   ⟨"CMD_INFLIGHT", 0x10C, 1, 4, false, [⟨0, 17, .ro, 0, .keep, false⟩]⟩,
   ⟨"CMD_HOLD", 0x110, 1, 4, false, [⟨31, 1, .ro, 0, .keep, false⟩, ⟨0, 17, .ro, 0, .keep, false⟩]⟩,
   ⟨"CMD_CPL_WAIT", 0x114, 1, 4, false, [⟨0, 21, .ro, 0, .keep, false⟩]⟩,
   ⟨"CMD_REJECT_CNT", 0x118, 1, 4, true, [⟨0, 32, .rw, 0, .keep, false⟩]⟩,
   ⟨"CMD_TMO_CNT", 0x11C, 1, 4, true, [⟨0, 32, .rw, 0, .keep, false⟩]⟩,
   ⟨"CMD_OVERRUN_CNT", 0x120, 1, 4, true, [⟨0, 32, .rw, 0, .keep, false⟩]⟩,
   ⟨"CMD_CQH_ERR_CNT", 0x124, 1, 4, true, [⟨0, 32, .rw, 0, .keep, false⟩]⟩,
   ⟨"CMD_ALERT", 0x128, 1, 4, false,
    [⟨3, 1, .w1c, 0, .keep, false⟩, ⟨2, 1, .w1c, 0, .keep, false⟩, ⟨1, 1, .w1c, 0, .keep, false⟩,
     ⟨0, 1, .w1c, 0, .keep, false⟩]⟩]

/-- Registers of ZSQ. -/
def zsqRegs : List RegDef :=
  [⟨"ZSQ_OPEN_LIMIT", 0x100, 1, 4, false, [⟨0, 13, .rw, 4096, .elseMax 1 4096, false⟩]⟩,
   ⟨"ZSQ_OPEN_CNT", 0x104, 1, 4, false, [⟨0, 13, .ro, 0, .keep, false⟩]⟩,
   ⟨"ZSQ_ZONE_CNT", 0x108, 1, 4, false, [⟨0, 23, .ro, 0, .keep, false⟩]⟩,
   ⟨"ZSQ_ZONE_ALERT", 0x10C, 1, 4, false,
    [⟨3, 1, .w1c, 0, .keep, false⟩, ⟨2, 1, .w1c, 0, .keep, false⟩, ⟨1, 1, .w1c, 0, .keep, false⟩,
     ⟨0, 1, .w1c, 0, .keep, false⟩]⟩,
   ⟨"ZSQ_GRP_SEL", 0x110, 1, 4, false, [⟨0, 4, .rw, 0, .clamp 0 11, false⟩]⟩,
   ⟨"ZSQ_GRP_CFG", 0x114, 1, 4, false,
    [⟨31, 1, .ro, 0, .keep, false⟩, ⟨24, 5, .rw, 0, .keep, false⟩, ⟨20, 2, .rw, 0, .keep, false⟩,
     ⟨16, 2, .rw, 0, .keep, false⟩, ⟨14, 2, .rw, 0, .keep, false⟩, ⟨12, 1, .rw, 0, .keep, false⟩,
     ⟨5, 5, .rw, 0, .keep, false⟩, ⟨0, 5, .rw, 0, .keep, false⟩]⟩,
   ⟨"ZSQ_GRP_SLOT", 0x118, 6, 4, false,
    [⟨24, 6, .rw, 0, .keep, false⟩, ⟨16, 6, .rw, 0, .keep, false⟩, ⟨8, 6, .rw, 0, .keep, false⟩,
     ⟨0, 6, .rw, 0, .keep, false⟩]⟩,
   ⟨"ZSQ_GRP_CMD", 0x130, 1, 4, false, [⟨31, 1, .rw, 0, .keep, false⟩, ⟨0, 3, .rw, 0, .keep, false⟩]⟩,
   ⟨"ZSQ_GRP_STAT", 0x134, 1, 4, false, [⟨31, 1, .ro, 0, .keep, false⟩, ⟨24, 4, .ro, 0, .keep, false⟩]⟩,
   ⟨"ZSQ_GRP_STRIPES", 0x138, 1, 4, false, [⟨0, 32, .ro, 0, .keep, false⟩]⟩,
   ⟨"ZSQ_SPARE_LO", 0x140, 1, 4, false, [⟨0, 32, .rw, 0, .keep, false⟩]⟩,
   ⟨"ZSQ_SPARE_HI", 0x144, 1, 4, false, [⟨0, 16, .rw, 0, .keep, false⟩]⟩,
   ⟨"ZSQ_LOG_CFG", 0x150, 1, 4, false, [⟨24, 8, .rw, 50, .clamp 10 90, false⟩, ⟨0, 16, .rw, 20, .clamp 1 1000, false⟩]⟩,
   ⟨"ZSQ_JRNL_CFG", 0x154, 1, 4, false, [⟨0, 7, .rw, 10, .clamp 1 100, false⟩]⟩,
   ⟨"ZSQ_SIF", 0x158, 1, 4, false, [⟨0, 16, .ro, 0, .keep, false⟩]⟩,
   ⟨"ZSQ_GRP_ALERT", 0x15C, 1, 4, false,
    [⟨2, 1, .w1c, 0, .keep, false⟩, ⟨1, 1, .w1c, 0, .keep, false⟩, ⟨0, 1, .w1c, 0, .keep, false⟩]⟩,
   ⟨"ZSQ_LOG_SECT_CNT", 0x170, 1, 4, true, [⟨0, 32, .rw, 0, .keep, false⟩]⟩,
   ⟨"ZSQ_FOLD_CNT", 0x174, 1, 4, true, [⟨0, 32, .rw, 0, .keep, false⟩]⟩,
   ⟨"ZSQ_ABANDON_CNT", 0x178, 1, 4, true, [⟨0, 32, .rw, 0, .keep, false⟩]⟩,
   ⟨"ZSQ_RECLAIM_CNT", 0x17C, 1, 4, true, [⟨0, 32, .rw, 0, .keep, false⟩]⟩,
   ⟨"ZSQ_MBR_SEL", 0x180, 1, 4, false, [⟨8, 5, .rw, 0, .keep, false⟩, ⟨0, 4, .rw, 0, .clamp 0 11, false⟩]⟩,
   ⟨"ZSQ_MBR_STAT", 0x184, 1, 4, false,
    [⟨28, 4, .ro, 0, .keep, false⟩, ⟨16, 6, .ro, 0, .keep, false⟩, ⟨1, 1, .ro, 0, .keep, false⟩,
     ⟨0, 1, .ro, 0, .keep, false⟩]⟩,
   ⟨"ZSQ_MBR_CURSOR", 0x188, 1, 4, false, [⟨0, 32, .ro, 0, .keep, false⟩]⟩,
   ⟨"ZSQ_MBR_START", 0x18C, 1, 4, false, [⟨0, 32, .ro, 0, .keep, false⟩]⟩] ++
  [⟨"ZSQ_MBR_END", 0x190, 1, 4, false, [⟨0, 32, .ro, 0, .keep, false⟩]⟩,
   ⟨"ZSQ_MBR_CMD", 0x194, 1, 4, false,
    [⟨31, 1, .rw, 0, .keep, false⟩, ⟨24, 4, .ro, 0, .keep, false⟩, ⟨8, 1, .rw, 0, .keep, false⟩,
     ⟨0, 2, .rw, 0, .keep, false⟩]⟩,
   ⟨"ZSQ_RBD_CFG", 0x198, 1, 4, false,
    [⟨31, 1, .rw, 1, .keep, false⟩, ⟨30, 1, .rw, 1, .keep, false⟩, ⟨16, 8, .rw, 10, .clamp 1 255, false⟩,
     ⟨0, 16, .rw, 2000, .keep, false⟩]⟩,
   ⟨"ZSQ_RSH_CFG", 0x1A0, 1, 4, false,
    [⟨24, 5, .rw, 0, .keep, false⟩, ⟨20, 2, .rw, 0, .keep, false⟩, ⟨0, 4, .rw, 0, .keep, false⟩]⟩,
   ⟨"ZSQ_RSH_CMD", 0x1A4, 1, 4, false, [⟨31, 1, .rw, 0, .keep, false⟩, ⟨0, 2, .rw, 0, .keep, false⟩]⟩,
   ⟨"ZSQ_RSH_STAT", 0x1A8, 1, 4, false,
    [⟨30, 2, .ro, 0, .keep, false⟩, ⟨24, 4, .ro, 0, .keep, false⟩, ⟨0, 4, .ro, 0, .keep, false⟩]⟩,
   ⟨"ZSQ_RSH_ZONE", 0x1AC, 1, 4, false, [⟨0, 30, .ro, 0, .keep, false⟩]⟩,
   ⟨"ZSQ_RSH_BOUND", 0x1B0, 1, 4, false, [⟨0, 32, .ro, 0, .keep, false⟩]⟩,
   ⟨"ZSQ_RSH_LEFT", 0x1B4, 1, 4, false, [⟨0, 32, .ro, 0, .keep, false⟩]⟩,
   ⟨"ZSQ_LOSS", 0x1B8, 1, 4, false, [⟨0, 21, .ro, 0, .keep, false⟩]⟩,
   ⟨"ZSQ_RBD_ALERT", 0x1BC, 1, 4, false,
    [⟨8, 1, .w1c, 0, .keep, false⟩, ⟨7, 1, .w1c, 0, .keep, false⟩, ⟨6, 1, .w1c, 0, .keep, false⟩,
     ⟨5, 1, .w1c, 0, .keep, false⟩, ⟨4, 1, .w1c, 0, .keep, false⟩, ⟨3, 1, .w1c, 0, .keep, false⟩,
     ⟨2, 1, .w1c, 0, .keep, false⟩, ⟨1, 1, .w1c, 0, .keep, false⟩, ⟨0, 1, .w1c, 0, .keep, false⟩]⟩,
   ⟨"ZSQ_RBD_STRIPE_CNT", 0x1C0, 1, 4, true, [⟨0, 32, .rw, 0, .keep, false⟩]⟩,
   ⟨"ZSQ_DEGR_READ_CNT", 0x1C4, 1, 4, true, [⟨0, 32, .rw, 0, .keep, false⟩]⟩,
   ⟨"ZSQ_LOSS_SECT_CNT", 0x1C8, 1, 4, true, [⟨0, 32, .rw, 0, .keep, false⟩]⟩,
   ⟨"ZSQ_RSH_STRIPE_CNT", 0x1CC, 1, 4, true, [⟨0, 32, .rw, 0, .keep, false⟩]⟩,
   ⟨"ZSQ_SEASON_CFG", 0x1E0, 1, 4, false,
    [⟨16, 16, .rw, 1500, .keep, false⟩, ⟨12, 4, .rw, 12, .clamp 1 12, false⟩,
     ⟨0, 12, .rw, 300, .clamp 1 4095, false⟩]⟩,
   ⟨"ZSQ_SEASON_RSV", 0x1E4, 1, 4, false,
    [⟨16, 8, .rw, 30, .clamp 1 255, false⟩, ⟨0, 8, .rw, 25, .clamp 1 255, false⟩]⟩,
   ⟨"ZSQ_SEASON_TMG", 0x1E8, 1, 4, false,
    [⟨16, 16, .rw, 600, .clamp 320 2000, false⟩, ⟨8, 8, .rw, 50, .keep, false⟩,
     ⟨0, 8, .rw, 2, .clamp 0 50, false⟩]⟩,
   ⟨"ZSQ_SEASON", 0x1EC, 1, 4, false,
    [⟨0, 2, .ro, 0, .keep, false⟩, ⟨2, 2, .ro, 0, .keep, false⟩, ⟨4, 2, .ro, 0, .keep, false⟩,
     ⟨6, 2, .ro, 0, .keep, false⟩, ⟨8, 2, .ro, 0, .keep, false⟩, ⟨10, 2, .ro, 0, .keep, false⟩,
     ⟨12, 2, .ro, 0, .keep, false⟩, ⟨14, 2, .ro, 0, .keep, false⟩, ⟨16, 2, .ro, 0, .keep, false⟩,
     ⟨18, 2, .ro, 0, .keep, false⟩, ⟨20, 2, .ro, 0, .keep, false⟩, ⟨22, 2, .ro, 0, .keep, false⟩,
     ⟨24, 4, .ro, 0, .keep, false⟩]⟩,
   ⟨"ZSQ_SEASON_PWR", 0x1F0, 1, 4, false, [⟨16, 12, .ro, 0, .keep, false⟩, ⟨0, 16, .ro, 0, .keep, false⟩]⟩,
   ⟨"ZSQ_SEASON_CMD", 0x1F4, 1, 4, false,
    [⟨31, 1, .rw, 0, .keep, false⟩, ⟨24, 4, .ro, 0, .keep, false⟩, ⟨4, 4, .rw, 0, .clamp 0 11, false⟩,
     ⟨0, 2, .rw, 0, .keep, false⟩]⟩,
   ⟨"ZSQ_SEASON_ALERT", 0x1F8, 1, 4, false,
    [⟨2, 1, .w1c, 0, .keep, false⟩, ⟨1, 1, .w1c, 0, .keep, false⟩, ⟨0, 1, .w1c, 0, .keep, false⟩]⟩,
   ⟨"ZSQ_SPRING_CNT", 0x1D0, 1, 4, true, [⟨0, 32, .rw, 0, .keep, false⟩]⟩,
   ⟨"ZSQ_AUTUMN_CNT", 0x1D4, 1, 4, true, [⟨0, 32, .rw, 0, .keep, false⟩]⟩] ++
  [⟨"ZSQ_WAKE_WAIT_CNT", 0x1D8, 1, 4, true, [⟨0, 32, .rw, 0, .keep, false⟩]⟩]

/-- Registers of STG. -/
def stgRegs : List RegDef := []

/-- Registers of PQE. -/
def pqeRegs : List RegDef :=
  [⟨"PQE_ID", 0x100, 1, 4, false, [⟨16, 8, .ro, 2, .keep, false⟩, ⟨0, 16, .ro, 285, .keep, false⟩]⟩,
   ⟨"PQE_STAT", 0x104, 1, 4, false, [⟨31, 1, .ro, 0, .keep, false⟩, ⟨0, 8, .ro, 0, .keep, false⟩]⟩,
   ⟨"PQE_GEN_CNT", 0x120, 1, 4, true, [⟨0, 32, .rw, 0, .keep, false⟩]⟩,
   ⟨"PQE_RECON_CNT", 0x124, 1, 4, true, [⟨0, 32, .rw, 0, .keep, false⟩]⟩,
   ⟨"PQE_UNREC_CNT", 0x128, 1, 4, true, [⟨0, 32, .rw, 0, .keep, false⟩]⟩,
   ⟨"PQE_VERIFY_CNT", 0x12C, 1, 4, true, [⟨0, 32, .rw, 0, .keep, false⟩]⟩,
   ⟨"PQE_MISMATCH_CNT", 0x130, 1, 4, true, [⟨0, 32, .rw, 0, .keep, false⟩]⟩,
   ⟨"PQE_MIB_CNT", 0x134, 1, 4, true, [⟨0, 32, .rw, 0, .keep, false⟩]⟩,
   ⟨"PQE_ALERT", 0x140, 1, 4, false, [⟨1, 1, .w1c, 0, .keep, false⟩, ⟨0, 1, .w1c, 0, .keep, false⟩]⟩]

/-- Registers of ECC. -/
def eccRegs : List RegDef :=
  [⟨"ECC_CFG", 0x100, 1, 4, false, [⟨8, 6, .rw, 40, .clamp 1 63, false⟩, ⟨0, 6, .rw, 20, .clamp 1 63, false⟩]⟩,
   ⟨"ECC_AFFINITY", 0x104, 1, 4, false, [⟨8, 1, .rw, 1, .keep, false⟩, ⟨0, 3, .rw, 0, .clamp 0 5, false⟩]⟩,
   ⟨"ECC_CW_CNT", 0x120, 1, 4, true, [⟨0, 32, .rw, 0, .keep, false⟩]⟩,
   ⟨"ECC_BITS_CNT", 0x124, 1, 4, true, [⟨0, 32, .rw, 0, .keep, false⟩]⟩,
   ⟨"ECC_HARD_FAIL_CNT", 0x128, 1, 4, true, [⟨0, 32, .rw, 0, .keep, false⟩]⟩,
   ⟨"ECC_SOFT_OK_CNT", 0x12C, 1, 4, true, [⟨0, 32, .rw, 0, .keep, false⟩]⟩,
   ⟨"ECC_SOFT_FAIL_CNT", 0x130, 1, 4, true, [⟨0, 32, .rw, 0, .keep, false⟩]⟩,
   ⟨"ECC_MISCORR_CNT", 0x134, 1, 4, true, [⟨0, 32, .rw, 0, .keep, false⟩]⟩,
   ⟨"ECC_ALERT", 0x140, 1, 4, false, [⟨1, 1, .w1c, 0, .keep, false⟩, ⟨0, 1, .w1c, 0, .keep, false⟩]⟩]

/-- Registers of MLX. -/
def mlxRegs : List RegDef :=
  [⟨"MLX_LADDER", 0x100, 1, 4, false, [⟨8, 1, .rw, 1, .keep, false⟩, ⟨0, 4, .rw, 8, .clamp 0 8, false⟩]⟩,
   ⟨"MLX_STEP_CNT", 0x120, 10, 4, true, [⟨0, 32, .rw, 0, .keep, false⟩]⟩,
   ⟨"MLX_ENC_CNT", 0x148, 1, 4, true, [⟨0, 32, .rw, 0, .keep, false⟩]⟩,
   ⟨"MLX_PATROL_CFG", 0x300, 1, 4, false, [⟨16, 8, .rw, 8, .keep, false⟩, ⟨0, 8, .rw, 60, .clamp 7 180, false⟩]⟩,
   ⟨"MLX_REFRESH_CFG", 0x304, 1, 4, false,
    [⟨16, 16, .rw, 3000, .clamp 1 65535, false⟩, ⟨8, 8, .rw, 32, .clamp 1 255, false⟩,
     ⟨0, 8, .rw, 50, .clamp 1 255, false⟩]⟩,
   ⟨"MLX_META_CFG", 0x308, 1, 4, false,
    [⟨16, 11, .rw, 30, .clamp 1 1440, false⟩, ⟨0, 8, .rw, 64, .clamp 1 128, false⟩]⟩,
   ⟨"MLX_SPARE_CFG", 0x30C, 1, 4, false, [⟨0, 4, .rw, 3, .clamp 1 10, false⟩]⟩,
   ⟨"MLX_MED_ALERT", 0x310, 1, 4, false,
    [⟨2, 1, .w1c, 0, .keep, false⟩, ⟨1, 1, .w1c, 0, .keep, false⟩, ⟨0, 1, .w1c, 0, .keep, false⟩]⟩,
   ⟨"MLX_PGL_CTRL", 0x180, 1, 4, false, [⟨0, 1, .rw, 0, .keep, false⟩]⟩,
   ⟨"MLX_PGL_STAT", 0x184, 1, 4, false,
    [⟨31, 1, .ro, 0, .keep, false⟩, ⟨30, 1, .ro, 0, .keep, false⟩, ⟨0, 8, .ro, 0, .keep, false⟩]⟩,
   ⟨"MLX_PGL_IDX", 0x188, 1, 4, false, [⟨8, 1, .rw, 0, .keep, false⟩, ⟨0, 8, .rw, 0, .keep, false⟩]⟩,
   ⟨"MLX_PGL_MASK_LO", 0x18C, 1, 4, false, [⟨0, 8, .rw, 0, .keep, false⟩]⟩,
   ⟨"MLX_PGL_MASK_HI", 0x190, 1, 4, false, []⟩,
   ⟨"MLX_PGL_DUR", 0x194, 1, 4, false, [⟨0, 30, .rw, 0, .clamp 1 1000000000, false⟩]⟩,
   ⟨"MLX_PGL_CMD", 0x198, 1, 4, false, [⟨31, 1, .rw, 0, .keep, false⟩, ⟨0, 2, .rw, 0, .keep, false⟩]⟩,
   ⟨"MLX_PGL_PBASE_S_LO", 0x1A0, 1, 4, false, [⟨0, 32, .rw, 0, .keep, false⟩]⟩,
   ⟨"MLX_PGL_PBASE_S_HI", 0x1A4, 1, 4, false, [⟨0, 16, .rw, 0, .keep, false⟩]⟩,
   ⟨"MLX_PGL_PBASE_NS", 0x1A8, 1, 4, false, [⟨0, 30, .rw, 0, .clamp 0 999999999, false⟩]⟩,
   ⟨"MLX_PGL_PCYCLE", 0x1AC, 1, 4, false, [⟨0, 30, .rw, 1000000, .clamp 1000 1000000000, false⟩]⟩,
   ⟨"MLX_PGL_PLEN", 0x1B0, 1, 4, false, [⟨0, 9, .rw, 1, .clamp 1 256, false⟩]⟩,
   ⟨"MLX_PGL_ABASE_S_LO", 0x1C0, 1, 4, false, [⟨0, 32, .ro, 0, .keep, false⟩]⟩,
   ⟨"MLX_PGL_ABASE_S_HI", 0x1C4, 1, 4, false, [⟨0, 16, .ro, 0, .keep, false⟩]⟩,
   ⟨"MLX_PGL_ABASE_NS", 0x1C8, 1, 4, false, [⟨0, 30, .ro, 0, .keep, false⟩]⟩,
   ⟨"MLX_PGL_ACYCLE", 0x1CC, 1, 4, false, [⟨0, 30, .ro, 0, .keep, false⟩]⟩] ++
  [⟨"MLX_PGL_ALEN", 0x1D0, 1, 4, false, [⟨0, 9, .ro, 0, .keep, false⟩]⟩]

/-- Registers of MLK. -/
def mlkRegs : List RegDef :=
  [⟨"MLK_CFG", 0x100, 1, 4, false, [⟨8, 8, .rw, 10, .clamp 1 255, false⟩, ⟨0, 8, .rw, 4, .clamp 1 32, false⟩]⟩,
   ⟨"MLK_LINK_STAT", 0x104, 1, 4, false,
    [⟨24, 4, .ro, 0, .keep, false⟩, ⟨16, 2, .ro, 0, .keep, false⟩, ⟨4, 4, .ro, 0, .keep, false⟩,
     ⟨3, 1, .ro, 0, .keep, false⟩, ⟨2, 1, .ro, 0, .keep, false⟩, ⟨1, 1, .ro, 0, .keep, false⟩,
     ⟨0, 1, .ro, 1, .keep, false⟩]⟩,
   ⟨"MLK_SB_CTRL", 0x108, 1, 4, false, [⟨0, 1, .rw, 1, .keep, false⟩]⟩,
   ⟨"MLK_CREDIT", 0x10C, 1, 4, false,
    [⟨24, 8, .ro, 0, .keep, false⟩, ⟨16, 8, .ro, 0, .keep, false⟩, ⟨8, 8, .ro, 0, .keep, false⟩]⟩,
   ⟨"MLK_TMO", 0x110, 1, 4, false,
    [⟨24, 8, .rw, 50, .clamp 1 255, false⟩, ⟨16, 8, .rw, 10, .clamp 1 255, false⟩,
     ⟨0, 16, .rw, 2000, .clamp 100 65535, false⟩]⟩,
   ⟨"MLK_TAGS", 0x114, 1, 4, false, [⟨0, 10, .ro, 0, .keep, false⟩]⟩,
   ⟨"MLK_SERIAL", 0x118, 4, 4, false, [⟨0, 32, .ro, 0, .keep, false⟩]⟩,
   ⟨"MLK_TX_FRAMES", 0x130, 1, 4, false, [⟨0, 32, .rw, 0, .keep, false⟩]⟩,
   ⟨"MLK_RX_FRAMES", 0x134, 1, 4, false, [⟨0, 32, .rw, 0, .keep, false⟩]⟩,
   ⟨"MLK_CRC_ERR_CNT", 0x138, 1, 4, true, [⟨0, 32, .rw, 0, .keep, false⟩]⟩,
   ⟨"MLK_REPLAY_CNT", 0x13C, 1, 4, true, [⟨0, 32, .rw, 0, .keep, false⟩]⟩,
   ⟨"MLK_RETRAIN_CNT", 0x140, 1, 4, true, [⟨0, 32, .rw, 0, .keep, false⟩]⟩,
   ⟨"MLK_CMD_TMO_CNT", 0x144, 1, 4, true, [⟨0, 32, .rw, 0, .keep, false⟩]⟩,
   ⟨"MLK_LATE_STS_CNT", 0x148, 1, 4, true, [⟨0, 32, .rw, 0, .keep, false⟩]⟩,
   ⟨"MLK_CLAIM_REJ_CNT", 0x14C, 1, 4, true, [⟨0, 32, .rw, 0, .keep, false⟩]⟩,
   ⟨"MLK_TRAIN_FAIL_CNT", 0x150, 1, 4, true, [⟨0, 32, .rw, 0, .keep, false⟩]⟩,
   ⟨"MLK_ALERT", 0x160, 1, 4, false,
    [⟨6, 1, .w1c, 0, .keep, false⟩, ⟨5, 1, .w1c, 0, .keep, false⟩, ⟨4, 1, .w1c, 0, .keep, false⟩,
     ⟨3, 1, .w1c, 0, .keep, false⟩, ⟨2, 1, .w1c, 0, .keep, false⟩, ⟨1, 1, .w1c, 0, .keep, false⟩,
     ⟨0, 1, .w1c, 0, .keep, false⟩]⟩]

/-- Registers of SPC. -/
def spcRegs : List RegDef :=
  [⟨"SPC_CLAIM", 0x100, 1, 4, false, [⟨0, 32, .ro, 0, .keep, false⟩]⟩,
   ⟨"SPC_STAT", 0x104, 1, 4, false, [⟨31, 1, .ro, 0, .keep, false⟩, ⟨0, 16, .ro, 0, .keep, false⟩]⟩,
   ⟨"SPC_PWR", 0x108, 1, 4, false, [⟨0, 20, .ro, 0, .keep, false⟩]⟩,
   ⟨"SPC_PG_LO", 0x110, 1, 4, false, [⟨0, 32, .ro, 0, .keep, false⟩]⟩,
   ⟨"SPC_PG_HI", 0x114, 1, 4, false, [⟨0, 16, .ro, 0, .keep, false⟩]⟩,
   ⟨"SPC_FAULT_LO", 0x118, 1, 4, false, [⟨0, 32, .ro, 0, .keep, false⟩]⟩,
   ⟨"SPC_FAULT_HI", 0x11C, 1, 4, false, [⟨0, 16, .ro, 0, .keep, false⟩]⟩,
   ⟨"SPC_ALERT", 0x140, 1, 4, false,
    [⟨2, 1, .w1c, 0, .keep, false⟩, ⟨1, 1, .w1c, 0, .keep, false⟩, ⟨0, 1, .w1c, 0, .keep, false⟩]⟩]

/-- Registers of SPW. -/
def spwRegs : List RegDef :=
  [⟨"SPW_CMD", 0x100, 1, 4, false,
    [⟨31, 1, .rw, 0, .keep, false⟩, ⟨24, 4, .ro, 0, .keep, false⟩, ⟨0, 2, .rw, 0, .keep, false⟩]⟩,
   ⟨"SPW_STAT", 0x104, 1, 4, false,
    [⟨28, 4, .ro, 0, .keep, false⟩, ⟨20, 4, .ro, 0, .keep, false⟩, ⟨10, 1, .ro, 0, .keep, false⟩,
     ⟨9, 1, .ro, 0, .keep, false⟩, ⟨8, 1, .ro, 0, .keep, false⟩, ⟨7, 1, .ro, 0, .keep, false⟩,
     ⟨6, 1, .ro, 0, .keep, false⟩, ⟨5, 1, .ro, 0, .keep, false⟩, ⟨4, 1, .ro, 0, .keep, false⟩,
     ⟨3, 1, .ro, 0, .keep, false⟩, ⟨2, 1, .ro, 0, .keep, false⟩, ⟨1, 1, .ro, 0, .keep, false⟩,
     ⟨0, 1, .ro, 0, .keep, false⟩]⟩,
   ⟨"SPW_FAULT", 0x108, 1, 4, false,
    [⟨6, 1, .w1c, 0, .keep, false⟩, ⟨5, 1, .w1c, 0, .keep, false⟩, ⟨4, 1, .w1c, 0, .keep, false⟩,
     ⟨3, 1, .w1c, 0, .keep, false⟩, ⟨2, 1, .w1c, 0, .keep, false⟩, ⟨1, 1, .w1c, 0, .keep, false⟩,
     ⟨0, 1, .w1c, 0, .keep, false⟩]⟩,
   ⟨"SPW_INS", 0x10C, 1, 4, false, [⟨0, 10, .rw, 200, .clamp 50 1000, false⟩]⟩,
   ⟨"SPW_RAMP", 0x110, 1, 4, false, [⟨16, 8, .rw, 50, .clamp 5 255, false⟩, ⟨0, 7, .rw, 10, .clamp 1 100, false⟩]⟩,
   ⟨"SPW_BRK", 0x114, 1, 4, false,
    [⟨24, 8, .rw, 50, .clamp 1 255, false⟩, ⟨16, 5, .rw, 5, .clamp 1 20, false⟩, ⟨8, 8, .rw, 75, .keep, false⟩,
     ⟨0, 6, .rw, 25, .clamp 5 50, false⟩]⟩,
   ⟨"SPW_RETRY", 0x118, 1, 4, false,
    [⟨12, 4, .rw, 3, .keep, false⟩, ⟨8, 1, .rw, 1, .keep, false⟩, ⟨0, 7, .rw, 10, .clamp 1 100, false⟩]⟩,
   ⟨"SPW_WARN", 0x11C, 1, 4, false, [⟨16, 8, .rw, 20, .keep, false⟩, ⟨0, 12, .rw, 1080, .clamp 960 1200, false⟩]⟩,
   ⟨"SPW_TEMP", 0x120, 1, 4, false, [⟨31, 1, .rw, 0, .keep, false⟩, ⟨16, 8, .rw, 125, .clamp 85 150, false⟩]⟩,
   ⟨"SPW_MODEL", 0x124, 1, 4, false,
    [⟨16, 16, .rw, 200, .clamp 10 10000, false⟩, ⟨0, 16, .rw, 3000, .clamp 1 65535, false⟩]⟩,
   ⟨"SPW_MEAS_V", 0x130, 1, 4, false, [⟨16, 16, .ro, 0, .keep, false⟩, ⟨0, 16, .ro, 0, .keep, false⟩]⟩,
   ⟨"SPW_MEAS_OI", 0x134, 1, 4, false, [⟨16, 16, .ro, 0, .keep, false⟩, ⟨0, 16, .ro, 0, .keep, false⟩]⟩,
   ⟨"SPW_MEAS_TP", 0x138, 1, 4, false, [⟨16, 16, .ro, 0, .keep, false⟩, ⟨0, 16, .ro, 0, .keep, false⟩]⟩,
   ⟨"SPW_FAULT_CNT", 0x140, 1, 4, true, [⟨0, 32, .rw, 0, .keep, false⟩]⟩,
   ⟨"SPW_EARLY_CNT", 0x144, 1, 4, true, [⟨0, 32, .rw, 0, .keep, false⟩]⟩,
   ⟨"SPW_REV_CNT", 0x148, 1, 4, true, [⟨0, 32, .rw, 0, .keep, false⟩]⟩,
   ⟨"SPW_PWARN_CNT", 0x14C, 1, 4, true, [⟨0, 32, .rw, 0, .keep, false⟩]⟩,
   ⟨"SPW_RETRY_CNT", 0x150, 1, 4, true, [⟨0, 32, .rw, 0, .keep, false⟩]⟩,
   ⟨"SPW_ALERT", 0x160, 1, 4, false,
    [⟨7, 1, .w1c, 0, .keep, false⟩, ⟨6, 1, .w1c, 0, .keep, false⟩, ⟨5, 1, .w1c, 0, .keep, false⟩,
     ⟨4, 1, .w1c, 0, .keep, false⟩, ⟨3, 1, .w1c, 0, .keep, false⟩, ⟨2, 1, .w1c, 0, .keep, false⟩,
     ⟨1, 1, .w1c, 0, .keep, false⟩, ⟨0, 1, .w1c, 0, .keep, false⟩]⟩]

/-- Registers of CRY. -/
def cryRegs : List RegDef :=
  [⟨"CRY_CFG", 0x100, 1, 4, false, [⟨0, 8, .rw, 255, .keep, false⟩]⟩,
   ⟨"CRY_STAT", 0x104, 1, 4, false,
    [⟨31, 1, .ro, 0, .keep, false⟩, ⟨16, 8, .ro, 0, .keep, false⟩, ⟨0, 13, .ro, 0, .keep, false⟩]⟩,
   ⟨"CRY_HALT_CNT", 0x120, 1, 4, true, [⟨0, 32, .rw, 0, .keep, false⟩]⟩,
   ⟨"CRY_TAG_FAIL_CNT", 0x124, 1, 4, true, [⟨0, 32, .rw, 0, .keep, false⟩]⟩,
   ⟨"CRY_ALERT", 0x140, 1, 4, false, [⟨1, 1, .w1c, 0, .keep, false⟩, ⟨0, 1, .w1c, 0, .keep, false⟩]⟩]

/-- Registers of CX. -/
def cxRegs : List RegDef :=
  [⟨"CX_STAT", 0x100, 1, 4, false,
    [⟨31, 1, .ro, 0, .keep, false⟩, ⟨30, 1, .ro, 0, .keep, false⟩, ⟨0, 12, .ro, 0, .keep, false⟩]⟩,
   ⟨"CX_JOB_CNT", 0x120, 1, 4, true, [⟨0, 32, .rw, 0, .keep, false⟩]⟩,
   ⟨"CX_MIB_CNT", 0x124, 1, 4, true, [⟨0, 32, .rw, 0, .keep, false⟩]⟩,
   ⟨"CX_KEYSW_CNT", 0x128, 1, 4, true, [⟨0, 32, .rw, 0, .keep, false⟩]⟩]

/-- Registers of FAB. -/
def fabRegs : List RegDef :=
  [⟨"FAB_ARB_SEL", 0x100, 1, 4, false, [⟨16, 3, .rw, 0, .clamp 0 5, false⟩, ⟨0, 8, .rw, 0, .keep, false⟩]⟩,
   ⟨"FAB_REQ_CFG", 0x104, 1, 4, false,
    [⟨31, 1, .ro, 0, .keep, false⟩, ⟨30, 1, .ro, 0, .keep, false⟩, ⟨0, 2, .rw, 0, .keep, false⟩]⟩,
   ⟨"FAB_REQ_MAXW", 0x108, 1, 4, true, [⟨0, 32, .rw, 0, .keep, false⟩]⟩,
   ⟨"FAB_REQ_ALARM", 0x10C, 1, 4, false, [⟨0, 32, .rw, 0, .keep, false⟩]⟩,
   ⟨"FAB_REQ_GRANTS", 0x110, 1, 4, true, [⟨0, 32, .rw, 0, .keep, false⟩]⟩,
   ⟨"FAB_REQ_PREEMPT", 0x114, 1, 4, true, [⟨0, 32, .rw, 0, .keep, false⟩]⟩,
   ⟨"FAB_WAIT_REQ", 0x118, 1, 4, false, [⟨16, 3, .ro, 0, .keep, false⟩, ⟨0, 8, .ro, 0, .keep, false⟩]⟩,
   ⟨"FAB_ALERT", 0x140, 1, 4, false,
    [⟨2, 1, .w1c, 0, .keep, false⟩, ⟨1, 1, .w1c, 0, .keep, false⟩, ⟨0, 1, .w1c, 0, .keep, false⟩]⟩]

/-- Registers of DMA. -/
def dmaRegs : List RegDef :=
  [⟨"DMA_RING_LO", 0x100, 1, 4, false, [⟨5, 27, .rw, 0, .keep, true⟩]⟩,
   ⟨"DMA_RING_HI", 0x104, 1, 4, false, [⟨0, 16, .rw, 0, .keep, true⟩]⟩,
   ⟨"DMA_RING_SIZE", 0x108, 1, 4, false, [⟨0, 5, .rw, 4, .clamp 4 16, true⟩]⟩,
   ⟨"DMA_TAIL", 0x10C, 1, 4, false, [⟨0, 32, .rw, 0, .keep, false⟩]⟩,
   ⟨"DMA_HEAD", 0x110, 1, 4, false, [⟨0, 32, .ro, 0, .keep, false⟩]⟩,
   ⟨"DMA_STAT", 0x114, 1, 4, false,
    [⟨31, 1, .ro, 0, .keep, false⟩, ⟨30, 1, .ro, 0, .keep, false⟩, ⟨24, 4, .ro, 0, .keep, false⟩,
     ⟨0, 8, .ro, 0, .keep, false⟩]⟩,
   ⟨"DMA_CTRL", 0x118, 1, 4, false, [⟨0, 1, .rw, 0, .keep, false⟩]⟩,
   ⟨"DMA_DESC_CNT", 0x120, 1, 4, true, [⟨0, 32, .rw, 0, .keep, false⟩]⟩,
   ⟨"DMA_BAD_CNT", 0x124, 1, 4, true, [⟨0, 32, .rw, 0, .keep, false⟩]⟩,
   ⟨"DMA_MIB_CNT", 0x128, 1, 4, true, [⟨0, 32, .rw, 0, .keep, false⟩]⟩,
   ⟨"DMA_ALERT", 0x140, 1, 4, false,
    [⟨2, 1, .w1c, 0, .keep, false⟩, ⟨1, 1, .w1c, 0, .keep, false⟩, ⟨0, 1, .w1c, 0, .keep, false⟩]⟩]

/-- Registers of DDR. -/
def ddrRegs : List RegDef :=
  [⟨"DDR_CFG", 0x100, 1, 4, false, [⟨8, 1, .rw, 1, .keep, true⟩, ⟨0, 3, .rw, 0, .clamp 0 4, true⟩]⟩,
   ⟨"DDR_STAT", 0x104, 1, 4, false, [⟨1, 1, .ro, 0, .keep, false⟩, ⟨0, 1, .ro, 0, .keep, false⟩]⟩,
   ⟨"DDR_SCRUB", 0x108, 1, 4, false, [⟨31, 1, .rw, 1, .keep, false⟩, ⟨0, 10, .rw, 24, .clamp 1 720, false⟩]⟩,
   ⟨"DDR_SCRUB_POS", 0x10C, 1, 4, false, [⟨0, 16, .ro, 0, .keep, false⟩]⟩,
   ⟨"DDR_CE_CNT", 0x120, 1, 4, true, [⟨0, 32, .rw, 0, .keep, false⟩]⟩,
   ⟨"DDR_UE_CNT", 0x124, 1, 4, true, [⟨0, 32, .rw, 0, .keep, false⟩]⟩,
   ⟨"DDR_SCRUB_FIX_CNT", 0x128, 1, 4, true, [⟨0, 32, .rw, 0, .keep, false⟩]⟩,
   ⟨"DDR_PASS_CNT", 0x12C, 1, 4, true, [⟨0, 32, .rw, 0, .keep, false⟩]⟩,
   ⟨"DDR_ALERT", 0x140, 1, 4, false,
    [⟨2, 1, .w1c, 0, .keep, false⟩, ⟨1, 1, .w1c, 0, .keep, false⟩, ⟨0, 1, .w1c, 0, .keep, false⟩]⟩]

/-- Registers of MRM. -/
def mrmRegs : List RegDef :=
  [⟨"MRM_CFG", 0x100, 1, 4, false, [⟨31, 1, .rw, 1, .keep, false⟩, ⟨0, 10, .rw, 24, .clamp 1 720, false⟩]⟩,
   ⟨"MRM_STAT", 0x104, 1, 4, false, [⟨1, 1, .ro, 0, .keep, false⟩, ⟨0, 1, .ro, 0, .keep, false⟩]⟩,
   ⟨"MRM_CE_CNT", 0x120, 1, 4, true, [⟨0, 32, .rw, 0, .keep, false⟩]⟩,
   ⟨"MRM_UE_CNT", 0x124, 1, 4, true, [⟨0, 32, .rw, 0, .keep, false⟩]⟩,
   ⟨"MRM_PERM_CNT", 0x128, 1, 4, true, [⟨0, 32, .rw, 0, .keep, false⟩]⟩,
   ⟨"MRM_WRITE_MIB_CNT", 0x12C, 1, 4, true, [⟨0, 32, .rw, 0, .keep, false⟩]⟩,
   ⟨"MRM_ALERT", 0x140, 1, 4, false,
    [⟨2, 1, .w1c, 0, .keep, false⟩, ⟨1, 1, .w1c, 0, .keep, false⟩, ⟨0, 1, .w1c, 0, .keep, false⟩]⟩]

/-- Registers of SVP. -/
def svpRegs : List RegDef :=
  [⟨"SVP_LINK", 0x100, 1, 4, false,
    [⟨31, 1, .ro, 0, .keep, false⟩, ⟨30, 1, .ro, 0, .keep, false⟩, ⟨29, 1, .ro, 0, .keep, false⟩,
     ⟨28, 1, .ro, 0, .keep, false⟩, ⟨27, 1, .ro, 0, .keep, false⟩, ⟨16, 3, .ro, 0, .keep, false⟩,
     ⟨8, 3, .ro, 0, .keep, false⟩, ⟨0, 6, .ro, 0, .keep, false⟩]⟩,
   ⟨"SVP_CPL_TMO", 0x104, 1, 4, false, [⟨0, 16, .rw, 10000, .clamp 50 64000, false⟩]⟩,
   ⟨"SVP_L1_CFG", 0x108, 1, 4, false, [⟨0, 10, .rw, 16, .clamp 1 1000, false⟩]⟩,
   ⟨"SVP_OB_BASE", 0x10C, 1, 4, false, [⟨0, 17, .rw, 0, .keep, false⟩]⟩,
   ⟨"SVP_W0_IDX", 0x110, 1, 4, false, [⟨0, 6, .rw, 0, .keep, false⟩]⟩,
   ⟨"SVP_W0_ENTRY", 0x114, 1, 4, false,
    [⟨31, 1, .rw, 0, .keep, false⟩, ⟨16, 7, .rw, 0, .keep, false⟩, ⟨0, 13, .rw, 0, .keep, false⟩]⟩,
   ⟨"SVP_W2_IDX", 0x118, 1, 4, false, [⟨0, 4, .rw, 0, .keep, false⟩]⟩,
   ⟨"SVP_W2_BASE_LO", 0x11C, 1, 4, false, [⟨12, 20, .rw, 0, .keep, false⟩]⟩,
   ⟨"SVP_W2_BASE_HI", 0x120, 1, 4, false, [⟨0, 16, .rw, 0, .keep, false⟩]⟩,
   ⟨"SVP_W2_CTRL", 0x124, 1, 4, false,
    [⟨31, 1, .rw, 0, .keep, false⟩, ⟨30, 1, .rw, 0, .keep, false⟩, ⟨12, 13, .rw, 0, .clamp 1 4096, false⟩]⟩,
   ⟨"SVP_IMAP_IDX", 0x130, 1, 4, false, [⟨0, 9, .rw, 0, .keep, false⟩]⟩,
   ⟨"SVP_IMAP", 0x134, 1, 4, false, [⟨31, 1, .rw, 0, .keep, false⟩, ⟨0, 6, .rw, 0, .keep, false⟩]⟩,
   ⟨"SVP_EOI", 0x138, 1, 4, false, [⟨0, 6, .wo, 0, .keep, false⟩]⟩,
   ⟨"SVP_SWI", 0x13C, 1, 4, false, [⟨0, 6, .wo, 0, .keep, false⟩]⟩,
   ⟨"SVP_SUBSYS", 0x140, 1, 4, false, [⟨16, 16, .rw, 0, .keep, false⟩, ⟨0, 16, .rw, 0, .keep, false⟩]⟩,
   ⟨"SVP_UR_CNT", 0x160, 1, 4, true, [⟨0, 32, .rw, 0, .keep, false⟩]⟩,
   ⟨"SVP_CA_CNT", 0x164, 1, 4, true, [⟨0, 32, .rw, 0, .keep, false⟩]⟩,
   ⟨"SVP_CPL_TMO_CNT", 0x168, 1, 4, true, [⟨0, 32, .rw, 0, .keep, false⟩]⟩,
   ⟨"SVP_LATE_CPL", 0x16C, 1, 4, true, [⟨0, 32, .rw, 0, .keep, false⟩]⟩,
   ⟨"SVP_UNEXP_CPL_CNT", 0x170, 1, 4, true, [⟨0, 32, .rw, 0, .keep, false⟩]⟩,
   ⟨"SVP_FLR_CNT", 0x174, 1, 4, true, [⟨0, 32, .rw, 0, .keep, false⟩]⟩,
   ⟨"SVP_L1_CNT", 0x178, 1, 4, true, [⟨0, 32, .rw, 0, .keep, false⟩]⟩,
   ⟨"SVP_MSIX_CNT", 0x17C, 1, 4, true, [⟨0, 32, .rw, 0, .keep, false⟩]⟩,
   ⟨"SVP_ALERT", 0x180, 1, 4, false,
    [⟨8, 1, .w1c, 0, .keep, false⟩, ⟨7, 1, .w1c, 0, .keep, false⟩, ⟨6, 1, .w1c, 0, .keep, false⟩,
     ⟨5, 1, .w1c, 0, .keep, false⟩, ⟨4, 1, .w1c, 0, .keep, false⟩, ⟨3, 1, .w1c, 0, .keep, false⟩,
     ⟨2, 1, .w1c, 0, .keep, false⟩, ⟨1, 1, .w1c, 0, .keep, false⟩, ⟨0, 1, .w1c, 0, .keep, false⟩]⟩]

/-- Registers of PMT. -/
def pmtRegs : List RegDef :=
  [⟨"PMT_CFG", 0x100, 1, 4, false,
    [⟨31, 1, .rw, 0, .keep, false⟩, ⟨30, 1, .rw, 0, .keep, false⟩, ⟨16, 5, .rw, 10, .clamp 4 16, false⟩]⟩,
   ⟨"PMT_SEED", 0x104, 1, 4, false, [⟨0, 32, .rw, 1, .clamp 1 4294967295, false⟩]⟩,
   ⟨"PMT_FILTER", 0x108, 1, 4, false,
    [⟨31, 1, .rw, 0, .keep, false⟩, ⟨16, 12, .rw, 0, .keep, false⟩, ⟨15, 1, .rw, 0, .keep, false⟩,
     ⟨0, 8, .rw, 0, .keep, false⟩]⟩,
   ⟨"PMT_RING_LO", 0x10C, 1, 4, false, [⟨12, 20, .rw, 0, .keep, true⟩]⟩,
   ⟨"PMT_RING_HI", 0x110, 1, 4, false, [⟨0, 16, .rw, 0, .keep, true⟩]⟩,
   ⟨"PMT_WR", 0x114, 1, 4, false, [⟨0, 32, .ro, 0, .keep, false⟩]⟩,
   ⟨"PMT_RD", 0x118, 1, 4, false, [⟨0, 32, .rw, 0, .keep, false⟩]⟩,
   ⟨"PMT_INFLIGHT", 0x11C, 1, 4, false, [⟨0, 9, .ro, 0, .keep, false⟩]⟩,
   ⟨"PMT_GLOBAL", 0x120, 1, 4, false, [⟨0, 1, .rw, 1, .keep, false⟩]⟩,
   ⟨"PMT_TAG_CNT", 0x130, 1, 4, true, [⟨0, 32, .rw, 0, .keep, false⟩]⟩,
   ⟨"PMT_SKIP_CNT", 0x134, 1, 4, true, [⟨0, 32, .rw, 0, .keep, false⟩]⟩,
   ⟨"PMT_FULL_CNT", 0x138, 1, 4, true, [⟨0, 32, .rw, 0, .keep, false⟩]⟩,
   ⟨"PMT_ABORT_CNT", 0x13C, 1, 4, true, [⟨0, 32, .rw, 0, .keep, false⟩]⟩,
   ⟨"PMT_ALERT", 0x140, 1, 4, false, [⟨1, 1, .w1c, 0, .keep, false⟩, ⟨0, 1, .w1c, 0, .keep, false⟩]⟩]

/-- Registers of MGT. -/
def mgtRegs : List RegDef :=
  [⟨"MGT_CFG", 0x100, 1, 4, false, [⟨16, 6, .rw, 63, .keep, false⟩, ⟨0, 7, .rw, 90, .keep, false⟩]⟩,
   ⟨"MGT_ROM_FLAGS", 0x104, 1, 4, false, [⟨1, 1, .rw, 0, .keep, false⟩, ⟨0, 1, .rw, 0, .keep, false⟩]⟩,
   ⟨"MGT_SNAP_IDX", 0x108, 1, 4, false, [⟨0, 9, .rw, 0, .keep, false⟩]⟩,
   ⟨"MGT_SNAP_DATA", 0x10C, 1, 4, false, [⟨0, 32, .rw, 0, .keep, false⟩]⟩,
   ⟨"MGT_SNAP_CTRL", 0x110, 1, 4, false,
    [⟨31, 1, .rw, 0, .keep, false⟩, ⟨16, 1, .ro, 0, .keep, false⟩, ⟨0, 16, .ro, 65535, .keep, false⟩]⟩,
   ⟨"MGT_CAUSE", 0x114, 1, 4, false, [⟨0, 6, .w1c, 0, .keep, false⟩]⟩,
   ⟨"MGT_CAUSE_SET", 0x118, 1, 4, false, [⟨0, 6, .wo, 0, .keep, false⟩]⟩,
   ⟨"MGT_XFER_CNT", 0x120, 1, 4, true, [⟨0, 32, .rw, 0, .keep, false⟩]⟩,
   ⟨"MGT_NACK_CNT", 0x124, 1, 4, true, [⟨0, 32, .rw, 0, .keep, false⟩]⟩,
   ⟨"MGT_TMO_CNT", 0x128, 1, 4, true, [⟨0, 32, .rw, 0, .keep, false⟩]⟩,
   ⟨"MGT_ARA_CNT", 0x12C, 1, 4, true, [⟨0, 32, .rw, 0, .keep, false⟩]⟩,
   ⟨"MGT_ALERT", 0x140, 1, 4, false, [⟨1, 1, .w1c, 0, .keep, false⟩, ⟨0, 1, .w1c, 0, .keep, false⟩]⟩]

/-- The registers of a block type. -/
def blockRegs : Block → List RegDef
  | .clk => clkRegs
  | .pwr => pwrRegs
  | .time => timeRegs
  | .boot => bootRegs
  | .sec => secRegs
  | .key => keyRegs
  | .alm => almRegs
  | .rng => rngRegs
  | .pair => pairRegs
  | .net => netRegs
  | .xpt => xptRegs
  | .swc => swcRegs
  | .pol => polRegs
  | .egs => egsRegs
  | .cmd => cmdRegs
  | .zsq => zsqRegs
  | .stg => stgRegs
  | .pqe => pqeRegs
  | .ecc => eccRegs
  | .mlx => mlxRegs
  | .mlk => mlkRegs
  | .spc => spcRegs
  | .spw => spwRegs
  | .cry => cryRegs
  | .cx => cxRegs
  | .fab => fabRegs
  | .dma => dmaRegs
  | .ddr => ddrRegs
  | .mrm => mrmRegs
  | .svp => svpRegs
  | .pmt => pmtRegs
  | .mgt => mgtRegs

/-- The register at an offset, and its index in an array of registers. -/
def findReg (off : Nat) : List RegDef → Option (RegDef × Nat)
  | [] => none
  | r :: t =>
    if r.off ≤ off ∧ (off - r.off) % r.stride = 0 ∧ (off - r.off) / r.stride < r.count
    then some (r, (off - r.off) / r.stride) else findReg off t

/-- The block register at an offset of a page; the MLX registers at 0x300 to 0x310 exist in MLX0 only (R228). -/
def regAt (b : Block) (page off : Nat) : Option (RegDef × Nat) :=
  if b = .mlx ∧ 0x300 ≤ off ∧ page ≠ 0x060 then none else findReg off (blockRegs b)

/-- The reset value that the fields of a register give. -/
def RegDef.resetWord (r : RegDef) : Word := packWord (r.fields.map fun f => (f.lo, f.reset))

/-! Offsets of the block registers, by the manual's names. -/
/-- Offset of CLK_STAT. -/
abbrev O.CLK_STAT : Nat := 0x100
/-- Offset of CLK_OSC_CFG. -/
abbrev O.CLK_OSC_CFG : Nat := 0x104
/-- Offset of CLK_OSC_TRIM. -/
abbrev O.CLK_OSC_TRIM : Nat := 0x108
/-- Offset of CLK_OSC_ERR. -/
abbrev O.CLK_OSC_ERR : Nat := 0x10C
/-- Offset of CLK_DIV0. -/
abbrev O.CLK_DIV0 : Nat := 0x110
/-- Offset of CLK_DIV1. -/
abbrev O.CLK_DIV1 : Nat := 0x114
/-- Offset of CLK_CC_GATE. -/
abbrev O.CLK_CC_GATE : Nat := 0x118
/-- Offset of CLK_LOSS_CNT. -/
abbrev O.CLK_LOSS_CNT : Nat := 0x120
/-- Offset of CLK_ALERT. -/
abbrev O.CLK_ALERT : Nat := 0x140
/-- Offset of PWR_DOM_ON0. -/
abbrev O.PWR_DOM_ON0 : Nat := 0x100
/-- Offset of PWR_DOM_ON1. -/
abbrev O.PWR_DOM_ON1 : Nat := 0x104
/-- Offset of PWR_DOM_STAT0. -/
abbrev O.PWR_DOM_STAT0 : Nat := 0x108
/-- Offset of PWR_DOM_STAT1. -/
abbrev O.PWR_DOM_STAT1 : Nat := 0x10C
/-- Offset of PWR_RST_CAUSE. -/
abbrev O.PWR_RST_CAUSE : Nat := 0x110
/-- Offset of PWR_ALERT. -/
abbrev O.PWR_ALERT : Nat := 0x140
/-- Offset of TIME_S_LO. -/
abbrev O.TIME_S_LO : Nat := 0x100
/-- Offset of TIME_S_HI. -/
abbrev O.TIME_S_HI : Nat := 0x104
/-- Offset of TIME_NS. -/
abbrev O.TIME_NS : Nat := 0x108
/-- Offset of TIME_TICK_LO. -/
abbrev O.TIME_TICK_LO : Nat := 0x10C
/-- Offset of TIME_TICK_HI. -/
abbrev O.TIME_TICK_HI : Nat := 0x110
/-- Offset of TIME_FREQ. -/
abbrev O.TIME_FREQ : Nat := 0x114
/-- Offset of TIME_ADJ_S_LO. -/
abbrev O.TIME_ADJ_S_LO : Nat := 0x118
/-- Offset of TIME_ADJ_S_HI. -/
abbrev O.TIME_ADJ_S_HI : Nat := 0x11C
/-- Offset of TIME_ADJ_NS. -/
abbrev O.TIME_ADJ_NS : Nat := 0x120
/-- Offset of TIME_CMD. -/
abbrev O.TIME_CMD : Nat := 0x124
/-- Offset of TIME_STAT. -/
abbrev O.TIME_STAT : Nat := 0x128
/-- Offset of TIME_STAT2. -/
abbrev O.TIME_STAT2 : Nat := 0x12C
/-- Offset of TIME_PPS_S_LO. -/
abbrev O.TIME_PPS_S_LO : Nat := 0x130
/-- Offset of TIME_PPS_S_HI. -/
abbrev O.TIME_PPS_S_HI : Nat := 0x134
/-- Offset of TIME_PPS_NS. -/
abbrev O.TIME_PPS_NS : Nat := 0x138
/-- Offset of TIME_PPS_OUT_CFG. -/
abbrev O.TIME_PPS_OUT_CFG : Nat := 0x140
/-- Offset of TIME_PPS_OFFSET. -/
abbrev O.TIME_PPS_OFFSET : Nat := 0x144
/-- Offset of TIME_TXTS_INFO. -/
abbrev O.TIME_TXTS_INFO : Nat := 0x150
/-- Offset of TIME_TXTS_S_LO. -/
abbrev O.TIME_TXTS_S_LO : Nat := 0x154
/-- Offset of TIME_TXTS_S_HI. -/
abbrev O.TIME_TXTS_S_HI : Nat := 0x158
/-- Offset of TIME_TXTS_NS. -/
abbrev O.TIME_TXTS_NS : Nat := 0x15C
/-- Offset of TIME_ALERT. -/
abbrev O.TIME_ALERT : Nat := 0x160
/-- Offset of BOOT_STAT. -/
abbrev O.BOOT_STAT : Nat := 0x100
/-- Offset of BOOT_ROM_VER. -/
abbrev O.BOOT_ROM_VER : Nat := 0x104
/-- Offset of BOOT_PATCH_LEVEL. -/
abbrev O.BOOT_PATCH_LEVEL : Nat := 0x108
/-- Offset of BOOT_PATCH_STAGED. -/
abbrev O.BOOT_PATCH_STAGED : Nat := 0x10C
/-- Offset of BOOT_TIME. -/
abbrev O.BOOT_TIME : Nat := 0x110
/-- Offset of BOOT_ACT. -/
abbrev O.BOOT_ACT : Nat := 0x114
/-- Offset of BOOT_CTRL. -/
abbrev O.BOOT_CTRL : Nat := 0x118
/-- Offset of BOOT_ALERT. -/
abbrev O.BOOT_ALERT : Nat := 0x140
/-- Offset of SEC_STATE. -/
abbrev O.SEC_STATE : Nat := 0x100
/-- Offset of SEC_REQ_BASE_LO. -/
abbrev O.SEC_REQ_BASE_LO : Nat := 0x104
/-- Offset of SEC_REQ_BASE_HI. -/
abbrev O.SEC_REQ_BASE_HI : Nat := 0x108
/-- Offset of SEC_REQ_HEAD. -/
abbrev O.SEC_REQ_HEAD : Nat := 0x10C
/-- Offset of SEC_ID_HASH. -/
abbrev O.SEC_ID_HASH : Nat := 0x140
/-- Offset of SEC_REQ_FAIL_CNT. -/
abbrev O.SEC_REQ_FAIL_CNT : Nat := 0x180
/-- Offset of SEC_ALERT. -/
abbrev O.SEC_ALERT : Nat := 0x190
/-- Offset of KEY_LOCK. -/
abbrev O.KEY_LOCK : Nat := 0x100
/-- Offset of KEY_LOAD. -/
abbrev O.KEY_LOAD : Nat := 0x104
/-- Offset of KEY_STAT. -/
abbrev O.KEY_STAT : Nat := 0x108
/-- Offset of KEY_KCV. -/
abbrev O.KEY_KCV : Nat := 0x10C
/-- Offset of KEY_DATA. -/
abbrev O.KEY_DATA : Nat := 0x140
/-- Offset of KEY_VALID. -/
abbrev O.KEY_VALID : Nat := 0x180
/-- Offset of KEY_LOAD_CNT. -/
abbrev O.KEY_LOAD_CNT : Nat := 0x200
/-- Offset of KEY_BUSY_CNT. -/
abbrev O.KEY_BUSY_CNT : Nat := 0x204
/-- Offset of KEY_ALERT. -/
abbrev O.KEY_ALERT : Nat := 0x210
/-- Offset of ALM_CFG. -/
abbrev O.ALM_CFG : Nat := 0x100
/-- Offset of ALM_STAT. -/
abbrev O.ALM_STAT : Nat := 0x104
/-- Offset of ALM_FIRST. -/
abbrev O.ALM_FIRST : Nat := 0x108
/-- Offset of ALM_TIME_LO. -/
abbrev O.ALM_TIME_LO : Nat := 0x10C
/-- Offset of ALM_TIME_HI. -/
abbrev O.ALM_TIME_HI : Nat := 0x110
/-- Offset of ALM_CNT. -/
abbrev O.ALM_CNT : Nat := 0x120
/-- Offset of ALM_ALERT. -/
abbrev O.ALM_ALERT : Nat := 0x140
/-- Offset of RNG_CFG. -/
abbrev O.RNG_CFG : Nat := 0x100
/-- Offset of RNG_STAT. -/
abbrev O.RNG_STAT : Nat := 0x104
/-- Offset of RNG_OUT. -/
abbrev O.RNG_OUT : Nat := 0x108
/-- Offset of RNG_RCT_CNT. -/
abbrev O.RNG_RCT_CNT : Nat := 0x120
/-- Offset of RNG_APT_CNT. -/
abbrev O.RNG_APT_CNT : Nat := 0x124
/-- Offset of RNG_ALERT. -/
abbrev O.RNG_ALERT : Nat := 0x140
/-- Offset of PAIR_CFG. -/
abbrev O.PAIR_CFG : Nat := 0x100
/-- Offset of PAIR_KICK. -/
abbrev O.PAIR_KICK : Nat := 0x104
/-- Offset of PAIR_WDOG. -/
abbrev O.PAIR_WDOG : Nat := 0x108
/-- Offset of PAIR_ROLE. -/
abbrev O.PAIR_ROLE : Nat := 0x10C
/-- Offset of PAIR_CLAIM. -/
abbrev O.PAIR_CLAIM : Nat := 0x110
/-- Offset of PAIR_PEER_CLAIM. -/
abbrev O.PAIR_PEER_CLAIM : Nat := 0x114
/-- Offset of PAIR_PATH. -/
abbrev O.PAIR_PATH : Nat := 0x118
/-- Offset of PAIR_SPX. -/
abbrev O.PAIR_SPX : Nat := 0x11C
/-- Offset of PAIR_MSEQ_LO. -/
abbrev O.PAIR_MSEQ_LO : Nat := 0x120
/-- Offset of PAIR_MSEQ_HI. -/
abbrev O.PAIR_MSEQ_HI : Nat := 0x124
/-- Offset of PAIR_MLAG. -/
abbrev O.PAIR_MLAG : Nat := 0x128
/-- Offset of PAIR_DRILL_CFG. -/
abbrev O.PAIR_DRILL_CFG : Nat := 0x130
/-- Offset of PAIR_DRILL_CMD. -/
abbrev O.PAIR_DRILL_CMD : Nat := 0x134
/-- Offset of PAIR_DRILL_STAT. -/
abbrev O.PAIR_DRILL_STAT : Nat := 0x138
/-- Offset of PAIR_TKO_TICK_LO. -/
abbrev O.PAIR_TKO_TICK_LO : Nat := 0x140
/-- Offset of PAIR_TKO_TICK_HI. -/
abbrev O.PAIR_TKO_TICK_HI : Nat := 0x144
/-- Offset of PAIR_TKO_US. -/
abbrev O.PAIR_TKO_US : Nat := 0x148
/-- Offset of PAIR_TKO_CNT. -/
abbrev O.PAIR_TKO_CNT : Nat := 0x150
/-- Offset of PAIR_LINK_MISS_CNT. -/
abbrev O.PAIR_LINK_MISS_CNT : Nat := 0x154
/-- Offset of PAIR_WIRE_MISS_CNT. -/
abbrev O.PAIR_WIRE_MISS_CNT : Nat := 0x158
/-- Offset of PAIR_MIRROR_ERR_CNT. -/
abbrev O.PAIR_MIRROR_ERR_CNT : Nat := 0x15C
/-- Offset of PAIR_DEMOTE_CNT. -/
abbrev O.PAIR_DEMOTE_CNT : Nat := 0x160
/-- Offset of PAIR_DRILL_CNT. -/
abbrev O.PAIR_DRILL_CNT : Nat := 0x164
/-- Offset of PAIR_ALERT. -/
abbrev O.PAIR_ALERT : Nat := 0x170
/-- Offset of NET_CFG. -/
abbrev O.NET_CFG : Nat := 0x100
/-- Offset of NET_MAX_FRAME. -/
abbrev O.NET_MAX_FRAME : Nat := 0x104
/-- Offset of NET_MAC_LO. -/
abbrev O.NET_MAC_LO : Nat := 0x108
/-- Offset of NET_MAC_HI. -/
abbrev O.NET_MAC_HI : Nat := 0x10C
/-- Offset of NET_LINK. -/
abbrev O.NET_LINK : Nat := 0x110
/-- Offset of NET_TS_ADJ. -/
abbrev O.NET_TS_ADJ : Nat := 0x114
/-- Offset of NET_PAUSE. -/
abbrev O.NET_PAUSE : Nat := 0x118
/-- Offset of NET_CNT_SEL. -/
abbrev O.NET_CNT_SEL : Nat := 0x11C
/-- Offset of NET_RX_FRAMES. -/
abbrev O.NET_RX_FRAMES : Nat := 0x130
/-- Offset of NET_TX_FRAMES. -/
abbrev O.NET_TX_FRAMES : Nat := 0x134
/-- Offset of NET_RX_BAD. -/
abbrev O.NET_RX_BAD : Nat := 0x138
/-- Offset of NET_RX_OVERSIZE. -/
abbrev O.NET_RX_OVERSIZE : Nat := 0x13C
/-- Offset of NET_RX_FILTERED. -/
abbrev O.NET_RX_FILTERED : Nat := 0x140
/-- Offset of NET_FEC_CORR. -/
abbrev O.NET_FEC_CORR : Nat := 0x144
/-- Offset of NET_FEC_UNCORR. -/
abbrev O.NET_FEC_UNCORR : Nat := 0x148
/-- Offset of NET_PAUSE_RX. -/
abbrev O.NET_PAUSE_RX : Nat := 0x14C
/-- Offset of NET_PAUSE_TX. -/
abbrev O.NET_PAUSE_TX : Nat := 0x150
/-- Offset of NET_FC_IGNORED. -/
abbrev O.NET_FC_IGNORED : Nat := 0x154
/-- Offset of NET_ALERT. -/
abbrev O.NET_ALERT : Nat := 0x160
/-- Offset of XPT_CFG. -/
abbrev O.XPT_CFG : Nat := 0x100
/-- Offset of XPT_RETX_CFG. -/
abbrev O.XPT_RETX_CFG : Nat := 0x104
/-- Offset of XPT_CNP_CFG. -/
abbrev O.XPT_CNP_CFG : Nat := 0x108
/-- Offset of XPT_CC_CFG. -/
abbrev O.XPT_CC_CFG : Nat := 0x10C
/-- Offset of XPT_CC_STEP. -/
abbrev O.XPT_CC_STEP : Nat := 0x110
/-- Offset of XPT_CC_LIMIT. -/
abbrev O.XPT_CC_LIMIT : Nat := 0x114
/-- Offset of XPT_QMAP. -/
abbrev O.XPT_QMAP : Nat := 0x118
/-- Offset of XPT_CONN_CNT. -/
abbrev O.XPT_CONN_CNT : Nat := 0x160
/-- Offset of XPT_MISS_BUF. -/
abbrev O.XPT_MISS_BUF : Nat := 0x164
/-- Offset of XPT_CTX_MISS_CNT. -/
abbrev O.XPT_CTX_MISS_CNT : Nat := 0x170
/-- Offset of XPT_CTX_EVICT_CNT. -/
abbrev O.XPT_CTX_EVICT_CNT : Nat := 0x174
/-- Offset of XPT_MISS_DROP_CNT. -/
abbrev O.XPT_MISS_DROP_CNT : Nat := 0x178
/-- Offset of XPT_KEY_NAK_CNT. -/
abbrev O.XPT_KEY_NAK_CNT : Nat := 0x17C
/-- Offset of XPT_SEQ_NAK_CNT. -/
abbrev O.XPT_SEQ_NAK_CNT : Nat := 0x180
/-- Offset of XPT_RETX_CNT. -/
abbrev O.XPT_RETX_CNT : Nat := 0x184
/-- Offset of XPT_CNP_RX_CNT. -/
abbrev O.XPT_CNP_RX_CNT : Nat := 0x188
/-- Offset of XPT_CNP_TX_CNT. -/
abbrev O.XPT_CNP_TX_CNT : Nat := 0x18C
/-- Offset of XPT_UNSUP_CNT. -/
abbrev O.XPT_UNSUP_CNT : Nat := 0x190
/-- Offset of XPT_ERR_DROP_CNT. -/
abbrev O.XPT_ERR_DROP_CNT : Nat := 0x194
/-- Offset of XPT_RT_CMD. -/
abbrev O.XPT_RT_CMD : Nat := 0x1A0
/-- Offset of XPT_RT_KEY. -/
abbrev O.XPT_RT_KEY : Nat := 0x1A4
/-- Offset of XPT_RT_BASE_LO. -/
abbrev O.XPT_RT_BASE_LO : Nat := 0x1A8
/-- Offset of XPT_RT_BASE_HI. -/
abbrev O.XPT_RT_BASE_HI : Nat := 0x1AC
/-- Offset of XPT_RT_LEN. -/
abbrev O.XPT_RT_LEN : Nat := 0x1B0
/-- Offset of XPT_RT_ATTR. -/
abbrev O.XPT_RT_ATTR : Nat := 0x1B4
/-- Offset of XPT_RT_STAT. -/
abbrev O.XPT_RT_STAT : Nat := 0x1B8
/-- Offset of XPT_ALERT. -/
abbrev O.XPT_ALERT : Nat := 0x1BC
/-- Offset of SWC_DSCP_CLASS. -/
abbrev O.SWC_DSCP_CLASS : Nat := 0x100
/-- Offset of SWC_PCP_CLASS. -/
abbrev O.SWC_PCP_CLASS : Nat := 0x120
/-- Offset of SWC_PUSHOUT. -/
abbrev O.SWC_PUSHOUT : Nat := 0x124
/-- Offset of SWC_BUF. -/
abbrev O.SWC_BUF : Nat := 0x128
/-- Offset of SWC_HEADROOM. -/
abbrev O.SWC_HEADROOM : Nat := 0x12C
/-- Offset of SWC_PFC_THR. -/
abbrev O.SWC_PFC_THR : Nat := 0x140
/-- Offset of SWC_WRED_IDX. -/
abbrev O.SWC_WRED_IDX : Nat := 0x180
/-- Offset of SWC_WRED_MIN. -/
abbrev O.SWC_WRED_MIN : Nat := 0x184
/-- Offset of SWC_WRED_MAX. -/
abbrev O.SWC_WRED_MAX : Nat := 0x188
/-- Offset of SWC_WRED_PRM. -/
abbrev O.SWC_WRED_PRM : Nat := 0x18C
/-- Offset of SWC_WRED_CMD. -/
abbrev O.SWC_WRED_CMD : Nat := 0x190
/-- Offset of SWC_QPROF_IDX. -/
abbrev O.SWC_QPROF_IDX : Nat := 0x1A0
/-- Offset of SWC_QPROF. -/
abbrev O.SWC_QPROF : Nat := 0x1A4
/-- Offset of SWC_QPN_DROP_CNT. -/
abbrev O.SWC_QPN_DROP_CNT : Nat := 0x1C0
/-- Offset of SWC_OTHER_DROP_CNT. -/
abbrev O.SWC_OTHER_DROP_CNT : Nat := 0x1C4
/-- Offset of SWC_DEST_DROP_CNT. -/
abbrev O.SWC_DEST_DROP_CNT : Nat := 0x1C8
/-- Offset of SWC_WRED_DROP_CNT. -/
abbrev O.SWC_WRED_DROP_CNT : Nat := 0x1CC
/-- Offset of SWC_ECN_MARK_CNT. -/
abbrev O.SWC_ECN_MARK_CNT : Nat := 0x1D0
/-- Offset of SWC_PUSHOUT_CNT. -/
abbrev O.SWC_PUSHOUT_CNT : Nat := 0x1D4
/-- Offset of SWC_BUF_DROP_CNT. -/
abbrev O.SWC_BUF_DROP_CNT : Nat := 0x1D8
/-- Offset of SWC_ALERT. -/
abbrev O.SWC_ALERT : Nat := 0x1E0
/-- Offset of POL_IDX. -/
abbrev O.POL_IDX : Nat := 0x100
/-- Offset of POL_CMD. -/
abbrev O.POL_CMD : Nat := 0x104
/-- Offset of POL_MODE. -/
abbrev O.POL_MODE : Nat := 0x108
/-- Offset of POL_CIR. -/
abbrev O.POL_CIR : Nat := 0x10C
/-- Offset of POL_CBS. -/
abbrev O.POL_CBS : Nat := 0x110
/-- Offset of POL_PIR. -/
abbrev O.POL_PIR : Nat := 0x114
/-- Offset of POL_PBS. -/
abbrev O.POL_PBS : Nat := 0x118
/-- Offset of POL_GREEN. -/
abbrev O.POL_GREEN : Nat := 0x11C
/-- Offset of POL_YELLOW. -/
abbrev O.POL_YELLOW : Nat := 0x120
/-- Offset of POL_RED. -/
abbrev O.POL_RED : Nat := 0x124
/-- Offset of POL_DSCP_COLOUR. -/
abbrev O.POL_DSCP_COLOUR : Nat := 0x140
/-- Offset of POL_DROP_CNT. -/
abbrev O.POL_DROP_CNT : Nat := 0x150
/-- Offset of EGS_CFG. -/
abbrev O.EGS_CFG : Nat := 0x100
/-- Offset of EGS_QIDX. -/
abbrev O.EGS_QIDX : Nat := 0x104
/-- Offset of EGS_QCFG. -/
abbrev O.EGS_QCFG : Nat := 0x108
/-- Offset of EGS_QSHP_RATE. -/
abbrev O.EGS_QSHP_RATE : Nat := 0x10C
/-- Offset of EGS_QSHP_BURST. -/
abbrev O.EGS_QSHP_BURST : Nat := 0x110
/-- Offset of EGS_QDEPTH. -/
abbrev O.EGS_QDEPTH : Nat := 0x114
/-- Offset of EGS_QSOJ. -/
abbrev O.EGS_QSOJ : Nat := 0x118
/-- Offset of EGS_PSHP_RATE. -/
abbrev O.EGS_PSHP_RATE : Nat := 0x120
/-- Offset of EGS_PSHP_BURST. -/
abbrev O.EGS_PSHP_BURST : Nat := 0x124
/-- Offset of EGS_GCL_CTRL. -/
abbrev O.EGS_GCL_CTRL : Nat := 0x140
/-- Offset of EGS_GCL_STAT. -/
abbrev O.EGS_GCL_STAT : Nat := 0x144
/-- Offset of EGS_GCL_IDX. -/
abbrev O.EGS_GCL_IDX : Nat := 0x148
/-- Offset of EGS_GCL_MASK_LO. -/
abbrev O.EGS_GCL_MASK_LO : Nat := 0x14C
/-- Offset of EGS_GCL_MASK_HI. -/
abbrev O.EGS_GCL_MASK_HI : Nat := 0x150
/-- Offset of EGS_GCL_DUR. -/
abbrev O.EGS_GCL_DUR : Nat := 0x154
/-- Offset of EGS_GCL_CMD. -/
abbrev O.EGS_GCL_CMD : Nat := 0x158
/-- Offset of EGS_GCL_PBASE_S_LO. -/
abbrev O.EGS_GCL_PBASE_S_LO : Nat := 0x160
/-- Offset of EGS_GCL_PBASE_S_HI. -/
abbrev O.EGS_GCL_PBASE_S_HI : Nat := 0x164
/-- Offset of EGS_GCL_PBASE_NS. -/
abbrev O.EGS_GCL_PBASE_NS : Nat := 0x168
/-- Offset of EGS_GCL_PCYCLE. -/
abbrev O.EGS_GCL_PCYCLE : Nat := 0x16C
/-- Offset of EGS_GCL_PLEN. -/
abbrev O.EGS_GCL_PLEN : Nat := 0x170
/-- Offset of EGS_GCL_ABASE_S_LO. -/
abbrev O.EGS_GCL_ABASE_S_LO : Nat := 0x180
/-- Offset of EGS_GCL_ABASE_S_HI. -/
abbrev O.EGS_GCL_ABASE_S_HI : Nat := 0x184
/-- Offset of EGS_GCL_ABASE_NS. -/
abbrev O.EGS_GCL_ABASE_NS : Nat := 0x188
/-- Offset of EGS_GCL_ACYCLE. -/
abbrev O.EGS_GCL_ACYCLE : Nat := 0x18C
/-- Offset of EGS_GCL_ALEN. -/
abbrev O.EGS_GCL_ALEN : Nat := 0x190
/-- Offset of EGS_HIST_CFG. -/
abbrev O.EGS_HIST_CFG : Nat := 0x1A0
/-- Offset of EGS_HIST_SEL. -/
abbrev O.EGS_HIST_SEL : Nat := 0x1A4
/-- Offset of EGS_HIST_CMD. -/
abbrev O.EGS_HIST_CMD : Nat := 0x1A8
/-- Offset of EGS_HIST_BIN. -/
abbrev O.EGS_HIST_BIN : Nat := 0x1C0
/-- Offset of EGS_GUARD_HOLD_CNT. -/
abbrev O.EGS_GUARD_HOLD_CNT : Nat := 0x200
/-- Offset of EGS_GUARD_DROP_CNT. -/
abbrev O.EGS_GUARD_DROP_CNT : Nat := 0x204
/-- Offset of EGS_OVERRUN_CNT. -/
abbrev O.EGS_OVERRUN_CNT : Nat := 0x208
/-- Offset of EGS_SWAP_CNT. -/
abbrev O.EGS_SWAP_CNT : Nat := 0x20C
/-- Offset of EGS_ALERT. -/
abbrev O.EGS_ALERT : Nat := 0x220
/-- Offset of CMD_DATA_TMO. -/
abbrev O.CMD_DATA_TMO : Nat := 0x100
/-- Offset of CMD_CREDIT_DEFAULT. -/
abbrev O.CMD_CREDIT_DEFAULT : Nat := 0x104
/-- Offset of CMD_CREDIT_POOL. -/
abbrev O.CMD_CREDIT_POOL : Nat := 0x108
/-- Offset of CMD_INFLIGHT. -/
abbrev O.CMD_INFLIGHT : Nat := 0x10C
/-- Offset of CMD_HOLD. -/
abbrev O.CMD_HOLD : Nat := 0x110
/-- Offset of CMD_CPL_WAIT. -/
abbrev O.CMD_CPL_WAIT : Nat := 0x114
/-- Offset of CMD_REJECT_CNT. -/
abbrev O.CMD_REJECT_CNT : Nat := 0x118
/-- Offset of CMD_TMO_CNT. -/
abbrev O.CMD_TMO_CNT : Nat := 0x11C
/-- Offset of CMD_OVERRUN_CNT. -/
abbrev O.CMD_OVERRUN_CNT : Nat := 0x120
/-- Offset of CMD_CQH_ERR_CNT. -/
abbrev O.CMD_CQH_ERR_CNT : Nat := 0x124
/-- Offset of CMD_ALERT. -/
abbrev O.CMD_ALERT : Nat := 0x128
/-- Offset of ZSQ_OPEN_LIMIT. -/
abbrev O.ZSQ_OPEN_LIMIT : Nat := 0x100
/-- Offset of ZSQ_OPEN_CNT. -/
abbrev O.ZSQ_OPEN_CNT : Nat := 0x104
/-- Offset of ZSQ_ZONE_CNT. -/
abbrev O.ZSQ_ZONE_CNT : Nat := 0x108
/-- Offset of ZSQ_ZONE_ALERT. -/
abbrev O.ZSQ_ZONE_ALERT : Nat := 0x10C
/-- Offset of ZSQ_GRP_SEL. -/
abbrev O.ZSQ_GRP_SEL : Nat := 0x110
/-- Offset of ZSQ_GRP_CFG. -/
abbrev O.ZSQ_GRP_CFG : Nat := 0x114
/-- Offset of ZSQ_GRP_SLOT. -/
abbrev O.ZSQ_GRP_SLOT : Nat := 0x118
/-- Offset of ZSQ_GRP_CMD. -/
abbrev O.ZSQ_GRP_CMD : Nat := 0x130
/-- Offset of ZSQ_GRP_STAT. -/
abbrev O.ZSQ_GRP_STAT : Nat := 0x134
/-- Offset of ZSQ_GRP_STRIPES. -/
abbrev O.ZSQ_GRP_STRIPES : Nat := 0x138
/-- Offset of ZSQ_SPARE_LO. -/
abbrev O.ZSQ_SPARE_LO : Nat := 0x140
/-- Offset of ZSQ_SPARE_HI. -/
abbrev O.ZSQ_SPARE_HI : Nat := 0x144
/-- Offset of ZSQ_LOG_CFG. -/
abbrev O.ZSQ_LOG_CFG : Nat := 0x150
/-- Offset of ZSQ_JRNL_CFG. -/
abbrev O.ZSQ_JRNL_CFG : Nat := 0x154
/-- Offset of ZSQ_SIF. -/
abbrev O.ZSQ_SIF : Nat := 0x158
/-- Offset of ZSQ_GRP_ALERT. -/
abbrev O.ZSQ_GRP_ALERT : Nat := 0x15C
/-- Offset of ZSQ_LOG_SECT_CNT. -/
abbrev O.ZSQ_LOG_SECT_CNT : Nat := 0x170
/-- Offset of ZSQ_FOLD_CNT. -/
abbrev O.ZSQ_FOLD_CNT : Nat := 0x174
/-- Offset of ZSQ_ABANDON_CNT. -/
abbrev O.ZSQ_ABANDON_CNT : Nat := 0x178
/-- Offset of ZSQ_RECLAIM_CNT. -/
abbrev O.ZSQ_RECLAIM_CNT : Nat := 0x17C
/-- Offset of ZSQ_MBR_SEL. -/
abbrev O.ZSQ_MBR_SEL : Nat := 0x180
/-- Offset of ZSQ_MBR_STAT. -/
abbrev O.ZSQ_MBR_STAT : Nat := 0x184
/-- Offset of ZSQ_MBR_CURSOR. -/
abbrev O.ZSQ_MBR_CURSOR : Nat := 0x188
/-- Offset of ZSQ_MBR_START. -/
abbrev O.ZSQ_MBR_START : Nat := 0x18C
/-- Offset of ZSQ_MBR_END. -/
abbrev O.ZSQ_MBR_END : Nat := 0x190
/-- Offset of ZSQ_MBR_CMD. -/
abbrev O.ZSQ_MBR_CMD : Nat := 0x194
/-- Offset of ZSQ_RBD_CFG. -/
abbrev O.ZSQ_RBD_CFG : Nat := 0x198
/-- Offset of ZSQ_RSH_CFG. -/
abbrev O.ZSQ_RSH_CFG : Nat := 0x1A0
/-- Offset of ZSQ_RSH_CMD. -/
abbrev O.ZSQ_RSH_CMD : Nat := 0x1A4
/-- Offset of ZSQ_RSH_STAT. -/
abbrev O.ZSQ_RSH_STAT : Nat := 0x1A8
/-- Offset of ZSQ_RSH_ZONE. -/
abbrev O.ZSQ_RSH_ZONE : Nat := 0x1AC
/-- Offset of ZSQ_RSH_BOUND. -/
abbrev O.ZSQ_RSH_BOUND : Nat := 0x1B0
/-- Offset of ZSQ_RSH_LEFT. -/
abbrev O.ZSQ_RSH_LEFT : Nat := 0x1B4
/-- Offset of ZSQ_LOSS. -/
abbrev O.ZSQ_LOSS : Nat := 0x1B8
/-- Offset of ZSQ_RBD_ALERT. -/
abbrev O.ZSQ_RBD_ALERT : Nat := 0x1BC
/-- Offset of ZSQ_RBD_STRIPE_CNT. -/
abbrev O.ZSQ_RBD_STRIPE_CNT : Nat := 0x1C0
/-- Offset of ZSQ_DEGR_READ_CNT. -/
abbrev O.ZSQ_DEGR_READ_CNT : Nat := 0x1C4
/-- Offset of ZSQ_LOSS_SECT_CNT. -/
abbrev O.ZSQ_LOSS_SECT_CNT : Nat := 0x1C8
/-- Offset of ZSQ_RSH_STRIPE_CNT. -/
abbrev O.ZSQ_RSH_STRIPE_CNT : Nat := 0x1CC
/-- Offset of ZSQ_SEASON_CFG. -/
abbrev O.ZSQ_SEASON_CFG : Nat := 0x1E0
/-- Offset of ZSQ_SEASON_RSV. -/
abbrev O.ZSQ_SEASON_RSV : Nat := 0x1E4
/-- Offset of ZSQ_SEASON_TMG. -/
abbrev O.ZSQ_SEASON_TMG : Nat := 0x1E8
/-- Offset of ZSQ_SEASON. -/
abbrev O.ZSQ_SEASON : Nat := 0x1EC
/-- Offset of ZSQ_SEASON_PWR. -/
abbrev O.ZSQ_SEASON_PWR : Nat := 0x1F0
/-- Offset of ZSQ_SEASON_CMD. -/
abbrev O.ZSQ_SEASON_CMD : Nat := 0x1F4
/-- Offset of ZSQ_SEASON_ALERT. -/
abbrev O.ZSQ_SEASON_ALERT : Nat := 0x1F8
/-- Offset of ZSQ_SPRING_CNT. -/
abbrev O.ZSQ_SPRING_CNT : Nat := 0x1D0
/-- Offset of ZSQ_AUTUMN_CNT. -/
abbrev O.ZSQ_AUTUMN_CNT : Nat := 0x1D4
/-- Offset of ZSQ_WAKE_WAIT_CNT. -/
abbrev O.ZSQ_WAKE_WAIT_CNT : Nat := 0x1D8
/-- Offset of PQE_ID. -/
abbrev O.PQE_ID : Nat := 0x100
/-- Offset of PQE_STAT. -/
abbrev O.PQE_STAT : Nat := 0x104
/-- Offset of PQE_GEN_CNT. -/
abbrev O.PQE_GEN_CNT : Nat := 0x120
/-- Offset of PQE_RECON_CNT. -/
abbrev O.PQE_RECON_CNT : Nat := 0x124
/-- Offset of PQE_UNREC_CNT. -/
abbrev O.PQE_UNREC_CNT : Nat := 0x128
/-- Offset of PQE_VERIFY_CNT. -/
abbrev O.PQE_VERIFY_CNT : Nat := 0x12C
/-- Offset of PQE_MISMATCH_CNT. -/
abbrev O.PQE_MISMATCH_CNT : Nat := 0x130
/-- Offset of PQE_MIB_CNT. -/
abbrev O.PQE_MIB_CNT : Nat := 0x134
/-- Offset of PQE_ALERT. -/
abbrev O.PQE_ALERT : Nat := 0x140
/-- Offset of ECC_CFG. -/
abbrev O.ECC_CFG : Nat := 0x100
/-- Offset of ECC_AFFINITY. -/
abbrev O.ECC_AFFINITY : Nat := 0x104
/-- Offset of ECC_CW_CNT. -/
abbrev O.ECC_CW_CNT : Nat := 0x120
/-- Offset of ECC_BITS_CNT. -/
abbrev O.ECC_BITS_CNT : Nat := 0x124
/-- Offset of ECC_HARD_FAIL_CNT. -/
abbrev O.ECC_HARD_FAIL_CNT : Nat := 0x128
/-- Offset of ECC_SOFT_OK_CNT. -/
abbrev O.ECC_SOFT_OK_CNT : Nat := 0x12C
/-- Offset of ECC_SOFT_FAIL_CNT. -/
abbrev O.ECC_SOFT_FAIL_CNT : Nat := 0x130
/-- Offset of ECC_MISCORR_CNT. -/
abbrev O.ECC_MISCORR_CNT : Nat := 0x134
/-- Offset of ECC_ALERT. -/
abbrev O.ECC_ALERT : Nat := 0x140
/-- Offset of MLX_LADDER. -/
abbrev O.MLX_LADDER : Nat := 0x100
/-- Offset of MLX_STEP_CNT. -/
abbrev O.MLX_STEP_CNT : Nat := 0x120
/-- Offset of MLX_ENC_CNT. -/
abbrev O.MLX_ENC_CNT : Nat := 0x148
/-- Offset of MLX_PATROL_CFG. -/
abbrev O.MLX_PATROL_CFG : Nat := 0x300
/-- Offset of MLX_REFRESH_CFG. -/
abbrev O.MLX_REFRESH_CFG : Nat := 0x304
/-- Offset of MLX_META_CFG. -/
abbrev O.MLX_META_CFG : Nat := 0x308
/-- Offset of MLX_SPARE_CFG. -/
abbrev O.MLX_SPARE_CFG : Nat := 0x30C
/-- Offset of MLX_MED_ALERT. -/
abbrev O.MLX_MED_ALERT : Nat := 0x310
/-- Offset of MLX_PGL_CTRL. -/
abbrev O.MLX_PGL_CTRL : Nat := 0x180
/-- Offset of MLX_PGL_STAT. -/
abbrev O.MLX_PGL_STAT : Nat := 0x184
/-- Offset of MLX_PGL_IDX. -/
abbrev O.MLX_PGL_IDX : Nat := 0x188
/-- Offset of MLX_PGL_MASK_LO. -/
abbrev O.MLX_PGL_MASK_LO : Nat := 0x18C
/-- Offset of MLX_PGL_MASK_HI. -/
abbrev O.MLX_PGL_MASK_HI : Nat := 0x190
/-- Offset of MLX_PGL_DUR. -/
abbrev O.MLX_PGL_DUR : Nat := 0x194
/-- Offset of MLX_PGL_CMD. -/
abbrev O.MLX_PGL_CMD : Nat := 0x198
/-- Offset of MLX_PGL_PBASE_S_LO. -/
abbrev O.MLX_PGL_PBASE_S_LO : Nat := 0x1A0
/-- Offset of MLX_PGL_PBASE_S_HI. -/
abbrev O.MLX_PGL_PBASE_S_HI : Nat := 0x1A4
/-- Offset of MLX_PGL_PBASE_NS. -/
abbrev O.MLX_PGL_PBASE_NS : Nat := 0x1A8
/-- Offset of MLX_PGL_PCYCLE. -/
abbrev O.MLX_PGL_PCYCLE : Nat := 0x1AC
/-- Offset of MLX_PGL_PLEN. -/
abbrev O.MLX_PGL_PLEN : Nat := 0x1B0
/-- Offset of MLX_PGL_ABASE_S_LO. -/
abbrev O.MLX_PGL_ABASE_S_LO : Nat := 0x1C0
/-- Offset of MLX_PGL_ABASE_S_HI. -/
abbrev O.MLX_PGL_ABASE_S_HI : Nat := 0x1C4
/-- Offset of MLX_PGL_ABASE_NS. -/
abbrev O.MLX_PGL_ABASE_NS : Nat := 0x1C8
/-- Offset of MLX_PGL_ACYCLE. -/
abbrev O.MLX_PGL_ACYCLE : Nat := 0x1CC
/-- Offset of MLX_PGL_ALEN. -/
abbrev O.MLX_PGL_ALEN : Nat := 0x1D0
/-- Offset of MLK_CFG. -/
abbrev O.MLK_CFG : Nat := 0x100
/-- Offset of MLK_LINK_STAT. -/
abbrev O.MLK_LINK_STAT : Nat := 0x104
/-- Offset of MLK_SB_CTRL. -/
abbrev O.MLK_SB_CTRL : Nat := 0x108
/-- Offset of MLK_CREDIT. -/
abbrev O.MLK_CREDIT : Nat := 0x10C
/-- Offset of MLK_TMO. -/
abbrev O.MLK_TMO : Nat := 0x110
/-- Offset of MLK_TAGS. -/
abbrev O.MLK_TAGS : Nat := 0x114
/-- Offset of MLK_SERIAL. -/
abbrev O.MLK_SERIAL : Nat := 0x118
/-- Offset of MLK_TX_FRAMES. -/
abbrev O.MLK_TX_FRAMES : Nat := 0x130
/-- Offset of MLK_RX_FRAMES. -/
abbrev O.MLK_RX_FRAMES : Nat := 0x134
/-- Offset of MLK_CRC_ERR_CNT. -/
abbrev O.MLK_CRC_ERR_CNT : Nat := 0x138
/-- Offset of MLK_REPLAY_CNT. -/
abbrev O.MLK_REPLAY_CNT : Nat := 0x13C
/-- Offset of MLK_RETRAIN_CNT. -/
abbrev O.MLK_RETRAIN_CNT : Nat := 0x140
/-- Offset of MLK_CMD_TMO_CNT. -/
abbrev O.MLK_CMD_TMO_CNT : Nat := 0x144
/-- Offset of MLK_LATE_STS_CNT. -/
abbrev O.MLK_LATE_STS_CNT : Nat := 0x148
/-- Offset of MLK_CLAIM_REJ_CNT. -/
abbrev O.MLK_CLAIM_REJ_CNT : Nat := 0x14C
/-- Offset of MLK_TRAIN_FAIL_CNT. -/
abbrev O.MLK_TRAIN_FAIL_CNT : Nat := 0x150
/-- Offset of MLK_ALERT. -/
abbrev O.MLK_ALERT : Nat := 0x160
/-- Offset of SPC_CLAIM. -/
abbrev O.SPC_CLAIM : Nat := 0x100
/-- Offset of SPC_STAT. -/
abbrev O.SPC_STAT : Nat := 0x104
/-- Offset of SPC_PWR. -/
abbrev O.SPC_PWR : Nat := 0x108
/-- Offset of SPC_PG_LO. -/
abbrev O.SPC_PG_LO : Nat := 0x110
/-- Offset of SPC_PG_HI. -/
abbrev O.SPC_PG_HI : Nat := 0x114
/-- Offset of SPC_FAULT_LO. -/
abbrev O.SPC_FAULT_LO : Nat := 0x118
/-- Offset of SPC_FAULT_HI. -/
abbrev O.SPC_FAULT_HI : Nat := 0x11C
/-- Offset of SPC_ALERT. -/
abbrev O.SPC_ALERT : Nat := 0x140
/-- Offset of SPW_CMD. -/
abbrev O.SPW_CMD : Nat := 0x100
/-- Offset of SPW_STAT. -/
abbrev O.SPW_STAT : Nat := 0x104
/-- Offset of SPW_FAULT. -/
abbrev O.SPW_FAULT : Nat := 0x108
/-- Offset of SPW_INS. -/
abbrev O.SPW_INS : Nat := 0x10C
/-- Offset of SPW_RAMP. -/
abbrev O.SPW_RAMP : Nat := 0x110
/-- Offset of SPW_BRK. -/
abbrev O.SPW_BRK : Nat := 0x114
/-- Offset of SPW_RETRY. -/
abbrev O.SPW_RETRY : Nat := 0x118
/-- Offset of SPW_WARN. -/
abbrev O.SPW_WARN : Nat := 0x11C
/-- Offset of SPW_TEMP. -/
abbrev O.SPW_TEMP : Nat := 0x120
/-- Offset of SPW_MODEL. -/
abbrev O.SPW_MODEL : Nat := 0x124
/-- Offset of SPW_MEAS_V. -/
abbrev O.SPW_MEAS_V : Nat := 0x130
/-- Offset of SPW_MEAS_OI. -/
abbrev O.SPW_MEAS_OI : Nat := 0x134
/-- Offset of SPW_MEAS_TP. -/
abbrev O.SPW_MEAS_TP : Nat := 0x138
/-- Offset of SPW_FAULT_CNT. -/
abbrev O.SPW_FAULT_CNT : Nat := 0x140
/-- Offset of SPW_EARLY_CNT. -/
abbrev O.SPW_EARLY_CNT : Nat := 0x144
/-- Offset of SPW_REV_CNT. -/
abbrev O.SPW_REV_CNT : Nat := 0x148
/-- Offset of SPW_PWARN_CNT. -/
abbrev O.SPW_PWARN_CNT : Nat := 0x14C
/-- Offset of SPW_RETRY_CNT. -/
abbrev O.SPW_RETRY_CNT : Nat := 0x150
/-- Offset of SPW_ALERT. -/
abbrev O.SPW_ALERT : Nat := 0x160
/-- Offset of CRY_CFG. -/
abbrev O.CRY_CFG : Nat := 0x100
/-- Offset of CRY_STAT. -/
abbrev O.CRY_STAT : Nat := 0x104
/-- Offset of CRY_HALT_CNT. -/
abbrev O.CRY_HALT_CNT : Nat := 0x120
/-- Offset of CRY_TAG_FAIL_CNT. -/
abbrev O.CRY_TAG_FAIL_CNT : Nat := 0x124
/-- Offset of CRY_ALERT. -/
abbrev O.CRY_ALERT : Nat := 0x140
/-- Offset of CX_STAT. -/
abbrev O.CX_STAT : Nat := 0x100
/-- Offset of CX_JOB_CNT. -/
abbrev O.CX_JOB_CNT : Nat := 0x120
/-- Offset of CX_MIB_CNT. -/
abbrev O.CX_MIB_CNT : Nat := 0x124
/-- Offset of CX_KEYSW_CNT. -/
abbrev O.CX_KEYSW_CNT : Nat := 0x128
/-- Offset of FAB_ARB_SEL. -/
abbrev O.FAB_ARB_SEL : Nat := 0x100
/-- Offset of FAB_REQ_CFG. -/
abbrev O.FAB_REQ_CFG : Nat := 0x104
/-- Offset of FAB_REQ_MAXW. -/
abbrev O.FAB_REQ_MAXW : Nat := 0x108
/-- Offset of FAB_REQ_ALARM. -/
abbrev O.FAB_REQ_ALARM : Nat := 0x10C
/-- Offset of FAB_REQ_GRANTS. -/
abbrev O.FAB_REQ_GRANTS : Nat := 0x110
/-- Offset of FAB_REQ_PREEMPT. -/
abbrev O.FAB_REQ_PREEMPT : Nat := 0x114
/-- Offset of FAB_WAIT_REQ. -/
abbrev O.FAB_WAIT_REQ : Nat := 0x118
/-- Offset of FAB_ALERT. -/
abbrev O.FAB_ALERT : Nat := 0x140
/-- Offset of DMA_RING_LO. -/
abbrev O.DMA_RING_LO : Nat := 0x100
/-- Offset of DMA_RING_HI. -/
abbrev O.DMA_RING_HI : Nat := 0x104
/-- Offset of DMA_RING_SIZE. -/
abbrev O.DMA_RING_SIZE : Nat := 0x108
/-- Offset of DMA_TAIL. -/
abbrev O.DMA_TAIL : Nat := 0x10C
/-- Offset of DMA_HEAD. -/
abbrev O.DMA_HEAD : Nat := 0x110
/-- Offset of DMA_STAT. -/
abbrev O.DMA_STAT : Nat := 0x114
/-- Offset of DMA_CTRL. -/
abbrev O.DMA_CTRL : Nat := 0x118
/-- Offset of DMA_DESC_CNT. -/
abbrev O.DMA_DESC_CNT : Nat := 0x120
/-- Offset of DMA_BAD_CNT. -/
abbrev O.DMA_BAD_CNT : Nat := 0x124
/-- Offset of DMA_MIB_CNT. -/
abbrev O.DMA_MIB_CNT : Nat := 0x128
/-- Offset of DMA_ALERT. -/
abbrev O.DMA_ALERT : Nat := 0x140
/-- Offset of DDR_CFG. -/
abbrev O.DDR_CFG : Nat := 0x100
/-- Offset of DDR_STAT. -/
abbrev O.DDR_STAT : Nat := 0x104
/-- Offset of DDR_SCRUB. -/
abbrev O.DDR_SCRUB : Nat := 0x108
/-- Offset of DDR_SCRUB_POS. -/
abbrev O.DDR_SCRUB_POS : Nat := 0x10C
/-- Offset of DDR_CE_CNT. -/
abbrev O.DDR_CE_CNT : Nat := 0x120
/-- Offset of DDR_UE_CNT. -/
abbrev O.DDR_UE_CNT : Nat := 0x124
/-- Offset of DDR_SCRUB_FIX_CNT. -/
abbrev O.DDR_SCRUB_FIX_CNT : Nat := 0x128
/-- Offset of DDR_PASS_CNT. -/
abbrev O.DDR_PASS_CNT : Nat := 0x12C
/-- Offset of DDR_ALERT. -/
abbrev O.DDR_ALERT : Nat := 0x140
/-- Offset of MRM_CFG. -/
abbrev O.MRM_CFG : Nat := 0x100
/-- Offset of MRM_STAT. -/
abbrev O.MRM_STAT : Nat := 0x104
/-- Offset of MRM_CE_CNT. -/
abbrev O.MRM_CE_CNT : Nat := 0x120
/-- Offset of MRM_UE_CNT. -/
abbrev O.MRM_UE_CNT : Nat := 0x124
/-- Offset of MRM_PERM_CNT. -/
abbrev O.MRM_PERM_CNT : Nat := 0x128
/-- Offset of MRM_WRITE_MIB_CNT. -/
abbrev O.MRM_WRITE_MIB_CNT : Nat := 0x12C
/-- Offset of MRM_ALERT. -/
abbrev O.MRM_ALERT : Nat := 0x140
/-- Offset of SVP_LINK. -/
abbrev O.SVP_LINK : Nat := 0x100
/-- Offset of SVP_CPL_TMO. -/
abbrev O.SVP_CPL_TMO : Nat := 0x104
/-- Offset of SVP_L1_CFG. -/
abbrev O.SVP_L1_CFG : Nat := 0x108
/-- Offset of SVP_OB_BASE. -/
abbrev O.SVP_OB_BASE : Nat := 0x10C
/-- Offset of SVP_W0_IDX. -/
abbrev O.SVP_W0_IDX : Nat := 0x110
/-- Offset of SVP_W0_ENTRY. -/
abbrev O.SVP_W0_ENTRY : Nat := 0x114
/-- Offset of SVP_W2_IDX. -/
abbrev O.SVP_W2_IDX : Nat := 0x118
/-- Offset of SVP_W2_BASE_LO. -/
abbrev O.SVP_W2_BASE_LO : Nat := 0x11C
/-- Offset of SVP_W2_BASE_HI. -/
abbrev O.SVP_W2_BASE_HI : Nat := 0x120
/-- Offset of SVP_W2_CTRL. -/
abbrev O.SVP_W2_CTRL : Nat := 0x124
/-- Offset of SVP_IMAP_IDX. -/
abbrev O.SVP_IMAP_IDX : Nat := 0x130
/-- Offset of SVP_IMAP. -/
abbrev O.SVP_IMAP : Nat := 0x134
/-- Offset of SVP_EOI. -/
abbrev O.SVP_EOI : Nat := 0x138
/-- Offset of SVP_SWI. -/
abbrev O.SVP_SWI : Nat := 0x13C
/-- Offset of SVP_SUBSYS. -/
abbrev O.SVP_SUBSYS : Nat := 0x140
/-- Offset of SVP_UR_CNT. -/
abbrev O.SVP_UR_CNT : Nat := 0x160
/-- Offset of SVP_CA_CNT. -/
abbrev O.SVP_CA_CNT : Nat := 0x164
/-- Offset of SVP_CPL_TMO_CNT. -/
abbrev O.SVP_CPL_TMO_CNT : Nat := 0x168
/-- Offset of SVP_LATE_CPL. -/
abbrev O.SVP_LATE_CPL : Nat := 0x16C
/-- Offset of SVP_UNEXP_CPL_CNT. -/
abbrev O.SVP_UNEXP_CPL_CNT : Nat := 0x170
/-- Offset of SVP_FLR_CNT. -/
abbrev O.SVP_FLR_CNT : Nat := 0x174
/-- Offset of SVP_L1_CNT. -/
abbrev O.SVP_L1_CNT : Nat := 0x178
/-- Offset of SVP_MSIX_CNT. -/
abbrev O.SVP_MSIX_CNT : Nat := 0x17C
/-- Offset of SVP_ALERT. -/
abbrev O.SVP_ALERT : Nat := 0x180
/-- Offset of PMT_CFG. -/
abbrev O.PMT_CFG : Nat := 0x100
/-- Offset of PMT_SEED. -/
abbrev O.PMT_SEED : Nat := 0x104
/-- Offset of PMT_FILTER. -/
abbrev O.PMT_FILTER : Nat := 0x108
/-- Offset of PMT_RING_LO. -/
abbrev O.PMT_RING_LO : Nat := 0x10C
/-- Offset of PMT_RING_HI. -/
abbrev O.PMT_RING_HI : Nat := 0x110
/-- Offset of PMT_WR. -/
abbrev O.PMT_WR : Nat := 0x114
/-- Offset of PMT_RD. -/
abbrev O.PMT_RD : Nat := 0x118
/-- Offset of PMT_INFLIGHT. -/
abbrev O.PMT_INFLIGHT : Nat := 0x11C
/-- Offset of PMT_GLOBAL. -/
abbrev O.PMT_GLOBAL : Nat := 0x120
/-- Offset of PMT_TAG_CNT. -/
abbrev O.PMT_TAG_CNT : Nat := 0x130
/-- Offset of PMT_SKIP_CNT. -/
abbrev O.PMT_SKIP_CNT : Nat := 0x134
/-- Offset of PMT_FULL_CNT. -/
abbrev O.PMT_FULL_CNT : Nat := 0x138
/-- Offset of PMT_ABORT_CNT. -/
abbrev O.PMT_ABORT_CNT : Nat := 0x13C
/-- Offset of PMT_ALERT. -/
abbrev O.PMT_ALERT : Nat := 0x140
/-- Offset of MGT_CFG. -/
abbrev O.MGT_CFG : Nat := 0x100
/-- Offset of MGT_ROM_FLAGS. -/
abbrev O.MGT_ROM_FLAGS : Nat := 0x104
/-- Offset of MGT_SNAP_IDX. -/
abbrev O.MGT_SNAP_IDX : Nat := 0x108
/-- Offset of MGT_SNAP_DATA. -/
abbrev O.MGT_SNAP_DATA : Nat := 0x10C
/-- Offset of MGT_SNAP_CTRL. -/
abbrev O.MGT_SNAP_CTRL : Nat := 0x110
/-- Offset of MGT_CAUSE. -/
abbrev O.MGT_CAUSE : Nat := 0x114
/-- Offset of MGT_CAUSE_SET. -/
abbrev O.MGT_CAUSE_SET : Nat := 0x118
/-- Offset of MGT_XFER_CNT. -/
abbrev O.MGT_XFER_CNT : Nat := 0x120
/-- Offset of MGT_NACK_CNT. -/
abbrev O.MGT_NACK_CNT : Nat := 0x124
/-- Offset of MGT_TMO_CNT. -/
abbrev O.MGT_TMO_CNT : Nat := 0x128
/-- Offset of MGT_ARA_CNT. -/
abbrev O.MGT_ARA_CNT : Nat := 0x12C
/-- Offset of MGT_ALERT. -/
abbrev O.MGT_ALERT : Nat := 0x140

end Sys2Proof.Machine
end

