-- ==== Sys2Proof/Machine/Parts/Net.lean ====
section
/-! DEFINITION. The state of the network side: sub-ports, time base and ingress (chapter 06), egress schedulers and gate
list engines (07). Every default below is the value after reset. -/
namespace Sys2Proof.Machine

/-- The three colours of the policers (R168). -/
inductive Colour | green | yellow | red
  deriving DecidableEq, Repr

/-- The transmit timestamp mark of a frame that a control core sends (R165). -/
inductive TxMark
  | none
  | twoStep (msgType seq : Nat)
  | oneStep (msgType seq : Nat)
  deriving DecidableEq, Repr

/-- A frame held in the shared buffer (R172, R173). -/
structure QFrame where
  /-- length by R152 in bytes -/
  len : Nat
  cls : Nat := 0
  colour : Colour := .green
  /-- sub-port index s it came from; none for frames of the transport engines and control cores -/
  src : Option Nat := none
  /-- destination QP of a frame steered to a transport engine (R167) -/
  qpn : Nat := 0
  /-- marked CE on admission (R173) -/
  ce : Bool := false
  /-- device time in ns of its admission (R192); its position in `frames` is its order -/
  enqNs : Nat := 0
  mark : TxMark := .none
  /-- held once by the guard test, already counted (R190) -/
  heldOnce : Bool := false
  deriving DecidableEq, Repr

/-- The frame in transmission on a sub-port (R156, R190). -/
structure TxFrame where
  queue : Nat
  endTick : Tick
  /-- its queue's gate closed while it was sent: counted once (R190) -/
  overrun : Bool := false
  deriving DecidableEq, Repr

/-- One Ethernet sub-port (R149 to R157). -/
structure SubPort where
  /-- link up, PCS aligned, auto-negotiation done: NET_LINK (R150); reset 0 -/
  up : Bool := false
  aligned : Bool := false
  anDone : Bool := false
  /-- received PAUSE: stopped until this tick (R156) -/
  pausedTill : Option Tick := none
  /-- received PFC: per priority, stopped until this tick (R156) -/
  prioTill : Tab Tick := .empty
  /-- classes whose pause has been sent and not ended, with the next repeat (R157) -/
  xoff : Tab Tick := .empty
  /-- pause frames ready to go out ahead of every queued frame: (class or none for PAUSE, quanta) (R157) -/
  pauseOut : List (Option Nat × Nat) := []
  /-- frame in transmission -/
  tx : Option TxFrame := none
  /-- the counters at 0x130 to 0x154, by offset (R175) -/
  counts : Tab Nat := .empty
  deriving DecidableEq, Repr

/-- One NET block: what it read when it was enabled (R150), and its sub-ports. -/
structure Port where
  /-- MODE in effect (R150); reset 0 -/
  mode : Nat := 0
  mac : Nat := 0
  autoneg : Bool := false
  training : Bool := false
  subs : Tab SubPort := .empty
  deriving DecidableEq, Repr

/-- An entry of the TXTS FIFO (R165). -/
structure TxStamp where
  sub : Nat
  msgType : Nat
  seq : Nat
  sec : Nat
  ns : Nat
  deriving DecidableEq, Repr

/-- What one requester latched from TIME_NS (R159). -/
structure TimeLatch where
  sLo : Word
  sHi : Word
  tLo : Word
  tHi : Word
  deriving DecidableEq, Repr

/-- The time base (R158 to R165). -/
structure TimeBase where
  /-- 1.25 ns periods since the start of the run (R4): the model's clock; reset 0 -/
  now : Tick := 0
  /-- TIME clock cycles when its divider reached 8: the tick count of R158 counts from there (R419); none before -/
  base : Option Nat := none
  /-- device seconds (48 bits), nanoseconds and 2^-32 ns fraction (R158); reset 0 (R161) -/
  sec : Nat := 0
  ns : Nat := 0
  frac : Nat := 0
  /-- TIME_FREQ in effect, two's complement 2^-16 ppm (R158, R160); reset 0 -/
  freq : Int := 0
  /-- TIME_STAT2.SET (R161); reset 0 -/
  isSet : Bool := false
  /-- values latched per requester id (R159) -/
  latches : Tab TimeLatch := .empty
  /-- last 1PPS capture, PPS_VALID and OVERRUN (R162); reset 0 -/
  ppsSec : Nat := 0
  ppsNs : Nat := 0
  ppsValid : Bool := false
  ppsOverrun : Bool := false
  /-- an edge arrived less than 100 ns ago: its time (seconds, ns) and tick (R162) -/
  ppsEdge : Option (Nat × Nat × Tick) := none
  /-- TIME_PPS_OUT is high until this tick (R163) -/
  ppsOut : Option Tick := none
  /-- TXTS FIFO, oldest first (R165), and the entry last popped -/
  txts : List TxStamp := []
  popped : TxStamp := ⟨0, 0, 0, 0, 0⟩
  deriving DecidableEq, Repr

/-- One policer (R168 to R171). Bucket levels are in bits times 10^9 to carry fractions exactly. -/
structure Policer where
  en : Bool := false
  aware : Bool := false
  rfc4115 : Bool := false
  couple : Bool := false
  redDrop : Bool := false
  cir : Nat := 0
  cbs : Nat := 0
  pir : Nat := 0
  pbs : Nat := 0
  /-- tokens of the committed and of the excess or peak bucket, in units of 1/800 bit -/
  cTok : Nat := 0
  pTok : Nat := 0
  /-- tick of the last refill -/
  last : Tick := 0
  green : Nat := 0
  yellow : Nat := 0
  redCount : Nat := 0
  deriving DecidableEq, Repr

/-- One colour set of a WRED profile (R174). -/
structure WredSet where
  en : Bool := false
  min : Nat := 0
  max : Nat := 0
  wexp : Nat := 0
  maxp : Nat := 0
  deriving DecidableEq, Repr

/-- One SWC queue (R172 to R174). The average carries 16 fraction bits. -/
structure SwcQueue where
  frames : List QFrame := []
  avg : Nat := 0
  profile : Nat := 0
  /-- SWC_QPROF.LIMIT, units of 8 cells; reset 0x4000 -/
  limit : Nat := 0x4000
  deriving DecidableEq, Repr

/-- The internal switch (R166 to R174). -/
structure Switch where
  /-- queues 0 to 191 that are not in their reset state (R172) -/
  queues : Tab SwcQueue := .empty
  /-- WRED colour sets by profile × 4 + colour (R174) -/
  wred : Tab WredSet := .empty
  deriving DecidableEq, Repr

/-- A token bucket shaper (R182, R183): values as stored, values applied at the last refill boundary, level in bits
and its 16-bit fraction. -/
structure Shaper where
  sEn : Bool := false
  sRate : Nat := 0
  sBurst : Nat := 0x4000
  en : Bool := false
  rate : Nat := 0
  burst : Nat := 0x4000
  level : Int := 0x4000 * 8
  frac : Nat := 0
  deriving DecidableEq, Repr

/-- Egress queue state of a scheduler (R177 to R183). -/
structure EgressQueue where
  /-- EGS_QCFG.PRIO; reset q mod 8 -/
  prio : Nat
  /-- EGS_QCFG.WEIGHT; reset 1 -/
  weight : Nat := 1
  shaper : Shaper := {}
  /-- finish tag of the head frame while the queue is eligible (R179) -/
  tag : Option Nat := none
  /-- finish tag of the last frame sent; reset 0 -/
  fLast : Nat := 0
  deriving DecidableEq, Repr

/-- One entry of a gate list: mask and duration in ns (R184). -/
structure GateEntry where
  mask : Nat := 0
  dur : Nat := 0
  deriving DecidableEq, Repr

/-- A gate control list (R184). -/
structure GateList where
  baseS : Nat := 0
  baseNs : Nat := 0
  cycle : Nat := 1000000
  len : Nat := 1
  entries : Tab GateEntry := .empty
  deriving DecidableEq, Repr

/-- A gate list engine: an EGS's lists, or a link cluster's program gate list (R184 to R191, R229). -/
structure GateEngine where
  active : GateList := { cycle := 0, len := 0 }
  pending : GateList := {}
  /-- a list is active (GCL_STAT.ACTIVE); reset 0 for EGS -/
  isActive : Bool := false
  /-- SWAP and SWAP_PENDING (R186); reset 0 -/
  swapPending : Bool := false
  /-- device time in ns at which the requested swap takes place (R186) -/
  swapAt : Nat := 0
  /-- device time in ns at which the current cycle series starts (R188) -/
  series : Nat := 0
  /-- entry of the active list now running (GCL_STAT.ENTRY); reset 0 -/
  entry : Nat := 0
  deriving DecidableEq, Repr

/-- One egress scheduler (R176 to R194). -/
structure Egress where
  /-- queue state; a queue not listed is in its reset state -/
  queues : Tab EgressQueue := .empty
  /-- sub-port shapers 0 to 3 (R182) -/
  subShapers : Tab Shaper := .empty
  /-- virtual time of each sub-port (R179) -/
  vtime : Tab Nat := .empty
  gates : GateEngine := {}
  /-- number of the last refill boundary applied to the shapers (R183) -/
  refilled : Nat := 0
  /-- tick count of the last histogram sample (R192) -/
  sampledAt : Option Nat := none
  /-- histogram bins: depth at q × 16 + b, sojourn likewise (R192) -/
  depth : Tab Nat := .empty
  sojourn : Tab Nat := .empty
  /-- the 16 snapshot bins EGS_HIST_BIN (R193) -/
  snap : Tab Nat := .empty
  deriving DecidableEq, Repr

end Sys2Proof.Machine
end

