-- ==== Sys2Proof/Machine/Parts/Out.lean ====
section
/-! DEFINITION. What the block sends to the outside world, as the model records it. -/
namespace Sys2Proof.Machine

/-- One thing that the block sends out. `State.outs` holds them, newest first: the record is the model's own. -/
inductive Out
  /-- access-error response to a requester of the register bus or the fabric (R44) -/
  | accessError (req addr : Nat)
  /-- value that a register read returns (R46) -/
  | readValue (req addr : Nat) (v : Word)
  /-- entry k in the host ring (Table 4-5): CID, STATUS, TYPE byte with PHASE, SQ_HEAD, CREDIT, RESULT -/
  | entry (conn k cid status typ sqHead credit result : Nat)
  /-- XRDY_WINDOW entry k (Table 4-8): CID, INDEX, TYPE byte with PHASE, WKEY, LEN -/
  | windowEntry (conn k cid index typ key len : Nat)
  /-- completion entry discarded: the connection can no longer send (R125, R143) -/
  | entryDropped (conn cid : Nat)
  /-- RDMA WRITE of data to a host buffer (R100) -/
  | rdmaWrite (conn cid key addr : Nat) (data : List Byte)
  /-- RDMA READ of a host buffer (R72, R109) -/
  | rdmaRead (conn cid key addr len : Nat)
  /-- RDMA FLUSH of a host buffer (R101) -/
  | rdmaFlush (conn cid key addr len : Nat)
  /-- acknowledgement up to a PSN (R144) -/
  | ack (conn psn : Nat)
  /-- negative acknowledgement: PSN and kind 0 sequence, 1 invalid request, 2 remote access (R118, R139, R144) -/
  | nak (conn psn kind : Nat)
  /-- RDMA READ response (R138) and FLUSH response (R135) -/
  | readResponse (conn psn : Nat) (data : List Byte)
  | flushResponse (conn psn : Nat)
  /-- retransmission from a PSN: so many packets (R146) -/
  | retransmit (conn psn count : Nat)
  /-- congestion notification packet (R145) -/
  | cnp (conn : Nat)
  /-- connection management: REP with its private data fields, REJ with its code, DREQ, DREP (R119 to R125) -/
  | rep (conn qpn grant ringKey ctagKey claim : Nat) (isActive isSealed isOrdered : Bool) (psn : Nat)
  | rej (code : Nat)
  | dreq (conn : Nat)
  | drep (conn : Nat)
  /-- PAUSE (no class) or PFC frame of a sub-port, with its quanta (R157) -/
  | pause (port sub : Nat) (cls : Option Nat) (quanta : Nat)
  /-- frame that leaves a sub-port from a queue (R177), and its one-step timestamp where it carries one (R165) -/
  | frame (port sub queue len : Nat)
  | oneStep (port sub seq ns : Nat)
  /-- frame delivered to the control cores with its receive timestamp (R164, R167) -/
  | toCores (port sub len ns : Nat)
  /-- TIME_PPS_OUT pin (R163) -/
  | ppsOut (high : Bool)
  /-- slot link frames: command, write data, ACK, NAK, credit, LINK_PARAM, replayed frame (R202 to R208) -/
  | linkCmd (slot tag op : Nat) (a : FlashAddr) (arg claim : Nat)
  | linkAck (slot seq : Nat)
  | linkNak (slot seq : Nat)
  | linkCredit (slot data sts : Nat)
  | linkParam (slot : Nat)
  | linkReplay (slot seq : Nat)
  | linkTrain (slot : Nat)
  /-- MRST_N and PWARN_N pins of a slot (R207, R314) -/
  | mrst (slot : Nat) (asserted : Bool)
  | pwarn (slot : Nat) (asserted : Bool)
  /-- hot-swap gate of a slot, on or off, and a feed's FET (R305, R309) -/
  | gate (slot : Nat) (on : Bool)
  | feedFet (slot : Nat) (feedB on : Bool)
  /-- all gate pins of the slot power die go high-impedance (R452, R455) -/
  | gatesFloat
  /-- slot power cross link: order forwarded with its claim, or claim forwarded (R352) -/
  | spxOrder (slot op claim : Nat)
  | spxClaim (claim : Nat)
  /-- pair link frames and wire words (R342, R343) -/
  | heartbeat (claim : Nat) (role : Role) (epoch lastSeq crc drill : Nat)
  | wireWord (w : Word)
  | record (claim seq : Nat)
  | mirrorAck (claim seq : Nat)
  | sync (claim seq : Nat)
  | handover (claim seq : Nat)
  | pairZeroize (wire : Bool)
  | pairZack (wire : Bool)
  | secure (claim : Nat)
  | pairAck (seq : Nat)
  | pairNak (seq : Nat)
  /-- claim broadcast: READ_STATUS to die 0 of channel 0 on a slot link (R358, R356) -/
  | claimProbe (slot claim : Nat)
  /-- status and response of a security request (R321) -/
  | secStatus (status : Nat) (response : List Nat)
  /-- completions of the service port: data, UR or CA (R399, R401, R402) -/
  | cplData (data : List Word)
  | cplBytes (data : List Byte)
  | cplUr
  | cplCa
  | cplOk
  /-- Configuration Request Retry Status (R407) -/
  | cplRetry
  /-- outbound memory write or read TLP (R403) -/
  | memWrite (addr : Nat) (data : List Byte)
  | memRead (addr len tag : Nat)
  /-- outbound read data delivered to a control core (R403, R404) -/
  | toCore (core : Nat) (data : List Byte)
  /-- MSI-X message of a vector (R410) -/
  | msix (vector : Nat)
  /-- SVP_CLKREQ_N pin (R409) -/
  | clkreq (asserted : Bool)
  /-- SMBus: bytes returned with the PEC where asked, or no acknowledgement (R433 to R437) -/
  | smb (data : List Byte) (pec : Option Byte)
  | smbNack
  | alertPin (asserted : Bool)
  /-- data shifted out on TDO (R463), and outputs driven or floating -/
  | tdo (bits : List Bool)
  | pinsDriven (bits : List Bool)
  | pinsFloat
  deriving DecidableEq, Repr

end Sys2Proof.Machine
end

