-- ==== Sys2Proof/Machine/Parts/Service.lean ====
section
/-! DEFINITION. The state of the PCIe service port SVP (chapter 15). Every default below is the value after reset. -/
namespace Sys2Proof.Machine

/-- Who issued an outbound request (R403): a control core, or a DMA channel. -/
inductive OutReq | core (id : Nat) | dma (chan : Nat)
  deriving DecidableEq, Repr

/-- An outbound read tag (R403 to R405): outstanding until a deadline, or quarantined until a tick. -/
inductive TagUse
  | reading (by_ : OutReq) (addr len got : Nat) (deadline : Tick)
  | quarantine (till : Tick)
  deriving DecidableEq, Repr

/-- A BAR0 entry (R398): page count and base page. -/
structure W0 where
  base : Nat
  pages : Nat
  deriving DecidableEq, Repr

/-- A BAR2 entry (R401): DRAM base, size in bytes, writable. -/
structure W2 where
  base : Nat := 0
  /-- size in 4 KiB units as stored (SVP_W2_CTRL.SIZE); reset 0 -/
  size : Nat := 0
  write : Bool := false
  valid : Bool := false
  deriving DecidableEq, Repr

/-- One MSI-X vector (R410): address, data, mask, pending bit, level of its cause and edge armed. -/
structure Vector where
  addr : Nat := 0
  data : Word := 0#32
  /-- vector control mask bit; reset 1 (PCI Local Bus default) -/
  masked : Bool := true
  pending : Bool := false
  cause : Bool := false
  deriving DecidableEq, Repr

/-- The service port (R395 to R412). -/
structure Service where
  /-- Command register: memory space and bus master enables (R406); reset 0 -/
  mse : Bool := false
  bme : Bool := false
  /-- configuration registers written by software, by dword offset: BARs, Device Control, Link Control, power state,
  L1 substates, AER masks (R396); a dword not listed holds its default -/
  config : Tab Word := .empty
  /-- D3hot (R397); reset D0 -/
  d3 : Bool := false
  /-- MSI-X enable and function mask (R410); reset 0 -/
  msixEn : Bool := false
  msixMask : Bool := false
  vectors : Tab Vector := .empty
  /-- AER status bits (uncorrectable), sticky (R402, R407); reset 0 -/
  aer : Word := 0#32
  /-- header of the first error logged by AER (R402), as its address -/
  aerHdr : Nat := 0
  /-- BAR0 table entries that are VALID (R398) -/
  w0 : Tab W0 := .empty
  /-- BAR2 table entries (R401); low and high halves written through the index registers -/
  w2 : Tab W2 := .empty
  /-- base staged per entry by SVP_W2_BASE_LO and _HI -/
  w2base : Tab Nat := .empty
  /-- base and page count of an invalid BAR0 entry, as last written -/
  w0last : Tab (Nat × Nat) := .empty
  /-- SVP_IMAP by page number: the stored word (R410) -/
  imap : Tab Word := .empty
  /-- outbound tags in use (R403, R404) -/
  tags : Tab TagUse := .empty
  /-- tags that an FLR freed while their reads were outstanding (R407); reset none -/
  flrTags : List Nat := []
  /-- FLR in progress (R407) -/
  flr : Bool := false
  /-- SVP_PERST_N asserted (R408); reset: asserted -/
  perst : Bool := true
  /-- data link up with speed and width (SVP_LINK); reset down -/
  up : Bool := false
  speed : Nat := 0
  width : Nat := 0
  /-- in L1, CLKREQ_N asserted (R409); reset L0, asserted -/
  l1 : Bool := false
  clkreq : Bool := true
  deriving DecidableEq, Repr

end Sys2Proof.Machine
end

