-- ==== Sys2Proof/Machine/State.lean ====
section
/-! DEFINITION. The state of the block as plain data: every piece of state the manual gives the 4896, the queue of
waiting commands, and three fields of the model's own (what was sent, how many free values were drawn, the clock).
The default of every field is its value after reset. -/
namespace Sys2Proof.Machine

/-- Why a step ends in a fault. -/
inductive Fault
  /-- raised by a command that names a unit the part does not have (a slot above 47, a connection above 4,095, a group
  above 11, an arbiter, a port): no such event can happen. Safe: the model stops. -/
  | noSuchUnit (what : String) (index : Nat)
  deriving DecidableEq, Repr

/-- Why a step is refused. -/
inductive Refusal
  /-- raised by exec's arm of a command whose meaning is not written. Safe: the model stops. -/
  | notModelled (mnemonic : String)
  deriving DecidableEq, Repr
/-- What one requester latched by reading the low half of a 64-bit counter (R47, R441). -/
structure HalfLatch where
  cyc : Option Word := none
  /-- high halves of chained counter pairs 0 to 3 -/
  pmc : Tab Word := .empty
  deriving DecidableEq, Repr

/-- The common header of a page (Table 2-2). -/
structure Page where
  /-- PG_CTRL.ENABLE as last written (R26, R27) -/
  enable : Bool := false
  /-- PG_CTRL.QUIESCE, SOFT_RESET and LOCK_REQ; reset 0 -/
  quiesce : Bool := false
  softReset : Bool := false
  lockReq : Bool := false
  /-- PG_STAT.ENABLED; an enable of R26 in progress -/
  enabled : Bool := false
  enabling : Bool := false
  /-- PG_STAT.SHUTDOWN_ACTIVE, REENABLE_PENDING, FAULT, QUIESCED; reset 0 -/
  shutdown : Bool := false
  reenable : Bool := false
  fault : Bool := false
  quiesced : Bool := false
  /-- INT_RAW, INT_EN (R36); reset 0 -/
  intRaw : Word := 0#32
  intEn : Word := 0#32
  /-- first error: requester, code, address; and ERR_COUNT (R39); reset 0 -/
  errReq : Nat := 0
  errCode : Nat := 0
  errAddr : Nat := 0
  errCount : Nat := 0
  /-- PMC_CTRL, PMC_SEL, PMC_CNT, PMC_OVF (R440 to R442); reset 0; a counter not listed is 0 -/
  pmcCtrl : Word := 0#32
  pmcSel : Tab Nat := .empty
  pmcCnt : Tab Nat := .empty
  pmcOvf : Nat := 0
  /-- cycles of the page's clock when its power domain came on: CYC counts from there (R47); reset 0 -/
  cycBase : Nat := 0
  /-- latched halves per requester id -/
  latches : Tab HalfLatch := .empty
  /-- PG_LOCK (R41); reset 0 -/
  lock : Bool := false
  deriving DecidableEq, Repr

/-- A job of a PQE instance (R19, R237): parity of a stripe in flight, or the reconstruction of a row job. -/
inductive PqeJob
  | parity (stripe : Nat)
  | reconstruct (job : Nat)
  deriving DecidableEq, Repr

/-- The whole machine. -/
structure State where
  /-- commands waiting, first in, first out; reset empty -/
  pending : List Instr := []
  /-- what the block has sent, newest first: the model's own record; reset empty -/
  outs : List Out := []
  /-- free values drawn so far: the model's own counter; DESIGN CHOICE 0 at reset (log entry 2) -/
  draws : Nat := 0
  /-- time base and the model's clock (R4, R158 to R165) -/
  time : TimeBase := {}
  /-- page headers by page number; a page not listed is at its reset values (R25, R50) -/
  pages : Tab Page := .empty
  /-- block registers by page × 4096 + offset; one not listed is at its reset value -/
  regs : Tab Word := .empty
  /-- namespaces by id; one not listed is UNUSED (R53) -/
  namespaces : Tab Namespace := .empty
  /-- zones by namespace × 2^20 + index; one not listed is EMPTY (R57) -/
  zones : Tab Zone := .empty
  /-- group stripes of the extent map, by group × 2^32 + number (R11, R233) -/
  stripes : Tab Stripe := .empty
  /-- stripes in flight: folding, by the same key (R242, R245) -/
  folds : Tab Fold := .empty
  /-- stripe buffers of open zones, by zone key (R241) -/
  buffers : Tab StripeBuf := .empty
  /-- interim log copies of a sector: zone key × 2^24 + sector (R239) -/
  logMap : Tab (List Place) := .empty
  /-- commands accepted and not completed, by acceptance number (R83 to R112) -/
  commands : Tab Command := .empty
  /-- controller-wide acceptance order (R92); reset 0 -/
  accepted : Nat := 0
  /-- rows being reconstructed, by job number, and the next number (R236); reset empty, 0 -/
  rowJobs : Tab RowJob := .empty
  rowSeq : Nat := 0
  /-- codeword sequence of Table 8-2 (SEQ); reset 0 -/
  cwSeq : Nat := 0
  /-- error log, newest first (R108); reset empty -/
  errorLog : List LogEntry := []
  /-- health log records of the ROM, newest first (R286); reset empty -/
  healthLog : List Nat := []
  /-- connections by number; one not listed is FREE (R124) -/
  conns : Tab Conn := .empty
  /-- region table by index; one not listed is FREE with generation 1 (R140) -/
  regions : Tab Region := .empty
  /-- transport engines XPT0 to XPT3 (R126 to R134) -/
  engines : Tab Engine := .empty
  /-- packets parked by connection while its context is fetched, oldest first (R132, R133) -/
  parked : Tab (List Instr) := .empty
  /-- NET0 and NET1 (R149 to R157) -/
  ports : Tab Port := .empty
  /-- internal switch, policers by index, egress schedulers by port (R166 to R195) -/
  switch : Switch := {}
  policers : Tab Policer := .empty
  egress : Tab Egress := .empty
  /-- program gate list engines of MLX0 to MLX5 (R229) -/
  progGates : Tab GateEngine := .empty
  /-- modules and slot links by slot (R196 to R210) -/
  modules : Tab Module := .empty
  /-- block tables of modules that have left their slot, by serial, newest first, at most 256 (R277); reset empty -/
  history : List (List Byte × Tab EraseBlock) := []
  /-- slot links by slot; a link not listed is DOWN (R201) -/
  links : Tab Link := .empty
  /-- read-retry climbs and codewords waiting for decode (R19, R211, R212) -/
  climbs : List Climb := []
  decodes : List DecodeJob := []
  /-- stripe groups 0 to 11 that are defined (R230) -/
  groups : Tab Group := .empty
  /-- PQE instances running, and queued jobs (R237) -/
  pqeRun : Tab PqeJob := .empty
  pqeQueue : List PqeJob := []
  /-- bytes of input processed by each instance, below one MiB, for PQE_MIB_CNT; reset 0 -/
  pqeBytes : Tab Nat := .empty
  /-- running reshape, and RESULT of the last (R279) -/
  reshape : Option Reshape := none
  reshapeResult : Nat := 0
  /-- loss log, newest first (R276) -/
  losses : List Loss := []
  /-- GEN of the loss log header, by namespace (Table 10-3); reset 0 -/
  lossGen : Tab Nat := .empty
  /-- MRAM journal since the last checkpoint, newest first, and the sequence of the last record (R224); reset 0 -/
  journal : List JournalRecord := []
  journalSeq : Nat := 0
  /-- slot power channels by slot, and the slot power die (R303 to R316) -/
  channels : Tab Channel := .empty
  die : PowerDie := {}
  /-- wake requests in order of arrival (R298); reset 0 -/
  wakeSeq : Nat := 0
  /-- security (R318 to R339) -/
  sec : Sec := {}
  vault : Vault := {}
  crypto : Crypto := {}
  alarm : Alarm := {}
  rng : Rng := {}
  /-- security requests in ring order that the security core has not served, and REQs that wait for the RNG (R321, R339);
  reset empty -/
  secWait : List Instr := []
  reqWait : List CmReq := []
  /-- controller pairing (R341 to R366) -/
  pair : Pair := {}
  /-- fabric arbiters 0 to 5, DMA channels, DDR channels, MRAM control (R367 to R394) -/
  arbiters : Tab Arbiter := .empty
  dma : Tab DmaChan := .empty
  ddr : Tab Ddr := .empty
  mrm : Mrm := {}
  /-- DRAM contents by address, canonical; a byte not listed reads 0 (R383, log entry 3) -/
  dram : List Host.Cell := []
  /-- MRAM bytes by offset: what the ROM, the journal and the security core keep there stands in the fields that give it
  meaning, and a byte not listed reads as a free value (R388 to R390, log entry 13) -/
  mram : List Host.Cell := []
  /-- poisoned 8-byte words of DRAM (R385); reset none -/
  poison : List Nat := []
  /-- PCIe service port (R395 to R412) -/
  svp : Service := {}
  /-- clocks, power domains, boot, SMBus sideband, tracing, test access port (R413 to R448, R463) -/
  clk : Clk := {}
  pwr : Pwr := {}
  boot : Boot := {}
  mgt : Mgt := {}
  trace : Trace := {}
  tap : Tap := {}
  deriving DecidableEq, Repr

/-- The machine right after reset: every field at the value the manual gives for reset, or at the value that a log
entry names. Power-up is in its first step, WAIT_REFCLK (Table 16-3); no command waits. -/
def State.reset : State := {}

end Sys2Proof.Machine
end

