-- ==== Sys2Proof/Machine/Ops.lean ====
section
/-! DEFINITION. The named operations over pages, registers, time and memory that every family of commands uses: page
headers and errors (chapter 02), counters (17), the clock of the model, the byte memories and the record of what is
sent. -/
namespace Sys2Proof.Machine

/-- What exec and step answer. -/
abbrev Res := Host.Outcome State Fault Refusal

/-- The next state of a command that acts on one of `bound` units; a unit that does not exist is a fault. -/
def onUnit (what : String) (i bound : Nat) (t : State) : Res :=
  if i < bound then .next t else .fault (.noSuchUnit what i)

/-- Record something sent. -/
def emit (s : State) (o : Out) : State := { s with outs := o :: s.outs }

/-- Record several things sent, in order. -/
def emitAll (s : State) (os : List Out) : State := { s with outs := os.reverse ++ s.outs }

/-- Draw a free value (log entry 2): the number of the draw, and the state after it. -/
def draw (s : State) : Nat × State := (s.draws, { s with draws := s.draws + 1 })

/-- How many bits of a word are set. -/
def popCount (w : Word) : Nat := ((List.range 32).filter fun i => w.getLsbD i).length

/-! ## Pages -/

/-- Blocks whose ENABLE resets to 1 (Table 2-7). -/
def enabledAtReset : Block → Bool
  | .clk | .pwr | .time | .boot | .sec | .alm | .fab | .mrm | .mgt => true
  | _ => false

/-- The header of a page at reset (Table 2-2, R50). -/
def resetPage (page : Nat) : Page :=
  let e := ((blockOf page).map enabledAtReset).getD false
  { enable := e, enabled := e }

/-- The header of a page. -/
def getPage (s : State) (page : Nat) : Page := s.pages.getD page (resetPage page)

/-- The state with a page's header replaced. -/
def setPage (s : State) (page : Nat) (p : Page) : State := { s with pages := s.pages.set page p }

/-- Power domain of a page: a number of Table 16-2, or none for the domains that are never switched (R8, R421). -/
def domainOf (page : Nat) : Option Nat :=
  match blockOf page with
  | some .net => some (page - 0x020)
  | some .xpt => some (2 + (page - 0x028))
  | some .swc | some .pol => some 6
  | some .egs => some 7
  | some .ecc => some (8 + (page - 0x050))
  | some .pqe => some (20 + (page - 0x048))
  | some .cx => some (if page - 0x101 < 4 then 24 else 25)
  | some .mlx => some (26 + (page - 0x060))
  | some .mlk => some (26 + (page - 0x080) / 8)
  | some .ddr => some (if page - 0x130 < 2 then 32 else 33)
  | some .svp => some 34
  | some .pair => some 35
  | _ => none

/-- Is the slot power die reachable: control link up, supplies not locked out (R316, R455)? -/
def dieReachable (s : State) : Bool := s.die.linkUp && !s.die.uvlo

/-- A page of the slot power die. -/
def onDie (page : Nat) : Bool := blockOf page = some .spc || blockOf page = some .spw

/-- Is the power domain of a page on (R8, R24)? -/
def poweredOn (s : State) (page : Nat) : Bool :=
  match domainOf page with
  | none => true
  | some d => s.pwr.isOn.contains d

/-- Is a page enabled and not asked to quiesce: does it take new work (R26, R29)? -/
def accepting (s : State) (page : Nat) : Bool :=
  let p := getPage s page
  poweredOn s page && p.enabled && !p.quiesce

/-- Is a page enabled? -/
def isEnabled (s : State) (page : Nat) : Bool := poweredOn s page && (getPage s page).enabled

/-! ## Registers -/

/-- Key of a register in `State.regs`. -/
def regKey (page off : Nat) : Nat := page * 4096 + off

/-- Reset class of a requester at its arbiters, by id; 4 stands for the privileged class P (Table 14-2). -/
def resetClass (req : Nat) : Nat :=
  if req = 0x40 || req = 0x44 || req = 0x48 then 4
  else if 0x50 ≤ req && req ≤ 0x54 then 3
  else if req = 0x55 || req = 0x56 || (0x68 ≤ req && req ≤ 0x73) || (0x78 ≤ req && req ≤ 0x7F) then 2
  else if req ≤ 0x10 || (0x58 ≤ req && req ≤ 0x65) then 1
  else 0

/-- Reset value of a block register: that of its fields, or the value the manual gives per instance. PWR_RST_CAUSE reads as
after a reset by PORST_N (DESIGN CHOICE, log entry 54). -/
def resetReg (s : State) (page off : Nat) : Word :=
  match blockOf page with
  | none => 0#32
  | some b =>
    match regAt b page off with
    | none => 0#32
    | some (d, i) =>
      if b = .xpt && 0x118 ≤ off && off < 0x158 then
        packWord [(0, 4 * i), (8, 4 * i + 1), (16, 4 * i + 2), (24, 4 * i + 3)]
      else if b = .ecc && off = O.ECC_AFFINITY then packWord [(8, 1), (0, (page - 0x050) / 2)]
      else if b = .net && off = O.NET_MAC_LO then
        Word.ofNum (Config.macBase (page - 0x020) / 4 * 4 % 2 ^ 32)
      else if b = .net && off = O.NET_MAC_HI then Word.ofNum (Config.macBase (page - 0x020) / 2 ^ 32 % 2 ^ 16)
      else if b = .mgt && off = O.MGT_CFG then packWord [(16, 0x3F), (0, 0x5A + s.boot.ctrlId)]
      else if b = .boot && off = O.BOOT_ROM_VER then 0x01030011#32
      else if b = .pwr && off = O.PWR_RST_CAUSE then 2#32
      else d.resetWord

/-- The stored word of a block register. -/
def regOf (s : State) (page off : Nat) : Word := (s.regs.get (regKey page off)).getD (resetReg s page off)

/-- A field of a stored block register. -/
def regField (s : State) (page off lo w : Nat) : Nat := field (regOf s page off) lo w

/-- Store the word of a block register. -/
def setReg (s : State) (page off : Nat) (v : Word) : State := { s with regs := s.regs.set (regKey page off) v }

/-- A word with one field replaced. -/
def putField (v : Word) (lo w n : Nat) : Word :=
  (v &&& ~~~ Word.ofNum ((2 ^ w - 1) * 2 ^ lo)) ||| Word.ofNum ((n % 2 ^ w) * 2 ^ lo)

/-- Store one field of a block register. -/
def setField (s : State) (page off lo w n : Nat) : State :=
  setReg s page off (putField (regOf s page off) lo w n)

/-- Add to a counter that stops at 0xFFFF_FFFF. -/
def bumpBy (s : State) (page off n : Nat) : State :=
  setReg s page off (Word.ofNum (min 0xFFFFFFFF ((regOf s page off).toNat + n)))

/-- Add 1 to a counter that stops at 0xFFFF_FFFF. -/
def bump (s : State) (page off : Nat) : State := bumpBy s page off 1

/-- Add to a counter that no rule stops: it wraps (log entry 24). -/
def countOn (s : State) (page off n : Nat) : State :=
  setReg s page off (Word.ofNum ((regOf s page off).toNat + n))

/-- The pages of CMD, ZSQ and STG, and of engine n. -/
abbrev cmdPage : Nat := 0x040
abbrev zsqPage : Nat := 0x041
abbrev stgPage : Nat := 0x042
abbrev xptPage (n : Nat) : Nat := 0x028 + n

/-- The pages of SEC, KEY, ALM, RNG and BOOT. -/
abbrev secPage : Nat := 0x008
abbrev keyPage : Nat := 0x009
abbrev almPage : Nat := 0x00A
abbrev rngPage : Nat := 0x00B

/-! ## Page counters (R440 to R442) -/

/-- PMT_GLOBAL.RUN. -/
def globalRun (s : State) : Bool := bit (regOf s 0x150 O.PMT_GLOBAL) 0

/-- May counter i of a page count (R440)? `run` is PMT_GLOBAL.RUN. -/
def pmcLive (p : Page) (run : Bool) (i : Nat) : Bool :=
  bit p.pmcCtrl i && (!bit p.pmcCtrl 24 || run) && (!bit p.pmcCtrl 25 || p.pmcOvf = 0)

/-- Counter i of a page counts an event that occurs k times (R440, R441). -/
def pmcCountOne (run : Bool) (code k : Nat) (p : Page) (i : Nat) : Page :=
  let chained := bit p.pmcCtrl (16 + i / 2)
  if (chained && i % 2 = 1) || !pmcLive p run i || p.pmcSel.getD i 0 ≠ code then p
  else if chained then
    let v := p.pmcCnt.getD i 0 + 2 ^ 32 * p.pmcCnt.getD (i + 1) 0 + k
    { p with
      pmcCnt := (p.pmcCnt.set i (v % 2 ^ 32)).set (i + 1) (v / 2 ^ 32 % 2 ^ 32)
      pmcOvf := if 2 ^ 64 ≤ v then p.pmcOvf ||| 2 ^ (i + 1) else p.pmcOvf }
  else
    let v := p.pmcCnt.getD i 0 + k
    { p with
      pmcCnt := p.pmcCnt.set i (v % 2 ^ 32)
      pmcOvf := if 2 ^ 32 ≤ v then p.pmcOvf ||| 2 ^ i else p.pmcOvf }

/-- All eight counters of a page count an event that occurs k times. -/
def pmcCount (run : Bool) (code k : Nat) (p : Page) : Page :=
  if k = 0 || code = 0 then p else (List.range 8).foldl (pmcCountOne run code k) p

/-- Set INT_RAW bits of a header: each bit that was 0 is an event 0x005 (Table 17-1). -/
def causeBits (run : Bool) (p : Page) (mask : Word) : Page :=
  let fresh := mask &&& ~~~ p.intRaw
  pmcCount run 0x005 (popCount fresh) { p with intRaw := p.intRaw ||| mask }

/-- Raise PMC_OVERFLOW where a bit of PMC_OVF went from 0 to 1 (Table 2-5). -/
def ovfCause (run : Bool) (before after : Page) : Page :=
  if after.pmcOvf = before.pmcOvf then after else causeBits run after (oneBit 30)

/-- A page's counters count an event, with the overflow cause. -/
def headerEvent (run : Bool) (code k : Nat) (p : Page) : Page := ovfCause run p (pmcCount run code k p)

/-- A header with interrupt causes raised (R37). -/
def headerRaise (run : Bool) (mask : Word) (p : Page) : Page := ovfCause run p (causeBits run p mask)

/-- An event of Table 17-1 or 17-2 occurs k times on a page. -/
def pmcEvent (s : State) (page code k : Nat) : State :=
  setPage s page (headerEvent (globalRun s) code k (getPage s page))

/-- Interrupt causes of a page are raised (R36, R37). -/
def raiseCauses (s : State) (page : Nat) (mask : Word) : State :=
  setPage s page (headerRaise (globalRun s) mask (getPage s page))

/-- One interrupt cause of a page is raised. -/
def raiseCause (s : State) (page b : Nat) : State := raiseCauses s page (oneBit b)

/-- Bit `b` of an ALERT register is set on its event and raises cause `base + b` (R116, R148, R175 and the like). -/
def alertAt (s : State) (page off b base : Nat) : State :=
  raiseCause (setReg s page off (regOf s page off ||| oneBit b)) page (base + b)

/-- The same for the registers whose bit b raises cause b. -/
def alert (s : State) (page off b : Nat) : State := alertAt s page off b 0

/-- A header that logs an error (R39). -/
def headerError (run : Bool) (code req addr : Nat) (p : Page) : Page :=
  let q := headerEvent run 0x004 1 p
  if q.errCount = 0 then
    headerRaise run (oneBit 31) { q with errReq := req, errCode := code, errAddr := addr, errCount := 1 }
  else { q with errCount := min 0xFFFFFFFF (q.errCount + 1) }

/-- A page logs an error: code, requester (0xFF for a block error) and the 64 bits of ERR_ADDR (R39). -/
def logError (s : State) (page code req addr : Nat) : State :=
  setPage s page (headerError (globalRun s) code req addr (getPage s page))

/-- A page logs a block error (0x0100 and up). -/
def blockError (s : State) (page code addr : Nat) : State := logError s page code 0xFF addr

/-- The page of the fabric, which logs access errors (Table 2-6). -/
abbrev fabPage : Nat := 0x110

/-- Internal address of a register (R14). -/
def regAddr (page off : Nat) : Nat := 0x80000000 + page * 0x1000 + off

/-! ## Time -/

/-- 1.25 ns periods in a microsecond and a millisecond. -/
abbrev ticksUs : Nat := 800
abbrev ticksMs : Nat := 800000
abbrev ticksS : Nat := 800000000

/-- A clock runs for dt periods of 1.25 ns, eight VCO periods each (R413, R418, R419). -/
def DivClock.run (c : DivClock) (dt : Nat) : DivClock :=
  { c with cycles := c.cycles + (c.part + 8 * dt) / c.div, part := (c.part + 8 * dt) % c.div }

/-- The clock of a block type (Table 2-9); none for the slot power die's own oscillator. -/
def clockOf : Block → Option ClkName
  | .net | .xpt | .swc | .pol | .egs | .cmd | .zsq | .stg | .pqe | .ecc | .mlx | .mlk | .cry | .cx => some .dp
  | .fab | .dma | .ddr | .mrm => some .fab
  | .time | .pmt => some .time
  | .sec | .key | .rng | .boot | .pair | .svp => some .reg
  | .clk | .pwr | .alm | .mgt => some .aon
  | .spc | .spw => none

/-- One of the divided clocks. -/
def Clk.get (c : Clk) : ClkName → DivClock
  | .reg => c.reg | .time => c.time | .fab => c.fab | .cc => c.cc | .dp => c.dp | .aon => c.aon

/-- CLK with one of the divided clocks replaced. -/
def Clk.set (c : Clk) (n : ClkName) (d : DivClock) : Clk :=
  match n with
  | .reg => { c with reg := d } | .time => { c with time := d } | .fab => { c with fab := d }
  | .cc => { c with cc := d } | .dp => { c with dp := d } | .aon => { c with aon := d }

/-- Cycles of a page's clock so far (R47, R303: 20 MHz, 40 ticks a cycle, for the slot power die). -/
def clockCycles (s : State) (page : Nat) : Nat :=
  match (blockOf page).bind clockOf with
  | some n => (s.clk.get n).cycles
  | none => s.time.now / 40

/-- The tick count of R158. -/
def tickCount (s : State) : Nat :=
  match s.time.base with
  | none => 0
  | some b => s.clk.time.cycles - b

/-- What one tick adds to the device time, in units of 2^-32 ns: 1.25 ns × (1 + TIME_FREQ × 2^-16 × 10^-6), with the
part below 2^-32 ns dropped (R158, log entry 20). -/
def tickStep (freq : Int) : Nat := ((5368709120 : Int) + (freq * 8192) / 100000).toNat

/-- The device time in units of 2^-32 ns (R158). -/
def TimeBase.fine (t : TimeBase) : Nat := (t.sec * 1000000000 + t.ns) * 2 ^ 32 + t.frac

/-- The time base with its device time set from a number of 2^-32 ns, seconds modulo 2^48. -/
def TimeBase.setFine (t : TimeBase) (n : Nat) : TimeBase :=
  { t with
    sec := n / 2 ^ 32 / 1000000000 % 2 ^ 48, ns := n / 2 ^ 32 % 1000000000, frac := n % 2 ^ 32 }

/-- The device time in ns. -/
def devNs (s : State) : Nat := s.time.sec * 1000000000 + s.time.ns

/-- The events of Tables 17-1 and 17-2 that are cycles in which a condition holds, for one page whose clock ran k
cycles: any cycle, cycles enabled, cycles busy, and the block's own events whose condition holds. -/
def cycleCount (run busy : Bool) (own : List Nat) (k : Nat) (p : Page) : Page :=
  let p := headerEvent run 0x001 k p
  let p := if p.enabled then headerEvent run 0x002 k p else p
  let p := if busy then headerEvent run 0x003 k p else p
  own.foldl (fun p c => headerEvent run c k p) p

end Sys2Proof.Machine
end

