-- ==== Sys2Proof/Machine/Gates.lean ====
section
/-! DEFINITION. What the network side computes from its state without changing it: gate lists and their places in device
time (R184 to R191, R229), the switch's cell counts and lossless classes (R157, R172), and which egress queues are
eligible (R177 to R183, R190). -/
namespace Sys2Proof.Machine

/-- The pages of TIME, SWC and POL, of port n and of its scheduler. -/
abbrev timePage : Nat := 0x002
abbrev swcPage : Nat := 0x030
abbrev polPage : Nat := 0x031
abbrev netPage (n : Nat) : Nat := 0x020 + n
abbrev egsPage (n : Nat) : Nat := 0x038 + n

/-- The page of ECC engine e. -/
abbrev eccPage (e : Nat) : Nat := 0x050 + e

/-! ## Gate lists (R184 to R186) -/

/-- The entry that holds an offset into the cycle, and the offset at which it ends: the last entry holds to the cycle end
(R185). -/
def GateList.walk (l : GateList) (o : Nat) : Nat → Nat → Nat → Nat × Nat
  | 0, i, _ => (i, l.cycle)
  | n + 1, i, start =>
    let stop := start + (l.entries.getD i {}).dur
    if l.len ≤ i + 1 then (i, l.cycle)
    else if o < stop then (i, min stop l.cycle)
    else walk l o n (i + 1) stop

/-- Offset of a device time in a cycle series (R188). -/
def GateList.offset (l : GateList) (series t : Nat) : Nat := (((t : Int) - (series : Int)) % (l.cycle : Int)).toNat

/-- The entry that runs at a device time, and the device time in ns at which it ends (R185). -/
def GateList.segment (l : GateList) (series t : Nat) : Nat × Nat :=
  if l.cycle = 0 then (0, t + 1)
  else
    let o := l.offset series t
    let w := l.walk o l.len 0 0
    (w.1, t + (w.2 - o))

/-- A swap is made: the lists exchange roles with their base, cycle and length, and the new active list's cycles start at
the swap time (R186). -/
def GateEngine.swapped (e : GateEngine) : GateEngine :=
  { e with
    active := { e.pending with baseS := e.swapAt / 1000000000, baseNs := e.swapAt % 1000000000 }
    pending := e.active, isActive := true, swapPending := false, series := e.swapAt, entry := 0 }

/-- The engine as it stands at a device time: a swap that is due has been made. -/
def GateEngine.effective (e : GateEngine) (t : Nat) : GateEngine :=
  if e.swapPending && e.swapAt ≤ t then e.swapped else e

/-- The entry that runs at a device time. -/
def GateEngine.entryAt (e : GateEngine) (t : Nat) : Nat :=
  let e := e.effective t
  if e.isActive then (e.active.segment e.series t).1 else e.entry

/-- Is a gate open at a device time (R184, R189)? -/
def GateEngine.openAt (e : GateEngine) (t q : Nat) : Bool :=
  let e := e.effective t
  !e.isActive || ((e.active.entries.getD (e.active.segment e.series t).1 {}).mask).testBit q

/-- The first boundary of the active list after a device time: an entry's end, or a swap that is due before it. -/
def GateEngine.nextBoundary (e : GateEngine) (t : Nat) : Nat :=
  let e := e.effective t
  let stop := (e.active.segment e.series t).2
  if e.swapPending && (!e.isActive || e.swapAt < stop) then e.swapAt else stop

/-- The first tick at or after a device time, from the present one: both in units of 2^-32 ns. -/
def tickAtOrAfter (cur step target : Nat) : Nat := if step = 0 then target else cur + ceilDiv (target - cur) step * step

/-- The next closing of a gate from a device time on, in units of 2^-32 ns: found through so many entries, across entry
and cycle boundaries and a swap already scheduled; an entry that begins and ends in one tick closes nothing (R185, R190). -/
def GateEngine.closing (cur step q : Nat) : Nat → GateEngine → Nat → Option Nat
  | 0, _, _ => none
  | n + 1, e, t =>
    let e := e.effective t
    let stop := e.nextBoundary t
    let tick := tickAtOrAfter cur step (t * 2 ^ 32)
    if !e.openAt t q && decide (tick < stop * 2 ^ 32) then some tick else closing cur step q n e stop

/-- The runs of one cycle of a list for a gate: open or not, and length in ns. -/
def GateList.runs (l : GateList) (q : Nat) : Nat → Nat → List (Bool × Nat)
  | 0, _ => []
  | n + 1, o =>
    if l.cycle ≤ o then []
    else
      let w := l.walk o l.len 0 0
      (((l.entries.getD w.1 {}).mask).testBit q, w.2 - o) :: runs l q n w.2

/-- The longest sum of neighbouring open runs. -/
def longestSum : List (Bool × Nat) → Nat → Nat
  | [], acc => acc
  | (true, d) :: r, acc => longestSum r (acc + d)
  | (false, _) :: r, acc => max acc (longestSum r 0)

/-- The longest open run of a gate in a list, in ns, across the cycle end; none where the gate never closes (R191). -/
def GateList.longestOpen (l : GateList) (q : Nat) : Option Nat :=
  let rs := l.runs q l.len 0
  if rs.all (·.1) then none else some (longestSum (rs ++ rs) 0)

/-- A program gate list engine at reset: one entry with all eight gates open, active (R229). -/
def programGatesAtReset : GateEngine :=
  { active := { entries := Tab.empty.set 0 { mask := 0xFF, dur := 1000000 } }, isActive := true }

/-- The gate list engine of an EGS or MLX page. -/
def gateOf (s : State) (page : Nat) : GateEngine :=
  if blockOf page = some .egs then (s.egress.getD (page - 0x038) {}).gates
  else s.progGates.getD (page - 0x060) programGatesAtReset

/-- The state with the gate list engine of an EGS or MLX page replaced. -/
def setGate (s : State) (page : Nat) (g : GateEngine) : State :=
  if blockOf page = some .egs then
    { s with egress := s.egress.modify (page - 0x038) {} fun e => { e with gates := g } }
  else { s with progGates := s.progGates.set (page - 0x060) g }

/-- Is a slot's program gate open (R229)? -/
def programGateOpen (s : State) (n : Nat) : Bool :=
  (s.progGates.getD (n / 8) programGatesAtReset).openAt (devNs s) (n % 8)

/-! ## Ports and the shared buffer (R149, R153, R157, R172) -/

/-- NETn. -/
def portOf (s : State) (n : Nat) : Port := s.ports.getD n {}

/-- Sub-ports of a mode (Table 6-1). -/
def subsOfMode (mode : Nat) : Nat := if mode = 1 then 2 else if mode = 2 then 4 else 1

/-- Sub-ports that NETn has in its mode. -/
def subCount (s : State) (n : Nat) : Nat := subsOfMode (portOf s n).mode

/-- Rate of a sub-port of NETn in Mb/s (Table 6-1). -/
def subRate (s : State) (n : Nat) : Nat := 400000 / subCount s n

/-- Egress queues of a sub-port of NETn (R153). -/
def queuesPerSub (s : State) (n : Nat) : Nat := 64 / subCount s n

/-- A sub-port of NETn. -/
def subOf (s : State) (n k : Nat) : SubPort := (portOf s n).subs.getD k {}

/-- Is a sub-port there and its link up? -/
def subUp (s : State) (n k : Nat) : Bool := decide (k < subCount s n) && isEnabled s (netPage n) && (subOf s n k).up

/-- Ticks that so many bits take on a sub-port of NETn. -/
def bitTicks (s : State) (n bits : Nat) : Nat := ceilDiv (bits * 800) (subRate s n)

/-- Bits of a frame on the wire, preamble and inter-frame gap included (R182). -/
def wireBits (len : Nat) : Nat := (len + 20) * 8

/-- Cells of a frame (R172). -/
def cellsOf (len : Nat) : Nat := ceilDiv len 256

/-- An SWC queue. -/
def queueOf (s : State) (q : Nat) : SwcQueue := s.switch.queues.getD q {}

/-- Cells of a list of frames. -/
def framesCells (fs : List QFrame) : Nat := (fs.map fun f => cellsOf f.len).sum

/-- Cells that a queue holds. -/
def queueCells (s : State) (q : Nat) : Nat := framesCells (queueOf s q).frames

/-- Cells in use (SWC_BUF.USED). -/
def usedCells (s : State) : Nat := (s.switch.queues.values.map fun q => framesCells q.frames).sum

/-- Cells held for a sub-port index and a class (R157). -/
def heldCells (s : State) (sub cls : Nat) : Nat :=
  (s.switch.queues.values.map fun q =>
    framesCells (q.frames.filter fun f => decide (f.src = some sub ∧ f.cls = cls))).sum

/-- The class of an 802.1Q priority and of a DSCP (R166). -/
def pcpClass (s : State) (p : Nat) : Nat := regField s swcPage O.SWC_PCP_CLASS (4 * (p % 8)) 3
def dscpClass (s : State) (d : Nat) : Nat := regField s swcPage (O.SWC_DSCP_CLASS + 4 * (d / 8 % 8)) (4 * (d % 8)) 3

/-- NET_CFG.FC: 0 none, 1 PAUSE, 2 PFC (R155). -/
def flowControl (s : State) (n : Nat) : Nat := regField s (netPage n) O.NET_CFG 4 2

/-- NET_CFG.PFC_EN of a priority. -/
def pfcEnabled (s : State) (n p : Nat) : Bool := bit (regOf s (netPage n) O.NET_CFG) (8 + p % 8)

/-- Is a class lossless on a sub-port index (R157)? -/
def lossless (s : State) (sub cls : Nat) : Bool :=
  let n := sub / 4
  flowControl s n = 1 ||
    (flowControl s n = 2 && (List.range 8).any fun p => pfcEnabled s n p && pcpClass s p = cls)

/-- The XOFF and XON thresholds of a class in cells (R157). -/
def xoffCells (s : State) (cls : Nat) : Nat := 8 * regField s swcPage (O.SWC_PFC_THR + 4 * cls) 0 16
def xonCells (s : State) (cls : Nat) : Nat := 8 * regField s swcPage (O.SWC_PFC_THR + 4 * cls) 16 16

/-! ## Egress queues (R176 to R183, R190) -/

/-- EGSn. -/
def egressOf (s : State) (n : Nat) : Egress := s.egress.getD n {}

/-- An egress queue of a scheduler. -/
def Egress.queue (e : Egress) (q : Nat) : EgressQueue := e.queues.getD q { prio := q % 8 }

/-- The sub-port that an egress queue of NETn belongs to (R176). -/
def subOfQueue (s : State) (n q : Nat) : Nat := q / queuesPerSub s n

/-- SWC queue of egress queue q of NETn (R176). -/
def swcQueue (n q : Nat) : Nat := 64 + 64 * n + q

/-- Head frame of an egress queue. -/
def headFrame (s : State) (n q : Nat) : Option QFrame := (queueOf s (swcQueue n q)).frames.head?

/-- Number of the last refill boundary reached: boundary m falls at tick count ceil(4,096 m / 5) (R183). -/
def refillBoundary (s : State) : Nat := 5 * tickCount s / 4096

/-- A shaper at a boundary k boundaries on: stored settings apply at the first of them, each adds RATE × 1.024 bits with a
16-bit fraction, and the level is clamped to the burst (R182, R183, log entry 44). -/
def Shaper.advance (sh : Shaper) (k : Nat) : Shaper :=
  if k = 0 then sh
  else
    let cap : Int := (sh.sBurst : Int) * 8 * 65536
    let start : Int := if sh.sEn && !sh.en then cap else sh.level * 65536 + (sh.frac : Int)
    let total := min (start + ((sh.sRate * 1024 * 65536 / 1000 * k : Nat) : Int)) cap
    { sh with
      en := sh.sEn, rate := sh.sRate, burst := sh.sBurst
      level := total / 65536, frac := (total % 65536).toNat }

/-- Does a shaper allow a frame to start (R182)? -/
def Shaper.allows (sh : Shaper) : Bool := !sh.en || (sh.rate ≠ 0 && decide (0 ≤ sh.level))

/-- A scheduler with its shapers brought to the present refill boundary. -/
def egressNow (s : State) (n : Nat) : Egress :=
  let e := egressOf s n
  let k := refillBoundary s - e.refilled
  { e with
    queues := e.queues.mapVals fun _ q => { q with shaper := q.shaper.advance k }
    subShapers := e.subShapers.mapVals fun _ sh => sh.advance k
    refilled := max e.refilled (refillBoundary s) }

/-- Is an egress queue of NETn stopped by a received pause (R156)? -/
def queuePaused (s : State) (n q : Nat) : Bool :=
  let p := subOf s n (subOfQueue s n q)
  let stopped : Option Tick → Bool := fun t => (t.map fun t => decide (s.time.now < t)).getD false
  stopped p.pausedTill || stopped (p.prioTill.get ((egressOf s n).queue q).prio)

/-- EGS_CFG.GATE_EN and EGS_CFG.GUARD. -/
def gatesOn (s : State) (n : Nat) : Bool := bit (regOf s (egsPage n) O.EGS_CFG) 0
def guardOn (s : State) (n : Nat) : Bool := bit (regOf s (egsPage n) O.EGS_CFG) 1

/-- Is the gate of an egress queue open (R177, R189)? -/
def queueGateOpen (s : State) (n q : Nat) : Bool := !gatesOn s n || (egressOf s n).gates.openAt (devNs s) q

/-- Does a frame of a queue pass the guard test (R190)? -/
def guardPasses (s : State) (n q len : Nat) : Bool :=
  let g := ((egressOf s n).gates).effective (devNs s)
  if !guardOn s n || !gatesOn s n || !g.isActive then true
  else
    let cur := s.time.fine
    match g.closing cur (tickStep s.time.freq) q 256 (devNs s) with
    | none => true
    | some c => decide (wireBits len * 1000 * 2 ^ 32 ≤ (c - cur) * subRate s n)

/-- The conditions of R177 before the guard test: a head frame, its gate, its pause and its shapers. -/
def queueReady (s : State) (n q : Nat) : Bool :=
  let e := egressNow s n
  let k := subOfQueue s n q
  (headFrame s n q).isSome && queueGateOpen s n q && !queuePaused s n q && (e.queue q).shaper.allows &&
    (e.subShapers.getD k {}).allows

/-- Is an egress queue eligible (R177)? -/
def eligible (s : State) (n q : Nat) : Bool :=
  queueReady s n q && ((headFrame s n q).map fun f => guardPasses s n q f.len).getD false

/-- Is a frame in transmission on a sub-port? -/
def sending (s : State) (n k : Nat) : Bool := ((subOf s n k).tx.map fun t => decide (s.time.now < t.endTick)).getD false

/-- Is a frame in transmission on any sub-port of NETn? -/
def portSending (s : State) (n : Nat) : Bool := (List.range 4).any (sending s n)

/-- Head-of-queue sojourn of an egress queue in ns (R192). -/
def sojournOf (s : State) (n q : Nat) : Nat := ((headFrame s n q).map fun f => devNs s - f.enqNs).getD 0

/-- Frames are queued on NETn and no queue is eligible (Table 17-2, EGS event 0x102). -/
def egressStalled (s : State) (n : Nat) : Bool :=
  (List.range 64).any (fun q => (headFrame s n q).isSome) && !(List.range 64).any (eligible s n)

end Sys2Proof.Machine
end

