-- ==== Sys2Proof/Machine/Readback.lean ====
section
/-! DEFINITION. What a read of a block register returns: the stored word, or, for a register that shows live state, the
word computed from that state. One function per block. -/
namespace Sys2Proof.Machine

/-- The ECC engine that takes a codeword of a cluster: one whose home it is, else any that shares (R19). -/
def eccFor (s : State) (k : Nat) : Option Nat :=
  match (List.range 12).find? fun e => accepting s (eccPage e) && regField s (eccPage e) O.ECC_AFFINITY 0 3 = k with
  | some e => some e
  | none => (List.range 12).find? fun e => accepting s (eccPage e) && bit (regOf s (eccPage e) O.ECC_AFFINITY) 8

/-- Is a page's SHUTDOWN_ACTIVE, BUSY or the like due to work in flight (PG_STAT.BUSY)? The work of each block as its
chapter gives it. -/
def workInFlight (s : State) (page : Nat) : Bool :=
  match blockOf page with
  | some .cmd => !s.commands.entries.isEmpty
  | some .zsq => !s.folds.entries.isEmpty || s.commands.values.any (fun c => decide (c.phase ≠ .dataWait))
  | some .stg => s.commands.values.any (fun c => !c.windows.isEmpty)
  | some .xpt => s.conns.values.any (fun c => c.engine = page - 0x028 && !c.txq.isEmpty) ||
      s.parked.entries.any (fun e => ((s.conns.get e.1).map (·.engine)) = some (page - 0x028) && !e.2.isEmpty)
  | some .net => portSending s (page - 0x020)
  | some .swc => s.switch.queues.values.any (fun q => !q.frames.isEmpty)
  | some .egs => portSending s (page - 0x038)
  | some .pqe => (s.pqeRun.get (page - 0x048)).isSome
  | some .ecc => s.decodes.any fun d => eccFor s (d.slot / 8) = some (page - 0x050)
  | some .mlk => ((s.links.get (page - 0x080)).map fun l => !l.tags.entries.isEmpty).getD false
  | some .mlx => (List.range 8).any fun i =>
      ((s.links.get (8 * (page - 0x060) + i)).map fun l => !l.tags.entries.isEmpty).getD false
  | some .cry => !s.crypto.queue.isEmpty || s.crypto.cores.values.any (·.job.isSome)
  | some .cx => ((s.crypto.cores.get (page - 0x101)).map (·.job.isSome)).getD false
  | some .dma => ((s.dma.get (page - 0x118)).map (·.desc.isSome)).getD false
  | some .fab => s.arbiters.values.any fun a => decide (a.left ≠ 0)
  | some .svp => s.svp.tags.values.any fun | .reading .. => true | .quarantine _ => false
  | some .pwr => s.pwr.switching.isSome
  | _ => false

/-! ## Clocks, power, boot, sideband, tracing (chapters 16, 17) -/

/-- CLK registers that show live state. -/
def readClk (s : State) (off : Nat) : Option Word :=
  let c := s.clk
  if off = O.CLK_STAT then
    some (packWord [(31, num c.refclk), (30, num c.pllLock), (29, num c.holdover),
      (28, num (c.dp.ramping || c.cc.ramping || c.fab.ramping || c.time.ramping || c.reg.ramping)),
      (4, num c.dp.onPll), (3, num c.cc.onPll), (2, num c.fab.onPll), (1, num c.time.onPll), (0, num c.reg.onPll)])
  else if off = O.CLK_OSC_TRIM then some (packWord [(31, num c.locked), (16, c.fuse), (0, c.code)])
  else if off = O.CLK_OSC_ERR then some (Word.ofNum (unsignedOf 32 c.ppm))
  else if off = O.CLK_DIV0 then some (packWord [(18, c.fab.div), (9, c.cc.div), (0, c.dp.div)])
  else if off = O.CLK_DIV1 then some (packWord [(9, c.reg.div), (0, c.time.div)])
  else none

/-- PWR registers that show live state. -/
def readPwr (s : State) (off : Nat) : Option Word :=
  if off = O.PWR_DOM_STAT0 then some (maskOf (s.pwr.isOn.filter (· < 32)))
  else if off = O.PWR_DOM_STAT1 then
    some (maskOf ((s.pwr.isOn.filter (32 ≤ ·)).map (· - 32)) |||
      (match s.pwr.switching with
       | some (d, _) => packWord [(31, 1), (16, d)]
       | none => 0#32))
  else none

/-- The patch set in the slot that is not active. -/
def Boot.staged (b : Boot) : Option PatchSet := if b.useB then b.slotA else b.slotB

/-- The patch set in the active slot. -/
def Boot.activeSet (b : Boot) : Option PatchSet := if b.useB then b.slotB else b.slotA

/-- BOOT registers that show live state. -/
def readBoot (s : State) (off : Nat) : Option Word :=
  let b := s.boot
  if off = O.BOOT_STAT then
    some (packWord [(28, b.stage), (24, b.failStage), (2, num b.useB), (1, num b.romOk), (0, b.ctrlId)])
  else if off = O.BOOT_PATCH_LEVEL then some (Word.ofNum b.level)
  else if off = O.BOOT_PATCH_STAGED then some (Word.ofNum ((b.staged.map (·.level)).getD 0))
  else if off = O.BOOT_TIME then some (Word.ofNum b.timeMs)
  else if off = O.BOOT_ACT then
    some (packWord [(31, num (decide (b.act ≠ .none))), (30, num b.abandoned), (0, min b.holdMs 0xFFFF)])
  else none

/-- Milliseconds since the last commit of a snapshot, stopping at 0xFFFF (MGT_SNAP_CTRL.AGE_MS). -/
def snapAge (s : State) : Nat :=
  match s.mgt.commitAt with
  | none => 0xFFFF
  | some t => min 0xFFFF ((s.time.now - t) / ticksMs)

/-- The buffer of MGT open to writes (R436). -/
def Mgt.openBuf (m : Mgt) : Tab Word := if m.curB then m.bufA else m.bufB

/-- The current buffer of MGT (R436). -/
def Mgt.current (m : Mgt) : Tab Word := if m.curB then m.bufB else m.bufA

/-- The page of MGT. -/
abbrev mgtPage : Nat := 0x160

/-- MGT registers that show live state. -/
def readMgt (s : State) (off : Nat) : Option Word :=
  if off = O.MGT_SNAP_DATA then
    some (s.mgt.openBuf.getD (regField s mgtPage O.MGT_SNAP_IDX 0 9) 0#32)
  else if off = O.MGT_SNAP_CTRL then some (packWord [(16, num s.mgt.curB), (0, snapAge s)])
  else if off = O.MGT_CAUSE then some (Word.ofNum s.mgt.cause)
  else none

/-- PMT registers that show live state. -/
def readPmt (s : State) (off : Nat) : Option Word :=
  if off = O.PMT_WR then some (Word.ofNum s.trace.wr)
  else if off = O.PMT_INFLIGHT then some (Word.ofNum s.trace.live.length)
  else none

/-! ## Fabric, DMA and memories (chapter 14) -/

/-- Does a requester use an arbiter (Table 14-2)? 0 to 3 are DDR0 to DDR3, 4 MRAM, 5 the register bus. -/
def usesArbiter (req arb : Nat) : Bool :=
  if arb < 4 then
    req ≤ 0x10 || req = 0x20 || (0x30 ≤ req && req ≤ 0x3F) || req = 0x40 || req = 0x44 ||
    (0x50 ≤ req && req ≤ 0x56) || (0x58 ≤ req && req ≤ 0x5B) || (0x60 ≤ req && req ≤ 0x65) ||
    (0x68 ≤ req && req ≤ 0x73) || (0x78 ≤ req && req ≤ 0x7F) || req = 0x80 + arb || req = 0x88
  else if arb = 4 then
    req ≤ 0x10 || (0x30 ≤ req && req ≤ 0x3F) || req = 0x40 || req = 0x44 || req = 0x48 || req = 0x84
  else req ≤ 0x10 || req = 0x20 || (0x30 ≤ req && req ≤ 0x3F) || req = 0x40 || req = 0x48

/-- The arbiter and requester that FAB_ARB_SEL names. -/
def fabSelected (s : State) : Nat × Nat :=
  (regField s fabPage O.FAB_ARB_SEL 16 3, regField s fabPage O.FAB_ARB_SEL 0 8)

/-- The state of a requester at an arbiter. -/
def requesterOf (s : State) (arb req : Nat) : Requester := (s.arbiters.getD arb {}).reqs.getD req {}

/-- Class of a requester at an arbiter: 4 for the privileged ones, otherwise 0 to 3 (R370). -/
def classOf (s : State) (arb req : Nat) : Nat :=
  if resetClass req = 4 then 4 else ((requesterOf s arb req).cls).getD (resetClass req)

/-- FAB registers that show live state. -/
def readFab (s : State) (off : Nat) : Option Word :=
  let (arb, req) := fabSelected s
  let r := requesterOf s arb req
  let shown (n : Nat) : Option Word := if usesArbiter req arb then some (Word.ofNum n) else some 0#32
  if off = O.FAB_REQ_CFG then
    if usesArbiter req arb then
      some (packWord [(31, num (decide (resetClass req = 4))), (30, 1),
        (0, if resetClass req = 4 then r.cls.getD 0 else classOf s arb req)])
    else some 0#32
  else if off = O.FAB_REQ_MAXW then shown r.maxw
  else if off = O.FAB_REQ_ALARM then shown r.alarm
  else if off = O.FAB_REQ_GRANTS then shown r.grants
  else if off = O.FAB_REQ_PREEMPT then shown r.preempts
  else none

/-- DMA registers that show live state. -/
def readDma (s : State) (page off : Nat) : Option Word :=
  let c := s.dma.getD (page - 0x118) {}
  if off = O.DMA_HEAD then some (Word.ofNum c.head)
  else if off = O.DMA_STAT then
    some (packWord [(31, num c.desc.isSome), (30, num c.halt), (24, c.cause), (0, c.last)])
  else none

/-- SVP registers that show live state: the indexed entries of its tables (R412). -/
def readSvp (s : State) (off : Nat) : Option Word :=
  let p := s.svp
  let i := regField s 0x140 O.SVP_W0_IDX 0 6
  let e := p.w2.getD (regField s 0x140 O.SVP_W2_IDX 0 4) {}
  if off = O.SVP_LINK then
    some (packWord [(31, num p.up), (30, num p.bme), (29, num p.flr), (28, num p.l1), (27, num (p.l1 && !p.clkreq)),
      (16, p.speed), (8, p.width), (0, Config.ltssm p.up % 64)])
  else if off = O.SVP_W0_ENTRY then
    some (match p.w0.get i with
      | some w => packWord [(31, 1), (16, w.pages - 1), (0, w.base)]
      | none => let l := p.w0last.getD i (0, 1); packWord [(16, l.2 - 1), (0, l.1)])
  else if off = O.SVP_W2_CTRL then some (packWord [(31, num e.valid), (30, num e.write), (12, e.size)])
  else if off = O.SVP_IMAP then some (p.imap.getD (regField s 0x140 O.SVP_IMAP_IDX 0 9) 0#32)
  else none

/-- DDR registers that show live state. -/
def readDdr (s : State) (page off : Nat) : Option Word :=
  let d := s.ddr.getD (page - 0x130) {}
  if off = O.DDR_STAT then some (packWord [(1, num d.selfRefresh), (0, num d.trained)])
  else if off = O.DDR_SCRUB_POS then some (Word.ofNum (d.scrub / 2 ^ 20 % 2 ^ 16))
  else none

/-- MRM registers that show live state. -/
def readMrm (s : State) (off : Nat) : Option Word :=
  if off = O.MRM_STAT then some (packWord [(1, num s.mrm.die1), (0, num s.mrm.die0)]) else none

/-! ## Transport (chapter 05) -/

/-- XPT_CONN_CNT and XPT_MISS_BUF. -/
def readXpt (s : State) (e off : Nat) : Option Word :=
  let g := s.engines.getD e {}
  if off = O.XPT_CONN_CNT then
    some (packWord [(16, g.cache.entries.length),
      (0, (s.conns.values.filter fun c => c.engine = e && c.st ≠ .free).length)])
  else if off = O.XPT_MISS_BUF then some (packWord [(16, g.high), (0, g.cells)])
  else none

/-! ## Slot links (chapter 08) -/

/-- Code of a link state (MLK_LINK_STAT). -/
def LinkState.code : LinkState → Nat
  | .down => 0 | .train => 1 | .active => 2 | .retrain => 3 | .failed => 4

/-- MLK registers that show live state. -/
def readMlk (s : State) (n off : Nat) : Option Word :=
  let l := s.links.getD n {}
  if off = O.MLK_LINK_STAT then
    some (packWord [(24, l.st.code), (16, l.retrainFails), (4, l.lock), (3, num l.prsnt), (2, num l.alert),
      (1, num (s.channels.getD n {}).pwarn), (0, num l.mrst)])
  else if off = O.MLK_CREDIT then
    some (packWord [(24, l.credCmd % 256), (16, l.credData % 256), (8, l.held.length)])
  else if off = O.MLK_TAGS then some (Word.ofNum l.tags.entries.length)
  else if O.MLK_SERIAL ≤ off && off < O.MLK_SERIAL + 16 then
    some (Word.ofNum (leField l.serial (off - O.MLK_SERIAL) 4))
  else none

/-! ## Slot power (chapter 11) -/

/-- Mask of the slots from `base` on whose channel satisfies a test. -/
def slotMask (s : State) (base n : Nat) (p : Channel → Bool) : Word :=
  maskOf ((List.range n).filter fun i => ((s.channels.get (base + i)).map p).getD false)

/-- SPC_PWR.TOTAL: the sum over the slots of the mean power of the last 1 ms, in 10 mW units. -/
def slotPowerTotal (s : State) : Nat :=
  (s.channels.values.map fun c => if c.powers.isEmpty then 0 else c.powers.sum / c.powers.length).sum

/-- SPC registers that show live state. -/
def readSpc (s : State) (off : Nat) : Option Word :=
  let faulty (c : Channel) : Bool := c.st = .fault || c.st = .latched
  if off = O.SPC_CLAIM then some (Word.ofNum s.die.claim)
  else if off = O.SPC_STAT then some (packWord [(31, num s.die.linkUp), (0, unsignedOf 16 s.die.temp)])
  else if off = O.SPC_PWR then some (Word.ofNum (slotPowerTotal s % 2 ^ 20))
  else if off = O.SPC_PG_LO then some (slotMask s 0 32 (·.pg))
  else if off = O.SPC_PG_HI then some (slotMask s 32 16 (·.pg))
  else if off = O.SPC_FAULT_LO then some (slotMask s 0 32 faulty)
  else if off = O.SPC_FAULT_HI then some (slotMask s 32 16 faulty)
  else none

/-- Code of a channel state (Table 11-3). -/
def ChanState.code : ChanState → Nat
  | .off => 0 | .insert => 1 | .ready => 2 | .ramp => 3 | .on => 4 | .fault => 5 | .latched => 6

/-- SPW registers that show live state. -/
def readSpw (s : State) (n off : Nat) : Option Word :=
  let c := s.channels.getD n {}
  if off = O.SPW_CMD then
    some (putField (regOf s (0x0D0 + n) off) 24 4 c.result)
  else if off = O.SPW_STAT then
    some (packWord [(28, c.st.code), (20, min 15 c.retries), (10, num c.diodeFitted), (9, num c.onReq), (8, num c.pwarn),
      (7, num c.fetB), (6, num c.fetA), (5, num c.feedB), (4, num c.feedA), (3, num c.present), (2, num c.otHold),
      (1, num (c.st = .on && (c.ftCount ≠ 0 || c.ftRun.isSome))), (0, num c.pg)])
  else if off = O.SPW_MEAS_V then some (packWord [(16, c.mvB % 65536), (0, c.mvA % 65536)])
  else if off = O.SPW_MEAS_OI then some (packWord [(16, c.cur % 65536), (0, c.outMv % 65536)])
  else if off = O.SPW_MEAS_TP then some (packWord [(16, c.power % 65536), (0, unsignedOf 16 c.fetTemp)])
  else none

/-! ## CMD, ZSQ and PQE (chapters 03, 04, 09 to 11) -/

/-- Reservation per slot in a season (R297). -/
def seasonWatts (s : State) : Season → Nat
  | .winter => 0
  | .spring => regField s zsqPage O.ZSQ_SEASON_RSV 16 8
  | .summer | .autumn => regField s zsqPage O.ZSQ_SEASON_RSV 0 8

/-- A season from its code. -/
def seasonOfCode (n : Nat) : Season := if n = 1 then .spring else if n = 2 then .summer else if n = 3 then .autumn else .winter

/-- Code of a season (Table 11-1). -/
def Season.code : Season → Nat
  | .winter => 0 | .spring => 1 | .summer => 2 | .autumn => 3

/-- Sum of all charges (R297): groups by width, and slots with a Spring of their own (R295). -/
def reservedWatts (s : State) : Nat :=
  (s.groups.values.map fun g => g.w * seasonWatts s g.season).sum +
  (s.channels.values.map fun c => seasonWatts s (seasonOfCode c.ownSeason)).sum

/-- Groups out of Winter (R297). -/
def groupsUp (s : State) : Nat := (s.groups.values.filter fun g => decide (g.season ≠ .winter)).length

/-- CMD registers that show live state. -/
def readCmd (s : State) (off : Nat) : Option Word :=
  let held := (s.conns.values.map fun c => c.heldCaps.length).sum
  let wait := (s.conns.values.map fun c => c.waiting.length).sum
  if off = O.CMD_CREDIT_POOL then
    some (Word.ofNum ((s.conns.values.map fun c => if c.st = .free then 0 else c.grant).sum))
  else if off = O.CMD_INFLIGHT then some (Word.ofNum (s.commands.values.filter (·.credit)).length)
  else if off = O.CMD_HOLD then
    some (packWord [(31, num (s.boot.act = .draining || s.pair.holding)), (0, held % 2 ^ 17)])
  else if off = O.CMD_CPL_WAIT then some (Word.ofNum (wait % 2 ^ 21))
  else none

/-- The zone that a reshape stands at, as ZSQ_RSH_ZONE shows it. -/
def reshapeZone (r : Reshape) : Nat :=
  match r.zones with
  | k :: _ => k
  | [] => 0

/-- The member that ZSQ_MBR_SEL names. -/
def memberSel (s : State) : Member :=
  (((s.groups.get (regField s zsqPage O.ZSQ_MBR_SEL 0 4)).bind fun x =>
    x.members.get (regField s zsqPage O.ZSQ_MBR_SEL 8 5))).getD {slot := 63}

/-- ZSQ registers that show live state. -/
def readZsq (s : State) (off : Nat) : Option Word :=
  let y := memberSel s
  let r : Reshape := s.reshape.getD { group := 0, w := 0, dual := false, slots := [], zones := [] }
  if off = O.ZSQ_OPEN_CNT then some (Word.ofNum (s.zones.values.filter fun z => decide (z.st = .opened)).length)
  else if off = O.ZSQ_ZONE_CNT then
    some (Word.ofNum ((s.namespaces.values.map fun n => if n.st = .unused then 0 else n.zoneCount).sum))
  else if off = O.ZSQ_SIF then some (Word.ofNum s.folds.entries.length)
  else if off = O.ZSQ_MBR_CURSOR then some (Word.ofNum y.cursor)
  else if off = O.ZSQ_MBR_START then some (Word.ofNum y.start)
  else if off = O.ZSQ_MBR_END then some (Word.ofNum y.stop)
  else if off = O.ZSQ_RSH_STAT then
    some (packWord [(30, if s.reshape.isNone then 0 else if r.suspended then 2 else 1), (24, s.reshapeResult), (0, r.group)])
  else if off = O.ZSQ_RSH_ZONE then some (Word.ofNum (reshapeZone r))
  else if off = O.ZSQ_RSH_BOUND then some (Word.ofNum r.bound)
  else if off = O.ZSQ_RSH_LEFT then some (Word.ofNum r.zones.length)
  else if off = O.ZSQ_LOSS then some (Word.ofNum s.losses.length)
  else if off = O.ZSQ_SEASON then
    some (packWord ((24, groupsUp s) :: s.groups.entries.map fun e => (2 * e.1, e.2.season.code)))
  else if off = O.ZSQ_SEASON_PWR then
    some (packWord [(16, ((s.groups.entries.filter fun e => e.2.wake.isSome).map fun e => 2 ^ e.1).sum),
      (0, reservedWatts s % 65536)])
  else none

/-- PQE registers that show live state. -/
def readPqe (s : State) (n off : Nat) : Option Word :=
  if off = O.PQE_STAT then
    some (packWord [(31, num (s.pqeRun.get n).isSome), (0, min 255 s.pqeQueue.length)])
  else none

/-- Codes of PAIR_ROLE. -/
def Role.code : Role → Nat
  | .boot => 0 | .standby => 1 | .active => 2 | .takingOver => 3 | .isolated => 4 | .handingOver => 5

/-- Codes of PAIR_ROLE.MIRROR. -/
def Mirror.code : Mirror → Nat
  | .none => 0 | .syncing => 1 | .mirroring => 2 | .degraded => 3

/-- A path is up: heard since power-on reset and not lost (PAIR_PATH). -/
def HbPath.ok (p : HbPath) : Bool := p.ever && !p.lost

/-- PAIR_DRILL_STAT.STATE: idle, first handover, dwell, hand-back. -/
def DrillPhase.code : DrillPhase → Nat
  | .none => 0 | .draining => 1 | .handover => 1 | .dwelling => 2 | .returning => 3 | .awaiting => 2

/-- SPX state records are arriving: one came within the last 20 us (PAIR_SPX.UP, R353). -/
def spxUp (s : State) : Bool := (s.pair.spxAt.map fun t => decide (s.time.now ≤ t + 20 * ticksUs)).getD false

/-- PAIR registers that show live state. -/
def readPair (s : State) (off : Nat) : Option Word :=
  let p := s.pair
  if off = O.PAIR_ROLE then some (packWord [(28, p.role.code), (24, p.mirror.code)])
  else if off = O.PAIR_CLAIM then some (Word.ofNum (p.epoch * 2 + s.boot.ctrlId))
  else if off = O.PAIR_PEER_CLAIM then some (Word.ofNum p.peerClaim)
  else if off = O.PAIR_PATH then
    some (packWord [(24, min 7 p.link.missed), (16, min 7 p.wire.missed), (4, if p.link.ok then 15 else 0),
      (1, num p.wire.ok), (0, num p.link.ok)])
  else if off = O.PAIR_SPX then some (packWord [(1, num (spxUp s)), (0, num (dieReachable s && s.die.owner))])
  else if off = O.PAIR_MSEQ_LO then some (Word.ofNum p.acked)
  else if off = O.PAIR_MSEQ_HI then some (Word.ofNum (p.acked / 2 ^ 32))
  else if off = O.PAIR_MLAG then some (Word.ofNum (p.sentSeq - p.acked))
  else if off = O.PAIR_DRILL_CMD then some (putField (regOf s 0x010 off) 24 4 p.cmdResult)
  else if off = O.PAIR_DRILL_STAT then some (packWord [(30, p.drill.code), (0, p.drillDays)])
  else if off = O.PAIR_TKO_TICK_LO then some (Word.ofNum p.tkoTick)
  else if off = O.PAIR_TKO_TICK_HI then some (Word.ofNum (p.tkoTick / 2 ^ 32))
  else if off = O.PAIR_TKO_US then some (Word.ofNum p.tkoUs)
  else none

/-! ## Security (chapter 12) -/

/-- Codes of SEC_STATE.STATE. -/
def SecMode.code : SecMode → Nat
  | .boot => 0 | .ready => 1 | .halted => 2 | .zeroized => 3

/-- SEC registers that show live state. -/
def readSec (s : State) (off : Nat) : Option Word :=
  if off = O.SEC_STATE then
    some (packWord [(28, s.sec.mode.code), (2, num (!s.sec.tvk.entries.isEmpty)), (1, num s.sec.bound),
      (0, num s.sec.owner.isSome)])
  else if off = O.SEC_REQ_HEAD then some (Word.ofNum s.sec.head)
  else if O.SEC_ID_HASH ≤ off && off < O.SEC_ID_HASH + 48 then
    some (Word.ofNum (s.sec.idHash / 2 ^ (8 * (off - O.SEC_ID_HASH))))
  else none

/-- KEY registers that show live state. KEY_LOCK reads 0 except to the read that acquires it, and KEY_DATA holds what only
KEY reads (R325, R326). -/
def readKey (s : State) (off : Nat) : Option Word :=
  if off = O.KEY_LOCK || (O.KEY_DATA ≤ off && off < O.KEY_DATA + 64) then some 0#32
  else if off = O.KEY_STAT then some (packWord [(24, s.vault.result), (0, num s.vault.holder.isSome)])
  else if off = O.KEY_KCV then some s.vault.kcv
  else if O.KEY_VALID ≤ off && off < O.KEY_VALID + 128 then
    let base := 8 * (off - O.KEY_VALID)
    some (maskOf ((List.range 32).filter fun j => s.vault.slots.has (base + j)))
  else none

/-- ALM registers that show live state. -/
def readAlm (s : State) (off : Nat) : Option Word :=
  let a := s.alarm
  if off = O.ALM_STAT then
    some (packWord [(31, num s.crypto.halted), (30, num a.zeroized), (29, num a.fuse), (28, num a.partnerAck),
      (0, a.present)])
  else if off = O.ALM_FIRST then some (Word.ofNum a.first)
  else if off = O.ALM_TIME_LO then some (Word.ofNum a.firstTick)
  else if off = O.ALM_TIME_HI then some (Word.ofNum (a.firstTick / 2 ^ 32))
  else none

/-- RNG registers that show live state; RNG_OUT is drawn by its read (R339). -/
def readRng (s : State) (off : Nat) : Option Word :=
  if off = O.RNG_STAT then some (packWord [(31, num s.rng.ready), (30, num s.rng.fail)]) else none

/-- CRY registers that show live state. -/
def readCry (s : State) (off : Nat) : Option Word :=
  if off = O.CRY_STAT then
    let busy := (s.crypto.cores.entries.filter fun e => e.2.job.isSome).map (·.1)
    some (packWord [(31, num s.crypto.halted), (0, min 4096 s.crypto.queue.length)] |||
      maskOf (busy.map (· + 16)))
  else none

/-- CX registers that show live state. -/
def readCx (s : State) (i off : Nat) : Option Word :=
  let c := s.crypto.cores.getD i {}
  if off = O.CX_STAT then
    match c.round with
    | none => some (packWord [(31, num c.job.isSome)])
    | some (b, k, _) => some (packWord [(31, num c.job.isSome), (30, num b), (0, k)])
  else none

/-! ## Network side (chapters 06, 07) and program gates (R229) -/

/-- NET registers that show live state; the counters are those of the sub-port selected in NET_CNT_SEL (R175). -/
def readNet (s : State) (n off : Nat) : Option Word :=
  let up (p : SubPort → Bool) : Nat :=
    ((List.range 4).map fun k => num (decide (k < subCount s n) && p (subOf s n k)) * 2 ^ k).sum
  if off = O.NET_LINK then some (packWord [(8, up (·.anDone)), (4, up (·.aligned)), (0, up (·.up))])
  else if 0x130 ≤ off && off ≤ 0x154 then
    some (Word.ofNum ((subOf s n (regField s (netPage n) O.NET_CNT_SEL 0 2)).counts.getD off 0))
  else none

/-- TIME registers that show live state, to a requester that has latched nothing (R158 to R165). -/
def readTime (s : State) (off : Nat) : Option Word :=
  let t := s.time
  if off = O.TIME_S_LO then some (Word.ofNum t.sec)
  else if off = O.TIME_S_HI then some (Word.ofNum (t.sec / 2 ^ 32))
  else if off = O.TIME_NS then some (Word.ofNum t.ns)
  else if off = O.TIME_TICK_LO then some (Word.ofNum (tickCount s))
  else if off = O.TIME_TICK_HI then some (Word.ofNum (tickCount s / 2 ^ 32))
  else if off = O.TIME_STAT then some (Word.ofNum t.txts.length)
  else if off = O.TIME_STAT2 then some (packWord [(2, num t.ppsOverrun), (1, num t.ppsValid), (0, num t.isSet)])
  else if off = O.TIME_PPS_S_LO then some (Word.ofNum t.ppsSec)
  else if off = O.TIME_PPS_S_HI then some (Word.ofNum (t.ppsSec / 2 ^ 32))
  else if off = O.TIME_PPS_NS then some (Word.ofNum t.ppsNs)
  else if off = O.TIME_TXTS_INFO then
    match t.txts with
    | [] => some 0#32
    | x :: _ => some (packWord [(31, 1), (24, x.sub % 8), (16, x.msgType % 16), (0, x.seq % 65536)])
  else if off = O.TIME_TXTS_S_LO then some (Word.ofNum t.popped.sec)
  else if off = O.TIME_TXTS_S_HI then some (Word.ofNum (t.popped.sec / 2 ^ 32))
  else if off = O.TIME_TXTS_NS then some (Word.ofNum t.popped.ns)
  else none

/-- A queue number that R172 reserves. -/
def reservedQueue (q : Nat) : Bool := (40 ≤ q && q < 64) || 192 ≤ q

/-- SWC registers that show live state. -/
def readSwc (s : State) (off : Nat) : Option Word :=
  if off = O.SWC_BUF then some (Word.ofNum (usedCells s))
  else if off = O.SWC_QPROF then
    let q := regField s swcPage O.SWC_QPROF_IDX 0 8
    if reservedQueue q then some 0#32
    else some (packWord [(16, (queueOf s q).limit), (0, (queueOf s q).profile)])
  else none

/-- The registers of a gate list block, by their offset from GCL_CTRL (R184 to R187, R229). -/
def readGates (s : State) (page o : Nat) : Option Word :=
  let g := (gateOf s page).effective (devNs s)
  let part (l : GateList) (base o : Nat) : Option Word :=
    if o = 0x00 then some (Word.ofNum (base / 1000000000))
    else if o = 0x04 then some (Word.ofNum (base / 1000000000 / 2 ^ 32))
    else if o = 0x08 then some (Word.ofNum (base % 1000000000))
    else if o = 0x0C then some (Word.ofNum l.cycle)
    else some (Word.ofNum l.len)
  if o = 0x00 then some (Word.ofNum (num g.swapPending))
  else if o = 0x04 then
    some (packWord [(31, num g.isActive), (30, num g.swapPending), (0, g.entryAt (devNs s) % 256)])
  else if 0x20 ≤ o && o ≤ 0x30 then part g.pending (g.pending.baseS * 1000000000 + g.pending.baseNs) (o - 0x20)
  else if 0x40 ≤ o && o ≤ 0x50 then part g.active (g.active.baseS * 1000000000 + g.active.baseNs) (o - 0x40)
  else none

/-- EGS registers that show live state; the per-queue ones are those of the queue of EGS_QIDX (R195). -/
def readEgs (s : State) (n off : Nat) : Option Word :=
  let q := regField s (egsPage n) O.EGS_QIDX 0 6
  let e := (egressOf s n).queue q
  if off = O.EGS_QCFG then some (packWord [(16, e.prio), (0, e.weight)])
  else if off = O.EGS_QSHP_RATE then some (packWord [(31, num e.shaper.sEn), (0, e.shaper.sRate)])
  else if off = O.EGS_QSHP_BURST then some (Word.ofNum e.shaper.sBurst)
  else if off = O.EGS_QDEPTH then
    some (packWord [(31, num (eligible s n q)), (0, queueCells s (swcQueue n q))])
  else if off = O.EGS_QSOJ then some (Word.ofNum (min 0xFFFFFFFF (sojournOf s n q)))
  else if 0x140 ≤ off && off ≤ 0x190 then readGates s (egsPage n) (off - 0x140)
  else if 0x1C0 ≤ off && off ≤ 0x1FC then some (Word.ofNum ((egressOf s n).snap.getD ((off - 0x1C0) / 4) 0))
  else none

/-- MLX registers that show live state. -/
def readMlx (s : State) (k off : Nat) : Option Word :=
  if 0x180 ≤ off && off ≤ 0x1D0 then readGates s (0x060 + k) (off - 0x180) else none

/-! ## Cycles that count as block events (Table 17-2) -/

/-- A program or erase waits on a slot of cluster k for its gate alone to open. -/
def gateHolds (s : State) (k : Nat) : Bool :=
  (List.range 8).any fun i =>
    !programGateOpen s (8 * k + i) &&
      ((s.links.get (8 * k + i)).map fun l => l.waiting.any fun c => c.op = 0x03 || c.op = 0x04).getD false

/-- The block events that are cycles in which a condition holds, where the condition holds now (Table 17-2). -/
def cycleEvents (s : State) (page : Nat) : List Nat :=
  let on (code : Nat) (b : Bool) : List Nat := if b then [code] else []
  match blockOf page with
  | some .xpt => on 0x103 (decide ((s.engines.getD (page - 0x028) {}).cells ≠ 0))
  | some .egs => on 0x102 (egressStalled s (page - 0x038))
  | some .cmd => on 0x103 (s.boot.act = .draining || s.pair.holding)
  | some .stg => on 0x101 (s.commands.values.any fun c => decide (c.phase = .windowWait))
  | some .ecc => on 0x102 (workInFlight s page)
  | some .mlx => on 0x102 (gateHolds s (page - 0x060))
  | some .mlk => on 0x103 (((s.links.get (page - 0x080)).map fun l =>
      (!l.dataQueue.isEmpty && l.credData = 0) || (!l.waiting.isEmpty && l.credCmd = 0)).getD false)
  | _ => []

/-- What a read of a block register shows where it is not the stored word. -/
def liveReg (s : State) (page off : Nat) : Option Word :=
  match blockOf page with
  | some .net => readNet s (page - 0x020) off
  | some .time => readTime s off
  | some .swc => readSwc s off
  | some .egs => readEgs s (page - 0x038) off
  | some .mlx => readMlx s (page - 0x060) off
  | some .xpt => readXpt s (page - 0x028) off
  | some .spc => readSpc s off
  | some .spw => readSpw s (page - 0x0D0) off
  | some .cmd => readCmd s off
  | some .zsq => readZsq s off
  | some .pqe => readPqe s (page - 0x048) off
  | some .mlk => readMlk s (page - 0x080) off
  | some .clk => readClk s off
  | some .pwr => readPwr s off
  | some .boot => readBoot s off
  | some .mgt => readMgt s off
  | some .pmt => readPmt s off
  | some .fab => readFab s off
  | some .dma => readDma s page off
  | some .svp => readSvp s off
  | some .ddr => readDdr s page off
  | some .mrm => readMrm s off
  | some .pair => readPair s off
  | some .sec => readSec s off
  | some .key => readKey s off
  | some .alm => readAlm s off
  | some .rng => readRng s off
  | some .cry => readCry s off
  | some .cx => readCx s (page - 0x101) off
  | _ => none

/-- The word a block register shows. -/
def showReg (s : State) (page off : Nat) : Word := (liveReg s page off).getD (regOf s page off)

end Sys2Proof.Machine
end

