-- ==== Sys2Proof/Machine/Access.lean ====
section
/-! DEFINITION. Register accesses as chapter 02 gives them: which are rejected and logged, how a written value is stored,
what a read returns, and the passing of time. -/
namespace Sys2Proof.Machine

/-! ## Time passes -/

/-- Counting of the cycles of one page while the clocks run from state `s` to state `t`. -/
def pageCycles (s t : State) (page : Nat) (p : Page) : Page :=
  if p.pmcCtrl = 0#32 || !poweredOn s page then p
  else cycleCount (globalRun s) (workInFlight s page) (cycleEvents s page) (clockCycles t page - clockCycles s page) p

/-- The state at a later moment: dt periods of 1.25 ns pass. The clocks run, the device time advances with the ticks of
the TIME clock (R158, R419) and the page counters count cycles (R440). -/
def elapse (s : State) (dt : Nat) : State :=
  let clk := { s.clk with
    reg := s.clk.reg.run dt, time := s.clk.time.run dt, fab := s.clk.fab.run dt
    cc := s.clk.cc.run dt, dp := s.clk.dp.run dt, aon := s.clk.aon.run dt }
  let ticks := if s.time.base.isSome then clk.time.cycles - s.clk.time.cycles else 0
  let tb := { s.time.setFine (s.time.fine + ticks * tickStep s.time.freq) with now := s.time.now + dt }
  let t := { s with clk := clk, time := tb }
  { t with pages := s.pages.mapVals (pageCycles s t) }

/-- The clock of the model moves on to a moment, never back. -/
def clockTo (s : State) (t : Tick) : State := if s.time.now < t then elapse s (t - s.time.now) else s

/-- The clock moves on to a deadline where there is one. -/
def clockToOpt (s : State) : Option Tick → State
  | none => s
  | some t => clockTo s t

/-! ## Stored values (R45, R31) -/

/-- The value that a field stores when `n` is written to it (R45). -/
def Norm.apply (r : Norm) (w n : Nat) : Nat :=
  match r with
  | .keep => n
  | .clamp lo hi => clampTo lo hi n
  | .elseMax lo hi => if n < lo ∨ hi < n then hi else n
  | .swap v t => if n = v then t else n
  | .signed m =>
    let i := signedOf w n
    unsignedOf w (if i < -(m : Int) then -(m : Int) else if (m : Int) < i then m else i)

/-- The bits that a register's fields cover. -/
def fieldMask (fs : List FieldDef) : Word :=
  fs.foldl (fun m f => m ||| Word.ofNum ((2 ^ f.w - 1) * 2 ^ f.lo)) 0#32

/-- Does a register hold a writable field? -/
def RegDef.writable (d : RegDef) : Bool := d.fields.any fun f => decide (f.acc ≠ .ro)

/-- One field of a write: the register's new value and whether a quiesce-only field was refused (R31). -/
def writeField (frozen : Bool) (v : Word) (acc : Word × Bool) (f : FieldDef) : Word × Bool :=
  let n := field v f.lo f.w
  match f.acc with
  | .ro => acc
  | .w1c => (acc.1 &&& ~~~ Word.ofNum (n * 2 ^ f.lo), acc.2)
  | .wo | .rw =>
    let m := f.norm.apply f.w n
    if f.quiesce && frozen && m ≠ field acc.1 f.lo f.w then (acc.1, true)
    else (putField acc.1 f.lo f.w m, acc.2)

/-- The rules that bind two fields of one register, or that name single values: applied to the value stored by the
fields' own rules. -/
def crossRule (s : State) (b : Block) (off : Nat) (v : Word) : Word :=
  if b = .xpt && off = O.XPT_CC_STEP then
    putField v 16 16 (clampTo (field v 0 16) 4000 (field v 16 16))
  else if b = .xpt && off = O.XPT_CC_LIMIT then
    putField v 0 16 (clampTo 1 (field v 16 16) (field v 0 16))
  else if b = .swc && 0x140 ≤ off && off < 0x160 then
    if field v 0 16 ≤ field v 16 16 then putField v 16 16 (field v 0 16 - 1) else v
  else if b = .spw && off = O.SPW_BRK then
    putField v 8 8 (clampTo (max 10 (2 * field v 0 6)) 150 (field v 8 8))
  else if b = .mgt && off = O.MGT_CFG then
    let a := field v 0 7
    if a ≤ 7 || a = 0x0C || a = 0x28 || a = 0x37 || a = 0x61 || 0x78 ≤ a
    then putField v 0 7 (0x5A + s.boot.ctrlId) else v
  else v

/-- The value a register stores when `v` is written, whether quiesce-only fields were refused, and whether reserved bits
were set. -/
def storedValue (s : State) (page off : Nat) (b : Block) (d : RegDef) (v : Word) : Word × Bool × Bool :=
  let p := getPage s page
  let old := showReg s page off
  let frozen := p.enabled && !p.quiesced
  let rsvd := decide (v &&& ~~~ fieldMask d.fields ≠ 0#32)
  if d.counter then (if v = 0#32 then 0#32 else old, false, rsvd)
  else
    let r := d.fields.foldl (writeField frozen v) (old, false)
    (crossRule s b off r.1, r.2, rsvd)

/-! ## The header registers (Table 2-2) -/

/-- The header offsets that exist. -/
def headerOffset (off : Nat) : Bool :=
  off ≤ 0x02C || off = 0x040 || off = 0x044 || off = 0x048 || (0x050 ≤ off && off ≤ 0x06C) ||
  (0x070 ≤ off && off ≤ 0x08C) || off = 0x0B0 || off = 0x0C0

/-- The header registers that hold no writable field. -/
def headerReadOnly (off : Nat) : Bool :=
  off = 0x000 || off = 0x004 || off = 0x00C || off = 0x018 || off = 0x020 || off = 0x028 || off = 0x02C ||
  off = 0x040 || off = 0x044

/-- The bits of a header register that are not reserved. INT bits below 24 are those of the block's causes. -/
def headerMask (causes : Word) (off : Nat) : Word :=
  if off = 0x008 then 0xF#32
  else if off = 0x010 || off = 0x014 || off = 0x01C then 0xFC000000#32 ||| causes
  else if off = 0x048 then 0x830F00FF#32
  else if 0x050 ≤ off && off ≤ 0x06C then 0xFFF#32
  else if off = 0x0B0 then 0xFF#32
  else if off = 0x0C0 then 0x1#32
  else 0xFFFFFFFF#32

/-- The block's own interrupt causes among INT_RAW[23:0] (R36): how many ALERT bits the block has. -/
def blockCauses : Block → Word
  | .cmd => 0xF#32 | .xpt => 0x1F#32 | .net => 0x7#32 | .time => 0x7#32 | .swc => 0x7#32 | .egs => 0xF#32
  | .mlk => 0x7F#32 | .mlx => 0x7#32 | .ecc => 0x3#32 | .pqe => 0x3#32
  | .zsq => 0x71FF7F#32 | .spc => 0x7#32 | .spw => 0xFF#32 | .key => 0x3#32 | .sec => 0x3#32 | .alm => 0x3#32
  | .rng => 0x1#32 | .cry => 0x3#32 | .pair => 0x1FF#32 | .fab => 0x7#32 | .dma => 0x7#32 | .ddr => 0x7#32
  | .mrm => 0x7#32 | .svp => 0x1FF#32 | .clk => 0x1F#32 | .pwr => 0x7#32 | .boot => 0xF#32 | .mgt => 0x3#32
  | .pmt => 0x3#32 | .pol | .stg | .cx => 0#32

/-- The word a header register shows; CYC and PMC latches are taken by `readRegister`. -/
def showHeader (s : State) (page off : Nat) : Word :=
  let p := getPage s page
  if off = 0x000 then
    let t := ((blockOf page).map (·.place.1)).getD 0
    packWord [(16, t), (8, page - t), (0, 1)]
  else if off = 0x004 then 0x100#32
  else if off = 0x008 then
    packWord [(3, num p.lockReq), (2, num p.quiesce), (1, num p.softReset), (0, num p.enable)]
  else if off = 0x00C then
    packWord [(5, num p.quiesced), (4, num p.fault), (3, num p.reenable), (2, num p.shutdown),
      (1, num (p.shutdown || (p.enabled && workInFlight s page))), (0, num p.enabled)]
  else if off = 0x010 then p.intRaw
  else if off = 0x014 then p.intEn
  else if off = 0x018 then p.intRaw &&& p.intEn
  else if off = 0x020 then
    if p.errCount = 0 then 0#32 else packWord [(31, 1), (16, p.errReq), (0, p.errCode)]
  else if off = 0x024 then Word.ofNum p.errCount
  else if off = 0x028 then Word.ofNum p.errAddr
  else if off = 0x02C then Word.ofNum (p.errAddr / 2 ^ 32)
  else if off = 0x040 then Word.ofNum (clockCycles s page - p.cycBase)
  else if off = 0x044 then Word.ofNum ((clockCycles s page - p.cycBase) / 2 ^ 32)
  else if off = 0x048 then p.pmcCtrl
  else if 0x050 ≤ off && off ≤ 0x06C then Word.ofNum (p.pmcSel.getD ((off - 0x050) / 4) 0)
  else if 0x070 ≤ off && off ≤ 0x08C then Word.ofNum (p.pmcCnt.getD ((off - 0x070) / 4) 0)
  else if off = 0x0B0 then Word.ofNum p.pmcOvf
  else if off = 0x0C0 then Word.ofNum (num p.lock)
  else 0#32

/-! ## Judging an access -/

/-- A page that answers as a reserved one: not defined, or its power domain is off (R23, R24). -/
def reservedPage (s : State) (page : Nat) : Bool := (blockOf page).isNone || !poweredOn s page

/-- Log an access error in FAB and raise ACCESS (Table 2-6, FAB_ALERT). -/
def fabError (s : State) (code req addr : Nat) : State :=
  alert (logError s fabPage code req addr) fabPage O.FAB_ALERT 1

/-- Is an offset of a page one of its registers? -/
def knownOffset (page off : Nat) : Bool :=
  if off < 0x100 then headerOffset off
  else match blockOf page with
    | none => false
    | some b => (regAt b page off).isSome

/-- Does the register at an offset hold no writable field? -/
def readOnlyAt (page off : Nat) : Bool :=
  if off < 0x100 then headerReadOnly off
  else match blockOf page with
    | none => false
    | some b => ((regAt b page off).map fun d => !d.1.writable && !d.1.fields.isEmpty).getD false

/-- The header registers that control cores may write on a locked page (R41). -/
def lockExempt (req off : Nat) : Bool :=
  req ≤ 0x0F && (off = 0x010 || off = 0x014 || off = 0x024 || off = 0x048 || (0x050 ≤ off && off ≤ 0x06C) ||
    (0x070 ≤ off && off ≤ 0x08C) || off = 0x0B0)

/-- The codes, in the order of Table 2-6, for which a write to an existing page is dropped (R23, R35, R41). Key path
accesses carry the security core's id (R370). -/
def dropCodes (s : State) (req page off : Nat) : List Nat :=
  let p := getPage s page
  (if !knownOffset page off then [0x0004] else []) ++
  (if knownOffset page off && readOnlyAt page off then [0x0005] else []) ++
  (if p.lock && req ≠ 0x10 && !lockExempt req off then [0x0006] else []) ++
  (if p.softReset && off ≠ 0x008 then [0x000B] else []) ++
  (if off = 0x0C0 && req ≠ 0x10 then [0x000C] else [])

/-- The state with the errors of a list of codes logged in a page. -/
def logCodes (s : State) (page req off : Nat) (codes : List Nat) : State :=
  codes.foldl (fun s c => logError s page c req (regAddr page off)) s

/-- How a register access is judged before it reaches its register. -/
inductive Judged
  /-- the access ends here: rejected, dropped or read as zero, with what was logged -/
  | stop (s : State)
  /-- the access reaches the register -/
  | go (s : State)
  deriving DecidableEq, Repr

/-- Judge a write (R23, R24, R35, R41, R316). An access that reaches a page is a grant of the register bus to it
(event 0x006). -/
def judgeWrite (s : State) (req page off : Nat) : Judged :=
  if onDie page && !dieReachable s then
    .stop (emit (fabError s 0x000D req (regAddr page off)) (.accessError req (regAddr page off)))
  else if reservedPage s page then .stop (logError s fabPage 0x0001 req (regAddr page off))
  else
    let t := pmcEvent s page 0x006 1
    let codes := dropCodes t req page off
    if codes = [] then .go t else .stop (logCodes t page req off codes)

/-- Store a written value in a block register and log what R31 and R45 say. -/
def storeBlock (s : State) (req page off : Nat) (v : Word) : State :=
  match blockOf page with
  | none => s
  | some b =>
    match regAt b page off with
    | none => s
    | some (d, _) =>
      let r := storedValue s page off b d v
      let t := if d.fields.isEmpty then s else setReg s page off r.1
      logCodes t page req off ((if r.2.2 then [0x0007] else []) ++ (if r.2.1 then [0x000A] else []))

/-- A block register is written: judged, stored, and its effect on the block takes place. `effect` gets the state
before and after the store. -/
def writeBlock (effect : State → State → State) (s : State) (req page off : Nat) (v : Word) : State :=
  match judgeWrite s req page off with
  | .stop t => t
  | .go t => effect t (storeBlock t req page off v)

/-- Judge a read: the value is zero at a reserved page, at an unassigned offset, and where the slot power die cannot be
reached (R23, R24, R316). -/
def judgeRead (s : State) (req page off : Nat) : Judged :=
  if onDie page && !dieReachable s then
    .stop (emit (fabError s 0x000D req (regAddr page off)) (.accessError req (regAddr page off)))
  else if reservedPage s page then .stop s
  else if !knownOffset page off then .stop (pmcEvent s page 0x006 1)
  else .go (pmcEvent s page 0x006 1)

/-- A register reads: the value, and what the read itself changes (`effect`). -/
def readWith (effect : State → State) (value : State → Word) (s : State) (req page off : Nat) : State :=
  match judgeRead s req page off with
  | .stop t => emit t (.readValue req (regAddr page off) 0#32)
  | .go t => emit (effect t) (.readValue req (regAddr page off) (value t))

/-- Page and offset of an internal address in the control space; none outside it. -/
def splitAddr (addr : Nat) : Option (Nat × Nat) :=
  if 0x80000000 ≤ addr ∧ addr < 0x82000000 then some ((addr - 0x80000000) / 4096, (addr - 0x80000000) % 4096)
  else none

end Sys2Proof.Machine
end

