-- ==== Sys2Proof/Machine/Header.lean ====
section
/-! DEFINITION. Writes of the header registers other than PG_CTRL (R36 to R43, R440 to R443), page locks, and the commands
on page counters and tracing seeds (chapter 17). -/
namespace Sys2Proof.Machine

/-- The page of SVP. -/
abbrev svpPage : Nat := 0x140

/-- The BAR0 entries that map a page. -/
def entriesMapping (s : State) (page : Nat) : List Nat :=
  s.svp.w0.keys.filter fun i =>
    match s.svp.w0.get i with
    | some e => decide (e.base ≤ page ∧ page < e.base + e.pages)
    | none => false

/-- A BAR0 entry that maps a page being locked is invalidated, and MAP_INVALIDATED raised (R43, R400). -/
def invalidateEntry (s : State) (i : Nat) : State :=
  alert { s with svp := { s.svp with w0 := s.svp.w0.erase i } } svpPage O.SVP_ALERT 8

/-- The security core sets PG_LOCK of a page (R42, R43). -/
def lockPage (s : State) (page : Nat) : State :=
  let s := setPage s page { getPage s page with lock := true }
  (entriesMapping s page).foldl invalidateEntry s

/-- How many block events a block type defines from 0x100 (Table 17-2). -/
def blockEvents : Block → Nat
  | .xpt | .swc | .cmd | .zsq | .mlx | .mlk => 4
  | .egs | .ecc | .cx | .fab | .ddr => 3
  | .stg | .pqe | .dma | .mrm | .svp => 2
  | _ => 0

/-- Is an event code defined on a page (R443)? -/
def eventDefined (page code : Nat) : Bool :=
  code ≤ 6 || (0x100 ≤ code && code < 0x100 + ((blockOf page).map blockEvents).getD 0)

/-- The header after a write of one of its registers other than PG_CTRL and PG_LOCK. -/
def headerStore (page off : Nat) (v : Word) (run : Bool) (p : Page) : Page :=
  let causes := 0xFC000000#32 ||| ((blockOf page).map blockCauses).getD 0#32
  if off = 0x010 then { p with intRaw := p.intRaw &&& ~~~ v }
  else if off = 0x014 then { p with intEn := v &&& causes }
  else if off = 0x01C then headerRaise run (v &&& causes) p
  else if off = 0x024 then
    if v = 0#32 then { p with errCount := 0, errReq := 0, errCode := 0, errAddr := 0 } else p
  else if off = 0x048 then
    let q := { p with pmcCtrl := v &&& 0x030F00FF#32 }
    if bit v 31 then { q with pmcCnt := .empty } else q
  else if 0x050 ≤ off && off ≤ 0x06C then
    let c := field v 0 12
    { p with pmcSel := p.pmcSel.set ((off - 0x050) / 4) (if eventDefined page c then c else 0) }
  else if 0x070 ≤ off && off ≤ 0x08C then { p with pmcCnt := p.pmcCnt.set ((off - 0x070) / 4) v.toNat }
  else if off = 0x0B0 then { p with pmcOvf := p.pmcOvf &&& (0xFF - field v 0 8) }
  else p

/-- Reserved bits of a header register written as 1 (R45). -/
def headerReserved (page off : Nat) (v : Word) : Bool :=
  decide (v &&& ~~~ headerMask (((blockOf page).map blockCauses).getD 0#32) off ≠ 0#32)

/-- A write of a header register other than PG_CTRL. -/
def writeHeader (s : State) (req page off : Nat) (v : Word) : State :=
  match judgeWrite s req page off with
  | .stop t => t
  | .go t =>
    let t := if headerReserved page off v then logError t page 0x0007 req (regAddr page off) else t
    if off = 0x0C0 then
      if bit v 0 then lockPage t page else setPage t page { getPage t page with lock := false }
    else setPage t page (headerStore page off v (globalRun t) (getPage t page))

/-- INT_SET (R38). -/
def execIntSet (req page : Nat) (v : Word) (s : State) : Res := .next (writeHeader s req page 0x01C v)

/-- ERR_COUNT_WRITE (R40). -/
def execErrCountWrite (req page : Nat) (v : Word) (s : State) : Res := .next (writeHeader s req page 0x024 v)

/-- PG_LOCK_WRITE (R41, R42). -/
def execPgLockWrite (req page : Nat) (v : Word) (s : State) : Res := .next (writeHeader s req page 0x0C0 v)

/-- PMC_CLEAR (R442): PMC_CTRL is written with CLEAR = 1 and its other fields as they are. -/
def execPmcClear (req page : Nat) (s : State) : Res :=
  .next (writeHeader s req page 0x048 ((getPage s page).pmcCtrl ||| oneBit 31))

/-! ## Reads of the latched pairs (R47, R441) -/

/-- What one requester has latched on a page. -/
def latchOf (s : State) (page req : Nat) : HalfLatch := (getPage s page).latches.getD req {}

/-- The page with a requester's latches replaced. -/
def setLatch (s : State) (page req : Nat) (h : HalfLatch) : State :=
  let p := getPage s page
  setPage s page { p with latches := p.latches.set req h }

/-- What the read of a header register changes: a low half latches the high half, a high half releases it. -/
def headerReadEffect (req page off : Nat) (s : State) : State :=
  let h := latchOf s page req
  if off = 0x040 then setLatch s page req { h with cyc := some (showHeader s page 0x044) }
  else if off = 0x044 then (if h.cyc.isSome then setLatch s page req { h with cyc := none } else s)
  else if 0x070 ≤ off && off ≤ 0x08C then
    let i := (off - 0x070) / 4
    if !bit (getPage s page).pmcCtrl (16 + i / 2) then s
    else if i % 2 = 0 then setLatch s page req { h with pmc := h.pmc.set (i / 2) (showHeader s page (off + 4)) }
    else if h.pmc.has (i / 2) then setLatch s page req { h with pmc := h.pmc.erase (i / 2) } else s
  else s

/-- The value that the read of a header register returns. -/
def headerReadValue (req page off : Nat) (s : State) : Word :=
  let h := latchOf s page req
  if off = 0x044 then h.cyc.getD (showHeader s page off)
  else if 0x070 ≤ off && off ≤ 0x08C && (off - 0x070) / 4 % 2 = 1 &&
      bit (getPage s page).pmcCtrl (16 + (off - 0x070) / 8) then
    (h.pmc.get ((off - 0x070) / 8)).getD (showHeader s page off)
  else showHeader s page off

/-- The read of a header register. -/
def readHeader (s : State) (req page off : Nat) : State :=
  readWith (headerReadEffect req page off) (headerReadValue req page off) s req page off

/-- CYC_LO_READ (R47). -/
def execCycLoRead (req page : Nat) (s : State) : Res := .next (readHeader s req page 0x040)

/-- PMC_CHAIN_READ (R441): a read of PMC_CNT of the low counter of a pair. -/
def execPmcChainRead (req page pair : Nat) (s : State) : Res :=
  onUnit "counter pair" pair 4 (readHeader s req page (0x070 + 8 * pair))

/-! ## PMT (R440, R444, R446) -/

/-- The page of PMT. -/
abbrev pmtPage : Nat := 0x150

/-- What a write of PMT_SEED does: the LFSR is loaded (R444). -/
def seedEffect (_ after : State) : State :=
  { after with trace := { after.trace with lfsr := (regOf after pmtPage O.PMT_SEED).toNat } }

/-- PMT_SEED (R444). -/
def execPmtSeed (req : Nat) (v : Word) (s : State) : Res :=
  .next (writeBlock seedEffect s req pmtPage O.PMT_SEED v)

/-- PMT_GLOBAL (R440). -/
def execPmtGlobal (req : Nat) (v : Word) (s : State) : Res :=
  .next (writeBlock (fun _ t => t) s req pmtPage O.PMT_GLOBAL v)

/-- One advance of the 32-bit Galois LFSR with polynomial x^32 + x^22 + x^2 + x + 1 (R174, R444): shifted right, the
polynomial's taps 31, 21, 1 and 0 applied when a 1 leaves. -/
def lfsrNext (n : Nat) : Nat := if n % 2 = 1 then n / 2 ^^^ 0x80200003 else n / 2

/-- Does a trace ring lack room under STOP_FULL (R446)? -/
def ringFull (s : State) : Bool :=
  bit (regOf s pmtPage O.PMT_CFG) 30 &&
    decide (4096 ≤ wrapGap 32 (regOf s pmtPage O.PMT_RD).toNat s.trace.wr)

/-- Does a capsule pass PMT_FILTER? -/
def traceFilter (s : State) (conn op : Nat) : Bool :=
  let f := regOf s pmtPage O.PMT_FILTER
  (!bit f 31 || field f 16 12 = conn) && (!bit f 15 || field f 0 8 = op)

/-- CMD parses a capsule other than DATA_DONE: the LFSR advances and the capsule is tagged where R444 says. `trig` is
the tick count of the slot's trigger. -/
def tagCapsule (s : State) (conn cid op trig : Nat) : Bool × State :=
  let n := lfsrNext s.trace.lfsr
  let s := { s with trace := { s.trace with lfsr := n } }
  let cfg := regOf s pmtPage O.PMT_CFG
  if !(bit cfg 31 && accepting s pmtPage) || n % 2 ^ field cfg 16 5 ≠ 0 || !traceFilter s conn op then (false, s)
  else if 256 ≤ s.trace.live.length then (false, bump s pmtPage O.PMT_SKIP_CNT)
  else if ringFull s then (false, bump s pmtPage O.PMT_FULL_CNT)
  else
    let t : Traced := { conn := conn, cid := cid, op := op, stamps := Tab.empty.set 0 trig }
    (true, bump { s with trace := { s.trace with live := t :: s.trace.live } } pmtPage O.PMT_TAG_CNT)

/-- Record a stamp point of a traced command: its first stamp is kept (R445). -/
def stamp (s : State) (conn cid point : Nat) : State :=
  let now := tickCount s
  { s with trace := { s.trace with live := s.trace.live.map fun t =>
      if t.conn = conn && t.cid = cid && !t.stamps.has point then { t with stamps := t.stamps.set point now } else t } }

/-- Set FLAGS bits of a traced command (Table 17-4). -/
def traceFlag (s : State) (conn cid b : Nat) : State :=
  { s with trace := { s.trace with live := s.trace.live.map fun t =>
      if t.conn = conn && t.cid = cid then { t with flags := t.flags ||| 2 ^ b } else t } }

/-- Note the namespace, zone and length of a traced command (Table 17-4). -/
def traceTarget (s : State) (conn cid ns zone len : Nat) : State :=
  { s with trace := { s.trace with live := s.trace.live.map fun t =>
      if t.conn = conn && t.cid = cid then { t with ns := ns, zone := zone, len := len } else t } }

/-! ## Byte memories -/

/-- A byte of a memory; an unlisted byte reads 0 (log entry 3). -/
def readByte (m : List Host.Cell) (a : Nat) : Byte := (findKey a m).getD 0#8

/-- A byte written: the canonical form lists no zero byte. -/
def writeByte (m : List Host.Cell) (a : Nat) (b : Byte) : List Host.Cell :=
  if b = 0#8 then eraseKey a m else insertKey a b m

/-- Bytes of a memory from an address. -/
def readBytes (m : List Host.Cell) (a : Nat) : Nat → List Byte
  | 0 => []
  | n + 1 => readByte m a :: readBytes m (a + 1) n

/-- Bytes written from an address, in ascending order. -/
def writeBytes (m : List Host.Cell) (a : Nat) : List Byte → List Host.Cell
  | [] => m
  | b :: r => writeBytes (writeByte m a b) (a + 1) r

/-- The canonical form of a byte memory: addresses strictly rising and no entry equal to what an unlisted byte
reads as. -/
def memoryWf (m : List Host.Cell) : Bool := risingFrom 0 m && m.all fun c => decide (c.2 ≠ 0#8)

/-- DRAM with bytes written; the words that are wholly rewritten lose their poison (R385). -/
def dramWrite (s : State) (a : Nat) (bs : List Byte) : State :=
  { s with
    dram := writeBytes s.dram a bs
    poison := s.poison.filter fun w => !(a ≤ w * 8 && w * 8 + 8 ≤ a + bs.length) }

/-- The trace entry of a command that has ended (Table 17-4): entry number, final status (0xFF when no entry was
posted). -/
def traceEntry (k status : Nat) (t : Traced) : List Byte :=
  let flags := t.flags + (if status = 0xFF then 1 else 0)
  leBytes 4 k ++ leBytes 2 t.conn ++ leBytes 2 t.cid ++ leBytes 1 t.op ++ leBytes 1 status ++ leBytes 1 flags ++
  zeros 1 ++ leBytes 2 t.ns ++ zeros 2 ++ leBytes 4 t.zone ++ leBytes 4 t.len ++ zeros 8 ++
  (List.range 12).flatMap fun i => leBytes 8 (t.stamps.getD i 0)

/-- GiB per DRAM channel, by DDR_CFG.CAPACITY (R383). -/
def channelGib : Nat → Nat
  | 0 => 16 | 1 => 24 | 2 => 32 | 3 => 48 | _ => 64

/-- DRAM size: 4 × the capacity of DDR0 (R383). -/
def dramSize (s : State) : Nat := 4 * channelGib (regField s 0x130 O.DDR_CFG 0 3) * 2 ^ 30

/-- A traced command ends (R446): its entry is written to the trace ring and PMT_WR advances. -/
def endTrace (s : State) (conn cid status : Nat) : State :=
  match s.trace.live.find? fun t => t.conn = conn && t.cid = cid with
  | none => s
  | some t =>
    let k := s.trace.wr
    let base := (regOf s pmtPage O.PMT_RING_LO).toNat + 2 ^ 32 * (regOf s pmtPage O.PMT_RING_HI).toNat
    let a := base + (k % 4096) * 128
    let s := { s with trace := { s.trace with
      live := s.trace.live.filter fun u => !(u.conn = conn && u.cid = cid), wr := (k + 1) % 2 ^ 32 } }
    let s := if a + 128 ≤ dramSize s then dramWrite s a (traceEntry k status t)
      else alert s pmtPage O.PMT_ALERT 1
    if !bit (regOf s pmtPage O.PMT_CFG) 30 then s
    else if ringFull s then
      if s.trace.full then s else alert { s with trace := { s.trace with full := true } } pmtPage O.PMT_ALERT 0
    else { s with trace := { s.trace with full := false } }

end Sys2Proof.Machine
end

