-- ==== Sys2Proof/Machine/Arbiters.lean ====
section
/-! DEFINITION. The DDR and MRAM arbiters (R367 to R374), the memory scrubs (R386, R392) and the MRAM dies (R393). -/
namespace Sys2Proof.Machine

/-- The arbiter. -/
def arbiterOf (s : State) (arb : Nat) : Arbiter := s.arbiters.getD arb {}

/-- The state with an arbiter replaced. -/
def setArbiter (s : State) (arb : Nat) (a : Arbiter) : State := { s with arbiters := s.arbiters.set arb a }

/-- The state with a requester of an arbiter replaced. -/
def setRequester (s : State) (arb req : Nat) (r : Requester) : State :=
  let a := arbiterOf s arb
  setArbiter s arb { a with reqs := a.reqs.set req r }

/-- Cycles of an arbiter's clock: FAB, or REG for the register bus (R371, R375). -/
def arbiterCycle (s : State) (arb : Nat) : Nat := if arb = 5 then s.clk.reg.cycles else s.clk.fab.cycles

/-- Move the clock on until an arbiter's clock has counted to a cycle. -/
def clockToCycle (s : State) (arb c : Nat) : State :=
  let d := if arb = 5 then s.clk.reg else s.clk.fab
  if c ≤ d.cycles then s else elapse s (ceilDiv ((c - d.cycles) * d.div - d.part) 8)

/-- A requester begins to present a transfer (R369): a new wait (R374). -/
def Requester.start (r : Requester) (len cycle : Nat) : Requester :=
  { r with want := len, whole := len, since := cycle, alarmed := false }

/-- A transfer of 1 to 4,096 bytes is presented at an arbiter; a requester whose earlier transfer still waits keeps the
issue order (R369). -/
def present (arb : Nat) (s : State) (p : Presented) : State :=
  let a := arbiterOf s arb
  let r := requesterOf s arb p.req
  if !usesArbiter p.req arb || p.len = 0 || 4096 < p.len then s
  else if r.want = 0 && !(a.owner = some p.req && a.left ≠ 0) then
    setRequester s arb p.req (r.start p.len (arbiterCycle s arb))
  else setRequester s arb p.req { r with next := r.next ++ [p.len] }

/-- WAIT_ALARM of a waiting requester whose wait has reached FAB_REQ_ALARM (R374). -/
def checkAlarm (arb : Nat) (s : State) (req : Nat) : State :=
  let r := requesterOf s arb req
  if r.want ≠ 0 && !r.alarmed && r.alarm ≠ 0 && r.alarm ≤ arbiterCycle s arb - r.since then
    let s := setRequester s arb req { r with alarmed := true }
    alert (setReg s fabPage O.FAB_WAIT_REQ (packWord [(16, arb), (0, req)])) fabPage O.FAB_ALERT 0
  else s

/-- WAIT_ALARM of every waiting requester of an arbiter. -/
def checkAlarms (s : State) (arb : Nat) : State :=
  (arbiterOf s arb).reqs.keys.foldl (checkAlarm arb) s

/-- The requesters that present at an arbiter: with a transfer and no back-off. -/
def candidates (s : State) (arb : Nat) : List Nat :=
  (arbiterOf s arb).reqs.keys.filter fun q =>
    let r := requesterOf s arb q
    r.want ≠ 0 && r.backoff.isNone

/-- Highest class among requesters. -/
def topClass (s : State) (arb : Nat) (cs : List Nat) : Nat := cs.foldl (fun m c => max m (classOf s arb c)) 0

/-- The winner of a class: first at or after the round-robin pointer in ascending id, wrapping (R371); the privileged
ones in the order key path, journal writer, pair mirror (R373). -/
def winnerOf (s : State) (arb top : Nat) (cs : List Nat) : Option Nat :=
  let cls := cs.filter fun c => classOf s arb c = top
  if top = 4 then [0x48, 0x44, 0x40].find? (cls.contains ·)
  else
    let p := (arbiterOf s arb).rr.getD top 0
    match cls.find? (p ≤ ·) with
    | some c => some c
    | none => cls.head?

/-- A loss of a candidate (R371). -/
def lose (arb : Nat) (s : State) (c : Nat) : State :=
  let r := requesterOf s arb c
  let n := r.losses + 1
  let s := setRequester s arb c
    { r with losses := n, backoff := some (arbiterCycle s arb + min 4096 (2 ^ n)) }
  pmcEvent s fabPage 0x101 1

/-- A grant: the requester owns the port with its transfer (R371), and its wait ends (R374). -/
def grant (arb : Nat) (s : State) (c : Nat) : State :=
  let r := requesterOf s arb c
  let wait := arbiterCycle s arb - r.since
  let s := setRequester s arb c
    { r with
      want := 0, losses := 0, backoff := none
      maxw := min 0xFFFFFFFF (max r.maxw wait), grants := min 0xFFFFFFFF (r.grants + 1) }
  let a := arbiterOf s arb
  pmcEvent (setArbiter s arb { a with owner := some c, left := r.want }) fabPage 0x100 1

/-- The owner completes a burst of at most 256 bytes; the end of its transfer lets its next one present (R369). -/
def completeBurst (s : State) (arb : Nat) : State :=
  let a := arbiterOf s arb
  match a.owner with
  | none => s
  | some o =>
    if a.left = 0 then s
    else
      let left := a.left - 256
      let s := setArbiter s arb { a with left := left }
      let r := requesterOf s arb o
      match r.next with
      | n :: rest =>
        if left = 0 then
          setRequester s arb o { r.start n (arbiterCycle s arb) with next := rest }
        else s
      | [] => s

/-- The owner yields to a candidate of its class or above: its remainder presents from the next cycle (R371). -/
def yieldPort (s : State) (arb : Nat) : State :=
  let a := arbiterOf s arb
  match a.owner with
  | none => s
  | some o =>
    let r := requesterOf s arb o
    let s := setRequester s arb o { r with want := a.left }
    let b := arbiterOf s arb
    setArbiter s arb { b with owner := none, left := 0 }

/-- Candidates are settled: one is granted, the others lose (R371). -/
def settle (s : State) (arb : Nat) (cs : List Nat) : State :=
  let top := topClass s arb cs
  match winnerOf s arb top cs with
  | none => s
  | some w =>
    let a := arbiterOf s arb
    let s := setArbiter s arb { a with rr := a.rr.set top (w + 1) }
    let s := (cs.filter (· ≠ w)).foldl (lose arb) s
    grant arb s w

/-- A decision point of a DDR or MRAM arbiter with the requesters that begin to present in its cycle (R371, R372). -/
def decide_ (s : State) (arb : Nat) (arrivals : List Presented) : State :=
  let s := arrivals.foldl (present arb) (completeBurst s arb)
  let s := checkAlarms s arb
  let a := arbiterOf s arb
  let cs := candidates s arb
  if cs = [] then s
  else if a.left ≠ 0 then
    let cls := (a.owner.map (classOf s arb)).getD 0
    if cs.all fun c => classOf s arb c < cls then cs.foldl (lose arb) s
    else settle (yieldPort s arb) arb cs
  else
    match cs, a.owner with
    | [c], some o => if c = o then grant arb s c else settle s arb cs
    | _, _ => settle s arb cs

/-- ARBITER_DECISION (R371, R372). -/
def execArbiterDecision (arb : Nat) (arrivals : List Presented) (s : State) : Res :=
  onUnit "arbiter" arb 5 (decide_ s arb arrivals)

/-- A requester's back-off count reaches 0 and it presents again (R371). -/
def backoffEnd (s : State) (arb req : Nat) : State :=
  match (requesterOf s arb req).backoff with
  | none => s
  | some c =>
    let s := clockToCycle s arb c
    checkAlarm arb (setRequester s arb req { requesterOf s arb req with backoff := none }) req

/-- BACKOFF_EXPIRY (R371). -/
def execBackoffExpiry (arb req : Nat) (s : State) : Res := onUnit "arbiter" arb 6 (backoffEnd s arb req)

/-- The owner's transfer is preempted: it restarts from its first byte with a new wait (R373). -/
def preempt (s : State) (arb o : Nat) : State :=
  let r := requesterOf s arb o
  let s := setRequester s arb o
    { r.start r.whole (arbiterCycle s arb) with preempts := min 0xFFFFFFFF (r.preempts + 1) }
  let a := arbiterOf s arb
  pmcEvent (setArbiter s arb { a with owner := none, left := 0 }) fabPage 0x102 1

/-- A privileged requester presents a transfer of at most 256 bytes (R373). -/
def privileged (s : State) (arb req len : Nat) : State :=
  if resetClass req ≠ 4 || !usesArbiter req arb || len = 0 || 256 < len then s
  else
    let a := arbiterOf s arb
    let t := present arb s ⟨req, len⟩
    match a.owner with
    | some o =>
      if a.left ≠ 0 && classOf s arb o < 4 && (candidates t arb).contains req then
        grant arb (preempt t arb o) req
      else t
    | none => t

/-- PRIVILEGED_PREEMPT (R373). -/
def execPrivilegedPreempt (arb req len : Nat) (s : State) : Res :=
  onUnit "arbiter" arb 5 (privileged s arb req len)

/-- What a write of a FAB register does once stored: the per-requester registers apply to the pair that FAB_ARB_SEL
names, and a requester that does not use the arbiter ignores them (R394). -/
def fabEffect (off : Nat) (v : Word) (before after : State) : State :=
  let (arb, req) := fabSelected before
  let r := requesterOf before arb req
  if !usesArbiter req arb then after
  else if off = O.FAB_REQ_CFG then setRequester after arb req { r with cls := some (field v 0 2) }
  else if off = O.FAB_REQ_ALARM then setRequester after arb req { r with alarm := v.toNat }
  else if v ≠ 0#32 then after
  else if off = O.FAB_REQ_MAXW then setRequester after arb req { r with maxw := 0 }
  else if off = O.FAB_REQ_GRANTS then setRequester after arb req { r with grants := 0 }
  else if off = O.FAB_REQ_PREEMPT then setRequester after arb req { r with preempts := 0 }
  else after

/-! ## Internal faults and shutdowns -/

/-- A page starts a shutdown (R27): ENABLED falls and SHUTDOWN_ACTIVE rises. -/
def pageShutdown (s : State) (page : Nat) : State :=
  let p := getPage s page
  if p.enabled then setPage s page { p with enable := false, enabled := false, shutdown := true, quiesced := false }
  else s

/-- A page detects an internal fault (R32): FAULT is shown and raised, and the error is captured. -/
def pageFault (s : State) (page code addr : Nat) : State :=
  let p := getPage s page
  let s := if p.fault then s else raiseCause (setPage s page { p with fault := true }) page 26
  blockError s page code addr

/-! ## Memories -/

/-- The page of DDR channel n and of MRM. -/
abbrev ddrPage (n : Nat) : Nat := 0x130 + n
abbrev mrmPage : Nat := 0x134

/-- Channel of a DRAM address, and the address there (R384). -/
def dramChannel (a : Nat) : Nat := (a / 2 ^ 12 ^^^ a / 2 ^ 20 ^^^ a / 2 ^ 28) % 4

/-- The DRAM address of a channel address (R384). -/
def dramAddress (chan ca : Nat) : Nat :=
  let hi := ca / 2 ^ 12 * 2 ^ 14 + ca % 2 ^ 12
  hi + ((chan ^^^ hi / 2 ^ 20 ^^^ hi / 2 ^ 28) % 4) * 2 ^ 12

/-- The patrol scrub of a channel reads its next word (R386). -/
def ddrScrub (s : State) (n : Nat) (w : WordCheck) (raced : Bool) : State :=
  if !isEnabled s (ddrPage n) || !bit (regOf s (ddrPage n) O.DDR_SCRUB) 31 then s
  else
    let d := s.ddr.getD n {}
    let a := dramAddress n d.scrub
    let bad := w = .uncorrectable || s.poison.contains (a / 8)
    let s := if bad then
        let s := { s with poison := if s.poison.contains (a / 8) then s.poison else a / 8 :: s.poison }
        alert (bump (blockError s (ddrPage n) 0x0101 a) (ddrPage n) O.DDR_UE_CNT) (ddrPage n) O.DDR_ALERT 1
      else if w = .corrected then
        let s := pmcEvent (alert (bump s (ddrPage n) O.DDR_CE_CNT) (ddrPage n) O.DDR_ALERT 0) (ddrPage n) 0x102 1
        if raced then s else bump s (ddrPage n) O.DDR_SCRUB_FIX_CNT
      else s
    let next := d.scrub + 8
    if dramSize s / 4 ≤ next then
      let s := { s with ddr := s.ddr.set n { d with scrub := 0 } }
      alert (bump s (ddrPage n) O.DDR_PASS_CNT) (ddrPage n) O.DDR_ALERT 2
    else { s with ddr := s.ddr.set n { d with scrub := next } }

/-- DDR_SCRUB (R386). -/
def execDdrScrub (n : Nat) (w : WordCheck) (raced : Bool) (s : State) : Res :=
  onUnit "DDR channel" n 4 (ddrScrub s n w raced)

/-- Does MRAM count as usable: both dies respond (R393)? -/
def mramUsable (s : State) : Bool := s.mrm.die0 && s.mrm.die1 && !s.boot.mramBad

/-- The MRAM scrub reads its next word (R392). A corrected word is written back unless a write to its block was granted
meanwhile; the write-back has no counter of its own. -/
def mramScrub (s : State) (w : WordCheck) (_raced : Bool) : State :=
  if !isEnabled s mrmPage || !bit (regOf s mrmPage O.MRM_CFG) 31 then s
  else
    let a := s.mrm.scrub
    let s := match w with
      | .good => s
      | .corrected => alert (bump s mrmPage O.MRM_CE_CNT) mrmPage O.MRM_ALERT 0
      | .uncorrectable => alert (bump (blockError s mrmPage 0x0100 a) mrmPage O.MRM_UE_CNT) mrmPage O.MRM_ALERT 1
    { s with mrm := { s.mrm with scrub := (a + 8) % 2 ^ 28 } }

/-- MRAM_SCRUB (R392). -/
def execMramScrub (w : WordCheck) (raced : Bool) (s : State) : Res := .next (mramScrub s w raced)

/-- A die stops responding (R393): its bit clears, FAULT is raised, and MRM shuts down (R32). The manual names no error
code for it: the code is a free value (log entry 2). -/
def mramDieFail (s : State) (die : Nat) : State :=
  let up := if die = 0 then s.mrm.die0 else s.mrm.die1
  if !up then s
  else
    let m := if die = 0 then { s.mrm with die0 := false } else { s.mrm with die1 := false }
    let (k, s) := draw { s with mrm := m }
    pageShutdown (pageFault s mrmPage (Config.freeNat k % 2 ^ 16) 0) mrmPage

/-- MRAM_DIE_FAIL (R393). -/
def execMramDieFail (die : Nat) (s : State) : Res := onUnit "MRAM die" die 2 (mramDieFail s die)

end Sys2Proof.Machine
end

