-- ==== Sys2Proof/Machine/Clocks.lean ====
section
/-! DEFINITION. Clock tree, oscillator trim and power domains (R413 to R423). -/
namespace Sys2Proof.Machine

/-- The page of CLK and of PWR. -/
abbrev clkPage : Nat := 0x000
abbrev pwrPage : Nat := 0x001

/-- PLL target divider of a clock (Table 16-1). -/
def ClkName.target : ClkName → Nat
  | .reg => 16 | .time => 8 | .fab => 6 | .cc => 4 | .dp => 4 | .aon => 256

/-- The clocks that the PLL feeds, in the bit order of CLK_STAT.ON_PLL. -/
def pllClocks : List ClkName := [.reg, .time, .fab, .cc, .dp]

/-- A clock starts its way down to its target: it is on the PLL at divider 256 (R418). -/
def DivClock.startDown (c : DivClock) (now target : Nat) : DivClock :=
  if c.div = target then { c with onPll := true, ramping := false }
  else { c with onPll := true, ramping := true, nextAt := now + 8 * c.div }

/-- A PLL-fed clock starts its way up to divider 256, where it moves to the oscillator (R418, R420). -/
def DivClock.startUp (c : DivClock) (now : Nat) : DivClock :=
  if !c.onPll then { c with ramping := false }
  else if c.div = 256 then { c with onPll := false, ramping := false }
  else { c with ramping := true, nextAt := now + 8 * (c.div + 1) }

/-- All five ramps begin downwards, in the same cycle (R418). -/
def rampDown (s : State) : State :=
  let c := { s.clk with down := true }
  { s with clk := pllClocks.foldl (fun c n => c.set n ((c.get n).startDown s.time.now n.target)) c }

/-- Every PLL-fed clock ramps up to 256 (R420), from the divider it has reached (R418). -/
def rampUp (s : State) : State :=
  let c := { s.clk with down := false }
  { s with clk := pllClocks.foldl (fun c n => c.set n ((c.get n).startUp s.time.now)) c }

/-- Is a ramp running? -/
def Clk.ramp (c : Clk) : Bool := pllClocks.any fun n => (c.get n).ramping

/-- Is every clock on the PLL at its target divider? -/
def Clk.atTargets (c : Clk) : Bool := pllClocks.all fun n => (c.get n).onPll && (c.get n).div = n.target

/-- One step of a clock's divider (R418): down to the target, or up to 256 and then to the oscillator. -/
def DivClock.step (c : DivClock) (down : Bool) (target now : Nat) : DivClock :=
  if down then
    let d := c.div - 1
    { c with div := d, ramping := decide (d ≠ target), nextAt := now + 8 * d }
  else
    let d := c.div + 1
    if d = 256 then { c with div := 256, onPll := false, ramping := false }
    else { c with div := d, nextAt := now + 8 * (d + 1) }

/-- A divider step of a clock is taken; the TIME clock counts as on from divider 8 (R419). -/
def dividerStep (s : State) (n : ClkName) : State :=
  if !(s.clk.get n).ramping then s
  else
    let s := clockTo s (s.clk.get n).nextAt
    let c := (s.clk.get n).step s.clk.down n.target s.time.now
    let t := { s with clk := s.clk.set n c }
    if n = .time && c.div = 8 && t.time.base.isNone then
      { t with time := { t.time with base := some t.clk.time.cycles } }
    else t

/-- The reference or the lock is lost (R420): the loss is counted and raised, the clocks ramp up, and the ROM stops
writing PAIR_KICK. CLKMON's condition holds (Table 12-5, bit 1). -/
def clockLost (s : State) (alertBit : Nat) : State :=
  let s := bump s clkPage O.CLK_LOSS_CNT
  let s := alert s clkPage O.CLK_ALERT alertBit
  let s := if s.clk.pllLock then { s with clk := { s.clk with pllLock := false, holdover := true } } else s
  let s := rampUp s
  { s with alarm := { s.alarm with present := s.alarm.present ||| 2 } }

/-- REFCLK becomes absent (R414, R420). -/
def refclkLost (s : State) : State :=
  if s.clk.refclk then clockLost { s with clk := { s.clk with refclk := false } } 0 else s

/-- The root PLL loses lock (R420). -/
def pllUnlocked (s : State) : State := if s.clk.pllLock then clockLost s 2 else s

/-! ## Oscillator trim (R416, R417) -/

/-- The trim source that CLK_OSC_CFG.SRC selects: 1 REFCLK, 2 1PPS, 0 none (R417). -/
def trimSource (s : State) : Nat :=
  match regField s clkPage O.CLK_OSC_CFG 0 2 with
  | 0 => if s.clk.refclk then 1 else 2
  | 1 => if s.clk.refclk then 1 else 0
  | 2 => 2
  | _ => 0

/-- Expected count of a window against a source (R417). -/
def trimExpected (source : Nat) : Nat := if source = 1 then 262144 else 25000000

/-- One window of acquisition: the bit under trial stays where the oscillator is not too fast, and the next lower bit
comes on trial with the bits below it 0 (R417, log entry 8). -/
def acquire (c : Clk) (tooFast : Bool) : Clk :=
  let kept := if tooFast then c.code - 2 ^ c.acqBit * num (c.code.testBit c.acqBit)
    else c.code ||| 2 ^ c.acqBit
  let high := kept / 2 ^ c.acqBit * 2 ^ c.acqBit
  if c.acqBit = 0 then { c with code := kept, locked := true }
  else { c with code := high ||| 2 ^ (c.acqBit - 1), acqBit := c.acqBit - 1 }

/-- A trim window ends with a count of oscillator cycles (R417). -/
def trimWindow (s : State) (count : Nat) : State :=
  let src := trimSource s
  let want := trimExpected src
  if src = 0 then s
  else if src = 2 && (count * 20 < want * 19 || want * 21 < count * 20) then s
  else
    let c0 := s.clk
    let c := if c0.source = src then c0 else { c0 with source := src, locked := false, acqBit := 9 }
    let ppm := ((count : Int) - want) * 1000000 / want
    let far := decide (150 * want < ((count : Int) - want).natAbs * 1000000)
    if !c.locked then
      let c := acquire { c with ppm := ppm } (decide (want < count))
      let s := { s with clk := c }
      if c.locked then alert s clkPage O.CLK_ALERT 3 else s
    else
      let s := { s with clk := { c with ppm := ppm } }
      if !far then s
      else if want < count then
        if c.code = 0 then alert s clkPage O.CLK_ALERT 4
        else { s with clk := { s.clk with code := c.code - 1 } }
      else if c.code = 1023 then alert s clkPage O.CLK_ALERT 4
      else { s with clk := { s.clk with code := c.code + 1 } }

/-! ## Power domains (R421 to R423) -/

/-- The pages of a switched domain (Table 16-2). -/
def domainPages (d : Nat) : List Nat :=
  (allBlocks.flatMap fun b => (List.range b.place.2).map (pageOf b ·)).filter fun p => domainOf p = some d

/-- Is a domain requested on (PWR_DOM_ON0, PWR_DOM_ON1)? -/
def domainWanted (s : State) (d : Nat) : Bool :=
  if d < 32 then bit (regOf s pwrPage O.PWR_DOM_ON0) d else bit (regOf s pwrPage O.PWR_DOM_ON1) (d - 32)

/-- PWR starts the next switch: the lowest domain whose request differs from its state (R423). A domain that is to go
off shows as off from the first cycle of its switch-off. -/
def serveDomains (s : State) : State :=
  if s.pwr.switching.isSome then s
  else match (List.range 36).find? fun d => domainWanted s d ≠ s.pwr.isOn.contains d with
    | none => s
    | some d =>
      let on := domainWanted s d
      { s with pwr := {
          switching := some (d, on)
          isOn := if on then s.pwr.isOn else s.pwr.isOn.filter (· ≠ d) } }

/-- May a domain be switched off: does no page of it show ENABLED or SHUTDOWN_ACTIVE (R422)? -/
def domainIdle (s : State) (d : Nat) : Bool :=
  (domainPages d).all fun p => !poweredOn s p || (!(getPage s p).enabled && !(getPage s p).shutdown)

/-- The refused switch-offs of a write of PWR_DOM_ON0 or PWR_DOM_ON1: the bit is stored as 1, logged and raised
(R422). -/
def refuseOff (off base : Nat) (old : Word) (s : State) (i : Nat) : State :=
  if bit old i && !bit (regOf s pwrPage off) i && !domainIdle s (base + i) then
    let s := setReg s pwrPage off (regOf s pwrPage off ||| oneBit i)
    alert (blockError s pwrPage 0x0100 (base + i)) pwrPage O.PWR_ALERT 2
  else s

/-- What a write of PWR_DOM_ON0 or PWR_DOM_ON1 does once stored (R421 to R423). -/
def domainEffect (off base : Nat) (before after : State) : State :=
  serveDomains ((List.range (if base = 0 then 32 else 4)).foldl
    (refuseOff off base (regOf before pwrPage off)) after)

/-- A write of PWR_DOM_ON0, or of PWR_DOM_ON1 (`high`). -/
def writeDomains (s : State) (req : Nat) (high : Bool) (v : Word) : State :=
  let off := if high then O.PWR_DOM_ON1 else O.PWR_DOM_ON0
  writeBlock (domainEffect off (if high then 32 else 0)) s req pwrPage off v

end Sys2Proof.Machine
end

