-- ==== Sys2Proof/Machine/Switch.lean ====
section
/-! DEFINITION. The internal switch: admission to the shared buffer, push-out, WRED, pauses that a sub-port sends, and the
leaving of frames (R157, R172 to R174). -/
namespace Sys2Proof.Machine

/-! ## Sub-ports -/

/-- A sub-port changed by a function. -/
def updateSub (s : State) (n k : Nat) (f : SubPort → SubPort) : State :=
  { s with ports := s.ports.modify n {} fun p => { p with subs := p.subs.modify k {} f } }

/-- A counter of a sub-port (R175) takes n more; it wraps, since no rule stops it (log entry 24). -/
def netCount (s : State) (n k off m : Nat) : State :=
  updateSub s n k fun p => { p with counts := p.counts.modify off 0 fun c => (c + m) % 2 ^ 32 }

/-- Pause frames that are ready go out: after the frame in transmission and ahead of every queued frame (R157). They pass
no queue and are charged to no shaper (R177). -/
def sendPauses (s : State) (n k : Nat) : State :=
  let p := subOf s n k
  if sending s n k || p.pauseOut.isEmpty || !subUp s n k then s
  else
    let s := emitAll s (p.pauseOut.map fun x => .pause n k x.1 x.2)
    let s := netCount s n k O.NET_PAUSE_TX p.pauseOut.length
    updateSub s n k fun q => { q with
      pauseOut := []
      tx := some { queue := 64, endTick := s.time.now + bitTicks s n (p.pauseOut.length * wireBits 64) } }

/-- A sub-port is to send a pause for a class: the whole sub-port in PAUSE mode, the class's priorities in PFC mode
(R157). -/
def requestPause (s : State) (sub cls quanta : Nat) : State :=
  let n := sub / 4
  let k := sub % 4
  let scope := if flowControl s n = 1 then none else some cls
  sendPauses (updateSub s n k fun p => { p with pauseOut := p.pauseOut ++ [(scope, quanta)] }) n k

/-- The tick of the next repeat of a pause. -/
def refreshTick (s : State) (n : Nat) : Tick := s.time.now + regField s (netPage n) O.NET_PAUSE 16 16 * ticksUs

/-- A pause starts or is repeated: NET_PAUSE.QUANTA goes out and the next repeat is set (R157). -/
def sendXoff (s : State) (sub cls : Nat) : State :=
  let n := sub / 4
  let s := updateSub s n (sub % 4) fun p => { p with xoff := p.xoff.set cls (refreshTick s n) }
  requestPause s sub cls (regField s (netPage n) O.NET_PAUSE 0 16)

/-- The count of a lossless class has grown: at XOFF the sub-port sends a pause (R157). -/
def checkXoff (s : State) (sub cls : Nat) : State :=
  if lossless s sub cls && xoffCells s cls ≤ heldCells s sub cls &&
      !(subOf s (sub / 4) (sub % 4)).xoff.has cls then sendXoff s sub cls else s

/-- The count of a class has fallen: at XON the sub-port sends quanta 0 (R157). -/
def checkXon (s : State) (sub cls : Nat) : State :=
  if (subOf s (sub / 4) (sub % 4)).xoff.has cls && heldCells s sub cls ≤ xonCells s cls then
    requestPause (updateSub s (sub / 4) (sub % 4) fun p => { p with xoff := p.xoff.erase cls }) sub cls 0
  else s

/-! ## Queues -/

/-- The frames of a queue replaced. -/
def setFrames (s : State) (q : Nat) (fs : List QFrame) : State :=
  { s with switch := { s.switch with queues := s.switch.queues.modify q {} fun x => { x with frames := fs } } }

/-- Frame i leaves a queue. -/
def removeFrame (s : State) (q i : Nat) : State :=
  match (queueOf s q).frames[i]? with
  | none => s
  | some f =>
    let s := setFrames s q ((queueOf s q).frames.eraseIdx i)
    match f.src with
    | none => s
    | some sub => checkXon s sub f.cls

/-- The frame of a packet leaves the ingress queue of its engine as the engine takes it (log entry 45). -/
def takeFrame (s : State) (qpn : Nat) : State :=
  if qpn / 2 ^ 14 ≠ 4 then s
  else
    let base := qpn / 4096 % 4 * 8
    match (List.range 8).findSome? fun c =>
      ((queueOf s (base + c)).frames.findIdx? fun f => decide (f.qpn = qpn)).map fun i => (base + c, i) with
    | none => s
    | some (q, i) => removeFrame s q i

/-- All frames of a queue are discarded. -/
def discardQueue (s : State) (q : Nat) : State :=
  let n := (queueOf s q).frames.length
  (List.replicate n 0).foldl (fun s i => removeFrame s q i) s

/-! ## Admission (R173, R174) -/

/-- A frame is dropped by SWC and counted (event 0x101). -/
def dropFrame (s : State) (counter : Nat) : State := pmcEvent (bump s swcPage counter) swcPage 0x101 1

/-- The sub-port index whose lossless classes bind the frames of a queue: that of the frame's reception, else the one that
the egress queue belongs to. -/
def subOfFrame (s : State) (q : Nat) (f : QFrame) : Nat :=
  f.src.getD (let n := (q - 64) / 64; 4 * n + subOfQueue s n ((q - 64) % 64))

/-- The queues whose tail frame push-out may evict for a frame of a class: lossy, and of a lower class; each with the
class of its tail and its cells. -/
def victims (s : State) (cls : Nat) : List (Nat × Nat × Nat) :=
  s.switch.queues.entries.filterMap fun e =>
    match e.2.frames.getLast? with
    | none => none
    | some f =>
      if f.cls < cls && !lossless s (subOfFrame s e.1 f) f.cls then some (e.1, f.cls, framesCells e.2.frames) else none

/-- The better victim: lowest class, then most cells, then lowest index (R173). -/
def betterVictim (a b : Nat × Nat × Nat) : Nat × Nat × Nat :=
  if b.2.1 < a.2.1 || (b.2.1 = a.2.1 && a.2.2 < b.2.2) then b else a

/-- Tail frames are evicted until the frame fits below the threshold or no victim is left (R173). -/
def pushOut (cls cells : Nat) : Nat → State → State
  | 0, s => s
  | fuel + 1, s =>
    if usedCells s + cells ≤ regField s swcPage O.SWC_PUSHOUT 0 17 then s
    else
      match victims s cls with
      | [] => s
      | v :: r =>
        let q := (r.foldl betterVictim v).1
        let s := removeFrame s q ((queueOf s q).frames.length - 1)
        let s := alert (bump s swcPage O.SWC_PUSHOUT_CNT) swcPage O.SWC_ALERT 1
        pushOut cls cells fuel (pmcEvent s swcPage 0x103 1)

/-- Code of a colour in the registers. -/
def Colour.code : Colour → Nat
  | .green => 0 | .yellow => 1 | .red => 2

/-- The WRED colour set of a queue's profile for a colour (R174). -/
def wredSet (s : State) (q : Nat) (c : Colour) : WredSet :=
  s.switch.wred.getD ((queueOf s q).profile * 4 + c.code) {}

/-- The WRED verdict (R174): the average is updated, then compared; between MIN and MAX the mark is drawn, and the draw is
a free value, since the manual gives the LFSR neither a polynomial nor a seed. Averages carry 16 fraction bits (log entry 46). -/
def wredVerdict (s : State) (q : Nat) (c : Colour) : Bool × State :=
  let x := queueOf s q
  let w := wredSet s q c
  let now : Int := (framesCells x.frames : Int) * 65536
  let avg := ((x.avg : Int) + (now - (x.avg : Int)) / ((2 ^ w.wexp : Nat) : Int)).toNat
  let s := { s with switch := { s.switch with queues := s.switch.queues.set q { x with avg := avg } } }
  if !w.en || avg < w.min * 65536 then (false, s)
  else if w.max * 65536 ≤ avg then (true, s)
  else
    let d := draw s
    (decide ((Config.freeWord d.1).toNat * (256 * (w.max - w.min) * 65536) <
      w.maxp * (avg - w.min * 65536) * 2 ^ 32), d.2)

/-- Does a frame exceed the headroom of its lossless class (R157)? -/
def overHeadroom (s : State) (f : QFrame) : Bool :=
  match f.src with
  | none => false
  | some sub => lossless s sub f.cls &&
      decide (xoffCells s f.cls + 8 * regField s swcPage O.SWC_HEADROOM 0 12 <
        heldCells s sub f.cls + cellsOf f.len)

/-- A frame joins a queue (R173). -/
def enqueue (s : State) (q : Nat) (f : QFrame) : State :=
  let f := { f with enqNs := devNs s }
  let s := pmcEvent (setFrames s q ((queueOf s q).frames ++ [f])) swcPage 0x100 1
  let s := if usedCells s = 131072 then alert s swcPage O.SWC_ALERT 0 else s
  match f.src with
  | none => s
  | some sub => checkXoff s sub f.cls

/-- The last tests of admission: queue limit, buffer and headroom (R173). -/
def storeFrame (s : State) (q : Nat) (f : QFrame) : State :=
  let x := queueOf s q
  let k := cellsOf f.len
  if overHeadroom s f then alert (dropFrame s O.SWC_BUF_DROP_CNT) swcPage O.SWC_ALERT 2
  else if 8 * x.limit < framesCells x.frames + k || 131072 < usedCells s + k then dropFrame s O.SWC_BUF_DROP_CNT
  else enqueue s q f

/-- The admission decision for a frame bound for a queue; `ecn` is its ECN field where it is an IP frame (R173). -/
def admitFrame (s : State) (q : Nat) (f : QFrame) (ecn : Option Nat) : State :=
  let safe := lossless s (subOfFrame s q f) f.cls
  let s :=
    if !safe && bit (regOf s swcPage O.SWC_PUSHOUT) 31 then
      pushOut f.cls (cellsOf f.len) ((s.switch.queues.values.map (·.frames.length)).sum) s
    else s
  let v := wredVerdict s q f.colour
  if !v.1 then storeFrame v.2 q f
  else if (ecn.getD 0) ≠ 0 then
    storeFrame (pmcEvent (bump v.2 swcPage O.SWC_ECN_MARK_CNT) swcPage 0x102 1) q { f with ce := true }
  else if safe then storeFrame v.2 q f
  else dropFrame v.2 O.SWC_WRED_DROP_CNT

end Sys2Proof.Machine
end

