-- ==== Sys2Proof/Machine/Completion.lean ====
section
/-! DEFINITION. What CMD and the engines do for every command: finding it, handing its entries to the engine, ending it,
the region table, and sending packets (R78 to R91, R104, R108, R111, R128, R137 to R147). -/
namespace Sys2Proof.Machine

/-! ## Connections and commands -/

/-- A connection. -/
def connOf (s : State) (n : Nat) : Conn := s.conns.getD n {}

/-- The state with a connection replaced. -/
def setConn (s : State) (n : Nat) (c : Conn) : State := { s with conns := s.conns.set n c }

/-- The state with a command replaced. -/
def setCmd (s : State) (q : Nat) (c : Command) : State := { s with commands := s.commands.set q c }

/-- The acceptance numbers of the commands that satisfy a test, in acceptance order. -/
def cmdsWhere (s : State) (p : Command → Bool) : List Nat := (s.commands.filter fun _ c => p c).keys

/-- The unfinished command of a connection with a CID that is still the connection's own. -/
def findCmd (s : State) (conn cid : Nat) : Option (Nat × Command) :=
  (s.commands.entries.find? fun e => e.2.conn = conn && e.2.cid = cid && !e.2.orphan && e.2.phase ≠ .ended)

/-- Credits that a connection holds (R83). -/
def creditsHeld (s : State) (conn : Nat) : Nat :=
  (cmdsWhere s fun c => c.conn = conn && c.credit).length

/-- Sum of the grants of live connections (R82, CMD_CREDIT_POOL). -/
def creditPool (s : State) : Nat :=
  (s.conns.values.map fun c => if c.st = .free then 0 else c.grant).sum

/-- Key of a zone in `State.zones`. -/
def zoneKey (ns idx : Nat) : Nat := ns * 2 ^ 20 + idx

/-- A zone of the zone table. -/
def zoneOf (s : State) (ns idx : Nat) : Zone := s.zones.getD (zoneKey ns idx) {}

/-- The state with a zone replaced. -/
def setZone (s : State) (ns idx : Nat) (z : Zone) : State := { s with zones := s.zones.set (zoneKey ns idx) z }

/-- The error log takes an entry (R108). -/
def addError (s : State) (code conn cid : Nat) : State :=
  { s with errorLog := (⟨tickCount s, code, conn, cid⟩ :: s.errorLog).take 2048 }

/-! ## Contexts (R131) -/

/-- The tree pseudo-LRU bits after a use of entry `e`: from node `k` down `d` levels, each node points to the half not
used (R131, log entry 22). -/
def plruTouch : Nat → Nat → Nat → Nat → Nat
  | 0, _, _, t => t
  | d + 1, k, e, t =>
    let right := e.testBit d
    let t := if right then t - 2 ^ k * num (t.testBit k) else t ||| 2 ^ k
    plruTouch d (2 * k + num right) e t

/-- The entry that the tree points to. -/
def plruVictim : Nat → Nat → Nat → Nat
  | 0, k, _ => k
  | d + 1, k, t => plruVictim d (2 * k + num (t.testBit k)) t

/-- Is a connection's context in its engine's cache? -/
def contextCached (s : State) (n : Nat) : Bool :=
  ((s.engines.getD (connOf s n).engine {}).cache.values).contains n

/-- A context comes into its engine's cache, or is used there; a victim is written back to its spill slot (R131). -/
def cacheContext (s : State) (n : Nat) : State :=
  let k := (connOf s n).engine
  let e := s.engines.getD k {}
  match e.cache.entries.find? fun x => x.2 = n with
  | some (i, _) => { s with engines := s.engines.set k { e with tree := plruTouch 8 1 i e.tree } }
  | none =>
    match (List.range 256).find? fun i => !e.cache.has i with
    | some i =>
      { s with engines := s.engines.set k { e with cache := e.cache.set i n, tree := plruTouch 8 1 i e.tree } }
    | none =>
      let i := plruVictim 8 1 e.tree - 256
      bump { s with engines := s.engines.set k { e with cache := e.cache.set i n, tree := plruTouch 8 1 i e.tree } }
        (xptPage k) O.XPT_CTX_EVICT_CNT

/-! ## Packets that the engine sends -/

/-- PSN arithmetic is modulo 2^24. -/
def psnAdd (a n : Nat) : Nat := (a + n) % 2 ^ 24

/-- How far PSN `b` lies after `a`. -/
def psnGap (a b : Nat) : Nat := wrapGap 24 a b

/-- Packets of a message at a path MTU. -/
def packetsOf (mtu len : Nat) : Nat := max 1 (ceilDiv len mtu)

/-- Length by R152 of a RoCEv2 frame that carries `ext` bytes of extended headers and `payload` bytes (log entry 21). -/
def frameLen (c : Conn) (ext payload : Nat) : Nat :=
  let ip := if c.hostIp / 2 ^ 32 = 0xFFFF then 20 else 40
  14 + (if c.pcp.isSome then 4 else 0) + ip + 8 + 12 + ext + payload + 4 + 4

/-- Frames of a request (R135 to R137). -/
def requestFrames (c : Conn) (kind : SentKind) (len : Nat) : List Nat :=
  match kind with
  | .write => (List.range (packetsOf c.mtu len)).map fun i =>
      frameLen c (if i = 0 then 16 else 0) (min c.mtu (len - i * c.mtu))
  | .read => [frameLen c 16 0]
  | .flush => [frameLen c 20 0]

/-- PSNs that a request takes: a READ takes one for each response packet. -/
def requestPackets (c : Conn) (kind : SentKind) (len : Nat) : Nat :=
  match kind with
  | .write | .read => packetsOf c.mtu len
  | .flush => 1

/-- Retransmission timeout in ticks: 4.096 us × 2^TMO_EXP (R146). -/
def retxTicks (s : State) (c : Conn) : Nat :=
  ceilDiv (16384 * 2 ^ regField s (xptPage c.engine) O.XPT_RETX_CFG 0 5) 5

/-- READ and FLUSH requests outstanding (R117: at most 16). -/
def outstanding16 (c : Conn) : Nat := (c.sent.filter fun x => decide (x.kind ≠ .write)).length

/-- Frames join a connection's packets waiting in its engine. -/
def queueFrames (s : State) (n : Nat) (lens : List Nat) : State :=
  let s := cacheContext s n
  let c := connOf s n
  setConn s n { c with txq := c.txq ++ lens }

/-- The engine issues a request (R137): PSNs are taken, its packets wait for the pacer, and the retransmission timer
runs (R146). -/
def issueNow (s : State) (n : Nat) (kind : SentKind) (cmd : Option Nat) (len : Nat) : State :=
  let s := cacheContext s n
  let c := connOf s n
  let k := requestPackets c kind len
  setConn s n
    { c with
      sent := c.sent ++ [⟨c.nPsn, kind, cmd, len, k⟩]
      nPsn := psnAdd c.nPsn k
      txq := c.txq ++ requestFrames c kind len
      retxAt := some (c.retxAt.getD (s.time.now + retxTicks s c)) }

/-- The engine is asked for a request: a READ or FLUSH waits while 16 are outstanding (R117). -/
def issue (s : State) (n : Nat) (kind : SentKind) (cmd : Option Nat) (len : Nat) : State :=
  let c := connOf s n
  if kind ≠ .write && 16 ≤ outstanding16 c then
    setConn s n { c with held16 := c.held16 ++ [(kind, cmd, len)] }
  else issueNow s n kind cmd len

/-- A READ or FLUSH has ended: the next one that waits is issued. -/
def issueHeld (s : State) (n : Nat) : State :=
  let c := connOf s n
  match c.held16 with
  | [] => s
  | (kind, cmd, len) :: r =>
    if 16 ≤ outstanding16 c then s else issueNow (setConn s n { c with held16 := r }) n kind cmd len

/-! ## Regions (R139 to R141) -/

/-- An entry of the region table. -/
def regionOf (s : State) (i : Nat) : Region := s.regions.getD i {}

/-- The state with a region table entry replaced. -/
def setRegion (s : State) (i : Nat) (r : Region) : State := { s with regions := s.regions.set i r }

/-- Key of a region: index and generation (R139). -/
def regionKey (s : State) (i : Nat) : Nat := i * 256 + (regionOf s i).gen

/-- A FREE entry is registered with the generation that it holds (R140). -/
def register (s : State) (i : Nat) (r : Region) : State :=
  setRegion s i { r with st := .valid, gen := (regionOf s i).gen, inflight := 0, placed := 0, bytes := [], byPort := none }

/-- Step 1 of R141: a VALID entry becomes REVOKING. -/
def revoke (s : State) (i : Nat) : State :=
  let r := regionOf s i
  if r.st = .valid then setRegion s i { r with st := .revoking } else s

/-- Step 4 of R141: the entry becomes FREE and its generation advances, 255 wrapping to 1 (R140). -/
def freeRegion (s : State) (i : Nat) : State :=
  let r := regionOf s i
  setRegion s i { st := .free, gen := if r.gen = 255 then 1 else r.gen + 1 }

/-- The windows of a command are revoked (R99, R141, R16). -/
def revokeWindows (s : State) (q : Nat) : State :=
  match s.commands.get q with
  | none => s
  | some c => setCmd (c.windows.foldl revoke s) q { c with windows := [] }

/-! ## Entries and completion -/

/-- How many ring entries an item that waits takes (R93). -/
def Entry.run (e : Entry) : Nat := 1 + e.windows.length

/-- PHASE and type of entry number k (R89). -/
def typeByte (c : Conn) (k typ : Nat) : Nat := 128 * (1 - k / 2 ^ c.cqShift % 2) + typ

/-- A FLUSH or QUEUE_RESET that waited for command `q` notes its end with a status (R104, R111). -/
def noteEnd (q status : Nat) (b : Command) : Command :=
  if !b.awaits.contains q then b
  else
    let hit := if b.op = 0x1F then status = 0x09 else status ≠ 0
    { b with awaits := b.awaits.filter (· ≠ q), count := b.count + num hit }

/-- A FLUSH or QUEUE_RESET whose last awaited command has ended gets its entry (R104, R111). -/
def barrierReady (n : Nat) (s : State) (b : Nat) : State :=
  match s.commands.get b with
  | none => s
  | some c =>
    if c.conn = n && !c.orphan && c.awaits.isEmpty && (c.phase = .barrier || c.phase = .resetting) then
      let k := connOf s n
      let aborted := c.op ≠ 0x1F && c.aborted
      let e : Entry :=
        ⟨c.cid, if aborted then 0x09 else 0, 1, if aborted then 0 else c.count, some b, [], 0⟩
      let s := setCmd s b { c with phase := .ended }
      let s := if aborted then addError s 0x09 n c.cid else s
      setConn s n { k with waiting := k.waiting ++ [e], resetting := k.resetting && c.op ≠ 0x1F }
    else s

/-- A command's entry has been handed to its engine: its credit returns (R83), its windows are released (R16), and the
FLUSH and QUEUE_RESET commands that waited for it note it. -/
def entryHanded (s : State) (n q status : Nat) : State :=
  match s.commands.get q with
  | none => s
  | some c =>
    let s := endTrace (stamp s n c.cid 11) n c.cid status
    let s := revokeWindows s q
    let s := { s with commands := (s.commands.erase q).mapVals fun _ b => noteEnd q status b }
    s.commands.keys.foldl (barrierReady n) s

/-- The data timeout of a write starts when its XRDY header is handed over (R98). -/
def xrdyHanded (s : State) (n q tmo : Nat) : State :=
  match s.commands.get q with
  | none => s
  | some c =>
    if c.phase = .xrdyWait then
      stamp (setCmd s q { c with phase := .dataWait, deadline := some (s.time.now + tmo * ticksMs) }) n c.cid 3
    else s

/-- The XRDY_WINDOW entries of a run (Table 4-8). -/
def windowOuts (c : Conn) (n cid k i : Nat) : List (Nat × Nat) → List Out
  | [] => []
  | (key, len) :: r =>
    .windowEntry n k cid i (typeByte c k 3) key len :: windowOuts c n cid (k + 1) (i + 1) r

/-- One waiting item is handed to the engine as one RDMA WRITE (R89, R93). -/
def handEntry (s : State) (n : Nat) (e : Entry) : State :=
  let c := connOf s n
  let k := c.nextEntry
  let s := emitAll s
    (.entry n k e.cid e.status (typeByte c k e.typ) (c.sqHead % 65536) c.grant e.result ::
      windowOuts c n e.cid (k + 1) 0 e.windows)
  let s := setConn s n { c with nextEntry := k + e.run, waiting := c.waiting.drop 1 }
  let s := issue s n .write none (16 * e.run)
  if e.typ = 1 then
    let s := pmcEvent s cmdPage 0x102 1
    match e.cmd with
    | some q => entryHanded s n q e.status
    | none => endTrace (stamp s n e.cid 11) n e.cid e.status
  else if e.typ = 2 then
    match e.cmd with
    | some q => xrdyHanded s n q e.tmo
    | none => s
  else s

/-- May entries be posted on a connection: it is READY, and the controller is not ISOLATED (R125, R356)? -/
def mayPost (s : State) (n : Nat) : Bool := (connOf s n).st = .ready && s.pair.role ≠ .isolated

/-- Waiting items are handed over in generation order while they fit the completion ring (R81). -/
def drainEntries (n : Nat) : Nat → State → State
  | 0, s => s
  | f + 1, s =>
    let c := connOf s n
    match c.waiting with
    | [] => s
    | e :: _ =>
      if mayPost s n && c.nextEntry + e.run - c.cqHead ≤ 2 ^ c.cqShift then drainEntries n f (handEntry s n e)
      else s

/-- Hand over what a connection has waiting: each command gives at most one entry more. -/
def drain (s : State) (n : Nat) : State :=
  drainEntries n ((connOf s n).waiting.length + s.commands.entries.length + 1) s

/-- An item is generated for a connection (R81); one that can no longer send discards it (R125, R143). -/
def postEntry (s : State) (n : Nat) (e : Entry) : State :=
  let c := connOf s n
  if c.st = .ready then drain (setConn s n { c with waiting := c.waiting ++ [e] }) n
  else emit s (.entryDropped n e.cid)

/-- A ZONE_MGMT command that ends lets go of its zone (R65). -/
def releaseHold (s : State) (q : Nat) (c : Command) : State :=
  if c.op ≠ 0x08 then s
  else
    let z := zoneOf s c.ns c.zone
    if z.hold = some q then setZone s c.ns c.zone { z with hold := none } else s

/-- A command ends with a status and a RESULT (R90, R91). One that a QUEUE_RESET acted on reports ABORTED_BY_RESET
(R110); one that has lost its connection ends without an entry, and keeps its credit until teardown (R103). -/
def complete (s : State) (q status result : Nat) : State :=
  match s.commands.get q with
  | none => s
  | some c =>
    if c.phase = .ended then s
    else
      let s := releaseHold s q c
      if c.orphan then
        let s := endTrace (revokeWindows s q) c.conn c.cid 0xFF
        if c.credit then setCmd s q { c with phase := .ended, windows := [] }
        else { s with commands := s.commands.erase q }
      else
        let st := if c.aborted then 0x09 else status
        let res := if c.aborted then 0 else result
        let s := if st ≠ 0 && st ≠ 0x0E then addError s st c.conn c.cid else s
        let s := setCmd s q { c with phase := .ended }
        postEntry s c.conn ⟨c.cid, st, 1, res, some q, [], 0⟩

/-- A capsule is rejected at intake (R88): the REJECTED flag, no credit. -/
def reject (s : State) (n cid op status : Nat) : State :=
  let s := pmcEvent (bump s cmdPage O.CMD_REJECT_CNT) cmdPage 0x101 1
  postEntry (addError s status n cid) n ⟨cid, status, 1, 2 ^ 63 + op, none, [], 0⟩

/-! ## Failure of writes before placement (R64, R99) -/

/-- Is a write of a zone not yet placed (R64)? -/
def unplaced (c : Command) : Bool :=
  (c.op = 0x02 || c.op = 0x03) &&
  (c.phase = .summerWait || c.phase = .windowWait || c.phase = .xrdyWait || c.phase = .dataWait ||
   c.phase = .draining || c.phase = .sealCheck || c.phase = .valid)

/-- The unplaced writes of a zone accepted after a command. -/
def followers (s : State) (q : Nat) (c : Command) : List Nat :=
  (s.commands.filter fun r d => q < r && d.ns = c.ns && d.zone = c.zone && unplaced d).keys

/-- A write ends before placement with a status: its windows are revoked before its entry is handed over (R143). -/
def endWrite (status : Nat) (s : State) (q : Nat) : State := complete (revokeWindows s q) q status 0

/-- An accepted write fails before it is placed: every write of the zone accepted after it and not placed fails with
ZONE_PTR_MISMATCH, and the accepted pointer returns to its offset (R64). -/
def failWrite (s : State) (q status : Nat) : State :=
  match s.commands.get q with
  | none => s
  | some c =>
    if !unplaced c then s
    else
      let fs := followers s q c
      let s := setZone s c.ns c.zone { zoneOf s c.ns c.zone with accepted := c.offset }
      fs.foldl (endWrite 0x03) (endWrite status s q)

/-! ## Connection failure (R103, R125) -/

/-- R103 for one command of a failed connection: unplaced writes fail, placed writes and zone operations run on, and
everything else ends. -/
def loseCommand (s : State) (q : Nat) : State :=
  match s.commands.get q with
  | none => s
  | some c =>
    if unplaced c then failWrite s q 0x0D
    else if c.op = 0x02 || c.op = 0x03 || c.op = 0x08 then s
    else complete s q 0 0

/-- R103: the commands of a connection end without entries. -/
def loseCommands (s : State) (n : Nat) : State :=
  let mine := cmdsWhere s fun c => c.conn = n && !c.orphan
  let s := { s with commands := s.commands.mapVals fun _ c => if c.conn = n then { c with orphan := true } else c }
  mine.foldl loseCommand s

/-- The entries that wait on a connection are discarded, and its held capsules are dropped (R125, R143); what is traced of
them ends without an entry (R446). -/
def discardEntries (s : State) (n : Nat) : State :=
  let c := connOf s n
  let k := { c with
    waiting := [], txq := [], held16 := [], heldCaps := [], resetting := false, retxAt := none, ackAt := none }
  let s := emitAll (setConn s n k) (c.waiting.map fun e => .entryDropped n e.cid)
  let cids := (c.waiting.map (·.cid)) ++ c.heldCaps.map fun h => leField h.1 2 2
  cids.foldl (fun s cid => endTrace s n cid 0xFF) s

/-- A connection stops sending: its entries and packets are discarded and its commands end (Table 5-5, R103). -/
def stopConn (s : State) (n : Nat) (st : ConnState) : State :=
  let s := discardEntries s n
  loseCommands (setConn s n { connOf s n with st := st }) n

/-- A connection in READY enters ERROR; the controller sends DREQ and enters CLOSING (R125). -/
def connError (s : State) (n : Nat) : State :=
  let c := connOf s n
  if c.st ≠ .ready then s
  else
    let s := stopConn s n .error
    let s := alert s (xptPage c.engine) O.XPT_ALERT 2
    let s := emit s (.dreq n)
    setConn s n { connOf s n with st := .closing, ownDreq := true, deadline := some (s.time.now + 10 * ticksMs) }

/-- The end of CLOSING, and of a SETUP that times out (R124, R125): regions are revoked, credits returned, the seal bank
entry erased (R325), and the number can be given again after 10 ms. -/
def freeConn (s : State) (n : Nat) : State :=
  let c := connOf s n
  let s := revoke s c.ringRegion
  let s := match c.ctagRegion with
    | some i => revoke s i
    | none => s
  let s := { s with
    commands := (s.commands.filter fun _ k => !(k.conn = n && k.phase = .ended)).mapVals fun _ k =>
      if k.conn = n then { k with credit := false } else k
    vault := { s.vault with seals := s.vault.seals.erase n }
    engines := s.engines.modify c.engine {} fun e => { e with cache := e.cache.filter fun _ m => m ≠ n } }
  setConn s n { st := .free, deadline := some (s.time.now + 10 * ticksMs) }

end Sys2Proof.Machine
end

