-- ==== Sys2Proof/Machine/Journal.lean ====
section
/-! DEFINITION. The MRAM journal and its mirror (R224, R344, R346), and the wake requests of groups (R297, R298). -/
namespace Sys2Proof.Config
open Machine

/-- The 64-byte records that a journal record is written as: the manual gives their number and CRC, not their layout
(R224). -/
opaque recordBytes : JournalRecord → List Byte

end Sys2Proof.Config

namespace Sys2Proof.Machine

/-- One bit of the reflected CRC-32C. -/
def crc32cBit (c : Nat) : Nat := if c % 2 = 1 then c / 2 ^^^ 0x82F63B78 else c / 2

/-- CRC-32C, reflected, of bytes from a running value (R126, R346, R379). -/
def crc32cRun (c : Nat) : List Byte → Nat
  | [] => c
  | b :: r =>
    crc32cRun (crc32cBit (crc32cBit (crc32cBit (crc32cBit (crc32cBit (crc32cBit (crc32cBit (crc32cBit
      (c ^^^ b.toNat))))))))) r

/-- CRC-32C with initial value and final XOR 0xFFFF_FFFF. -/
def crc32c (bs : List Byte) : Nat := crc32cRun 0xFFFFFFFF bs ^^^ 0xFFFFFFFF

/-- Bytes are written to MRAM: MRM's event 0x101 and the MiB count (Table 17-2, MRM_WRITE_MIB_CNT). -/
def mramWritten (s : State) (n : Nat) : State :=
  let b := s.mrm.bytes + n
  let s := pmcEvent { s with mrm := { s.mrm with bytes := b % 2 ^ 20 } } mrmPage 0x101 1
  if 2 ^ 20 ≤ b then bumpBy s mrmPage O.MRM_WRITE_MIB_CNT (b / 2 ^ 20) else s

/-- The controller's claim (R351). -/
def claimOf (s : State) : Nat := s.pair.epoch * 2 + s.boot.ctrlId

/-- Does the controller run the shelf: its orders, module commands and tables count (R355, R356, R358)? -/
def State.rules (s : State) : Bool :=
  s.pair.role = .active || s.pair.role = .isolated || s.pair.role = .handingOver || s.pair.role = .takingOver

/-- May the ROM's background work go on: the controller is ACTIVE, and no hold pauses it (R112, R356, R361, R362, R431)? -/
def worksBehind (s : State) : Bool := s.pair.role = .active && s.boot.act = .none && !s.pair.holding

/-- A piece of background work, where it may go on. -/
def background (s t : State) : State := if worksBehind s then t else s

/-- Does the active send its records to the partner (R344, R345)? -/
def mirrored (s : State) : Bool :=
  (s.pair.role = .active || s.pair.role = .handingOver) && (s.pair.mirror = .syncing || s.pair.mirror = .mirroring)

/-- A record is written to the MRAM journal (R224), and sent to the standby (R344). -/
def journal (s : State) (body : RecordBody) : State :=
  let r : JournalRecord := ⟨s.journalSeq + 1, body⟩
  let s := mramWritten { s with journal := r :: s.journal, journalSeq := r.seq } 64
  let s := { s with pair := { s.pair with crc := crc32cRun s.pair.crc (Config.recordBytes r) } }
  if mirrored s then
    emit { s with pair := { s.pair with sentSeq := r.seq } } (.record (claimOf s) r.seq)
  else s

/-- Does a record count as written: in MRAM, and acknowledged while MIRRORING (R344)? -/
def durable (s : State) (seq : Nat) : Bool :=
  s.pair.mirror ≠ .mirroring || !mirrored s || seq ≤ s.pair.acked

/-- The zone table entry of a zone is journalled. -/
def journalZone (s : State) (ns idx : Nat) : State := journal s (.zone ns idx (zoneOf s ns idx))

/-! ## Power reservations and wakes (R297, R298) -/

/-- A group, where it is defined. -/
def groupOf (s : State) (g : Nat) : Option Group := s.groups.get g

/-- The state with a group replaced. -/
def setGroup (s : State) (g : Nat) (x : Group) : State := { s with groups := s.groups.set g x }

/-- May a Spring of `slots` slots be admitted (R298)? A slot of its own counts against the budget alone. -/
def springFits (s : State) (slots : Nat) (group : Bool) : Bool :=
  decide (reservedWatts s + slots * regField s zsqPage O.ZSQ_SEASON_RSV 16 8 ≤ regField s zsqPage O.ZSQ_SEASON_CFG 16 16) &&
  (!group || decide (groupsUp s + 1 ≤ regField s zsqPage O.ZSQ_SEASON_CFG 12 4))

/-- WAKE_WAIT, once for a request that cannot be admitted (R298). -/
def wakeWaits (s : State) (g : Nat) : State :=
  match groupOf s g with
  | none => s
  | some x =>
    if x.wake.isSome && !x.wakeWaited && !springFits s x.w true then
      let s := setGroup s g { x with wakeWaited := true }
      alertAt (bump s zsqPage O.ZSQ_WAKE_WAIT_CNT) zsqPage O.ZSQ_SEASON_ALERT 0 20
    else s

/-- Order of the kinds of wake request (R298). -/
def WakeKind.rank : WakeKind → Nat
  | .demand => 0 | .season => 1 | .internal => 2 | .patrol => 2

/-- A wake of a group in Winter or Autumn is requested; a request of a higher kind takes the place of a lower one (R293,
R298). A LOST group takes no season change. -/
def requestWake (s : State) (g : Nat) (kind : WakeKind) : State :=
  match groupOf s g with
  | none => s
  | some x =>
    if x.lost || x.season = .spring || x.season = .summer then s
    else
      let stays := match x.wake with
        | some (k, _) => decide (k.rank ≤ kind.rank)
        | none => false
      if stays then s
      else
        wakeWaits (setGroup { s with wakeSeq := s.wakeSeq + 1 } g
          { x with wake := some (kind, s.wakeSeq), wakeWaited := false }) g

/-- A host command addresses a zone of a group: its idle time restarts (R291). -/
def touchGroup (s : State) (g : Nat) : State :=
  match groupOf s g with
  | none => s
  | some x => setGroup s g { x with idleAt := s.time.now }

/-- A host command needs its group in Summer (R68): true, or the wake is requested and it waits. -/
def inSummer (s : State) (g : Nat) : Bool := ((groupOf s g).map fun x => decide (x.season = .summer)).getD false

end Sys2Proof.Machine
end

