-- ==== Sys2Proof/Machine/Transport.lean ====
section
/-! DEFINITION. The RDMA transport: connection setup and teardown, packets, region keys, contexts, retransmission and
congestion (chapter 05), and the submission ring triggers of R79 to R81. -/
namespace Sys2Proof.Machine

/-! ## Submission ring (R79 to R81) -/

/-- A slot's trigger fires (R79); a second one before the parse loses the earlier capsule (R80). -/
def fireTrigger (n : Nat) (s : State) (slot : Nat) : State :=
  let c := connOf s n
  let t := setConn s n { c with slots := c.slots.set slot (tickCount s) }
  if c.slots.has slot then
    let t := alert (bump t cmdPage O.CMD_OVERRUN_CNT) cmdPage O.CMD_ALERT 2
    addError (blockError t cmdPage 0x0100 (n + slot * 2 ^ 16)) 0x0100 n 0xFFFFFFFF
  else t

/-- CQ_HEAD arrives (R81): a value below the copy, or above the entries written, is ignored and counted. -/
def cqHeadUpdate (s : State) (n : Nat) (v : Nat) : State :=
  let c := connOf s n
  let gap := wrapGap 32 c.cqHead v
  if c.nextEntry - c.cqHead < gap then
    let s := alert (bump s cmdPage O.CMD_CQH_ERR_CNT) cmdPage O.CMD_ALERT 3
    addError (blockError s cmdPage 0x0101 n) 0x0101 n 0xFFFFFFFF
  else drain (setConn s n { c with cqHead := c.cqHead + gap }) n

/-- Bytes are placed in a submission ring: triggers fire in slot order, and CQ_HEAD is taken when its last byte lands
(R79, R81, R135). -/
def ringPlace (s : State) (n off : Nat) (data : List Byte) : State :=
  let c := connOf s n
  let s := setConn s n { c with ringBytes := writeBytes c.ringBytes off data }
  let last := off + data.length
  let fired := (List.range 1024).filter fun i => decide (off ≤ i * 64 + 63 ∧ i * 64 + 63 < last)
  let s := fired.foldl (fireTrigger n) s
  if off ≤ 0x10003 && 0x10003 < last then
    cqHeadUpdate s n (leNat (readBytes (connOf s n).ringBytes 0x10000 4))
  else s

/-- RING_TRIGGER (R79, R80): the capsule's last byte is placed in its slot. -/
def execRingTrigger (n slot : Nat) (capsule : List Byte) (s : State) : Res :=
  onUnit "connection" n 4096
    (if slot < 1024 && (connOf s n).st = .ready then ringPlace s n (slot * 64) (padTo 64 capsule) else s)

/-- CQ_HEAD_UPDATE (R81). -/
def execCqHeadUpdate (n : Nat) (v : Word) (s : State) : Res :=
  onUnit "connection" n 4096
    (if (connOf s n).st = .ready then ringPlace s n 0x10000 (leBytes 4 v.toNat) else s)

/-! ## Acknowledgements (R144) -/

/-- An acknowledgement up to the PSN before the expected one goes out. -/
def sendAck (s : State) (n : Nat) : State :=
  let s := emit s (.ack n (psnAdd (connOf s n).ePsn (2 ^ 24 - 1)))
  let s := queueFrames s n [frameLen (connOf s n) 4 0]
  setConn s n { connOf s n with ackCount := 0, ackAt := none }

/-- A packet in sequence is counted towards the next acknowledgement (R144). -/
def notePacket (s : State) (n : Nat) (atOnce : Bool) : State :=
  let c := connOf s n
  let cfg := regOf s (xptPage c.engine) O.XPT_CFG
  if atOnce || field cfg 0 8 ≤ c.ackCount + 1 then sendAck (setConn s n { c with ackCount := c.ackCount + 1 }) n
  else
    setConn s n { c with
      ackCount := c.ackCount + 1
      ackAt := some (c.ackAt.getD (s.time.now + field cfg 8 8 * ticksUs)) }

/-- A negative acknowledgement: 0 sequence error, 1 invalid request, 2 remote access (R118, R139, R144). -/
def sendNak (s : State) (n psn kind : Nat) : State :=
  queueFrames (emit s (.nak n psn kind)) n [frameLen (connOf s n) 4 0]

/-- A remote access NAK: counted, raised, and the connection enters ERROR (R125, R139). -/
def remoteAccessNak (s : State) (n psn : Nat) : State :=
  let e := xptPage (connOf s n).engine
  connError (alert (bump (emit s (.nak n psn 2)) e O.XPT_KEY_NAK_CNT) e O.XPT_ALERT 1) n

/-- An invalid request NAK: the connection enters ERROR (R118, R125, R136). -/
def invalidRequestNak (s : State) (n psn : Nat) : State := connError (emit s (.nak n psn 1)) n

/-- A CE-marked packet draws a CNP unless one was sent within CNP_US (R145). -/
def congestionNotice (s : State) (n : Nat) : State :=
  let c := connOf s n
  let us := regField s (xptPage c.engine) O.XPT_CNP_CFG 0 16
  let due := match c.cnpSent with
    | none => true
    | some t => decide (t + us * ticksUs ≤ s.time.now)
  if due then
    let s := bump (emit s (.cnp n)) (xptPage c.engine) O.XPT_CNP_TX_CNT
    let s := queueFrames s n [frameLen c 16 0]
    setConn s n { connOf s n with cnpSent := some s.time.now }
  else s

/-! ## The key check and placement (R135 to R142) -/

/-- The operations of the key check. -/
inductive KeyOp | write | read | flush
  deriving DecidableEq, Repr

/-- The key check of R139: the region index of a packet that passes. -/
def keyCheck (s : State) (n : Nat) (key : Word) (op : KeyOp) (off len : Nat) : Option Nat :=
  let i := key.toNat / 256
  let r := regionOf s i
  let right := match op with
    | .write => r.canWrite
    | .read => r.canRead
    | .flush => r.canFlush
  if i ≠ 0 && i < 65536 && r.st = .valid && r.gen = key.toNat % 256 && r.owner = n && right && off + len ≤ r.len
  then some i else none

/-- Bytes are placed in a region, and counted towards R96. -/
def placeBytes (s : State) (n i off : Nat) (data : List Byte) : State :=
  let r := regionOf s i
  let s := setRegion s i { r with placed := r.placed + data.length }
  match r.kind with
  | .ring => ringPlace s n off data
  | .window =>
    let r := regionOf s i
    setRegion s i { r with bytes := writeBytes r.bytes off data }
  | .ctag =>
    let c := connOf s n
    setConn s n { c with ctags := writeBytes c.ctags off data }
  | .dram =>
    let s := dramWrite s (r.base + off) data
    if r.trigger then ringPlace s n off data else s

/-- The bytes of a region now (R138). -/
def regionBytes (s : State) (n i off len : Nat) : List Byte :=
  let r := regionOf s i
  match r.kind with
  | .ring => readBytes (connOf s n).ringBytes off len
  | .window => readBytes r.bytes off len
  | .ctag => readBytes (connOf s n).ctags off len
  | .dram => readBytes s.dram (r.base + off) len

/-- Where a PSN stands to the expected one (R138, R144). -/
inductive PsnPlace | expected | ahead | duplicate
  deriving DecidableEq, Repr

/-- The PSN test of a responder. -/
def psnPlace (c : Conn) (psn : Nat) : PsnPlace :=
  let d := psnGap c.ePsn psn
  if d = 0 then .expected else if d < 2 ^ 23 then .ahead else .duplicate

/-- A packet above the expected PSN draws one sequence error NAK until that PSN arrives (R144). -/
def outOfSequence (s : State) (n : Nat) : State :=
  let c := connOf s n
  if c.nakked then s
  else
    let s := setConn s n { c with nakked := true }
    bump (sendNak s n c.ePsn 0) (xptPage c.engine) O.XPT_SEQ_NAK_CNT

/-- A valid packet moves a connection in SETUP to READY (R124). -/
def becomeReady (s : State) (n : Nat) : State :=
  let c := connOf s n
  if c.st = .setup then setConn s n { c with st := .ready, deadline := none } else s

/-- A request in sequence has passed its checks: the expected PSN moves on by its packets. -/
def advancePsn (s : State) (n packets : Nat) : State :=
  let s := becomeReady s n
  let c := connOf s n
  setConn s n { c with ePsn := psnAdd c.ePsn packets, msn := psnAdd c.msn 1, nakked := false }

/-- A packet fails the key check. One that arrives in SETUP is not valid and moves the connection to READY no more than
it moves it to ERROR. -/
def keyFails (s : State) (n psn : Nat) : State :=
  let e := xptPage (connOf s n).engine
  if (connOf s n).st = .setup then alert (bump (emit s (.nak n psn 2)) e O.XPT_KEY_NAK_CNT) e O.XPT_ALERT 1
  else remoteAccessNak s n psn

/-- An RDMA WRITE packet in the receive pipeline (R135, R138, R139, R144). -/
def doWrite (s : State) (n : Nat) (p : Packet) (data : List Byte) : State :=
  match psnPlace (connOf s n) p.psn with
  | .ahead => outOfSequence s n
  | .duplicate => sendAck s n
  | .expected =>
    match keyCheck s n p.key .write p.off data.length with
    | none => keyFails s n p.psn
    | some i =>
      let s := placeBytes (advancePsn s n 1) n i p.off data
      notePacket s n (p.last && p.ackReq)

/-- Frames of an RDMA READ response. -/
def responseFrames (c : Conn) (len : Nat) : List Nat :=
  (List.range (packetsOf c.mtu len)).map fun i => frameLen c 4 (min c.mtu (len - i * c.mtu))

/-- A READ request is executed: the bytes in DRAM now (R138). -/
def answerRead (s : State) (n psn i off len : Nat) : State :=
  let s := emit s (.readResponse n psn (regionBytes s n i off len))
  let s := queueFrames s n (responseFrames (connOf s n) len)
  setConn s n { connOf s n with ackCount := 0, ackAt := none }

/-- A FLUSH is answered: every earlier byte is in DRAM (R135). -/
def answerFlush (s : State) (n psn : Nat) : State :=
  let s := queueFrames (emit s (.flushResponse n psn)) n [frameLen (connOf s n) 4 0]
  setConn s n { connOf s n with ackCount := 0, ackAt := none }

/-- A READ or FLUSH takes one of the 16 responder resources (R138). -/
def takeResource (s : State) (n psn i off len : Nat) (isFlush : Bool) : State :=
  let c := connOf s n
  setConn s n { c with resources := ((psn, i, off, len, isFlush) :: c.resources).take 16 }

/-- A duplicate READ or FLUSH is executed again from its resource entry (R138). -/
def repeatRequest (s : State) (n psn : Nat) : State :=
  match (connOf s n).resources.find? fun r => r.1 = psn with
  | none => s
  | some (_, i, off, len, isFlush) =>
    if isFlush then answerFlush s n psn else answerRead s n psn i off len

/-- An RDMA READ request in the receive pipeline (R138, R139). -/
def doRead (s : State) (n : Nat) (p : Packet) (len : Nat) : State :=
  match psnPlace (connOf s n) p.psn with
  | .ahead => outOfSequence s n
  | .duplicate => repeatRequest s n p.psn
  | .expected =>
    match keyCheck s n p.key .read p.off len with
    | none => keyFails s n p.psn
    | some i =>
      let s := advancePsn s n (packetsOf (connOf s n).mtu len)
      answerRead (takeResource s n p.psn i p.off len false) n p.psn i p.off len

/-- A FLUSH in the receive pipeline (R135, R136, R139). -/
def doFlush (s : State) (n : Nat) (p : Packet) (len : Nat) (whole persist : Bool) : State :=
  match psnPlace (connOf s n) p.psn with
  | .ahead => outOfSequence s n
  | .duplicate => repeatRequest s n p.psn
  | .expected =>
    if persist then invalidRequestNak s n p.psn
    else
      let off := if whole then 0 else p.off
      let len := if whole then 0 else len
      match keyCheck s n p.key .flush off len with
      | none => keyFails s n p.psn
      | some i => answerFlush (takeResource (advancePsn s n 1) n p.psn i off len true) n p.psn

/-- What a parked or arriving packet does once its context is cached. -/
def doPacket (s : State) (n : Nat) (i : Instr) : State :=
  match i with
  | .rdmaWrite p data =>
    let s := if p.ce then congestionNotice s n else s
    doWrite s n p data
  | .rdmaRead p len =>
    let s := if p.ce then congestionNotice s n else s
    doRead s n p len
  | .rdmaFlush p len whole persist =>
    let s := if p.ce then congestionNotice s n else s
    doFlush s n p len whole persist
  | _ => s

/-! ## Arrival and the miss buffer (R118, R130, R132, R133) -/

/-- Cells of the miss buffer that a packet takes, from its IP header through its ICRC (R133). -/
def packetCells (c : Conn) (i : Instr) : Nat :=
  let body := match i with
    | .rdmaWrite _ data => 16 + data.length
    | .rdmaRead .. => 16
    | .rdmaFlush .. => 20
    | _ => 0
  ceilDiv (frameLen c body 0 - 14 - (if c.pcp.isSome then 4 else 0) - 4) 256

/-- A packet is parked, or dropped where it does not fit (R132, R133). -/
def park (s : State) (n : Nat) (i : Instr) : State :=
  let c := connOf s n
  let e := s.engines.getD c.engine {}
  let k := packetCells c i
  let s := setConn s n { c with fetching := true }
  if 1024 < e.cells + k then
    alert (bump s (xptPage c.engine) O.XPT_MISS_DROP_CNT) (xptPage c.engine) O.XPT_ALERT 0
  else
    { s with
      engines := s.engines.set c.engine { e with cells := e.cells + k, high := max e.high (e.cells + k) }
      parked := s.parked.modify n [] (· ++ [i]) }

/-- Cells that a connection's parked packets leave free. -/
def freeCells (s : State) (n : Nat) : State :=
  let c := connOf s n
  let k := ((s.parked.getD n []).map (packetCells c)).sum
  { s with
    engines := s.engines.modify c.engine {} fun e => { e with cells := e.cells - k }
    parked := s.parked.erase n }

/-- A packet of a connection arrives at its engine: dropped while the engine is quiesced (R130), in ERROR or CLOSING
(Table 5-5) and without a QPN; parked on a context miss (R132); otherwise processed. -/
def packetArrives (s : State) (qpn : Nat) (i : Instr) : State :=
  let n := qpn % 4096
  let e := qpn / 4096 % 4
  let page := xptPage e
  let c := connOf s n
  if qpn / 2 ^ 14 ≠ 4 || !isEnabled s page then s
  else if (getPage s page).quiesce then alert (bump s page O.XPT_MISS_DROP_CNT) page O.XPT_ALERT 0
  else
    let s := pmcEvent s page 0x100 1
    if c.st = .free || c.engine ≠ e then s
    else if c.st = .error || c.st = .closing then bump s page O.XPT_ERR_DROP_CNT
    else if !(s.parked.getD n []).isEmpty || c.fetching then park s n i
    else if !contextCached s n then
      park (pmcEvent (bump s page O.XPT_CTX_MISS_CNT) page 0x102 1) n i
    else doPacket (cacheContext s n) n i

/-- The frame of a packet for a connection leaves the engine's ingress queue (log entry 45). -/
def takeConnFrame (s : State) (n : Nat) : State := takeFrame s (2 ^ 16 + (connOf s n).engine * 4096 + n)

/-- RDMA_WRITE (R135, R138, R139, R142, R144). -/
def execRdmaWrite (p : Packet) (data : List Byte) (s : State) : Res :=
  .next (packetArrives (takeFrame (clockTo s p.at_) p.qpn) p.qpn (.rdmaWrite p data))

/-- RDMA_READ (R138, R139). -/
def execRdmaRead (p : Packet) (len : Nat) (s : State) : Res :=
  .next (packetArrives (takeFrame (clockTo s p.at_) p.qpn) p.qpn (.rdmaRead p len))

/-- RDMA_FLUSH (R135, R136, R138, R139). -/
def execRdmaFlush (p : Packet) (len : Nat) (whole persist : Bool) (s : State) : Res :=
  .next (packetArrives (takeFrame (clockTo s p.at_) p.qpn) p.qpn (.rdmaFlush p len whole persist))

/-- UNSUPPORTED_PACKET (R118): on a READY connection an invalid request NAK and ERROR; UD packets (opcodes 0x60 to 0x7F)
and other MADs on QP1 are dropped and counted. -/
def unsupportedPacket (s : State) (qpn opcode psn : Nat) : State :=
  let n := qpn % 4096
  let e := qpn / 4096 % 4
  let page := xptPage e
  let c := connOf s n
  if qpn = 1 then bump s (xptPage 0) O.XPT_UNSUP_CNT
  else if qpn / 2 ^ 14 ≠ 4 || !isEnabled s page then s
  else if opcode / 32 = 3 then bump s page O.XPT_UNSUP_CNT
  else if c.engine ≠ e then s
  else match c.st with
    | .ready => invalidRequestNak (bump s page O.XPT_UNSUP_CNT) n psn
    | .error | .closing => bump s page O.XPT_ERR_DROP_CNT
    | .free | .setup => s

/-- UNSUPPORTED_PACKET (R118). -/
def execUnsupportedPacket (qpn opcode psn : Nat) (s : State) : Res := 
  .next (unsupportedPacket (takeFrame s qpn) qpn opcode psn)

/-- One parked packet is processed: the connection can have left READY with an earlier one (R132). -/
def unpark (n : Nat) (s : State) (i : Instr) : State :=
  let c := connOf s n
  match c.st with
  | .setup | .ready => doPacket s n i
  | .error | .closing => bump s (xptPage c.engine) O.XPT_ERR_DROP_CNT
  | .free => s

/-- A context fetch ends (R132, R134). -/
def contextFetched (s : State) (n : Nat) (eccBad : Bool) : State :=
  let c := connOf s n
  if !c.fetching || c.st = .free then s
  else
    let ps := s.parked.getD n []
    let s := freeCells s n
    let s := setConn s n { c with fetching := false }
    if eccBad then
      let page := xptPage c.engine
      connError (alert (blockError s page 0x0100 n) page O.XPT_ALERT 4) n
    else ps.foldl (unpark n) (cacheContext s n)

/-- CONTEXT_FETCH_DONE (R132 to R134). -/
def execContextFetchDone (n : Nat) (eccBad : Bool) (s : State) : Res :=
  onUnit "connection" n 4096 (contextFetched s n eccBad)

/-- ACK_TIMER (R144): ACK_US after the first unacknowledged packet. -/
def ackTimer (s : State) (n : Nat) : State :=
  match (connOf s n).ackAt with
  | none => s
  | some t => if (connOf s n).st = .ready then sendAck (clockTo s t) n else s

/-- ACK_TIMER (R144). -/
def execAckTimer (n : Nat) (s : State) : Res := onUnit "connection" n 4096 (ackTimer s n)

/-! ## The requester side (R137, R146) -/

/-- Frames to send again of one request, from a PSN on. -/
def framesFrom (c : Conn) (psn : Nat) (x : Sent) : List Nat :=
  if psnGap psn x.psn < 2 ^ 23 then requestFrames c x.kind x.len
  else
    let d := psnGap x.psn psn
    if x.packets ≤ d then []
    else match x.kind with
      | .write => (requestFrames c x.kind x.len).drop d
      | .read | .flush => requestFrames c x.kind x.len

/-- Go-back-N from a PSN (R146): a retry is used, and the connection enters ERROR when none is left. -/
def goBack (s : State) (n psn : Nat) : State :=
  let c := connOf s n
  if c.retriesLeft = 0 then connError s n
  else
    let fs := c.sent.flatMap (framesFrom c psn)
    let s := emit s (.retransmit n psn fs.length)
    let s := bumpBy s (xptPage c.engine) O.XPT_RETX_CNT fs.length
    setConn s n { c with
      retriesLeft := c.retriesLeft - 1
      txq := c.txq ++ fs
      retxAt := some (s.time.now + retxTicks s c) }

/-- An acknowledgement (R146): it may advance the oldest unacknowledged PSN and restore the retries. READ and FLUSH
requests stay until their responses arrive. -/
def ackReceived (s : State) (n psn : Nat) : State :=
  let c := connOf s n
  if c.st ≠ .ready || psnGap c.uPsn c.nPsn ≤ psnGap c.uPsn psn then s
  else
    let left := c.sent.filter fun x =>
      decide (x.kind ≠ .write) || psnGap (psnAdd psn 1) (psnAdd x.psn (x.packets - 1)) < 2 ^ 23
    setConn s n { c with
      uPsn := psnAdd psn 1
      sent := left
      retriesLeft := c.retryCount
      retxAt := if left.isEmpty then none else some (s.time.now + retxTicks s c) }

/-- RDMA_ACK (R146). -/
def execRdmaAck (n psn : Nat) (s : State) : Res := onUnit "connection" n 4096 (ackReceived (takeConnFrame s n) n psn)

/-- RDMA_NAK (R125, R146). -/
def nakReceived (s : State) (n psn : Nat) (sequence : Bool) : State :=
  if (connOf s n).st ≠ .ready then s else if sequence then goBack s n psn else connError s n

/-- RDMA_NAK (R125, R146). -/
def execRdmaNak (n psn : Nat) (sequence : Bool) (s : State) : Res :=
  onUnit "connection" n 4096 (nakReceived (takeConnFrame s n) n psn sequence)

/-- RETX_TIMEOUT (R146). -/
def retxTimeout (s : State) (n : Nat) : State :=
  match (connOf s n).retxAt with
  | none => s
  | some t => if (connOf s n).st = .ready then goBack (clockTo s t) n (connOf s n).uPsn else s

/-- RETX_TIMEOUT (R146). -/
def execRetxTimeout (n : Nat) (s : State) : Res := onUnit "connection" n 4096 (retxTimeout s n)

/-- The response to a READ or FLUSH of a command takes the request off the list, and the next that waits goes out. -/
def responseTaken (s : State) (n q : Nat) (kind : SentKind) : State :=
  let c := connOf s n
  match c.sent.find? fun x => x.kind = kind && x.cmd = some q with
  | none => s
  | some x =>
    let left := c.sent.erase x
    let s := setConn s n { c with
      sent := left
      uPsn := (left.head?.map (·.psn)).getD c.nPsn
      retriesLeft := c.retryCount
      retxAt := if left.isEmpty then none else some (s.time.now + retxTicks s c) }
    issueHeld s n

/-- The status and RESULT of a command that delivers data (R67, R108). -/
def deliveryStatus (c : Command) : Nat × Nat :=
  match c.lostAt with
  | some k => (0x08, k)
  | none => if c.zeroed then (0x0E, 0) else (0, 0)

/-- The data of a command has left the port (R137): strict placement issues RDMA FLUSH over the buffer and, on a sealed
connection, the tag range (R101); ordered delivery completes at once. -/
def writeDone (s : State) (n cid : Nat) : State :=
  match findCmd s n cid with
  | none => s
  | some (q, c) =>
    let k := connOf s n
    if c.phase ≠ .delivering || k.st ≠ .ready then s
    else
      let s := stamp s n cid 8
      let (st, res) := deliveryStatus c
      if k.ordered then complete s q st res
      else
        let len := c.payload.length
        let s := emit (setCmd s q { c with phase := .flushing, count := if k.sealed then 2 else 1 })
          (.rdmaFlush n cid c.bufKey.toNat c.bufAddr len)
        let s := issue s n .flush (some q) len
        if k.sealed then
          let tags := 16 * ceilDiv len 65536
          issue (emit s (.rdmaFlush n cid k.htagKey.toNat (k.htagAddr + 16 * c.sealIdx) tags)) n .flush (some q) tags
        else s

/-- RDMA_WRITE_DONE (R101, R137). -/
def execRdmaWriteDone (n cid : Nat) (s : State) : Res := onUnit "connection" n 4096 (writeDone s n cid)

/-- The response to an RDMA FLUSH arrives; after the last one the completion entry is written (R101). -/
def flushResponse (s : State) (n cid : Nat) : State :=
  match findCmd s n cid with
  | none => s
  | some (q, c) =>
    if c.phase ≠ .flushing then s
    else
      let s := responseTaken s n q .flush
      if c.count ≤ 1 then
        let (st, res) := deliveryStatus c
        complete (stamp s n cid 9) q st res
      else setCmd s q { c with count := c.count - 1 }

/-- RDMA_FLUSH_RESPONSE (R101). -/
def execRdmaFlushResponse (n cid : Nat) (s : State) : Res := onUnit "connection" n 4096 (flushResponse (takeConnFrame s n) n cid)

/-! ## Rate reaction (R147) -/

/-- A CNP cuts the rate unless within the hold; a cut puts off the next rise. -/
def cnpReceived (s : State) (n : Nat) : State :=
  let c := connOf s n
  let page := xptPage c.engine
  if c.st ≠ .ready then s
  else
    let s := bump s page O.XPT_CNP_RX_CNT
    let cfg := regOf s page O.XPT_CC_CFG
    let held := match c.lastCut with
      | none => false
      | some t => decide (s.time.now - t < field cfg 8 8 * ticksUs)
    if held then s
    else
      let floor := regField s page O.XPT_CC_LIMIT 0 16
      setConn s n { c with
        rate := max floor (c.rate - ceilDiv (c.rate * field cfg 0 8) 256)
        step := regField s page O.XPT_CC_STEP 0 16
        lastCut := some s.time.now
        rises := 0
        riseAt := s.time.now + field cfg 16 16 * ticksUs }

/-- CNP (R147). -/
def execCnp (n tick : Nat) (s : State) : Res := onUnit "connection" n 4096 (cnpReceived (takeConnFrame (clockTo s tick) n) n)

/-- RISE_US without a cut (R147). -/
def rateRise (s : State) (n : Nat) : State :=
  let c := connOf s n
  let page := xptPage c.engine
  if c.st ≠ .ready then s
  else
    let s := clockTo s c.riseAt
    let rises := c.rises + 1
    setConn s n { c with
      rate := min (regField s page O.XPT_CC_LIMIT 16 16) (c.rate + c.step)
      rises := rises
      step := if rises % 4 = 0 then min (regField s page O.XPT_CC_STEP 16 16) (2 * c.step) else c.step
      riseAt := s.time.now + regField s page O.XPT_CC_CFG 16 16 * ticksUs }

/-- RATE_RISE (R147). -/
def execRateRise (n : Nat) (s : State) : Res := onUnit "connection" n 4096 (rateRise s n)

/-! ## Connection setup and teardown (R119 to R129) -/

/-- H of R126. -/
def flowHash (r : CmReq) : Nat :=
  crc32c ((leBytes 16 r.hostIp).reverse ++ (leBytes 3 r.hostQpn).reverse ++ (leBytes 2 r.udpPort).reverse)

/-- Is an engine eligible for a new connection (R126)? -/
def engineEligible (s : State) (e : Nat) : Bool :=
  isEnabled s (xptPage e) && bit (regOf s (xptPage e) O.XPT_CFG) 17

/-- The engine of a connection: the preferred one or the next eligible one (R126). -/
def chooseEngine (s : State) (h : Nat) : Option Nat :=
  ((List.range 4).map fun i => (h + i) % 4).find? (engineEligible s)

/-- Sub-ports of a port mode: two in mode 1 and 2 (Table 6-1). -/
def subPorts (mode : Nat) : Nat := if mode = 0 then 1 else if mode = 1 then 2 else 4

/-- Egress queue of a connection (R126, R153). -/
def egressQueueFor (s : State) (r : CmReq) (engine h : Nat) : Nat :=
  let i := h / 4 % 64
  let entry := regField s (xptPage engine) (O.XPT_QMAP + 4 * (i / 4)) (8 * (i % 4)) 6
  let q := 64 / subPorts ((s.ports.getD r.port {}).mode)
  r.sub * q + entry % q

/-- The reserved bytes of REQ private data, and the fields' ranges (R120, Table 5-2). -/
def privateDataOk (p : List Byte) : Bool :=
  let b (i : Nat) := (p.getD i 0#8).toNat
  let zero (off n : Nat) : Bool := leField p off n = 0
  let isSealed := b 1 % 2 = 1
  p.length = 92 && b 1 ≤ 1 && 10 ≤ b 2 && b 2 ≤ 16 && zero 3 1 && leField p 4 2 ≤ 1024 && zero 6 2 && zero 0x59 3 &&
  (isSealed || (zero 0x14 4 && zero 0x20 8 && zero 0x28 49))

/-- The lowest free connection number (R123); a number rests 10 ms after its connection was freed (R125). -/
def freeNumber (s : State) : Option Nat :=
  (List.range 4096).find? fun n =>
    let c := connOf s n
    c.st = .free && c.deadline.isNone

/-- How many region table entries are free. -/
def freeRegions (s : State) : Nat := 65535 - (s.regions.values.filter fun r => decide (r.st ≠ .free)).length

/-- The grant of R122. -/
def grantFor (s : State) (want : Nat) : Nat :=
  min (if want = 0 then regField s cmdPage O.CMD_CREDIT_DEFAULT 0 11 else want) (65536 - creditPool s)

/-- Is a patch activation hold or a takeover in progress (Table 5-4, BUSY)? -/
def setupBusy (s : State) : Bool := decide (s.boot.act ≠ .none) || s.pair.role = .takingOver

/-- The reject code of a REQ, by the first test that fails (R119, Table 5-4). -/
def rejectCode (s : State) (r : CmReq) : Option Nat :=
  let isSealed := (r.priv.getD 1 0#8).toNat % 2 = 1
  if r.serviceId ≠ 0x5E1A489600000001 then some 0x0A
  else if !r.rc || (r.mtu ≠ 1024 && r.mtu ≠ 2048 && r.mtu ≠ 4096) then some 0x03
  else if (r.priv.getD 0 0#8).toNat ≠ 1 then some 0x01
  else if !privateDataOk r.priv then some 0x02
  else if setupBusy s || (isSealed && s.crypto.halted) then some 0x09
  else if isSealed && !r.pointOk then some 0x08
  else if (freeNumber s).isNone then some 0x04
  else if creditPool s = 65536 then some 0x05
  else if (chooseEngine s (flowHash r)).isNone then some 0x06
  else if freeRegions s < (if isSealed then 2 else 1) then some 0x07
  else none

/-- A duplicate REQ: one from the same host endpoint for a connection in SETUP or READY (R119). -/
def duplicateReq (s : State) (r : CmReq) : Bool :=
  s.conns.values.any fun c =>
    (c.st = .setup || c.st = .ready) && c.hostIp = r.hostIp && c.hostQpn = r.hostQpn && c.udpPort = r.udpPort

/-- May a region table entry be taken? -/
def regionFree (s : State) (i : Nat) : Bool := 0 < i && i < 65536 && (regionOf s i).st = .free

/-- The connection of an accepted REQ (R121 to R126, R147, R153). -/
def newConn (s : State) (r : CmReq) (engine psn : Nat) : Conn :=
  let h := flowHash r
  let page := xptPage engine
  let isSealed := (r.priv.getD 1 0#8).toNat % 2 = 1
  let hostId := leField r.priv 8 8
  { st := .setup, engine := engine, port := r.port, sub := r.sub
    queue := egressQueueFor s r engine h
    udpPort := r.udpPort, hostQpn := r.hostQpn, hostIp := r.hostIp, mtu := r.mtu
    ePsn := r.psn, nPsn := psn, uPsn := psn, retryCount := r.retryCount, retriesLeft := r.retryCount
    rate := regField s page O.XPT_CC_LIMIT 16 16
    step := regField s page O.XPT_CC_STEP 0 16
    riseAt := s.time.now + regField s page O.XPT_CC_CFG 16 16 * ticksUs
    dscp := r.dscp, pcp := r.pcp
    sealed := isSealed
    ordered := s.sec.ordered.contains hostId
    hostId := hostId
    cqShift := (r.priv.getD 2 0#8).toNat
    cqKey := Word.ofNum (leField r.priv 0x10 4), cqAddr := leField r.priv 0x18 8
    htagKey := Word.ofNum (leField r.priv 0x14 4), htagAddr := leField r.priv 0x20 8
    ringRegion := r.ring
    ctagRegion := if isSealed then some r.ctag else none
    grant := grantFor s (leField r.priv 4 2)
    deadline := some (s.time.now + ticksS) }

/-- A REQ is accepted: connection number, engine, regions and REP (R121 to R126). -/
def acceptReq (s : State) (r : CmReq) (n engine : Nat) : State :=
  let (k, s) := draw s
  let c := newConn s r engine (Config.random k % 2 ^ 24)
  let s := setConn s n c
  let s := register s r.ring
    { kind := .ring, owner := n, len := 65600, canRead := true, canWrite := true, trigger := true }
  let s := if c.sealed then
      register s r.ctag { kind := .ctag, owner := n, len := 262144, canRead := true, canWrite := true, canFlush := true }
    else s
  let (j, s) := draw s
  let s := if c.sealed then
      bump { s with vault := { s.vault with seals := s.vault.seals.set n (Config.random j) } } keyPage O.KEY_LOAD_CNT
    else s
  emit s (.rep n (0x10000 + engine * 0x1000 + n) c.grant (regionKey s r.ring)
    (if c.sealed then regionKey s r.ctag else 0) (claimOf s) (decide (s.pair.role = .active)) c.sealed c.ordered c.nPsn)

/-- A Communication Management REQ (R119 to R126). The entries that the controller takes for the regions stand in the
command; a choice that is not free is no choice of the controller's. One that needs the RNG waits for it (R339). -/
def reqReceived (s : State) (r : CmReq) : State :=
  if duplicateReq s r then s
  else match rejectCode s r with
    | some code => emit s (.rej code)
    | none =>
      let isSealed := (r.priv.getD 1 0#8).toNat % 2 = 1
      let ok := regionFree s r.ring && (!isSealed || (regionFree s r.ctag && r.ctag ≠ r.ring))
      match freeNumber s, chooseEngine s (flowHash r) with
      | some n, some e =>
        if !ok then s
        else if !s.rng.ready then { s with reqWait := s.reqWait ++ [r] }
        else acceptReq s r n e
      | _, _ => s

/-- REQ (R119 to R126). -/
def execReq (r : CmReq) (s : State) : Res := .next (reqReceived s r)

/-- RTU (R124). -/
def execRtu (n : Nat) (s : State) : Res := onUnit "connection" n 4096 (becomeReady s n)

/-- CM_IGNORED (R119): MRA, LAP and APR are ignored. -/
def execCmIgnored (_k : CmKind) (s : State) : Res := .next s

/-- A SETUP that lasts 1 s returns to FREE (R124). -/
def setupTimeout (s : State) (n : Nat) : State :=
  let c := connOf s n
  if c.st = .setup then freeConn (freeCells (clockToOpt s c.deadline) n) n else s

/-- SETUP_TIMEOUT (R124). -/
def execSetupTimeout (n : Nat) (s : State) : Res := onUnit "connection" n 4096 (setupTimeout s n)

/-- A DREQ arrives (R125): it is answered with DREP, which ends CLOSING. -/
def dreqReceived (s : State) (n : Nat) : State :=
  let c := connOf s n
  match c.st with
  | .ready | .error => freeConn (freeCells (emit (stopConn s n .closing) (.drep n)) n) n
  | .closing => freeConn (freeCells (emit s (.drep n)) n) n
  | .setup | .free => s

/-- DREQ (R103, R125). -/
def execDreq (n : Nat) (s : State) : Res := onUnit "connection" n 4096 (dreqReceived s n)

/-- CLOSING after the controller's own DREQ ends (R125). -/
def closingEnds (s : State) (n : Nat) : State :=
  let c := connOf s n
  if c.st = .closing && c.ownDreq then freeConn (freeCells s n) n else s

/-- DREP (R125). -/
def execDrep (n : Nat) (s : State) : Res := onUnit "connection" n 4096 (closingEnds s n)

/-- No DREP within 10 ms of the controller's DREQ (R125). -/
def drepTimeout (s : State) (n : Nat) : State :=
  let c := connOf s n
  if c.st = .closing && c.ownDreq then closingEnds (clockToOpt s c.deadline) n else s

/-- DREP_TIMEOUT (R125). -/
def execDrepTimeout (n : Nat) (s : State) : Res := onUnit "connection" n 4096 (drepTimeout s n)

/-- A number becomes free for reassignment (R125). -/
def numberReuse (s : State) (n : Nat) : State :=
  let c := connOf s n
  if c.st = .free && c.deadline.isSome then setConn (clockToOpt s c.deadline) n { c with deadline := none } else s

/-- CONN_NUMBER_REUSE (R125). -/
def execConnNumberReuse (n : Nat) (s : State) : Res := onUnit "connection" n 4096 (numberReuse s n)

/-- An engine starts its shutdown: every connection pinned to it enters ERROR, one in SETUP returns to FREE (R129). -/
def engineShutdown (s : State) (e : Nat) : State :=
  (s.conns.filter fun _ c => c.engine = e && c.st ≠ .free).keys.foldl
    (fun s n => if (connOf s n).st = .setup then freeConn (freeCells s n) n else connError s n) s

/-! ## The register port of the region table (R148, R469) -/

/-- The result of a region operation by R469's tests: 0 OK. -/
def rtResult (s : State) (e op : Nat) : Nat :=
  let page := xptPage e
  let i := regField s page O.XPT_RT_KEY 8 24
  let r := regionOf s i
  let owner := if op = 1 then regField s page O.XPT_RT_ATTR 0 12 else r.owner
  let k := connOf s owner
  let ownerTest := op ≠ 3 || decide (r.st ≠ .free)
  if i = 0 || 65535 < i then 1
  else if op = 1 && r.st ≠ .free then 2
  else if op = 2 && r.st ≠ .valid then 3
  else if ownerTest && k.st ≠ .free && k.engine ≠ e then 4
  else if op = 1 && k.st = .free then 5
  else 0

/-- The region that REGISTER enters. -/
def rtRegion (s : State) (e : Nat) : Region :=
  let page := xptPage e
  let a := regOf s page O.XPT_RT_ATTR
  { kind := .dram, owner := field a 0 12
    base := (regOf s page O.XPT_RT_BASE_LO).toNat + 2 ^ 32 * regField s page O.XPT_RT_BASE_HI 0 16
    len := regField s page O.XPT_RT_LEN 0 21
    canRead := bit a 16, canWrite := bit a 17, canFlush := bit a 18, trigger := bit a 19 }

/-- State code of a region in XPT_RT_STAT. -/
def RegionState.code : RegionState → Nat
  | .free => 0 | .valid => 1 | .revoking => 2

/-- XPT_RT_STAT after an operation on an entry. -/
def rtStat (s : State) (page i result : Nat) (busy : Bool) : State :=
  let r := regionOf s i
  setReg s page O.XPT_RT_STAT
    (packWord [(31, num busy), (28, if result = 1 then 0 else r.st.code), (24, result), (0, r.inflight)])

/-- XPT_RT_CMD with GO = 1 (R469): the tests, then the operation. -/
def rtOperation (s : State) (e op : Nat) : State :=
  let page := xptPage e
  let i := regField s page O.XPT_RT_KEY 8 24
  let res := rtResult s e op
  let idle := setField s page O.XPT_RT_CMD 31 1 0
  if op = 0 then idle
  else if res ≠ 0 then blockError (rtStat idle page i res false) page 0x0101 (i * 256 + res)
  else
    let key (s : State) : State := setField s page O.XPT_RT_KEY 0 8 (regionOf s i).gen
    if op = 1 then key (rtStat (register idle i (rtRegion s e)) page i 0 false)
    else if op = 2 then
      let r := regionOf s i
      key (rtStat (setRegion s i { r with st := .revoking, byPort := some e }) page i 0 true)
    else key (rtStat idle page i 0 false)

/-- What a write of an XPT register does once stored: XPT_RT_CMD starts its operation, and a write while GO is 1 is
ignored. -/
def xptEffect (e off : Nat) (before after : State) : State :=
  let page := xptPage e
  if off ≠ O.XPT_RT_CMD then after
  else if bit (regOf before page off) 31 then setReg after page off (regOf before page off)
  else if bit (regOf after page off) 31 then rtOperation after e (regField after page off 0 2)
  else after

/-- A write of XPT_RT_CMD with GO = 1 and an operation. -/
def rtCommand (s : State) (req e op : Nat) : State :=
  writeBlock (xptEffect e O.XPT_RT_CMD) s req (xptPage e) O.XPT_RT_CMD (packWord [(31, 1), (0, op)])

/-- RT_REGISTER (R140, R148, R469). -/
def execRtRegister (req e : Nat) (s : State) : Res := onUnit "transport engine" e 4 (rtCommand s req e 1)

/-- RT_REVOKE (R141, R148, R469). -/
def execRtRevoke (req e : Nat) (s : State) : Res := onUnit "transport engine" e 4 (rtCommand s req e 2)

/-- RT_QUERY (R148, R469). -/
def execRtQuery (req e : Nat) (s : State) : Res := onUnit "transport engine" e 4 (rtCommand s req e 3)

/-- Step 4 of R141; a REVOKE of the register port reports done. -/
def revokeDone (s : State) (i : Nat) : State :=
  let r := regionOf s i
  if r.st ≠ .revoking || r.inflight ≠ 0 then s
  else
    let s := freeRegion s i
    match r.byPort with
    | none => s
    | some e =>
      let page := xptPage e
      let s := setField s page O.XPT_RT_CMD 31 1 0
      let s := setField s page O.XPT_RT_KEY 0 8 (regionOf s i).gen
      alert (rtStat s page i 0 false) page O.XPT_ALERT 3

/-- REVOKE_DONE (R140, R141). -/
def execRevokeDone (i : Nat) (s : State) : Res := onUnit "region" i 65536 (revokeDone s i)

end Sys2Proof.Machine
end

