-- ==== Sys2Proof/Machine/Net.lean ====
section
/-! DEFINITION. Ports, time base and ingress: received frames, flow control, links, the device time, 1PPS, timestamps,
policers and the switch's tables (chapter 06). -/
namespace Sys2Proof.Machine

/-! ## Policers (R168 to R171) -/

/-- A policer's buckets at a tick: tokens in units of 1/800 bit, so that a rate in Mb/s is what one tick adds. Under
RFC 4115 with COUPLE what overflows the committed bucket goes to the excess bucket (R169). -/
def Policer.refill (p : Policer) (now : Tick) : Policer :=
  let dt := now - p.last
  let c := p.cTok + p.cir * dt
  let capC := p.cbs * 6400
  let excess := if p.rfc4115 && p.couple then c - capC else 0
  { p with cTok := min c capC, pTok := min (p.pTok + p.pir * dt + excess) (p.pbs * 6400), last := max now p.last }

/-- The meter of RFC 4115 for an input colour and a length in token units (log entry 47). -/
def Policer.meter4115 (p : Policer) (input : Colour) (b : Nat) : Colour × Policer :=
  if input = .green && b < p.cTok then (.green, { p with cTok := p.cTok - b })
  else if input ≠ .red && b < p.pTok then (.yellow, { p with pTok := p.pTok - b })
  else (.red, p)

/-- The meter of RFC 2698 (log entry 47). -/
def Policer.meter2698 (p : Policer) (input : Colour) (b : Nat) : Colour × Policer :=
  if input = .red || p.pTok < b then (.red, p)
  else if input = .yellow || p.cTok < b then (.yellow, { p with pTok := p.pTok - b })
  else (.green, { p with cTok := p.cTok - b, pTok := p.pTok - b })

/-- A policed frame is counted by its colour (R170). -/
def Policer.count (p : Policer) : Colour → Policer
  | .green => { p with green := min 0xFFFFFFFF (p.green + 1) }
  | .yellow => { p with yellow := min 0xFFFFFFFF (p.yellow + 1) }
  | .red => { p with redCount := min 0xFFFFFFFF (p.redCount + 1) }

/-- A policer. -/
def policerOf (s : State) (i : Nat) : Policer := s.policers.getD i {}

/-- Does a policer meter frames: POL and the policer enabled? -/
def policerOn (s : State) (i : Nat) : Bool := accepting s polPage && (policerOf s i).en

/-- A frame passes an enabled policer (R168 to R170): its colour, and whether it is dropped. `input` is the colour that a
colour-aware policer takes. -/
def police (s : State) (i : Nat) (input : Colour) (len : Nat) : Colour × Bool × State :=
  let p := (policerOf s i).refill s.time.now
  let input := if p.aware then input else .green
  let r := if p.rfc4115 then p.meter4115 input (len * 6400) else p.meter2698 input (len * 6400)
  let s := { s with policers := s.policers.set i (r.2.count r.1) }
  if r.1 = .red && p.redDrop then (.red, true, bump s polPage O.POL_DROP_CNT) else (r.1, false, s)

/-- Colour from its code; 3 is taken as red. -/
def colourOf (n : Nat) : Colour := if n = 0 then .green else if n = 1 then .yellow else .red

/-- The colour of a frame's DSCP in POL_DSCP_COLOUR; green for a non-IP frame (R168). -/
def tableColour (s : State) : Option Nat → Colour
  | none => .green
  | some d => colourOf (regField s polPage (O.POL_DSCP_COLOUR + 4 * (d / 16 % 4)) (2 * (d % 16)) 2)

/-- The policers of a received frame in order: its connection's where it goes to an engine, then its class's (R168). -/
def policeFrame (s : State) (conn : Option Nat) (sub cls : Nat) (dscp : Option Nat) (len : Nat) : Colour × Bool × State :=
  let table := tableColour s dscp
  let first : Option (Colour × Bool × State) :=
    match conn with
    | none => none
    | some n => if policerOn s n then some (police s n table len) else none
  let second := 4096 + 8 * sub + cls
  match first with
  | none => if policerOn s second then police s second table len else (.green, false, s)
  | some (c, dropped, t) =>
    if dropped || !policerOn t second then (c, dropped, t) else police t second c len

/-! ## FRAME_RECEIVE (R151, R152, R164, R166, R167) -/

/-- The destinations of Table 6-2. -/
inductive Steer
  | engine (e conn : Nat)
  | cores
  | qpnDrop
  | otherDrop
  deriving DecidableEq, Repr

/-- Table 6-2, in the order of its rows. -/
def steer (f : Frame) : Steer :=
  if f.udpDst = some 4791 then
    if f.qpn / 2 ^ 14 = 4 then .engine (f.qpn / 4096 % 4) (f.qpn % 4096)
    else if f.qpn = 1 then .cores else .qpnDrop
  else if f.etherType = 0x88F7 || f.udpDst = some 319 || f.udpDst = some 320 then .cores
  else if f.etherType = 0x0806 || f.icmp || f.etherType = 0x88CC then .cores
  else .otherDrop

/-- The class of a frame (R166). -/
def frameClass (s : State) (f : Frame) : Nat :=
  match f.pcp, f.dscp with
  | some p, _ => pcpClass s p
  | none, some d => dscpClass s d
  | none, none => 0

/-- Is a destination address accepted on a sub-port (R152)? -/
def acceptsMac (p : Port) (k dmac : Nat) : Bool :=
  dmac = p.mac + k || dmac = 0xFFFFFFFFFFFF || dmac = 0x0180C2000001 || dmac = 0x011B19000000 ||
    dmac = 0x0180C200000E || (0x01005E000000 ≤ dmac && dmac ≤ 0x01005E7FFFFF) || dmac / 2 ^ 32 = 0x3333

/-- An accepted frame in SWC: classified, steered, policed, then admitted (R166 to R168). The control cores take a frame
as soon as it is queued, with its receive timestamp (R164, log entry 45). -/
def switchFrame (s : State) (f : Frame) : State :=
  let cls := frameClass s f
  let sub := 4 * f.port + f.sub
  let lost (s : State) (off : Nat) : State := dropFrame s off
  let go (conn : Option Nat) (q : Nat) (s : State) : State :=
    let r := policeFrame s conn sub cls f.dscp f.len
    if r.2.1 then r.2.2
    else admitFrame r.2.2 q { len := f.len, cls := cls, colour := r.1, src := some sub, qpn := f.qpn } (f.dscp.map fun _ => f.ecn)
  if !accepting s swcPage then s
  else match steer f with
  | .qpnDrop => lost s O.SWC_QPN_DROP_CNT
  | .otherDrop => lost s O.SWC_OTHER_DROP_CNT
  | .engine e conn =>
    if !isEnabled s (xptPage e) || !poweredOn s (xptPage e) then lost s O.SWC_DEST_DROP_CNT
    else go (some conn) (8 * e + cls) s
  | .cores =>
    let n := (queueOf s (32 + cls)).frames.length
    let s := go none (32 + cls) s
    if (queueOf s (32 + cls)).frames.length ≤ n then s
    else
      let ns := devNs s - regField s (netPage f.port) O.NET_TS_ADJ 0 16 / 1000
      emit (removeFrame s (32 + cls) n) (.toCores f.port f.sub f.len ns)

/-- A received frame at its sub-port: the tests of R151 and R152 in order, then SWC. MAC control frames end in NET (R155). -/
def receiveFrame (s : State) (f : Frame) : State :=
  let n := f.port
  let k := f.sub
  if !accepting s (netPage n) || !subUp s n k then s
  else
    let drop (s : State) (off : Nat) : State := netCount s n k off 1
    let s := if f.fecBad then alert (netCount s n k O.NET_FEC_UNCORR 1) (netPage n) O.NET_ALERT 2 else s
    if f.fecBad then drop s O.NET_RX_BAD
    else if f.len < 64 || regField s (netPage n) O.NET_MAX_FRAME 0 14 < f.len then drop s O.NET_RX_OVERSIZE
    else if !f.fcsOk then drop s O.NET_RX_BAD
    else if !acceptsMac (portOf s n) k f.dmac then drop s O.NET_RX_FILTERED
    else
      let s := netCount s n k O.NET_RX_FRAMES 1
      if f.etherType = 0x8808 then s else switchFrame s f

/-- FRAME_RECEIVE (R152). -/
def execFrameReceive (f : Frame) (at_ : Nat) (s : State) : Res :=
  onUnit "port" f.port 2 (receiveFrame (clockTo s at_) f)

/-! ## Flow control (R155 to R157) -/

/-- The tick at which a pause of so many quanta ends; none for quanta 0 (R156). -/
def pauseEnd (s : State) (n quanta : Nat) : Option Tick :=
  if quanta = 0 then none else some (s.time.now + bitTicks s n (quanta * 512))

/-- A PAUSE frame arrives (R155, R156). -/
def pauseReceived (s : State) (n k quanta : Nat) : State :=
  if !subUp s n k then s
  else if flowControl s n = 1 then
    netCount (updateSub s n k fun p => { p with pausedTill := pauseEnd s n quanta }) n k O.NET_PAUSE_RX 1
  else if flowControl s n = 2 then netCount s n k O.NET_FC_IGNORED 1
  else s

/-- PAUSE_FRAME (R156). -/
def execPauseFrame (port sub quanta at_ : Nat) (s : State) : Res :=
  onUnit "port" port 2 (pauseReceived (clockTo s at_) port sub quanta)

/-- One entry of a PFC frame (R155, R156): it acts, or is ignored and counted. -/
def pfcEntry (n k enable : Nat) (quanta : List Nat) (s : State) (p : Nat) : State :=
  if !enable.testBit p then s
  else if !pfcEnabled s n p then netCount s n k O.NET_FC_IGNORED 1
  else
    updateSub s n k fun x => { x with
      prioTill := match pauseEnd s n (quanta.getD p 0) with
        | some t => x.prioTill.set p t
        | none => x.prioTill.erase p }

/-- A PFC frame arrives (R155, R156). -/
def pfcReceived (s : State) (n k enable : Nat) (quanta : List Nat) : State :=
  if !subUp s n k then s
  else if flowControl s n = 1 then netCount s n k O.NET_FC_IGNORED 1
  else if flowControl s n ≠ 2 then s
  else
    let acts := (List.range 8).any fun p => enable.testBit p && pfcEnabled s n p
    let s := (List.range 8).foldl (pfcEntry n k enable quanta) s
    if acts then netCount s n k O.NET_PAUSE_RX 1 else s

/-- PFC_FRAME (R156). -/
def execPfcFrame (port sub enable : Nat) (quanta : List Nat) (at_ : Nat) (s : State) : Res :=
  onUnit "port" port 2 (pfcReceived (clockTo s at_) port sub enable quanta)

/-- A received pause runs out (R156): of a priority, or of the whole sub-port for a number above 7. -/
def pauseExpires (s : State) (n k prio : Nat) : State :=
  if prio < 8 then
    match (subOf s n k).prioTill.get prio with
    | none => s
    | some t => updateSub (clockTo s t) n k fun p => { p with prioTill := p.prioTill.erase prio }
  else
    match (subOf s n k).pausedTill with
    | none => s
    | some t => updateSub (clockTo s t) n k fun p => { p with pausedTill := none }

/-- PAUSE_EXPIRY (R156). -/
def execPauseExpiry (port sub prio : Nat) (s : State) : Res := onUnit "port" port 2 (pauseExpires s port sub prio)

/-- REFRESH_US after a pause was sent: it is repeated while the count stays above XON (R157). -/
def pauseRefresh (s : State) (n k cls : Nat) : State :=
  match (subOf s n k).xoff.get cls with
  | none => s
  | some t =>
    let s := clockTo s t
    if xonCells s cls < heldCells s (4 * n + k) cls then sendXoff s (4 * n + k) cls else checkXon s (4 * n + k) cls

/-- PAUSE_REFRESH (R157). -/
def execPauseRefresh (port sub cls : Nat) (s : State) : Res := onUnit "port" port 2 (pauseRefresh s port sub cls)

/-! ## Links (R150, R154) -/

/-- A sub-port's link comes up. -/
def netLinkUp (s : State) (n k : Nat) : State :=
  if !isEnabled s (netPage n) || subCount s n ≤ k || (subOf s n k).up then s
  else
    let an := (portOf s n).autoneg
    alert (updateSub s n k fun p => { p with up := true, aligned := true, anDone := an }) (netPage n) O.NET_ALERT 1

/-- LINK_UP (R154). -/
def execLinkUp (port sub : Nat) (s : State) : Res := onUnit "port" port 2 (netLinkUp s port sub)

/-- The frames of a sub-port's egress queues are discarded and counted (R154). -/
def discardSub (s : State) (n k : Nat) : State :=
  let m := queuesPerSub s n
  (List.range m).foldl (fun s i =>
    let q := swcQueue n (k * m + i)
    let c := (queueOf s q).frames.length
    bumpBy (discardQueue s q) swcPage O.SWC_DEST_DROP_CNT c) s

/-- A sub-port's link goes down (R154). -/
def netLinkDown (s : State) (n k : Nat) : State :=
  if !(subOf s n k).up then s
  else
    let s := updateSub s n k fun p => { p with up := false, aligned := false, anDone := false, tx := none, pauseOut := [] }
    alert (discardSub s n k) (netPage n) O.NET_ALERT 0

/-- LINK_DOWN (R154). -/
def execLinkDown (port sub : Nat) (s : State) : Res := onUnit "port" port 2 (netLinkDown s port sub)

/-- NET reads MODE, the MAC base, AN and LT as it becomes ENABLED (R150). -/
def netEnabled (s : State) (n : Nat) : State :=
  let cfg := regOf s (netPage n) O.NET_CFG
  let mac := (regOf s (netPage n) O.NET_MAC_HI).toNat * 2 ^ 32 + (regOf s (netPage n) O.NET_MAC_LO).toNat / 4 * 4
  { s with ports := s.ports.modify n {} fun p => { p with
    mode := field cfg 0 2, mac := mac, autoneg := bit cfg 16, training := bit cfg 17 } }

/-- NET becomes DISABLED: every link of the port goes down. -/
def netDisabled (s : State) (n : Nat) : State := (List.range 4).foldl (fun s k => netLinkDown s n k) s

/-- What a write of a NET register does beyond the store: the counters are those of the selected sub-port (R175). -/
def netEffect (n off : Nat) (_ after : State) : State :=
  if 0x130 ≤ off && off ≤ 0x154 then
    let v := (regOf after (netPage n) off).toNat
    updateSub after n (regField after (netPage n) O.NET_CNT_SEL 0 2) fun p => { p with counts := p.counts.set off v }
  else after

/-! ## The time base (R158 to R161) -/

/-- The clock moves on until the device time reaches a moment in ns; not at all where the time does not advance. -/
def deviceTo (s : State) (ns : Nat) : State :=
  let step := tickStep s.time.freq
  let target := ns * 2 ^ 32
  if step = 0 || s.time.base.isNone || target ≤ s.time.fine then s
  else elapse s (ceilDiv (target - s.time.fine) step)

/-- A gate list engine follows the device time (R185, R186): a swap that is due is made, and the current entry applies. For
an EGS the swap is counted and raised, and a frame in transmission whose gate has closed is counted with GUARD = 0 (R190).
What R191 does at a swap is `guardDrops`. -/
def gatesFollow (s : State) (page : Nat) : State :=
  let g := gateOf s page
  let t := devNs s
  let e := g.effective t
  let s := setGate s page { e with entry := e.entryAt t }
  if blockOf page ≠ some .egs then s
  else
    let n := page - 0x038
    let s := if g.swapPending && g.swapAt ≤ t then alert (bump s page O.EGS_SWAP_CNT) page O.EGS_ALERT 0 else s
    if guardOn s n then s
    else (List.range 4).foldl (fun s k =>
      match (subOf s n k).tx with
      | none => s
      | some x =>
        if s.time.now < x.endTick && x.queue < 64 && !x.overrun && !queueGateOpen s n x.queue then
          bump (updateSub s n k fun p => { p with tx := some { x with overrun := true } }) page O.EGS_OVERRUN_CNT
        else s) s

/-- A head frame that the guard test holds leaves its queue where its wire time exceeds the queue's longest open run (R191). -/
def guardDrop (s : State) (n q : Nat) : State :=
  let run := ((gateOf s (egsPage n)).active).longestOpen q
  match headFrame s n q, run with
  | some f, some r =>
    if f.heldOnce && r ≠ 0 && r * subRate s n < wireBits f.len * 1000 then
      alert (bump (removeFrame s (swcQueue n q) 0) (egsPage n) O.EGS_GUARD_DROP_CNT) (egsPage n) O.EGS_ALERT 3
    else s
  | _, _ => s

/-- At a swap the frames held that can never pass are dropped (R191). -/
def guardDrops (s : State) (n : Nat) : State := (List.range 64).foldl (fun s q => guardDrop s n q) s

/-- The engine of a page follows the device time, with the drops of a swap (R185 to R191). An EGS's lists run unless it is
DISABLED (R194). -/
def gatesTo (s : State) (page : Nat) : State :=
  if blockOf page = some .egs && !isEnabled s page then s
  else
    let g := gateOf s page
    let swaps := g.swapPending && g.swapAt ≤ devNs s
    let s := gatesFollow s page
    if swaps && blockOf page = some .egs then guardDrops s (page - 0x038) else s

/-- The pages that hold gate lists. -/
def gatePages : List Nat := [0x038, 0x039, 0x060, 0x061, 0x062, 0x063, 0x064, 0x065]

/-- After a STEP or LOAD every active list moves to the entry of the new time (R188). -/
def gatesJump (s : State) : State :=
  let s := gatePages.foldl gatesTo s
  [0x038, 0x039].foldl (fun s p =>
    if isEnabled s p && (gateOf s p).isActive then alert s p O.EGS_ALERT 2 else s) s

/-- The device time changes in one tick (R160, R161): ADJ_DONE, SET, and the gate lists follow. -/
def timeChanged (s : State) (fine : Nat) : State :=
  let s := { s with time := { s.time.setFine fine with isSet := true } }
  let s := setReg s timePage O.TIME_CMD 0#32
  gatesJump (alert s timePage O.TIME_ALERT 2)

/-- TIME_ADJ as seconds and nanoseconds. -/
def adjSeconds (s : State) : Nat :=
  (regOf s timePage O.TIME_ADJ_S_LO).toNat + 2 ^ 32 * regField s timePage O.TIME_ADJ_S_HI 0 16
def adjNs (s : State) : Nat := regField s timePage O.TIME_ADJ_NS 0 30

/-- A STEP applies (R160): refused where the result lies before 0 s. -/
def applyStep (s : State) : State :=
  let s := elapse s 1
  let sum : Int := (devNs s : Int) + signedOf 48 (adjSeconds s) * 1000000000 + (adjNs s : Int)
  if sum < 0 then blockError (setReg s timePage O.TIME_CMD 0#32) timePage 0x0101 0
  else timeChanged s (sum.toNat * 2 ^ 32 + s.time.frac)

/-- A LOAD applies (R160): the fraction is cleared. -/
def applyLoadTime (s : State) : State :=
  let s := elapse s 1
  timeChanged s ((adjSeconds s * 1000000000 + adjNs s) * 2 ^ 32)

/-- What a write of TIME_CMD does (R160): both bits together are dropped; one applies at the next tick boundary. -/
def timeCmdEffect (before after : State) : State :=
  let v := regOf after timePage O.TIME_CMD
  if bit v 0 && bit v 1 then
    blockError (setReg after timePage O.TIME_CMD (regOf before timePage O.TIME_CMD)) timePage 0x0100 0
  else if bit v 0 then applyStep after
  else if bit v 1 then applyLoadTime after
  else after

/-- What a write of TIME_FREQ does (R158, R160). -/
def freqEffect (_ after : State) : State :=
  { after with time := { after.time with freq := signedOf 32 (regOf after timePage O.TIME_FREQ).toNat } }

/-- What a write of TIME_PPS_OUT_CFG does: with EN = 0 the output is held low (R163). -/
def ppsCfgEffect (_ after : State) : State :=
  if bit (regOf after timePage O.TIME_PPS_OUT_CFG) 31 || after.time.ppsOut.isNone then after
  else emit { after with time := { after.time with ppsOut := none } } (.ppsOut false)

/-- What a write of a TIME register does beyond the store. -/
def timeEffect (off : Nat) (before after : State) : State :=
  if off = O.TIME_CMD then timeCmdEffect before after
  else if off = O.TIME_FREQ then freqEffect before after
  else if off = O.TIME_PPS_OUT_CFG then ppsCfgEffect before after
  else after

/-- TIME_STEP (R160). -/
def execTimeStep (req : Nat) (s : State) : Res := .next (writeBlock timeCmdEffect s req timePage O.TIME_CMD 1#32)

/-- TIME_LOAD (R160). -/
def execTimeLoad (req : Nat) (s : State) : Res := .next (writeBlock timeCmdEffect s req timePage O.TIME_CMD 2#32)

/-- TIME_FREQ_WRITE (R158, R160). -/
def execTimeFreqWrite (req : Nat) (value : Word) (s : State) : Res :=
  .next (writeBlock freqEffect s req timePage O.TIME_FREQ value)

/-- The value that a read of a TIME register returns to a requester: what it latched, where it has (R159). -/
def timeReadValue (req off : Nat) (s : State) : Word :=
  let live := showReg s timePage off
  match s.time.latches.get req with
  | none => live
  | some l =>
    if off = O.TIME_S_LO then l.sLo
    else if off = O.TIME_S_HI then l.sHi
    else if off = O.TIME_TICK_LO then l.tLo
    else if off = O.TIME_TICK_HI then l.tHi
    else live

/-- The first entry of the TXTS FIFO is popped and its time latched (TIME_TXTS_INFO). -/
def popStamp (s : State) : State :=
  match s.time.txts with
  | [] => s
  | x :: r => { s with time := { s.time with txts := r, popped := x } }

/-- What a read of a TIME register changes (R159, R162, R165). -/
def timeReadEffect (req off : Nat) (s : State) : State :=
  if off = O.TIME_NS then
    let l : TimeLatch := ⟨showReg s timePage O.TIME_S_LO, showReg s timePage O.TIME_S_HI,
      showReg s timePage O.TIME_TICK_LO, showReg s timePage O.TIME_TICK_HI⟩
    { s with time := { s.time with latches := s.time.latches.set req l } }
  else if off = O.TIME_PPS_NS then { s with time := { s.time with ppsValid := false, ppsOverrun := false } }
  else if off = O.TIME_TXTS_INFO then popStamp s
  else s

/-- A read of a TIME register. -/
def readTimeReg (s : State) (req off : Nat) : State :=
  readWith (timeReadEffect req off) (timeReadValue req off) s req timePage off

/-- TIME_NS_READ (R159). -/
def execTimeNsRead (req : Nat) (s : State) : Res := .next (readTimeReg s req O.TIME_NS)

/-! ## 1PPS and transmit timestamps (R162 to R165) -/

/-- A rising edge arrives on TIME_PPS_IN: its time is held (R162). -/
def ppsEdge (s : State) : State :=
  { s with time := { s.time with ppsEdge := some (s.time.sec, s.time.ns, s.time.now) } }

/-- PPS_IN_EDGE (R162). -/
def execPpsInEdge (at_ : Nat) (s : State) : Res := .next (ppsEdge (clockTo s at_))

/-- 100 ns after an edge: it counts if the input has stayed high (R162). -/
def ppsCapture (s : State) (stayedHigh : Bool) : State :=
  match s.time.ppsEdge with
  | none => s
  | some (sec, ns, t) =>
    let s := clockTo s (t + 80)
    let s := { s with time := { s.time with ppsEdge := none } }
    if !stayedHigh || !isEnabled s timePage then s
    else
      alert { s with time := { s.time with
        ppsSec := sec, ppsNs := ns, ppsOverrun := s.time.ppsOverrun || s.time.ppsValid, ppsValid := true } }
        timePage O.TIME_ALERT 0

/-- PPS_CAPTURE (R162). -/
def execPpsCapture (stayedHigh : Bool) (s : State) : Res := .next (ppsCapture s stayedHigh)

/-- PPS_NS_READ (R162). -/
def execPpsNsRead (req : Nat) (s : State) : Res := .next (readTimeReg s req O.TIME_PPS_NS)

/-- The whole second plus OFFSET_NS that the pulse marks: one reached in the present tick, else the next (R163). -/
def ppsMoment (s : State) : Nat :=
  let off := regField s timePage O.TIME_PPS_OFFSET 0 30
  let t := devNs s
  let last := (t - off) / 1000000000 * 1000000000 + off
  if t < off then off
  else if s.time.fine < last * 2 ^ 32 + tickStep s.time.freq then last
  else last + 1000000000

/-- TIME_PPS_OUT goes high (R163). -/
def ppsPulse (s : State) : State :=
  if !bit (regOf s timePage O.TIME_PPS_OUT_CFG) 31 || !s.time.isSet || !isEnabled s timePage then s
  else
    let s := deviceTo s (ppsMoment s)
    emit { s with time := { s.time with
      ppsOut := some (s.time.now + regField s timePage O.TIME_PPS_OUT_CFG 0 19 * ticksUs) } } (.ppsOut true)

/-- PPS_OUT_PULSE (R163). -/
def execPpsOutPulse (s : State) : Res := .next (ppsPulse s)

/-- PPS_OUT_END (R163). -/
def ppsPulseEnds (s : State) : State :=
  match s.time.ppsOut with
  | none => s
  | some t => emit { clockTo s t with time := { (clockTo s t).time with ppsOut := none } } (.ppsOut false)

/-- PPS_OUT_END (R163). -/
def execPpsOutEnd (s : State) : Res := .next (ppsPulseEnds s)

/-- TXTS_READ (R165). -/
def execTxtsRead (req : Nat) (s : State) : Res := .next (readTimeReg s req O.TIME_TXTS_INFO)

/-! ## POL_CMD (R171) -/

/-- READ: the policer's configuration and counts go to the data registers. -/
def polRead (s : State) (i : Nat) : State :=
  let p := policerOf s i
  let s := setReg s polPage O.POL_MODE (packWord
    [(4, num p.redDrop), (3, num p.couple), (2, num p.rfc4115), (1, num p.aware), (0, num p.en)])
  let s := setReg (setReg s polPage O.POL_CIR (Word.ofNum p.cir)) polPage O.POL_CBS (Word.ofNum p.cbs)
  let s := setReg (setReg s polPage O.POL_PIR (Word.ofNum p.pir)) polPage O.POL_PBS (Word.ofNum p.pbs)
  let s := setReg (setReg s polPage O.POL_GREEN (Word.ofNum p.green)) polPage O.POL_YELLOW (Word.ofNum p.yellow)
  setReg s polPage O.POL_RED (Word.ofNum p.redCount)

/-- WRITE: the data registers go to the policer at once; bucket levels are kept within the new bursts, and are full where
EN goes from 0 to 1 (R169, R171). -/
def polWrite (s : State) (i : Nat) : State :=
  let p := (policerOf s i).refill s.time.now
  let mode := regOf s polPage O.POL_MODE
  let cir := regField s polPage O.POL_CIR 0 19
  let cbs := regField s polPage O.POL_CBS 0 24
  let pir := regField s polPage O.POL_PIR 0 19
  let pbs := regField s polPage O.POL_PBS 0 24
  let starts := bit mode 0 && !p.en
  let q := { p with
    en := bit mode 0, aware := bit mode 1, rfc4115 := bit mode 2, couple := bit mode 3, redDrop := bit mode 4
    cir := cir, cbs := cbs, pir := if bit mode 2 then pir else max pir cir, pbs := pbs
    cTok := if starts then cbs * 6400 else min p.cTok (cbs * 6400)
    pTok := if starts then pbs * 6400 else min p.pTok (pbs * 6400), last := s.time.now }
  { s with policers := s.policers.set i q }

/-- CLEAR: the three counts are zeroed. -/
def polClear (s : State) (i : Nat) : State :=
  { s with policers := s.policers.set i { policerOf s i with green := 0, yellow := 0, redCount := 0 } }

/-- What a write of POL_CMD does (R171). -/
def polCmdEffect (_ after : State) : State :=
  let v := regOf after polPage O.POL_CMD
  let s := setReg after polPage O.POL_CMD (putField v 31 1 0)
  let op := field v 0 2
  let i := regField s polPage O.POL_IDX 0 13
  if !bit v 31 || op = 0 then s
  else if 4159 < i then blockError s polPage 0x0100 0
  else if op = 1 then polRead s i
  else if op = 2 then polWrite s i
  else polClear s i

/-- A write of POL_CMD with GO = 1. -/
def polCommand (s : State) (req op : Nat) : State :=
  writeBlock polCmdEffect s req polPage O.POL_CMD (packWord [(31, 1), (0, op)])

/-- POL_READ (R171). -/
def execPolRead (req : Nat) (s : State) : Res := .next (polCommand s req 1)

/-- POL_WRITE (R171). -/
def execPolWrite (req : Nat) (s : State) : Res := .next (polCommand s req 2)

/-- POL_CLEAR (R171). -/
def execPolClear (req : Nat) (s : State) : Res := .next (polCommand s req 3)

/-! ## SWC_WRED_CMD and SWC_QPROF (R172, R174) -/

/-- The key of the colour set that SWC_WRED_IDX names. -/
def wredKey (s : State) : Nat :=
  regField s swcPage O.SWC_WRED_IDX 0 4 * 4 + regField s swcPage O.SWC_WRED_IDX 4 2

/-- What a write of SWC_WRED_CMD does: READ and WRITE of the colour set; MAX at or below MIN is stored as MIN + 1 (R174). -/
def wredCmdEffect (_ after : State) : State :=
  let v := regOf after swcPage O.SWC_WRED_CMD
  let s := setReg after swcPage O.SWC_WRED_CMD (putField v 31 1 0)
  let op := field v 0 2
  let w := s.switch.wred.getD (wredKey s) {}
  if !bit v 31 then s
  else if op = 1 then
    let s := setReg (setReg s swcPage O.SWC_WRED_MIN (Word.ofNum w.min)) swcPage O.SWC_WRED_MAX (Word.ofNum w.max)
    setReg s swcPage O.SWC_WRED_PRM (packWord [(31, num w.en), (8, w.wexp), (0, w.maxp)])
  else if op = 2 then
    let prm := regOf s swcPage O.SWC_WRED_PRM
    let lo := regField s swcPage O.SWC_WRED_MIN 0 17
    let hi := regField s swcPage O.SWC_WRED_MAX 0 17
    let x : WredSet := ⟨bit prm 31, lo, if hi ≤ lo then lo + 1 else hi, field prm 8 4, field prm 0 8⟩
    { s with switch := { s.switch with wred := s.switch.wred.set (wredKey s) x } }
  else s

/-- A write of SWC_WRED_CMD with GO = 1. -/
def wredCommand (s : State) (req op : Nat) : State :=
  writeBlock wredCmdEffect s req swcPage O.SWC_WRED_CMD (packWord [(31, 1), (0, op)])

/-- WRED_READ (R174). -/
def execWredRead (req : Nat) (s : State) : Res := .next (wredCommand s req 1)

/-- WRED_WRITE (R174). -/
def execWredWrite (req : Nat) (s : State) : Res := .next (wredCommand s req 2)

/-- What a write of SWC_QPROF does (R172): it applies to the indexed queue; for a reserved queue it is dropped and logged. -/
def qprofEffect (before after : State) : State :=
  let v := regOf after swcPage O.SWC_QPROF
  let s := { after with regs := before.regs }
  let q := regField s swcPage O.SWC_QPROF_IDX 0 8
  if reservedQueue q then blockError s swcPage 0x0100 0
  else
    { s with switch := { s.switch with queues := s.switch.queues.modify q {} fun x =>
      { x with profile := field v 0 4, limit := field v 16 16 } } }

/-- QPROF_WRITE (R172). -/
def execQprofWrite (req : Nat) (value : Word) (s : State) : Res :=
  .next (writeBlock qprofEffect s req swcPage O.SWC_QPROF value)

/-- What a write of an SWC register does beyond the store. -/
def swcEffect (off : Nat) (before after : State) : State :=
  if off = O.SWC_WRED_CMD then wredCmdEffect before after
  else if off = O.SWC_QPROF then qprofEffect before after
  else after

/-- What a read of an SWC register changes: a read of SWC_QPROF of a reserved queue is logged (R172). -/
def swcReadEffect (off : Nat) (s : State) : State :=
  if off = O.SWC_QPROF && reservedQueue (regField s swcPage O.SWC_QPROF_IDX 0 8) then blockError s swcPage 0x0100 0 else s

end Sys2Proof.Machine
end

