-- ==== Sys2Proof/Machine/Egress.lean ====
section
/-! DEFINITION. Egress scheduling: selection, weighted fair queueing, shapers, gate lists, the guard band and histograms
(chapter 07), and the program gate lists of the link clusters (R229). -/
namespace Sys2Proof.Machine

/-- EGSn changed by a function. -/
def updateEgress (s : State) (n : Nat) (f : Egress → Egress) : State :=
  { s with egress := s.egress.modify n {} f }

/-- A queue of EGSn changed by a function. -/
def updateQueue (s : State) (n q : Nat) (f : EgressQueue → EgressQueue) : State :=
  updateEgress s n fun e => { e with queues := e.queues.set q (f (e.queue q)) }

/-! ## Eligibility, tags and selection (R179 to R181, R190) -/

/-- The shapers of EGSn stand at the present refill boundary (R183). -/
def refillShapers (s : State) (n : Nat) : State := { s with egress := s.egress.set n (egressNow s n) }

/-- The guard test of a queue's head: a frame that it holds is counted once, and dropped where it can never pass (R190, R191). -/
def guardTest (n q : Nat) : Nat → State → State
  | 0, s => s
  | fuel + 1, s =>
    match (queueOf s (swcQueue n q)).frames with
    | [] => s
    | f :: r =>
      if !queueReady s n q || guardPasses s n q f.len then s
      else
        let s :=
          if f.heldOnce then s
          else
            let s := setFrames s (swcQueue n q) ({ f with heldOnce := true } :: r)
            pmcEvent (bump s (egsPage n) O.EGS_GUARD_HOLD_CNT) (egsPage n) 0x101 1
        let t := guardDrop s n q
        if (queueOf t (swcQueue n q)).frames.length < (queueOf s (swcQueue n q)).frames.length
        then guardTest n q fuel t else t

/-- Virtual time of a sub-port (R179). -/
def vtimeOf (s : State) (n k : Nat) : Nat := (egressOf s n).vtime.getD k 0

/-- A queue gets its tag as it becomes eligible and loses it as it becomes ineligible (R179, R180). -/
def tagQueue (s : State) (n k q : Nat) : State :=
  let e := (egressOf s n).queue q
  if eligible s n q then
    match e.tag, headFrame s n q with
    | none, some f =>
      updateQueue s n q fun x => { x with
        tag := some ((max (vtimeOf s n k) x.fLast + f.len * 65536 / max 1 x.weight) % 2 ^ 64) }
    | _, _ => s
  else if e.tag.isSome then updateQueue s n q fun x => { x with tag := none } else s

/-- The queues of a sub-port. -/
def queuesOfSub (s : State) (n k : Nat) : List Nat :=
  (List.range (queuesPerSub s n)).map fun i => k * queuesPerSub s n + i

/-- The order of R181 but the selection: gates, refill, guard test, tags. Pauses are times in the state. -/
def settleSub (s : State) (n k : Nat) : State :=
  let s := refillShapers (gatesTo s (egsPage n)) n
  let s := (queuesOfSub s n k).foldl (fun s q =>
    guardTest n q ((queueOf s (swcQueue n q)).frames.length) s) s
  (queuesOfSub s n k).foldl (fun s q => tagQueue s n k q) s

/-- Every sub-port of NETn is settled, where EGSn selects (R194). -/
def settlePort (s : State) (n : Nat) : State :=
  if !accepting s (egsPage n) then s else (List.range (subCount s n)).foldl (fun s k => settleSub s n k) s

/-- The eligible queue with the smallest tag; a tie goes to the lower number (R179). -/
def bestQueue (s : State) (n k : Nat) : Option (Nat × Nat) :=
  (queuesOfSub s n k).foldl (fun best q =>
    match ((egressOf s n).queue q).tag, best with
    | none, b => b
    | some f, none => some (q, f)
    | some f, some (q0, f0) => if f < f0 then some (q, f) else some (q0, f0)) none

/-- A shaper is charged for a frame that starts (R182). -/
def Shaper.charge (sh : Shaper) (len : Nat) : Shaper := { sh with level := sh.level - (wireBits len : Int) }

/-- The device time of a frame's first bit after its delimiter, plus TX_PS, in ns (R164). -/
def txStampNs (s : State) (n : Nat) : Nat :=
  devNs s + (64 * 1000000 / subRate s n + regField s (netPage n) O.NET_TS_ADJ 16 16) / 1000

/-- The transmit timestamp of a marked frame (R165). -/
def stampFrame (s : State) (n k : Nat) (m : TxMark) : State :=
  let t := txStampNs s n
  let twoStep (ty seq : Nat) : State :=
    if 64 ≤ s.time.txts.length then alert s timePage O.TIME_ALERT 1
    else { s with time := { s.time with
      txts := s.time.txts ++ [⟨4 * n + k, ty, seq, t / 1000000000 % 2 ^ 48, t % 1000000000⟩] } }
  match m with
  | .none => s
  | .twoStep ty seq => twoStep ty seq
  | .oneStep ty seq => if ty = 0 then emit s (.oneStep n k seq t) else twoStep ty seq

/-- A frame of a queue starts on a sub-port (R177 to R182). -/
def startFrame (s : State) (n k q tag : Nat) : State :=
  match headFrame s n q with
  | none => s
  | some f =>
    let s := removeFrame s (swcQueue n q) 0
    let s := updateQueue s n q fun x => { x with tag := none, fLast := tag, shaper := x.shaper.charge f.len }
    let s := updateEgress s n fun e => { e with
      vtime := e.vtime.set k tag
      subShapers := if e.subShapers.has k then e.subShapers.modify k {} (·.charge f.len) else e.subShapers }
    let s := updateSub s n k fun p => { p with
      tx := some { queue := q, endTick := s.time.now + bitTicks s n (wireBits f.len) } }
    let s := netCount (pmcEvent (emit s (.frame n k q f.len)) (egsPage n) 0x100 1) n k O.NET_TX_FRAMES 1
    stampFrame s n k f.mark

/-- Ticks that the pacer puts between the starts of a connection's packets: L bytes at R × 100 Mb/s (R147). -/
def paceTicks (rate len : Nat) : Nat := ceilDiv (len * 64) (max 1 rate)

/-- A connection hands its next packet to its egress queue where its pacer and its engine allow (R128, R147, R167). -/
def pumpConn (n k : Nat) (s : State) (c : Nat) : State :=
  let x := connOf s c
  match x.txq with
  | [] => s
  | len :: rest =>
    if x.port ≠ n || x.sub ≠ k || s.time.now < x.paceAt || !accepting s (xptPage x.engine) then s
    else
      let cls := match x.pcp with
        | some p => pcpClass s p
        | none => dscpClass s x.dscp
      let s := setConn s c { x with txq := rest, paceAt := s.time.now + paceTicks x.rate len }
      let s := pmcEvent s (xptPage x.engine) 0x101 1
      if !accepting s swcPage then s
      else admitFrame s (swcQueue n x.queue) { len := len, cls := cls }
        (some (if bit (regOf s (xptPage x.engine) O.XPT_CFG) 16 then 2 else 0))

/-- Every connection of a sub-port is served, in order of its number (log entry 45). -/
def pumpSub (s : State) (n k : Nat) : State := s.conns.keys.foldl (pumpConn n k) s

/-- A frame boundary on a sub-port (R156, R157, R179 to R181, R194). -/
def selectFrame (s : State) (n k : Nat) : State :=
  if !subUp s n k || sending s n k then s
  else
    let s := updateSub s n k fun p => { p with tx := none }
    if !(subOf s n k).pauseOut.isEmpty then sendPauses s n k
    else
      let s := pumpSub s n k
      if !accepting s (egsPage n) then s
      else
        let s := settleSub s n k
        match bestQueue s n k with
        | none => s
        | some (q, tag) => settleSub (startFrame s n k q tag) n k

/-- EGRESS_SELECT (R179). -/
def execEgressSelect (port sub at_ : Nat) (s : State) : Res :=
  onUnit "port" port 2 (selectFrame (clockTo s at_) port sub)

/-- EGSn becomes ENABLED: V, the last tags and the tags are 0, and the buckets are full (R194). -/
def egressEnabled (s : State) (n : Nat) : State :=
  let full (sh : Shaper) : Shaper := { sh with level := (sh.sBurst : Int) * 8, frac := 0 }
  updateEgress s n fun e => { e with
    queues := e.queues.mapVals fun _ q => { q with tag := none, fLast := 0, shaper := full q.shaper }
    subShapers := e.subShapers.mapVals fun _ sh => full sh
    vtime := .empty, refilled := max e.refilled (refillBoundary s) }

/-! ## Per-queue and shaper registers (R178, R180, R182, R183, R195) -/

/-- The stored RATE word goes to a shaper: applied at the next refill boundary (R183). -/
def Shaper.storeRate (sh : Shaper) (v : Word) : Shaper := { sh with sEn := bit v 31, sRate := field v 0 19 }

/-- The stored BURST word goes to a shaper. -/
def Shaper.storeBurst (sh : Shaper) (v : Word) : Shaper := { sh with sBurst := field v 0 24 }

/-- A sub-port shaper's register is written. -/
def subShaperEffect (n off : Nat) (v : Word) (s : State) : State :=
  let s := refillShapers s n
  let k := (off - 0x120) / 8
  updateEgress s n fun e => { e with
    subShapers := e.subShapers.modify k {} fun sh =>
      if off % 8 = 0 then sh.storeRate v else sh.storeBurst v }

/-- A per-queue register of EGS is written: head frames already tagged keep their tags (R180). -/
def queueRegEffect (n off : Nat) (before after : State) : State :=
  let v := regOf after (egsPage n) off
  let q := regField after (egsPage n) O.EGS_QIDX 0 6
  let s := settlePort { after with regs := before.regs } n
  let s := refillShapers s n
  updateQueue s n q fun x =>
    if off = O.EGS_QCFG then { x with prio := field v 16 3, weight := field v 0 16 }
    else if off = O.EGS_QSHP_RATE then { x with shaper := x.shaper.storeRate v }
    else { x with shaper := x.shaper.storeBurst v }

/-- SHAPER_REFILL (R183): the next refill boundary; one reached already and not yet applied applies now. -/
def shaperRefill (s : State) (n : Nat) : State :=
  let m := (egressOf s n).refilled
  let s :=
    if m < refillBoundary s then s
    else elapse s (ceilDiv ((refillBoundary s + 1) * 4096) 5 - tickCount s)
  if !isEnabled s (egsPage n) then s else refillShapers s n

/-- SHAPER_REFILL (R183). -/
def execShaperRefill (port : Nat) (s : State) : Res := onUnit "port" port 2 (shaperRefill s port)

/-! ## Gate lists (R184 to R191, R229) -/

/-- Offset of GCL_CTRL on an EGS page and of MLX_PGL_CTRL on an MLX page. -/
def gateBase (page : Nat) : Nat := if blockOf page = some .egs then 0x140 else 0x180

/-- A command on a page with gate lists; there is none elsewhere. -/
def onGates (page : Nat) (t : State) : Res :=
  if page ∈ gatePages then .next t else .fault (.noSuchUnit "gate list engine" page)

/-- The time of a swap requested now (R186): the first boundary of the active cycle at or after the pending base, or the
next one where the base is past; with no active list the first cycle start of the pending list. -/
def swapTime (g : GateEngine) (t : Nat) : Nat :=
  let base := g.pending.baseS * 1000000000 + g.pending.baseNs
  let after (l : GateList) (series x : Nat) : Nat :=
    if l.cycle = 0 then x else x + ((l.cycle - l.offset series x) % l.cycle)
  if g.isActive then
    if t ≤ base then after g.active g.series base else after g.active g.series (t + 1)
  else after g.pending base t

/-- What a write of GCL_CTRL does (R186, R187): a request while one waits is ignored; with the time base not set it is
refused. -/
def swapEffect (page : Nat) (before after : State) : State :=
  let v := regOf after page (gateBase page)
  let s := gatesTo { after with regs := before.regs } page
  let g := gateOf s page
  if !bit v 0 || g.swapPending then s
  else if !s.time.isSet then
    let s := blockError s page 0x0102 0
    if blockOf page = some .egs then alert s page O.EGS_ALERT 1 else s
  else
    setGate s page { g with swapPending := true, swapAt := swapTime g (devNs s) }

/-- GCL_SWAP (R186, R187). -/
def execGclSwap (req page : Nat) (s : State) : Res :=
  onGates page (writeBlock (swapEffect page) s req page (gateBase page) 1#32)

/-- SWAP_DONE (R186, R188, R191): the swap's moment comes. -/
def swapDone (s : State) (page : Nat) : State :=
  let g := gateOf s page
  if g.swapPending then gatesTo (deviceTo s g.swapAt) page else s

/-- SWAP_DONE (R186). -/
def execSwapDone (page : Nat) (s : State) : Res := onGates page (swapDone s page)

/-- GATE_ENTRY_BOUNDARY (R185): the device time reaches the next boundary: one reached already and not yet applied applies
now. -/
def entryBoundary (s : State) (page : Nat) : State :=
  let g := gateOf s page
  let s := if g.entry = g.entryAt (devNs s) then deviceTo s (g.nextBoundary (devNs s)) else s
  let s := gatesTo s page
  if blockOf page = some .egs then settlePort s (page - 0x038) else s

/-- GATE_ENTRY_BOUNDARY (R185). -/
def execGateEntryBoundary (page : Nat) (s : State) : Res := onGates page (entryBoundary s page)

/-- The gates that an engine's mask holds: 64 queues, or 8 slots (R184, R229). -/
def gateCount (page : Nat) : Nat := if blockOf page = some .egs then 64 else 8

/-- What a write of GCL_CMD does (R187): READ copies an entry of either list; WRITE stores an entry of the pending list. -/
def gateCmdEffect (page : Nat) (_ after : State) : State :=
  let b := gateBase page
  let v := regOf after page (b + 0x18)
  let s := gatesTo (setReg after page (b + 0x18) (putField v 31 1 0)) page
  let op := field v 0 2
  let i := regField s page (b + 0x08) 0 8
  let active := bit (regOf s page (b + 0x08)) 8
  let g := gateOf s page
  if !bit v 31 then s
  else if op = 1 then
    let e := (if active then g.active else g.pending).entries.getD i {}
    let s := setReg s page (b + 0x0C) (Word.ofNum e.mask)
    let s := if gateCount page = 64 then setReg s page (b + 0x10) (Word.ofNum (e.mask / 2 ^ 32)) else s
    setReg s page (b + 0x14) (Word.ofNum e.dur)
  else if op = 2 then
    if active then blockError s page 0x0100 i
    else if g.swapPending then blockError s page 0x0101 i
    else
      let mask := ((regOf s page (b + 0x0C)).toNat + 2 ^ 32 * (regOf s page (b + 0x10)).toNat) % 2 ^ gateCount page
      let e : GateEntry := ⟨mask, regField s page (b + 0x14) 0 30⟩
      setGate s page { g with pending := { g.pending with entries := g.pending.entries.set i e } }
  else s

/-- A write of GCL_CMD with GO = 1. -/
def gateCommand (s : State) (req page op : Nat) : State :=
  writeBlock (gateCmdEffect page) s req page (gateBase page + 0x18) (packWord [(31, 1), (0, op)])

/-- GCL_READ (R187). -/
def execGclRead (req page : Nat) (s : State) : Res := onGates page (gateCommand s req page 1)

/-- GCL_WRITE (R187). -/
def execGclWrite (req page : Nat) (s : State) : Res := onGates page (gateCommand s req page 2)

/-- What a write of a pending-list register does (R187): dropped and logged while a swap waits. `o` is its offset from
GCL_CTRL. -/
def pendingRegEffect (page o : Nat) (before after : State) : State :=
  let v := regOf after page (gateBase page + o)
  let s := gatesTo { after with regs := before.regs } page
  let g := gateOf s page
  let p := g.pending
  if g.swapPending then blockError s page 0x0101 (regField s page (gateBase page + 0x08) 0 8)
  else
    setGate s page { g with pending :=
      if o = 0x20 then { p with baseS := p.baseS / 2 ^ 32 * 2 ^ 32 + v.toNat }
      else if o = 0x24 then { p with baseS := p.baseS % 2 ^ 32 + 2 ^ 32 * field v 0 16 }
      else if o = 0x28 then { p with baseNs := v.toNat }
      else if o = 0x2C then { p with cycle := v.toNat }
      else { p with len := v.toNat } }

/-- What a write of a register of a gate list block does beyond the store. -/
def gateRegEffect (page off : Nat) (before after : State) : State :=
  let o := off - gateBase page
  if o = 0x00 then swapEffect page before after
  else if o = 0x18 then gateCmdEffect page before after
  else if 0x20 ≤ o && o ≤ 0x30 then pendingRegEffect page o before after
  else after

/-! ## Histograms (R192, R193) -/

/-- The bin of a value in units of 2^shift (R192). -/
def histBin (v shift : Nat) : Nat :=
  let u := v / 2 ^ shift
  if u = 0 then 0 else min 15 (Nat.log2 u + 1)

/-- One bin takes a sample; bins stop at 0xFFFF_FFFF. -/
def addSample (h : Tab Nat) (i : Nat) : Tab Nat := h.modify i 0 fun c => min 0xFFFFFFFF (c + 1)

/-- Every queue of the port is sampled (R192). -/
def takeSample (s : State) (n : Nat) : State :=
  let cfg := regOf s (egsPage n) O.EGS_HIST_CFG
  let t := updateEgress s n fun e => { e with sampledAt := some (tickCount s) }
  (List.range 64).foldl (fun t q =>
    updateEgress t n fun e => { e with
      depth := addSample e.depth (q * 16 + histBin (queueCells s (swcQueue n q)) (field cfg 16 4))
      sojourn := addSample e.sojourn (q * 16 + histBin (sojournOf s n q) (field cfg 24 5)) }) t

/-- HIST_SAMPLE (R192): the next multiple of INTERVAL_US; one that is now and not yet sampled is taken now. -/
def histSample (s : State) (n : Nat) : State :=
  let cfg := regOf s (egsPage n) O.EGS_HIST_CFG
  let step := max 1 (field cfg 0 10) * 800
  if !bit cfg 31 || !isEnabled s (egsPage n) then s
  else
    let t := tickCount s
    let s := if t % step = 0 && (egressOf s n).sampledAt ≠ some t then s else elapse s (step - t % step)
    takeSample s n

/-- HIST_SAMPLE (R192). -/
def execHistSample (port : Nat) (s : State) : Res := onUnit "port" port 2 (histSample s port)

/-- The 16 bins of the histogram that EGS_HIST_SEL names (R193). -/
def selectedBins (s : State) (n : Nat) : Tab Nat :=
  let e := egressOf s n
  let sel := regOf s (egsPage n) O.EGS_HIST_SEL
  let h := if bit sel 8 then e.sojourn else e.depth
  (List.range 16).foldl (fun t b =>
    match h.get (field sel 0 6 * 16 + b) with
    | none => t
    | some c => t.set b c) .empty

/-- The histogram that EGS_HIST_SEL names is zeroed. -/
def zeroSelected (s : State) (n : Nat) : State :=
  let sel := regOf s (egsPage n) O.EGS_HIST_SEL
  let keep (h : Tab Nat) : Tab Nat := h.filter fun i _ => i / 16 ≠ field sel 0 6
  updateEgress s n fun e => if bit sel 8 then { e with sojourn := keep e.sojourn } else { e with depth := keep e.depth }

/-- What a write of EGS_HIST_CMD does (R193). -/
def histCmdEffect (n : Nat) (_ after : State) : State :=
  let v := regOf after (egsPage n) O.EGS_HIST_CMD
  let s := setReg after (egsPage n) O.EGS_HIST_CMD (putField v 31 1 0)
  let op := field v 0 2
  if !bit v 31 || op = 0 then s
  else if op = 3 then updateEgress s n fun e => { e with depth := .empty, sojourn := .empty }
  else
    let t := updateEgress s n fun e => { e with snap := selectedBins s n }
    if op = 2 then zeroSelected t n else t

/-- A write of EGS_HIST_CMD with GO = 1. -/
def histCommand (s : State) (req n op : Nat) : State :=
  writeBlock (histCmdEffect n) s req (egsPage n) O.EGS_HIST_CMD (packWord [(31, 1), (0, op)])

/-- HIST_SNAP (R193). -/
def execHistSnap (req port : Nat) (s : State) : Res := onUnit "port" port 2 (histCommand s req port 1)

/-- HIST_SNAP_CLEAR (R193). -/
def execHistSnapClear (req port : Nat) (s : State) : Res := onUnit "port" port 2 (histCommand s req port 2)

/-- HIST_CLEAR_ALL (R193). -/
def execHistClearAll (req port : Nat) (s : State) : Res := onUnit "port" port 2 (histCommand s req port 3)

/-- What a write of an EGS register does beyond the store. -/
def egsEffect (n off : Nat) (before after : State) : State :=
  if off = O.EGS_QCFG || off = O.EGS_QSHP_RATE || off = O.EGS_QSHP_BURST then queueRegEffect n off before after
  else if 0x120 ≤ off && off < 0x140 then subShaperEffect n off (regOf after (egsPage n) off) after
  else if off = O.EGS_HIST_CMD then histCmdEffect n before after
  else if 0x140 ≤ off && off ≤ 0x190 then gateRegEffect (egsPage n) off before after
  else if off = O.EGS_CFG then settlePort after n
  else after

/-- What a write of an MLX register does beyond the store. -/
def mlxEffect (k off : Nat) (before after : State) : State :=
  if 0x180 ≤ off && off ≤ 0x1D0 then gateRegEffect (0x060 + k) off before after else after

end Sys2Proof.Machine
end

