-- ==== Sys2Proof/Machine/Channels.lean ====
section
/-! DEFINITION. The channels of the slot power die (R303 to R316, R467) as they act by themselves. What a change of
power-good or of presence means to a link and its group stands with the rows that use these operations. -/
namespace Sys2Proof.Machine

/-- The pages of SPC and of SPW slot n. -/
abbrev spcPage : Nat := 0x0C0
abbrev spwPage (n : Nat) : Nat := 0x0D0 + n

/-- A channel. -/
def chanOf (s : State) (n : Nat) : Channel := s.channels.getD n {}

/-- The state with a channel replaced. -/
def setChan (s : State) (n : Nat) (c : Channel) : State := { s with channels := s.channels.set n c }

/-- Does the channel act: its page ENABLED, its die out of lockout and drive owner (R308, R352, R455)? -/
def chanActs (s : State) (n : Nat) : Bool := isEnabled s (spwPage n) && !s.die.uvlo && s.die.owner

/-- Is the hot-swap gate on? -/
def Channel.gateOn (c : Channel) : Bool := c.st = .ramp || c.st = .on

/-- Is a feed in its window? -/
def Channel.fed (c : Channel) : Bool := c.feedA || c.feedB

/-- Voltage of the active feed, in mV: the conducting feed with the higher voltage (R305). -/
def Channel.activeMv (c : Channel) : Nat := max (if c.fetA then c.mvA else 0) (if c.fetB then c.mvB else 0)

/-- Bit of a fault cause in SPW_FAULT. -/
def FaultCause.index : FaultCause → Nat
  | .breaker => 0 | .fast => 1 | .rampLimit => 2 | .rampTmo => 3 | .ot => 4 | .uv => 5 | .ov => 6

/-- Thresholds of a channel: BRK_MV and FAST_MV in microvolts, FT_MS in ticks, WARN in mV. -/
def brkUv (s : State) (n : Nat) : Nat := 1000 * regField s (spwPage n) O.SPW_BRK 0 6
def fastUv (s : State) (n : Nat) : Nat := 1000 * regField s (spwPage n) O.SPW_BRK 8 8
def ftTicks (s : State) (n : Nat) : Nat := ticksMs * regField s (spwPage n) O.SPW_BRK 16 5
def warnMv (s : State) (n : Nat) : Nat := 10 * regField s (spwPage n) O.SPW_WARN 0 12
/-- OT_C in 0.1 degrees C. -/
def otLimit (s : State) (n : Nat) : Int := 10 * (regField s (spwPage n) O.SPW_TEMP 16 8 : Int)

/-- Power-good asserts or drops, with its alert. -/
def setPg (s : State) (n : Nat) (v : Bool) : State :=
  let c := chanOf s n
  if c.pg = v then s
  else
    alert (setChan s n { c with pg := v, pgAt := if v then s.time.now else c.pgAt }) (spwPage n) O.SPW_ALERT (if v then 0 else 1)

/-- SLOTnn_PWARN_N asserts (R314). -/
def raisePwarn (s : State) (n : Nat) : State :=
  let c := chanOf s n
  let s := setChan s n { c with
    pwarn := true, warnOff := s.time.now, pwarnAt := if c.pwarn then c.pwarnAt else s.time.now }
  if c.pwarn then s
  else alert (bump (emit s (.pwarn n true)) (spwPage n) O.SPW_PWARN_CNT) (spwPage n) O.SPW_ALERT 4

/-- Is the gate off by an order, or by a state in which no order has turned it on (R314)? -/
def Channel.offByOrder (c : Channel) : Bool := !c.gateOn && !c.warnGate

/-- A warning condition of the active feed holds (R314): PWARN stays deasserted while the gate is off by order. -/
def feedWarns (s : State) (n : Nat) : State := if (chanOf s n).offByOrder then s else raisePwarn s n

/-- The active feed is compared with WARN (R314). -/
def checkWarn (s : State) (n : Nat) : State :=
  if (chanOf s n).activeMv < warnMv s n then feedWarns s n else s

/-- The gate turns off and power-good drops. -/
def gateOff (s : State) (n : Nat) : State :=
  let c := chanOf s n
  if c.gateOn then
    setPg (emit (setChan s n { c with ftRun := none, ftBelow := some s.time.now, feedLost := none }) (.gate n false)) n false
  else s

/-- A channel enters FAULT (R311). -/
def enterFault (s : State) (n : Nat) (cause : FaultCause) : State :=
  let wasOn := decide ((chanOf s n).st = .on)
  let s := gateOff s n
  let c := chanOf s n
  let retry := regField s (spwPage n) O.SPW_RETRY 0 7 * 100 * ticksMs
  let s := setChan s n { c with
    st := .fault, retries := min 15 (c.retries + 1), retryAt := s.time.now + retry, lostSince := false
    otHold := false, otCause := decide (cause = .ot), warnGate := c.warnGate || wasOn }
  let s := setReg s (spwPage n) O.SPW_FAULT (regOf s (spwPage n) O.SPW_FAULT ||| oneBit cause.index)
  let s := bump s (spwPage n) O.SPW_FAULT_CNT
  let s := alert (blockError s (spwPage n) 0x0100 (2 ^ cause.index)) (spwPage n) O.SPW_ALERT 2
  if wasOn then raisePwarn s n else s

/-- The fault timer's count after its 1 ms below BRK_MV (R310). -/
def Channel.settled (c : Channel) (now : Tick) : Channel :=
  match c.ftBelow with
  | some b => if b + ticksMs ≤ now then { c with ftCount := 0, ftBelow := none } else c
  | none => c

/-- A ramp begins (R309). -/
def startRamp (s : State) (n : Nat) : State :=
  let c := (chanOf s n).settled s.time.now
  emit (setChan s n { c with
    st := .ramp, rampAt := s.time.now, rampTimer := decide (c.ftCount ≠ 0), warnGate := false
    warnOff := s.time.now }) (.gate n true)

/-- A channel in READY with a standing ON order ramps (R308). -/
def enterReady (s : State) (n : Nat) : State :=
  let c := chanOf s n
  let s := setChan s n { c with st := .ready }
  if c.onReq then startRamp s n else s

/-- A channel enters INSERT: the delay starts (R307). -/
def enterInsert (s : State) (n : Nat) : State := setChan s n { chanOf s n with st := .insert, insAt := s.time.now }

/-- States that presence and the feed windows bring about (Table 11-3): OFF to INSERT, INSERT and READY to OFF. -/
def checkPresence (s : State) (n : Nat) : State :=
  let c := chanOf s n
  if !chanActs s n then s
  else if c.st = .off && c.present && c.fed then enterInsert s n
  else if (c.st = .insert || c.st = .ready) && !(c.present && c.fed) then setChan s n { c with st := .off }
  else s

/-- Presence is asserted (R307). -/
def presenceAsserted (s : State) (n : Nat) : State :=
  let c := chanOf s n
  if c.present then s
  else checkPresence (alert (setChan s n { c with present := true }) (spwPage n) O.SPW_ALERT 7) n

/-- Presence is lost (R307, R312): a surprise removal while the gate is on. -/
def presenceLost (s : State) (n : Nat) : State :=
  let c := chanOf s n
  if !c.present then s
  else
    let s := alert (setChan s n { c with
      present := false, onReq := false, retries := 0, lostSince := true, ownWake := false, identified := false })
      (spwPage n) O.SPW_ALERT 7
    match c.st with
    | .off | .fault => s
    | .insert | .ready | .latched => setChan s n { chanOf s n with st := .off }
    | .ramp => let s := gateOff s n; setChan s n { chanOf s n with st := .off }
    | .on =>
      let s := gateOff s n
      raisePwarn (setChan s n { chanOf s n with st := .off, warnGate := true }) n

/-- Is a feed at a voltage in its window, given that it was, and above OV (Table 11-2, R304)? -/
def feedOv (ov : Bool) (mv : Nat) : Bool := if ov then decide (13500 < mv) else decide (13800 ≤ mv)
def feedIn (was ov : Bool) (mv : Nat) : Bool := (if was || ov then decide (9600 ≤ mv) else decide (10200 ≤ mv)) && !feedOv ov mv

/-- A feed's voltage, window, OV and FET replaced. -/
def Channel.setFeed (c : Channel) (b : Bool) (mv : Nat) (ok ov fet : Bool) : Channel :=
  if b then { c with mvB := mv, feedB := ok, ovB := ov, fetB := fet }
  else { c with mvA := mv, feedA := ok, ovA := ov, fetA := fet }

/-- Voltage of the common node that a feed meets: that of the other feed where its FET conducts (R305). -/
def Channel.nodeFor (c : Channel) (b : Bool) : Nat := if b then (if c.fetA then c.mvA else 0) else (if c.fetB then c.mvB else 0)

/-- A feed's FET turns off (R305). -/
def fetOff (s : State) (n : Nat) (b : Bool) : State := bump (emit s (.feedFet n b false)) (spwPage n) O.SPW_REV_CNT

/-- The 20 us without a feed in its window start or end (R306). -/
def countFeeds (s : State) (n : Nat) : State :=
  let c := chanOf s n
  if c.fed || !c.gateOn then setChan s n { c with feedLost := none }
  else if c.feedLost.isSome then s
  else setChan s n { c with feedLost := some s.time.now }

/-- A feed has entered or left its window for 1 us (R304), and its FET follows (R305). -/
def feedChange (s : State) (n : Nat) (b : Bool) (mv : Nat) : State :=
  let c := chanOf s n
  let was := if b then c.feedB else c.feedA
  let wasOv := if b then c.ovB else c.ovA
  let fet := if b then c.fetB else c.fetA
  let ok := feedIn was wasOv mv
  let ov := feedOv wasOv mv
  let live := chanActs s n
  let fet' := live && ok && (fet || c.nodeFor b + 50 ≤ mv)
  let s := setChan s n (c.setFeed b mv ok ov fet')
  if !live then s
  else
    let s := if fet && !fet' then fetOff s n b else if !fet && fet' then emit s (.feedFet n b true) else s
    let s := if was && !ok then alert s (spwPage n) O.SPW_ALERT 6 else s
    checkPresence (countFeeds (checkWarn s n) n) n

/-- A conducting feed falls 10 mV below the common node (R305). -/
def feedReverse (s : State) (n : Nat) (b : Bool) (mv : Nat) : State :=
  let c := chanOf s n
  let fet := if b then c.fetB else c.fetA
  if !fet then s
  else
    let s := setChan s n (c.setFeed b mv (if b then c.feedB else c.feedA) (if b then c.ovB else c.ovA) false)
    checkWarn (alert (fetOff s n b) (spwPage n) O.SPW_ALERT 5) n

/-- A feed in its window lies 50 mV above the common node (R305). -/
def feedTurnOn (s : State) (n : Nat) (b : Bool) (mv : Nat) : State :=
  let c := chanOf s n
  let ok := if b then c.feedB else c.feedA
  let fet := if b then c.fetB else c.fetA
  if !ok || fet || !chanActs s n then s
  else emit (setChan s n (c.setFeed b mv ok (if b then c.ovB else c.ovA) true)) (.feedFet n b true)

/-- The active feed falls below WARN, or faster than SLOPE, in 0.1 V/ms (R314). -/
def feedWarning (s : State) (n mv fall : Nat) : State :=
  let c := chanOf s n
  let slope := regField s (spwPage n) O.SPW_WARN 16 8
  let useB := c.fetB && (!c.fetA || c.mvA < c.mvB)
  let s := setChan s n (if useB then { c with mvB := mv } else { c with mvA := mv })
  if chanActs s n && (mv < warnMv s n || (slope ≠ 0 && slope < fall)) then feedWarns s n else s

/-- PWARN deasserts 1 ms after the last warning condition (R314). -/
def pwarnEnds (s : State) (n : Nat) : State :=
  let c := chanOf s n
  if !c.pwarn || c.warnGate || (c.gateOn && c.activeMv < warnMv s n + 200) then s
  else
    let s := clockTo s (c.warnOff + ticksMs)
    emit (setChan s n { chanOf s n with pwarn := false }) (.pwarn n false)

/-- INS_MS has passed in INSERT (R307). -/
def insertEnds (s : State) (n : Nat) : State :=
  let c := chanOf s n
  if c.st ≠ .insert || !chanActs s n then s
  else enterReady (clockTo s (c.insAt + regField s (spwPage n) O.SPW_INS 0 10 * ticksMs)) n

/-- No feed has been in its window for 20 us (R306). -/
def feedsGone (s : State) (n : Nat) : State :=
  let c := chanOf s n
  match c.feedLost with
  | some t => if c.gateOn && !c.fed then enterFault (clockTo s (t + 20 * ticksUs)) n (if c.ovA || c.ovB then .ov else .uv) else s
  | none => s

/-- The output comes within 0.3 V of the active feed (R309). -/
def rampEnds (s : State) (n outMv senseUv : Nat) : State :=
  let c := chanOf s n
  if c.st ≠ .ramp || outMv + 300 < c.activeMv then s
  else
    let s := setChan s n { c with outMv := outMv }
    if c.rampTimer || brkUv s n ≤ senseUv then enterFault s n .rampLimit
    else setPg (setChan s n { chanOf s n with st := .on }) n true

/-- A ramp has not ended after RAMP_MAX_MS (R309). -/
def rampLate (s : State) (n : Nat) : State :=
  let c := chanOf s n
  if c.st ≠ .ramp then s
  else enterFault (clockTo s (c.rampAt + regField s (spwPage n) O.SPW_RAMP 16 8 * ticksMs)) n .rampTmo

/-- The sense voltage reaches FAST_MV (R309). -/
def fastTrip (s : State) (n senseUv : Nat) : State :=
  if (chanOf s n).gateOn && fastUv s n ≤ senseUv then enterFault s n .fast else s

/-- The sense voltage reaches BRK_MV: the fault timer runs (R310). -/
def breakerCrossed (s : State) (n senseUv : Nat) : State :=
  let c := (chanOf s n).settled s.time.now
  if !c.gateOn || senseUv < brkUv s n || c.ftRun.isSome then s
  else
    let s := setChan s n { c with ftRun := some s.time.now, ftBelow := none, rampTimer := c.rampTimer || c.st = .ramp }
    if c.st = .on && c.ftCount = 0 then alert (bump s (spwPage n) O.SPW_EARLY_CNT) (spwPage n) O.SPW_ALERT 3 else s

/-- The sense voltage falls below BRK_MV: the timer stops and keeps its count (R310). -/
def breakerReleased (s : State) (n senseUv : Nat) : State :=
  let c := chanOf s n
  match c.ftRun with
  | some r =>
    if senseUv < brkUv s n then
      setChan s n { c with ftRun := none, ftBelow := some s.time.now, ftCount := c.ftCount + (s.time.now - r) }
    else s
  | none => s

/-- The fault timer's count reaches FT_MS (R310). -/
def faultTimerEnds (s : State) (n : Nat) : State :=
  let c := chanOf s n
  match c.ftRun with
  | some r => if c.gateOn then enterFault (clockTo s (r + (ftTicks s n - c.ftCount))) n .breaker else s
  | none => s

/-- 1 ms below BRK_MV: the count returns to zero (R310). -/
def faultTimerClears (s : State) (n : Nat) : State :=
  match (chanOf s n).ftBelow with
  | some b =>
    let s := clockTo s (b + ticksMs)
    setChan s n ((chanOf s n).settled s.time.now)
  | none => s

/-- Lines 4 and 5 of R311. -/
def retryOrReady (s : State) (n : Nat) : State :=
  let c := chanOf s n
  if c.onReq && c.fed then bump (startRamp s n) (spwPage n) O.SPW_RETRY_CNT
  else setChan s n { c with st := if c.fed then .ready else .off }

/-- What a channel in FAULT does when its retry timer ends (R311, R312). -/
def leaveFault (s : State) (n : Nat) : State :=
  let c := chanOf s n
  let r := regOf s (spwPage n) O.SPW_RETRY
  if !bit r 8 || (field r 12 4 ≠ 0 && field r 12 4 ≤ c.retries) then setChan s n { c with st := .latched, onReq := false }
  else if c.lostSince || !c.present then
    if c.present && c.fed then enterInsert s n else setChan s n { c with st := .off }
  else if c.otCause && otLimit s n - 100 ≤ c.fetTemp then setChan s n { c with otHold := true }
  else retryOrReady s n

/-- The retry timer ends (R311). -/
def retryEnds (s : State) (n : Nat) : State :=
  let c := chanOf s n
  if c.st ≠ .fault || c.otHold || !chanActs s n then s else leaveFault (clockTo s c.retryAt) n

/-- The FET has cooled (R311, line 3). -/
def otCools (s : State) (n : Nat) (temp : Int) : State :=
  let c := chanOf s n
  let s := setChan s n { c with fetTemp := temp }
  if c.st = .fault && c.otHold && temp < otLimit s n - 100 then
    retryOrReady (setChan s n { chanOf s n with otHold := false }) n
  else s

/-- Power-good has held for 10 s (R311). -/
def retriesClear (s : State) (n : Nat) : State :=
  let c := chanOf s n
  if !c.pg then s
  else
    let s := clockTo s (c.pgAt + 10 * ticksS)
    setChan s n { chanOf s n with retries := 0 }

/-- The FET temperature reaches OT_C (R313). -/
def overTemp (s : State) (n : Nat) (temp : Int) : State :=
  let c := chanOf s n
  let s := setChan s n { c with fetTemp := temp }
  if c.gateOn && otLimit s n ≤ temp then enterFault s n .ot else s

/-! ## Orders (R308, Table 11-4) -/

/-- The orders of SPW_CMD.OP. -/
inductive SpwOrder | on | off | clear
  deriving DecidableEq, Repr

/-- Code of an order in SPW_CMD.OP. -/
def SpwOrder.code : SpwOrder → Nat
  | .on => 1 | .off => 2 | .clear => 3

/-- RESULT of an order is stored. -/
def setResult (s : State) (n r : Nat) : State := setChan s n { chanOf s n with result := r }

/-- An order acts by Table 11-4. -/
def actOrder (s : State) (n : Nat) (o : SpwOrder) : State :=
  let c := chanOf s n
  let s := setChan s n { c with result := 0 }
  let k := chanOf s n
  match o, c.st with
  | .on, .off => setResult s n 2
  | .on, .insert | .on, .fault => setChan s n { k with onReq := true }
  | .on, .ready => startRamp (setChan s n { k with onReq := true }) n
  | .on, .ramp | .on, .on => setChan s n { k with onReq := true }
  | .on, .latched => setResult s n 3
  | .off, .ramp | .off, .on =>
    let s := gateOff s n
    setChan s n { chanOf s n with st := .ready, onReq := false, warnGate := false }
  | .off, .latched => s
  | .off, _ => setChan s n { k with onReq := false, warnGate := c.warnGate && c.st = .fault }
  | .clear, .fault => leaveFault (setChan s n { k with retryAt := s.time.now, otHold := false }) n
  | .clear, .latched => setChan s n { k with st := .ready, retries := 0 }
  | .clear, _ => s

/-! ## Measurement (R313, R467) -/

/-- One 10 us step of the thermal model (R313): rise in 0.001 degrees C. -/
def thermalStep (target tau rise : Int) : Int := rise + (target - rise) / (100 * tau)

/-- So many steps of the model. -/
def thermalSteps (target tau : Int) : Nat → Int → Int
  | 0, r => r
  | n + 1, r => thermalSteps target tau n (thermalStep target tau r)

/-- A measurement sample replaces the last one (R313, R467). -/
def sampleTaken (s : State) (n : Nat) (m : Measurement) : State :=
  if !isEnabled s (spwPage n) || s.die.uvlo then s
  else
    let c := chanOf s n
    let model := regOf s (spwPage n) O.SPW_MODEL
    let drop : Int := (c.activeMv : Int) - m.out
    let heat : Int := if c.gateOn then drop * m.cur * (field model 0 16) / 100000 else 0
    let rise := thermalSteps heat (field model 16 16) 10 c.rise
    let diode := bit (regOf s (spwPage n) O.SPW_TEMP) 31
    let temp := if diode then m.diode else s.die.temp + rise / 100
    let c := { c with
      mvA := m.feedA, mvB := m.feedB, outMv := m.out, cur := m.cur, power := m.power, rise := rise, fetTemp := temp
      powers := (m.power :: c.powers).take 10 }
    let s := setChan s n c
    let t := slotPowerTotal s
    if (s.die.totals.head?.map (·.2)).getD 0 = t then s
    else { s with die := { s.die with totals := (s.time.now, t) :: s.die.totals } }

end Sys2Proof.Machine
end

