-- ==== Sys2Proof/Machine/Groups.lean ====
section
/-! DEFINITION. The geometry of stripe groups (R230 to R233), the states of members and groups (R254 to R256), blocks and
their allocation (R196, R209, R218, R219, R223, R233, R248), and the loss log (R272, R274, R276). -/
namespace Sys2Proof.Machine

/-- The pages of MLX cluster k and of MLK slot n. -/
abbrev mlxPage (k : Nat) : Nat := 0x060 + k
abbrev mlkPage (n : Nat) : Nat := 0x080 + n

/-! ## Geometry (R11, R230, R232) -/

/-- Data strips per stripe: D (R230). -/
def dataStrips (w : Nat) (dual : Bool) : Nat := w - if dual then 2 else 1

/-- Parity strips per stripe. -/
def parityStrips (dual : Bool) : Nat := if dual then 2 else 1

/-- Sectors of a stripe's data span: 64 per data strip. -/
def spanSectors (w : Nat) (dual : Bool) : Nat := dataStrips w dual * 64

/-- Member that holds P of stripe s (R232). -/
def pMember (w s : Nat) : Nat := w - 1 - s % w

/-- Member that holds Q of stripe s under dual parity (R232). -/
def qMember (w s : Nat) : Nat := (w - s % w) % w

/-- Member that holds data strip d of stripe s (R232). -/
def dataMember (w : Nat) (dual : Bool) (s d : Nat) : Nat := (w - s % w + num dual + d) % w

/-- What a strip holds. -/
inductive StripRole | p | q | data (d : Nat)
  deriving DecidableEq, Repr

/-- What member m holds of stripe s (R232). -/
def roleOf (w : Nat) (dual : Bool) (s m : Nat) : StripRole :=
  if m = pMember w s then .p
  else if dual && m = qMember w s then .q
  else .data ((m + s % w + w - num dual) % w)

/-- KIND of a strip's codewords (Table 8-2). -/
def StripRole.kind : StripRole → Nat
  | .data _ => 1 | .p => 2 | .q => 3

/-- Key of group stripe s of group g. -/
def stripeKey (g s : Nat) : Nat := g * 2 ^ 32 + s

/-- Group and number of a stripe key. -/
def keyGroup (k : Nat) : Nat := k / 2 ^ 32
def keyStripe (k : Nat) : Nat := k % 2 ^ 32

/-- Does a width meet Table 9-1? -/
def widthOk (w : Nat) (dual : Bool) : Bool := if dual then 5 ≤ w && w ≤ 24 else 4 ≤ w && w ≤ 16

/-- Capacity of a zone by R55, in sectors. -/
def capacityFor (shift d : Nat) : Nat := 2 ^ shift / (d * 262144) * (d * 64)

/-- Key of a sector in `State.logMap`. -/
def logKey (ns zone sector : Nat) : Nat := zoneKey ns zone * 2 ^ 24 + sector

/-! ## Members (R254 to R256) -/

/-- A member of a group. -/
def Group.member (x : Group) (m : Nat) : Option Member := x.members.get m

/-- The group with a member replaced. -/
def Group.setMember (x : Group) (m : Nat) (y : Member) : Group := { x with members := x.members.set m y }

/-- Not ACTIVE in the sense of R255. A SPARED index has no module and counts likewise (DEDUCED, log entry 23). -/
def MemberState.inactive (st : MemberState) : Bool := st = .out || st = .failed || st = .spared

/-- In resync in the sense of R255. -/
def MemberState.resyncing (st : MemberState) : Bool := st = .rebuilding || st = .resync || st = .copyback

/-- May the member take a log copy or a journal role (R239, R247)? -/
def Member.qualifies (y : Member) : Bool := !y.st.inactive && !y.st.resyncing

/-- Does the member count as failed for R60 (R256)? -/
def MemberState.countsFailed (st : MemberState) : Bool :=
  st = .out || st = .failed || st = .rebuilding || st = .resync

/-- How many members of a group satisfy a test. -/
def Group.count (x : Group) (p : MemberState → Bool) : Nat := (x.members.values.filter fun y => p y.st).length

/-- NORMAL: every member ONLINE (R255). -/
def Group.normal (x : Group) : Bool := !x.lost && x.members.values.all fun y => decide (y.st = .online)

/-- The group has lost all parity redundancy: the first case of R60 (R256). -/
def Group.noRedundancy (x : Group) : Bool := decide (parityStrips x.dual ≤ x.count (·.countsFailed))

/-- The count at which a group is LOST (R255). -/
def Group.beyond (x : Group) : Bool :=
  decide (parityStrips x.dual + 2 ≤ x.count fun st => st = .failed || st = .rebuilding)

/-- The slots of a group's members in the order of their indices: those of the running reshape's new list for stripes of
the new geometry (R279, R280). -/
def memberSlots (s : State) (g : Nat) (fresh : Bool) : List Nat :=
  match s.reshape, fresh with
  | some r, true => if r.group = g then r.slots else []
  | _, _ => ((s.groups.get g).map fun x => (List.range x.w).map fun m => ((x.members.get m).map (·.slot)).getD 63).getD []

/-- The member record of a group that a slot holds: its key in the member table. A slot that a reshape absorbs has a key
above the indices (R279). -/
def memberOfSlot (x : Group) (slot : Nat) : Option (Nat × Member) :=
  x.members.entries.find? fun e => e.2.slot = slot

/-- Is a zone in the new geometry of a reshape of its group (R280)? -/
def zoneFresh (s : State) (g zkey : Nat) : Bool :=
  match s.reshape with
  | some r => r.group = g && !r.zones.contains zkey
  | none => false

/-- Width and layout in which a zone that leaves EMPTY is placed on a group (R280). -/
def placingGeometry (s : State) (g : Nat) : Nat × Bool :=
  match s.reshape, s.groups.get g with
  | some r, some x => if r.group = g then (r.w, r.dual) else (x.w, x.dual)
  | none, some x => (x.w, x.dual)
  | _, none => (0, false)

/-- The group and member index that a slot serves. -/
def memberAt (s : State) (slot : Nat) : Option (Nat × Nat) :=
  s.groups.entries.findSome? fun e => (memberOfSlot e.2 slot).map fun x => (e.1, x.1)

/-- Is a slot link ACTIVE? -/
def linkActive (s : State) (slot : Nat) : Bool := ((s.links.get slot).map fun l => decide (l.st = .active)).getD false

/-- A member's state changes in a journalled way (R224, R268). -/
def putMember (s : State) (g m : Nat) (y : Member) : State :=
  match groupOf s g with
  | none => s
  | some x => journal (setGroup s g (x.setMember m y)) (.member g m y)

/-- A member changes without a record: open log pages and the like. -/
def keepMember (s : State) (g m : Nat) (y : Member) : State :=
  match groupOf s g with
  | none => s
  | some x => setGroup s g (x.setMember m y)

/-! ## Blocks (R196, R218, R219, R223, R248) -/

/-- Erase blocks of a module. -/
def Module.total (m : Module) : Nat := m.channels * m.dies * m.planes * m.blocks

/-- Pages of a strip, and codewords of a page (R198, R233). -/
def Module.stripPages (m : Module) : Nat := 256 / m.pageUser
def Module.pageCws (m : Module) : Nat := m.pageUser / 4

/-- Place of a page of linear block L (Table 8-4); L counts in the order of the ADDR field. -/
def Module.place (m : Module) (l page : Nat) : FlashAddr :=
  let p := m.channels * m.dies
  { chan := l % m.channels, die := l / m.channels % m.dies, plane := l / p % m.planes
    block := l / (p * m.planes), page := page }

/-- Linear block of an address. -/
def Module.linear (m : Module) (a : FlashAddr) : Nat :=
  ((a.block * m.planes + a.plane) * m.dies + a.die) * m.channels + a.chan

/-- Pages of a block in its mode. -/
def Module.pages (m : Module) (slc : Bool) : Nat := if slc then m.pagesSlc else m.pagesNative

/-- A block table entry; a block not listed is FREE. -/
def Module.block (m : Module) (l : Nat) : EraseBlock := m.table.getD l {}

/-- Do two addresses name the same erase block? -/
def FlashAddr.sameBlock (a b : FlashAddr) : Bool :=
  a.chan = b.chan && a.die = b.die && a.plane = b.plane && a.block = b.block

/-- A block table entry changes without a record. -/
def keepBlock (s : State) (slot l : Nat) (b : EraseBlock) : State :=
  match s.modules.get slot with
  | none => s
  | some m => { s with modules := s.modules.set slot { m with table := m.table.set l b } }

/-- A block table entry changes in a journalled way (R224). -/
def setBlock (s : State) (slot l : Nat) (b : EraseBlock) : State := journal (keepBlock s slot l b) (.block slot l b)

/-- FREE blocks of a module. -/
def Module.freeBlocks (m : Module) : Nat := m.total - (m.table.values.filter fun b => decide (b.st ≠ .free)).length

/-- Blocks that R223 keeps out of zone placement. -/
def reserveBlocks (s : State) (m : Module) : Nat := m.total * regField s (mlxPage 0) O.MLX_SPARE_CFG 0 4 / 100

/-- Blocks reserved for the distributed spare (R248). -/
def spareBlocks (s : State) (x : Group) (m : Module) : Nat :=
  if x.spare = .distributed then (m.total - reserveBlocks s m) / x.w else 0

/-- Blocks of the distributed spare not yet in use. -/
def spareLeft (s : State) (x : Group) (m : Module) : Nat :=
  spareBlocks s x m - (m.table.values.filter (·.reserved)).length

/-- The first number that a key list, rising from `n`, does not hold. -/
def firstGap {α : Type} : Nat → List (Nat × α) → Nat
  | n, [] => n
  | n, (k, _) :: r => if k = n then firstGap (n + 1) r else n

/-- The better of two candidate blocks: lower PE, then lower address (R219). -/
def betterBlock (a b : Nat × Nat) : Nat × Nat := if b.2 < a.2 || (b.2 = a.2 && b.1 < a.1) then b else a

/-- The FREE block with the lowest PE, at a tie the lowest address (R219). -/
def Module.pickFree (m : Module) : Option Nat :=
  let listed := (m.table.entries.filter fun e => decide (e.2.st = .free)).map fun e => (e.1, e.2.pe)
  let gap := firstGap 0 m.table.entries
  let all := if gap < m.total then (gap, 0) :: listed else listed
  match all with
  | [] => none
  | a :: r => some (r.foldl betterBlock a).1

/-- A module command joins those waiting at a slot link. -/
def pushCmd (s : State) (slot : Nat) (c : LinkCmd) : State :=
  let l := s.links.getD slot {}
  { s with links := s.links.set slot { l with waiting := l.waiting ++ [c] } }

/-! ## Zones of a group -/

/-- The zones placed on a group: keys. -/
def zonesOn (s : State) (g : Nat) : List Nat := (s.zones.filter fun _ z => z.group = some g).keys

/-- Namespace and index of a zone key. -/
def keyNs (k : Nat) : Nat := k / 2 ^ 20
def keyZone (k : Nat) : Nat := k % 2 ^ 20

/-- The writes of a zone that have not ended. -/
def zoneWrites (s : State) (ns zone : Nat) : List Nat :=
  cmdsWhere s fun c => (c.op = 0x02 || c.op = 0x03) && c.ns = ns && c.zone = zone && c.phase ≠ .ended

/-- The stripe buffer of a zone is released when the zone has left OPEN and no write of it runs on (R241, R262). -/
def releaseBuffer (s : State) (ns zone : Nat) : State :=
  let z := zoneOf s ns zone
  let folding := s.folds.values.any fun f => f.ns = ns && f.zone = zone
  if z.st ≠ .opened && z.hold.isNone && !folding && (zoneWrites s ns zone).isEmpty then
    { s with buffers := s.buffers.erase (zoneKey ns zone) }
  else s

/-- A zone enters a state (Table 3-5): journalled (R224), with the alert of R77. -/
def zoneEnter (s : State) (ns zone : Nat) (st : ZoneState) : State :=
  let z := zoneOf s ns zone
  if z.st = st then s
  else
    let s := journalZone (setZone s ns zone { z with st := st }) ns zone
    let s := releaseBuffer s ns zone
    match st with
    | .readOnly => alert s zsqPage O.ZSQ_ZONE_ALERT 1
    | .degraded => alert s zsqPage O.ZSQ_ZONE_ALERT 2
    | .offline => alert s zsqPage O.ZSQ_ZONE_ALERT 3
    | .empty | .opened | .closed | .full => s

/-- A zone whose group lost its redundancy, or regained it (R60, R256). -/
def recheckZone (noRedundancy : Bool) (s : State) (k : Nat) : State :=
  let ns := keyNs k
  let zi := keyZone k
  let z := zoneOf s ns zi
  if noRedundancy then
    if z.st = .opened || z.st = .closed then zoneEnter s ns zi .readOnly else s
  else if z.st = .readOnly && !z.noBlocks then
    zoneEnter s ns zi (if z.written = z.capacity then .full else .closed)
  else s

/-- The zones of a group after a member changed state (R60, R256). -/
def recheckZones (s : State) (g : Nat) : State :=
  match groupOf s g with
  | none => s
  | some x => if x.lost then s else (zonesOn s g).foldl (recheckZone x.noRedundancy) s

/-- A zone whose group cannot supply the blocks still needed: the second case of R60. -/
def zoneNoBlocks (s : State) (k : Nat) : State :=
  let ns := keyNs k
  let zi := keyZone k
  let z := zoneOf s ns zi
  if z.st = .opened || z.st = .closed || z.st = .readOnly then
    zoneEnter (setZone s ns zi { z with noBlocks := true }) ns zi .readOnly
  else s

/-- A member's reserve runs out (R223): SPARE_LOW, and the zones of the group become READ_ONLY. -/
def reserveOut (s : State) (g : Nat) : State :=
  (zonesOn s g).foldl zoneNoBlocks (alert s (mlxPage 0) O.MLX_MED_ALERT 1)

/-! ## Allocation (R219, R233) -/

/-- A FREE block is taken into use: it is erased first unless an erase in its mode has made it FREE. -/
def takeBlock (s : State) (slot g : Nat) (use : BlockUse) (slc spare : Bool) : Option (Nat × State) :=
  match s.modules.get slot, groupOf s g with
  | some m, some x =>
    let left := m.freeBlocks - (if spare then 0 else spareLeft s x m)
    match m.pickFree with
    | none => none
    | some l =>
      if left = 0 then none
      else
        let b := m.block l
        let erase := !m.table.has l || b.dirty || b.slc ≠ slc
        let st : BlockState := if slc then .slc else if use = .checkpoint then .metadata else .opened
        let s := setBlock s slot l
          { b with
            st := st, use := use, group := some g, nextPage := 0, obsolete := 0, slc := slc, reserved := spare
            order := s.cwSeq, visitAt := s.time.now }
        let s := if erase then pushCmd s slot { op := 0x04, addr := m.place l 0, arg := num slc, why := .erase } else s
        some (l, if left = 1 && !spare then reserveOut s g else s)
  | _, _ => none

/-- The open block of a slot for a use, with room for n pages. -/
def openBlock (m : Module) (g : Nat) (use : BlockUse) (slc spare : Bool) (n : Nat) : Option Nat :=
  (m.table.entries.find? fun e =>
    e.2.use = use && e.2.group = some g && e.2.slc = slc && e.2.reserved = spare && !e.2.refreshDue &&
    (e.2.st = .opened || e.2.st = .slc || e.2.st = .metadata) && e.2.nextPage + n ≤ m.pages slc).map (·.1)

/-- `n` consecutive pages in the open block of a use, or in a new block: their first place. -/
def takePages (s : State) (slot g : Nat) (use : BlockUse) (slc spare : Bool) (n : Nat) : Option (FlashAddr × State) :=
  match s.modules.get slot with
  | none => none
  | some m =>
    let got := match openBlock m g use slc spare n with
      | some l => some (l, s)
      | none => takeBlock s slot g use slc spare
    match got with
    | none => none
    | some (l, s) =>
      match s.modules.get slot with
      | none => none
      | some m =>
        let b := m.block l
        let next := b.nextPage + n
        let st := if b.st = .opened && m.pages slc < next + n then .full else b.st
        some (m.place l b.nextPage, setBlock s slot l { b with nextPage := next, st := st })

/-! ## Losses (R272, R274, R276) -/

/-- The group stripe key that carries a sector of a zone, and the sector's place in its span: in the new geometry below
the boundary of a reshape (R11, R280). -/
def sectorStripe (s : State) (ns zone sector : Nat) : Option (Nat × Nat) :=
  let z := zoneOf s ns zone
  let span := spanSectors z.w z.dual
  let old := match z.group, z.extents.get (sector / span) with
    | some g, some n => some (stripeKey g n, sector % span)
    | _, _ => none
  match s.reshape with
  | none => old
  | some r =>
    if z.group = some r.group && r.zones.head? = some (zoneKey ns zone) && sector < r.bound then
      let fresh := spanSectors r.w r.dual
      (r.fresh.get (sector / fresh)).map fun n => (stripeKey r.group n, sector % fresh)
    else old

/-- The group stripe number that carries a sector of a zone. -/
def stripeOfSector (s : State) (ns zone sector : Nat) : Nat :=
  ((sectorStripe s ns zone sector).map fun e => keyStripe e.1).getD 0

/-- Does a loss log entry absorb a sector: adjacent, same zone and cause (R276)? -/
def Loss.absorbs (l : Loss) (ns zone sector cause : Nat) : Bool :=
  l.ns = ns && l.zone = zone && l.cause = cause && (l.first + l.count = sector || sector + 1 = l.first)

/-- The loss log with a sector taken into an entry that absorbs it. -/
def absorb (ns zone sector cause stripe : Nat) : List Loss → List Loss
  | [] => []
  | l :: r =>
    if l.absorbs ns zone sector cause then
      (if l.first + l.count = sector then { l with count := l.count + 1 }
       else { l with first := sector, count := l.count + 1, stripe := stripe }) :: r
    else l :: absorb ns zone sector cause stripe r

/-- The namespace's loss log GEN advances (Table 10-3). -/
def bumpGen (s : State) (ns : Nat) : State := { s with lossGen := s.lossGen.modify ns 0 (· + 1) }

/-- A zone's entries leave the loss log (R65, R276). -/
def dropLosses (s : State) (ns zone : Nat) : State :=
  let left := s.losses.filter fun l => !(l.ns = ns && l.zone = zone)
  let s := setZone s ns zone { zoneOf s ns zone with lost := [] }
  if left.length = s.losses.length then s else bumpGen { s with losses := left } ns

/-- A sector of a zone is lost (R272, R276): it enters the loss log, and its zone enters DEGRADED_LOST. A loss that finds
the log full sends the zone to OFFLINE. -/
def loseSector (ns zone cause : Nat) (s : State) (sector : Nat) : State :=
  let z := zoneOf s ns zone
  if z.lost.contains sector then s
  else
    let stripe := stripeOfSector s ns zone sector
    let fits := s.losses.any (·.absorbs ns zone sector cause)
    let full := decide (1048576 ≤ s.losses.length) ||
      decide (8192 ≤ (s.losses.filter fun l => l.ns = ns && l.zone = zone).length)
    if !fits && full then
      alertAt (dropLosses (zoneEnter s ns zone .offline) ns zone) zsqPage O.ZSQ_RBD_ALERT 8 8
    else
      let e : Loss := ⟨ns, zone, sector, 1, z.group.getD 0, cause, s.time.sec, stripe⟩
      let s := { s with
        losses := if fits then absorb ns zone sector cause stripe s.losses else e :: s.losses }
      let s := bumpGen (setZone s ns zone { z with lost := sector :: z.lost }) ns
      let s := bump (journal s (.loss e)) zsqPage O.ZSQ_LOSS_SECT_CNT
      let s := alertAt s zsqPage O.ZSQ_RBD_ALERT 3 8
      if z.st = .opened || z.st = .closed || z.st = .full || z.st = .readOnly then zoneEnter s ns zone .degraded else s

/-- The zone sector that lies in row `row` of data strip d of a stripe. -/
def Stripe.sectorAt (t : Stripe) (d row : Nat) : Nat := t.q * spanSectors t.w t.dual + d * 64 + row

/-- A log sector that neither copy gives (R241): lost with CAUSE 3, and LOG_UNREADABLE. -/
def loseLogSector (s : State) (ns zone sector : Nat) : State :=
  loseSector ns zone 3 (alertAt s zsqPage O.ZSQ_GRP_ALERT 2 4) sector

/-- A group becomes LOST (R274): sweeps and reshape stop, its zones go OFFLINE. -/
def groupLost (s : State) (g : Nat) : State :=
  match groupOf s g with
  | none => s
  | some x =>
    if x.lost || !x.beyond then s
    else
      let x := { x with
        lost := true, wake := none
        members := x.members.mapVals fun _ y => { y with sweeping := false, logRestore := false } }
      let s := journal (setGroup s g x) (.group g (some x))
      let s := match s.reshape with
        | some r => if r.group = g then journal { s with reshape := none } (.reshapeEnd g) else s
        | none => s
      let s := (zonesOn s g).foldl (fun s k => zoneEnter s (keyNs k) (keyZone k) .offline) s
      alertAt s zsqPage O.ZSQ_RBD_ALERT 4 8

end Sys2Proof.Machine
end

