-- ==== Sys2Proof/Machine/Zones.lean ====
section
/-! DEFINITION. Zones as hosts see them: capacity and group choice (R55 to R59), opening (R58, R241), the checks of a WRITE
or APPEND (R63), and the report-required mark (R69). -/
namespace Sys2Proof.Machine

/-- A namespace. -/
def nsOf (s : State) (n : Nat) : Namespace := s.namespaces.getD n {}

/-- The groups of a namespace's group set, ascending. -/
def groupSetOf (ns : Namespace) : List Nat := (List.range 12).filter fun g => ns.groupSet.testBit g

/-- Capacity that ZONE_REPORT gives for an EMPTY zone (R56): that of the smallest D among the groups of the set that are
defined and not LOST. -/
def emptyCapacity (s : State) (n : Nat) : Nat :=
  let ns := nsOf s n
  let ds := (groupSetOf ns).filterMap fun g =>
    match groupOf s g with
    | some x => if x.lost then none else
        let (w, dual) := placingGeometry s g
        some (dataStrips w dual)
    | none => none
  match ds with
  | [] => 0
  | d :: r => capacityFor ns.shift (r.foldl min d)

/-- Has a slot the FREE blocks for its strips of a zone (R59, R223, R248)? A slot whose module is not known cannot say
no. -/
def slotHasRoom (s : State) (x : Group) (stripes slot : Nat) : Bool :=
  match s.modules.get slot with
  | none => true
  | some m =>
    let perBlock := m.pagesNative / m.stripPages
    decide (ceilDiv stripes perBlock + reserveBlocks s m + spareLeft s x m ≤ m.freeBlocks)

/-- Step 1 of R59. -/
def groupQualifies (s : State) (ns : Namespace) (g : Nat) : Bool :=
  match groupOf s g with
  | none => false
  | some x =>
    let (w, dual) := placingGeometry s g
    let stripes := capacityFor ns.shift (dataStrips w dual) / spanSectors w dual
    let slots := memberSlots s g (s.reshape.any fun r => r.group = g)
    !x.lost && x.season ≠ .autumn && slots.all (slotHasRoom s x stripes)

/-- P/E counts of a group's blocks that are not RETIRED: their sum and how many they are (R59). -/
def groupWear (s : State) (g : Nat) : Nat × Nat :=
  match groupOf s g with
  | none => (0, 0)
  | some x => x.members.values.foldl (fun a y =>
      match s.modules.get y.slot with
      | none => a
      | some m =>
        let kept := m.table.values.filter fun b => decide (b.st ≠ .retired)
        (a.1 + (kept.map (·.pe)).sum, a.2 + m.total - (m.table.values.length - kept.length))) (0, 0)

/-- Is the first group less worn than the second (R59)? -/
def lessWorn (s : State) (a b : Nat) : Bool :=
  let x := groupWear s a
  let y := groupWear s b
  decide (x.1 * y.2 < y.1 * x.2)

/-- The group that a zone of a namespace receives (R59). -/
def chooseGroup (s : State) (n : Nat) : Option Nat :=
  let gs := (groupSetOf (nsOf s n)).filter (groupQualifies s (nsOf s n))
  let warm := gs.filter (inSummer s)
  match (if warm.isEmpty then gs else warm) with
  | [] => none
  | g :: r => some (r.foldl (fun a b => if lessWorn s b a then b else a) g)

/-- Zones now OPEN (R58). -/
def openCount (s : State) : Nat := (s.zones.values.filter fun z => decide (z.st = .opened)).length

/-- Is the open limit reached (R58)? -/
def openLimitReached (s : State) : Bool := decide (regField s zsqPage O.ZSQ_OPEN_LIMIT 0 13 ≤ openCount s)

/-- An EMPTY zone as it leaves EMPTY onto a group (R55, R59). -/
def placeZone (s : State) (n g : Nat) (z : Zone) : Zone :=
  let (w, dual) := placingGeometry s g
  { z with
    st := .opened, group := some g, w := w, dual := dual, capacity := capacityFor (nsOf s n).shift (dataStrips w dual)
    accepted := 0, written := 0, placed := 0, fill := none, noBlocks := false, extents := .empty }

/-- The sectors of a CLOSED zone's partly filled stripe: they refill the stripe buffer (R241). -/
def refillSectors (z : Zone) : List Nat :=
  let span := spanSectors z.w z.dual
  let base := z.written / span * span
  (List.range (z.written - base)).map (base + ·)

/-- A zone in EMPTY or CLOSED opens: its state, and the refill of its buffer that is then due (R58, R59, R241). The checks
have passed. A group without redundancy holds the zone in READ_ONLY at once (R256). -/
def openZone (s : State) (n zi : Nat) (group : Option Nat) : State :=
  let z := zoneOf s n zi
  let z' := match z.st, group with
    | .empty, some g => placeZone s n g z
    | _, _ => { z with st := .opened }
  let s := journalZone (setZone s n zi z') n zi
  let span := spanSectors z'.w z'.dual
  let s := { s with
    buffers := if s.buffers.has (zoneKey n zi) then s.buffers
      else s.buffers.set (zoneKey n zi) { q := z'.written / span, refill := refillSectors z' } }
  match z'.group with
  | some g => recheckZones s g
  | none => s

/-- An open that fails with NO_CAPACITY raises OPEN_REFUSED (R77). -/
def openRefused (s : State) : State := alert s zsqPage O.ZSQ_ZONE_ALERT 0

/-- Does the report-required mark of a zone hold for a connection (R69)? -/
def Zone.marked (z : Zone) (conn : Nat) : Bool := z.marks.contains conn || (z.markAll && !z.cleared.contains conn)

/-- A ZONE_REPORT of a connection clears its mark (R69). -/
def Zone.clearMark (z : Zone) (conn : Nat) : Zone :=
  if z.marked conn then
    { z with marks := z.marks.filter (· ≠ conn), cleared := if z.markAll then conn :: z.cleared else z.cleared }
  else z

/-- The mark is set for a connection. -/
def setMark (s : State) (n zi conn : Nat) : State :=
  let z := zoneOf s n zi
  if z.marks.contains conn then s else setZone s n zi { z with marks := conn :: z.marks }

/-- What ZSQ's checks of a WRITE or APPEND answer: a status, or the zone's group where it leaves EMPTY (R63). -/
inductive WriteCheck
  | status (code : Nat)
  | accept (group : Option Nat)
  deriving DecidableEq, Repr

/-- The checks of R63 in their order. -/
def checkWrite (s : State) (conn n zi : Nat) (isAppend : Bool) (offset len : Nat) : WriteCheck :=
  let z := zoneOf s n zi
  let off := if isAppend then z.accepted else offset
  if z.hold.isSome then .status 0x05
  else if z.st = .full then .status 0x04
  else if z.st = .readOnly || z.st = .degraded || z.st = .offline then .status 0x05
  else if z.marked conn then .status 0x03
  else if !isAppend && offset ≠ z.accepted then .status 0x03
  else if z.st ≠ .empty && z.capacity < off + len then .status 0x04
  else if (z.st = .empty || z.st = .closed) && openLimitReached s then .status 0x0B
  else if z.st = .empty then
    match chooseGroup s n with
    | none => .status 0x0B
    | some g =>
      let (w, dual) := placingGeometry s g
      if capacityFor (nsOf s n).shift (dataStrips w dual) < off + len then .status 0x04 else .accept (some g)
  else .accept none

end Sys2Proof.Machine
end

