-- ==== Sys2Proof/Machine/CryptoJobs.lean ====
section
/-! DEFINITION. The crypto scheduler and cores (R13, R327, R328, R330, R331): queueing, handing to cores, ending and
failing of jobs. What a finished job means to its command stands with the write and read paths. -/
namespace Sys2Proof.Machine

/-- The pages of CRY and of core CXi. -/
abbrev cryPage : Nat := 0x100
abbrev cxPage (i : Nat) : Nat := 0x101 + i

/-- A core. -/
def coreOf (s : State) (i : Nat) : CxCore := s.crypto.cores.getD i {}

/-- The state with a core replaced. -/
def setCore (s : State) (i : Nat) (c : CxCore) : State :=
  { s with crypto := { s.crypto with cores := s.crypto.cores.set i c } }

/-- Does a job use the seal bank (Table 12-4)? -/
def JobKind.sealed : JobKind → Bool
  | .xtsEncrypt | .xtsDecrypt => false
  | .gcmOpen | .gcmSeal => true

/-- The key that a bank holds under an index; none where it holds no key (R325). -/
def vaultKey (s : State) (bank : Bool) (i : Nat) : Option Nat :=
  if bank then s.vault.seals.get i else s.vault.slots.get i

/-- May a core take a job (R331)? -/
def coreReady (s : State) (i : Nat) : Bool :=
  (coreOf s i).job.isNone && isEnabled s (cxPage i) && bit (regOf s cryPage O.CRY_CFG) i && !s.crypto.halted

/-- A core takes a job: the key is captured at the start (R327), and the round keys are fetched where they differ (R328). -/
def startJob (s : State) (i : Nat) (j : CryptoJob) : State :=
  let key := (vaultKey s j.kind.sealed j.index).getD 0
  let c := coreOf s i
  let want := some (j.kind.sealed, j.index, key)
  let s := setCore s i { c with job := some (j, key), round := want }
  if c.round = want then s else pmcEvent (bump s (cxPage i) O.CX_KEYSW_CNT) (cxPage i) 0x102 1

/-- The oldest job goes to an idle core, the lowest first (R328). -/
def dispatchCore (s : State) (i : Nat) : State :=
  match s.crypto.queue with
  | [] => s
  | j :: r => if coreReady s i then startJob { s with crypto := { s.crypto with queue := r } } i j else s

/-- Idle cores take the oldest jobs (R328). -/
def dispatchJobs (s : State) : State := (List.range 8).foldl dispatchCore s

/-- Jobs join the queue in arrival order (R328). -/
def queueJobs (s : State) (js : List CryptoJob) : State :=
  dispatchJobs { s with crypto := { s.crypto with queue := s.crypto.queue ++ js } }

/-- Bytes that a job works on: a sector, or a chunk of the command's payload (R97, R328). -/
def jobBytes (s : State) (j : CryptoJob) : Nat :=
  if j.kind.sealed then
    match s.commands.get j.cmd with
    | some c => min 65536 (c.len * 4096 - j.unit * 65536)
    | none => 65536
  else 4096

/-- A core ends its job: the counters of CX (R340, Table 17-2), and it is idle again. -/
def endJob (s : State) (i : Nat) (j : CryptoJob) : State :=
  let n := jobBytes s j
  let c := coreOf s i
  let s := setCore s i { c with job := none, bytes := (c.bytes + n) % 2 ^ 20 }
  let s := pmcEvent (pmcEvent (bump s (cxPage i) O.CX_JOB_CNT) (cxPage i) 0x100 1) (cxPage i) 0x101 (ceilDiv n 16)
  bumpBy s (cxPage i) O.CX_MIB_CNT ((c.bytes + n) / 2 ^ 20)

/-- Tweak of a sector (R13). -/
def xtsTweak (s : State) (c : Command) (sector : Nat) : Nat := c.zone * 2 ^ ((nsOf s c.ns).shift - 12) + sector

/-- IV of chunk k of a sealed command (R330). -/
def gcmIv (c : Command) (dir k : Nat) : List Byte :=
  leBytes 2 c.conn ++ leBytes 1 dir ++ zeros 1 ++ leBytes 4 c.capsule ++ leBytes 4 k

/-- AAD of a chunk of n bytes of a sealed command (R330). -/
def gcmAad (c : Command) (n : Nat) : List Byte :=
  leBytes 1 c.op ++ zeros 1 ++ leBytes 2 c.ns ++ leBytes 4 c.zone ++ leBytes 4 n

/-- The jobs that fail with CRYPTO_HALT are counted (R340). -/
def haltCount (s : State) (n : Nat) : State := bumpBy s cryPage O.CRY_HALT_CNT n

/-- Queued jobs that satisfy a test fail with CRYPTO_HALT: the commands they served, and the state after it (R327, R331). -/
def dropJobs (s : State) (p : CryptoJob → Bool) : List Nat × State :=
  let gone := s.crypto.queue.filter p
  ((gone.map (·.cmd)).eraseDups,
    haltCount { s with crypto := { s.crypto with queue := s.crypto.queue.filter fun j => !p j } } gone.length)

end Sys2Proof.Machine
end

