-- ==== Sys2Proof/Machine/Parity.lean ====
section
/-! DEFINITION. The parity arithmetic of stripes: GF(2^8), P and Q, and the reconstruction of a sector row (R234, R236). -/
namespace Sys2Proof.Machine

/-- Multiplication by g = 2 modulo 0x11D (R234). -/
def gfDouble (a : Nat) : Nat := if a < 128 then 2 * a else (2 * a) ^^^ 0x11D

/-- Product in GF(2^8), over the bits of the second factor from the top: `n` bits are left (R234). -/
def gfMulBits (a b : Nat) : Nat → Nat
  | 0 => 0
  | n + 1 => gfDouble (gfMulBits a (b / 2) n) ^^^ (if b % 2 = 1 then a else 0)

/-- Product in GF(2^8) with the reducing polynomial 0x11D (R234). -/
def gfMul (a b : Nat) : Nat := gfMulBits a b 8

/-- g to the power n (R234). -/
def gfPow : Nat → Nat
  | 0 => 1
  | n + 1 => gfDouble (gfPow n)

/-- The inverse of a nonzero element: its power 254. -/
def gfInv (a : Nat) : Nat :=
  let a2 := gfMul a a
  let a4 := gfMul a2 a2
  let a8 := gfMul a4 a4
  let a16 := gfMul a8 a8
  let a32 := gfMul a16 a16
  let a64 := gfMul a32 a32
  let a128 := gfMul a64 a64
  gfMul a2 (gfMul a4 (gfMul a8 (gfMul a16 (gfMul a32 (gfMul a64 a128)))))

/-- Two byte lists xored; the shorter one counts as ending in zeros. -/
def xorBytes : List Byte → List Byte → List Byte
  | [], ys => ys
  | xs, [] => xs
  | x :: xs, y :: ys => (x ^^^ y) :: xorBytes xs ys

/-- A byte list multiplied by a coefficient. -/
def scaleBytes (k : Nat) (xs : List Byte) : List Byte := xs.map fun b => BitVec.ofNat 8 (gfMul k b.toNat)

/-- P of a row: the xor of its data sectors (R234). -/
def parityP (ds : List (Nat × List Byte)) : List Byte := ds.foldl (fun a d => xorBytes a d.2) []

/-- Q of a row: the data sectors, each multiplied by g to the power of its data strip index (R234). -/
def parityQ (ds : List (Nat × List Byte)) : List Byte :=
  ds.foldl (fun a d => xorBytes a (scaleBytes (gfPow d.1) d.2)) []

/-- What is known of a row: data sectors by data strip index, P and Q where present. -/
structure RowParts where
  datas : List (Nat × List Byte)
  p : Option (List Byte)
  q : Option (List Byte)
  deriving DecidableEq, Repr

/-- The data strip indices of a row that are missing. -/
def RowParts.missing (r : RowParts) (d : Nat) : List Nat := (List.range d).filter fun i => !(r.datas.any fun x => x.1 = i)

/-- All data sectors of a row by Table 9-3; none where the row is beyond the parity (R236). -/
def RowParts.solve (r : RowParts) (d : Nat) : Option (List (Nat × List Byte)) :=
  match r.missing d with
  | [] => some r.datas
  | [x] =>
    match r.p, r.q with
    | some p, _ => some ((x, xorBytes p (parityP r.datas)) :: r.datas)
    | none, some q => some ((x, scaleBytes (gfInv (gfPow x)) (xorBytes q (parityQ r.datas))) :: r.datas)
    | none, none => none
  | [x, y] =>
    match r.p, r.q with
    | some p, some q =>
      let px := xorBytes p (parityP r.datas)
      let qx := xorBytes q (parityQ r.datas)
      let dx := scaleBytes (gfInv (gfPow x ^^^ gfPow y)) (xorBytes qx (scaleBytes (gfPow y) px))
      some ((x, dx) :: (y, xorBytes px dx) :: r.datas)
    | _, _ => none
  | _ => none

/-- The sector of a row that a strip role holds, reconstructed (R236). -/
def RowParts.recover (r : RowParts) (d : Nat) (role : StripRole) : Option (List Byte) :=
  (r.solve d).map fun ds =>
    match role with
    | .p => parityP ds
    | .q => parityQ ds
    | .data k => ((ds.find? fun x => x.1 = k).map (·.2)).getD []

end Sys2Proof.Machine
end

