-- ==== Sys2Proof/Machine/Stripes.lean ====
section
/-! DEFINITION. The write path from placement to the mark: stripe buffers and folds (R64, R233, R238, R241, R242), interim
log (R239, R240), stripes-in-flight journal (R244, R245, R247), parity jobs (R237), marking (R62, R71), and the failure of
placed writes (R64). -/
namespace Sys2Proof.Machine

/-! ## Small lookups -/

/-- The group of a zone and the slots of its stripes' members. -/
def zoneSlots (s : State) (ns zone : Nat) : List Nat :=
  match (zoneOf s ns zone).group with
  | none => []
  | some g => memberSlots s g (zoneFresh s g (zoneKey ns zone))

/-- The member record that a slot holds in a group: its key and value. -/
def slotMember (s : State) (g slot : Nat) : Option (Nat × Member) := (groupOf s g).bind fun x => memberOfSlot x slot

/-- May a slot's member take a log copy or journal role (R239, R247)? -/
def slotQualifies (s : State) (g slot : Nat) : Bool := ((slotMember s g slot).map fun e => e.2.qualifies).getD false

/-- The fold of a stripe. -/
def foldOf (s : State) (key : Nat) : Option Fold := s.folds.get key

/-- The state with a fold replaced. -/
def setFold (s : State) (key : Nat) (f : Fold) : State := { s with folds := s.folds.set key f }

/-- The stripe buffer of a zone. -/
def bufOf (s : State) (ns zone : Nat) : StripeBuf := (s.buffers.get (zoneKey ns zone)).getD { q := 0 }

/-- The state with a zone's stripe buffer replaced. -/
def setBuf (s : State) (ns zone : Nat) (b : StripeBuf) : State :=
  { s with buffers := s.buffers.set (zoneKey ns zone) b }

/-- Key of the group stripe that carries zone stripe q, where it has a number (R233). -/
def stripeOf (s : State) (ns zone q : Nat) : Option Nat :=
  let z := zoneOf s ns zone
  match z.group, z.extents.get q with
  | some g, some n => some (stripeKey g n)
  | _, _ => none

/-- A slot's module, or plain values where it is not known. -/
def moduleOr (s : State) (slot : Nat) : Module :=
  (s.modules.get slot).getD
    { serial := [], channels := 1, dies := 1, planes := 1, bits := 4, blocks := 0, pagesNative := 0, pagesSlc := 0
      pageUser := 16, pageRaw := 0, capacity := 0, admitted := false }

/-! ## Stripe numbers and strip places (R233, R249, R260) -/

/-- A zone stripe takes its group stripe number (R233). -/
def assignStripe (ns zone : Nat) (s : State) (q : Nat) : State :=
  let z := zoneOf s ns zone
  match z.group.bind (groupOf s), z.group with
  | some x, some g =>
    if z.extents.has q then s
    else setZone (setGroup s g { x with next := x.next + 1 }) ns zone { z with extents := z.extents.set q x.next }
  | _, _ => s

/-- The survivor that takes the strip of stripe number n for a member of a group with distributed spare (R249). -/
def survivorOf (slots : List Nat) (m n : Nat) : Option Nat := ((slots.eraseIdx m).drop (n % (slots.length - 1))).head?

/-- Where a new strip goes: the slot, and whether it is a block of the distributed spare (Table 10-1); none where the
strip is absent (R260). -/
def stripTarget (s : State) (g : Nat) (slots : List Nat) (m n : Nat) : Option (Nat × Bool) :=
  match slots[m]? with
  | none => none
  | some slot =>
    match slotMember s g slot with
    | none => none
    | some (_, y) =>
      match y.st with
      | .out => none
      | .failed | .spared =>
        if y.st = .spared || y.sweeping then
          match survivorOf slots m n with
          | some v => if ((slotMember s g v).map fun e => !e.2.st.inactive).getD false then some (v, true) else none
          | none => none
        else none
      | _ => some (slot, false)

/-- A strip receives a block and slot (R233): its place, or none where its member has no block to give. -/
def placeStrip (s : State) (g : Nat) (slots : List Nat) (m n : Nat) : Option Place × State :=
  match stripTarget s g slots m n with
  | none => (none, s)
  | some (slot, spare) =>
    match takePages s slot g .strips false spare (moduleOr s slot).stripPages with
    | none => (none, reserveOut s g)
    | some (a, s) => (some ⟨slot, a, 0⟩, s)

/-- Places for the strips of the members listed. -/
def placeStrips (g : Nat) (slots : List Nat) (n : Nat) : List Nat → Tab Place × State → Tab Place × State
  | [], r => r
  | m :: ms, (t, s) =>
    match placeStrip s g slots m n with
    | (some p, s) => placeStrips g slots n ms (t.set m p, s)
    | (none, s) => placeStrips g slots n ms (t, s)

/-! ## Stripes-in-flight journal (R244, R245, R247) -/

/-- The 64 bytes of an entry (Table 9-4). -/
def sifBytes (typ key : Nat) (f : Fold) : List Byte :=
  let body := leBytes 1 typ ++ leBytes 1 (keyGroup key) ++ zeros 2 ++ leBytes 4 (keyStripe key) ++ leBytes 8 f.seqFirst ++
    leBytes 2 f.ns ++ zeros 2 ++ leBytes 4 f.zone ++ leBytes 4 f.q ++ leBytes 4 f.claim ++
    leBytes 4 (maskOf f.members).toNat ++ zeros 24
  body ++ leBytes 4 (crc32c body)

/-- The entry's bytes, from the fold where it still runs, or from the extent map. -/
def entryBytes (s : State) (e : Nat × Nat) : List Byte :=
  match foldOf s e.2, s.stripes.get e.2 with
  | some f, _ => sifBytes e.1 e.2 f
  | none, some t => sifBytes e.1 e.2 { ns := t.ns, zone := t.zone, q := t.q, seqFirst := 0, claim := 0, members := [] }
  | none, none => sifBytes e.1 e.2 { ns := 0, zone := 0, q := 0, seqFirst := 0, claim := 0, members := [] }

/-- The next codeword SEQ values (Table 8-2): n of them, the first one and the state. -/
def takeSeq (s : State) (n : Nat) : Nat × State := (s.cwSeq + 1, { s with cwSeq := s.cwSeq + n })

/-- Padding codewords fill a page (KIND 7). -/
def padPage (g m seq n : Nat) (cws : List Codeword) (claim : Nat) : List Codeword :=
  cws ++ (List.range (n - cws.length)).map fun i =>
    { kind := 7, group := g, member := m, sector := cws.length + i, stripe := 0, seq := seq, ns := 0, zone := 0
      claim := claim, data := zeros 4096 }

/-- Data cut into sectors. -/
def sectorsOf (bs : List Byte) : Nat → List (List Byte)
  | 0 => []
  | n + 1 => padTo 4096 bs :: sectorsOf (bs.drop 4096) n

/-- The journal members that R245 asks for now: those not being replaced (R247). -/
def journalMembers (x : Group) : List Nat :=
  ([(0, x.jmem0), (1, x.jmem1)].filter fun r => !x.seeding.any fun e => e.1 = r.1).map (·.2)

/-- The codewords of page i of a journal page of 256 entries. -/
def journalCws (s : State) (g m : Nat) (mo : Module) (bytes : List Byte) (i seq : Nat) : List Codeword :=
  let n := mo.pageCws
  let data := (sectorsOf bytes 4).drop (i * n) |>.take n
  padPage g m seq n (data.mapIdx fun k d =>
    { kind := 5, group := g, member := m, sector := i * n + k, stripe := 0, seq := seq + k, ns := 0, zone := 0
      claim := claimOf s, data := d }) (claimOf s)

/-- A journal page is programmed on one member: its flash pages join those waiting (R245). -/
def journalTo (g num : Nat) (es : List (Nat × Nat)) (s : State) (m : Nat) : State :=
  match (groupOf s g).bind (·.member m) with
  | none => s
  | some y =>
    let mo := moduleOr s y.slot
    let n := 16 / mo.pageUser
    match takePages s y.slot g .journal true false n with
    | none => s
    | some (a, s) =>
      let bytes := es.flatMap (entryBytes s)
      let (seq, s) := takeSeq s (4 * n)
      let s := (List.range n).foldl (fun s i =>
        pushCmd s y.slot { op := 0x03, addr := { a with page := a.page + i }, arg := 1, why := .journal g m num
                           out := journalCws s g m mo bytes i (seq + 4 * i) }) s
      match groupOf s g with
      | some x => setGroup s g { x with jrnlSent := x.jrnlSent ++ [⟨num, m, n, es⟩] }
      | none => s

/-- The open journal page of a group is released to the journal members (R245, R247). -/
def releaseJournal (s : State) (g : Nat) : State :=
  match groupOf s g with
  | none => s
  | some x =>
    if x.jrnlPage.isEmpty then s
    else
      let s := setGroup s g { x with jrnlPage := [], jrnlNum := x.jrnlNum + 1 }
      (journalMembers x).foldl (journalTo g x.jrnlNum x.jrnlPage) s

/-- An entry joins the open journal page; a full page of 256 is released (R245). -/
def addJournalEntry (s : State) (g typ key : Nat) : State :=
  match groupOf s g with
  | none => s
  | some x =>
    let at0 := if x.jrnlPage.isEmpty then s.time.now else x.jrnlAt
    let s := setGroup s g { x with jrnlPage := x.jrnlPage ++ [(typ, key)], jrnlAt := at0 }
    if 256 ≤ x.jrnlPage.length + 1 then releaseJournal s g else s

/-! ## Parity jobs (R19, R237, R253) -/

/-- The page of PQE instance n. -/
abbrev pqePage (n : Nat) : Nat := 0x048 + n

/-- The oldest queued job goes to an idle instance, the lowest first. -/
def dispatchPqe1 (s : State) (i : Nat) : State :=
  match s.pqeQueue with
  | [] => s
  | j :: r =>
    if (s.pqeRun.get i).isNone && isEnabled s (pqePage i) then
      { s with pqeQueue := r, pqeRun := s.pqeRun.set i j }
    else s

/-- Idle instances take the queued jobs. -/
def dispatchPqe (s : State) : State := (List.range 4).foldl dispatchPqe1 s

/-- A job joins the queue. -/
def queuePqe (s : State) (j : PqeJob) : State :=
  if s.pqeQueue.contains j || s.pqeRun.values.contains j then s
  else dispatchPqe { s with pqeQueue := s.pqeQueue ++ [j] }

/-- A stripe whose data sectors are all in its buffer has its parity generated (R235, R242). -/
def tryParity (s : State) (key : Nat) : State :=
  match foldOf s key with
  | none => s
  | some f =>
    let z := zoneOf s f.ns f.zone
    if f.parity.isNone && decide (f.buf.entries.length = spanSectors z.w z.dual) then queuePqe s (.parity key) else s

/-- The data sectors of row r of a stripe buffer, by data strip. -/
def rowOf (buf : Tab (List Byte)) (d r : Nat) : List (Nat × List Byte) :=
  (List.range d).map fun i => (i, buf.getD (i * 64 + r) [])

/-- P and Q of every row (R234). -/
def stripeParity (buf : Tab (List Byte)) (d : Nat) (dual : Bool) : Tab (List Byte) × Tab (List Byte) :=
  (⟨(List.range 64).map fun r => (r, parityP (rowOf buf d r))⟩,
   if dual then ⟨(List.range 64).map fun r => (r, parityQ (rowOf buf d r))⟩ else .empty)

/-! ## Folding (R242, R244, R245, R250) -/

/-- The codeword of row `row` of member m's strip of a fold. -/
def stripCodeword (s : State) (key m row seq : Nat) (f : Fold) : Codeword :=
  let z := zoneOf s f.ns f.zone
  let role := roleOf z.w z.dual (keyStripe key) m
  let sector := match role with
    | .data d => d * 64 + row
    | _ => 0
  let data := match role, f.parity with
    | .p, some (p, _) => p.getD row []
    | .q, some (_, q) => q.getD row []
    | .data _, _ => f.buf.getD sector []
    | _, none => []
  let padded := match role, f.padFrom with
    | .data _, some k => decide (k ≤ sector)
    | _, _ => false
  let kind := if padded then 7 else role.kind
  { kind := kind, group := keyGroup key, member := m, sector := row, stripe := keyStripe key, seq := seq
    ns := if kind = 1 then f.ns else 0, zone := if kind = 1 then f.zone else 0, claim := claimOf s, data := data }

/-- The program of page i of member m's strip. -/
def stripProgram (s : State) (key m i : Nat) (p : Place) (f : Fold) : LinkCmd :=
  let n := (moduleOr s p.slot).pageCws
  { op := 0x03, addr := { p.addr with page := p.addr.page + i }, arg := 0, why := .strip key m i
    out := (List.range n).map fun k => stripCodeword s key m (i * n + k) (f.seqFirst + m * 64 + i * n + k) f }

/-- The pages of member m's strip. -/
def stripPagesOf (s : State) (p : Place) : List Nat := List.range (moduleOr s p.slot).stripPages

/-- The programs of one strip join those waiting at its slot link. -/
def pushStrip (s : State) (key m : Nat) (p : Place) (f : Fold) : State :=
  (stripPagesOf s p).foldl (fun s i => pushCmd s p.slot (stripProgram s key m i p f)) s

/-- A point of the writes of a stripe is stamped (R445). -/
def stampStripe (s : State) (key point : Nat) : State :=
  (cmdsWhere s fun c => c.stripesLeft.contains key).foldl (fun s q =>
    match s.commands.get q with
    | some c => stamp s c.conn c.cid point
    | none => s) s

/-- The programs of a stripe are released once its parity is there and its OPEN entry stands in MRAM, in the mirror and
on the journal members (R242, R245, R247). -/
def tryRelease (s : State) (key : Nat) : State :=
  match foldOf s key, groupOf s (keyGroup key) with
  | some f, some x =>
    let js := journalMembers x
    if f.released || f.parity.isNone || !durable s f.recNo || !js.all f.journalled.contains then s
    else
      let pages := f.places.entries.flatMap fun e => (stripPagesOf s e.2).map fun i => (e.1, i)
      let f := { f with
        released := true, pagesLeft := pages
        rows := if f.locked then (pages.map (·.2)).eraseDups.mergeSort else [] }
      let s := stampStripe (stampStripe (setFold s key f) key 7) key 8
      let s := if js.length < 2 then alertAt s zsqPage O.ZSQ_GRP_ALERT 1 4 else s
      if f.locked then s else f.places.entries.foldl (fun s e => pushStrip s key e.1 e.2 f) s
  | _, _ => s

/-- Every fold of a group is looked at again. -/
def tryReleaseGroup (s : State) (g : Nat) : State :=
  (s.folds.keys.filter fun k => keyGroup k = g).foldl tryRelease s

/-- A zone stripe whose last sector is placed is folded (R242): its entry is written, its strips get their places and its
buffer is taken over. -/
def openFold (ns zone : Nat) (padFrom : Option Nat) (s : State) (q : Nat) : State :=
  match stripeOf s ns zone q with
  | none => s
  | some key =>
    match groupOf s (keyGroup key) with
    | none => s
    | some x =>
      let z := zoneOf s ns zone
      let b := bufOf s ns zone
      let (places, s) := placeStrips (keyGroup key) (zoneSlots s ns zone) (keyStripe key) (List.range z.w) (.empty, s)
      let (seq, s) := takeSeq s (z.w * 64)
      let f : Fold :=
        { ns := ns, zone := zone, q := q, seqFirst := seq, claim := claimOf s, members := places.keys
          buf := if b.q = q then b.sectors else .empty, places := places, locked := x.lock, padFrom := padFrom }
      let s := if b.q ≤ q then setBuf s ns zone { q := q + 1 } else s
      let s := journal s (.foldOpen key f)
      let s := setFold s key { f with recNo := s.journalSeq }
      addJournalEntry s (keyGroup key) 1 key

/-- A ciphertext sector goes to the buffer of its zone stripe. -/
def putCipher (s : State) (ns zone sector : Nat) (data : List Byte) : State :=
  let z := zoneOf s ns zone
  let span := spanSectors z.w z.dual
  let q := sector / span
  match (stripeOf s ns zone q).bind fun k => (foldOf s k).map fun f => (k, f) with
  | some (k, f) => setFold s k { f with buf := f.buf.set (sector % span) data }
  | none =>
    let b := bufOf s ns zone
    if b.q = q then setBuf s ns zone { b with sectors := b.sectors.set (sector % span) data } else s

/-! ## Interim log (R238 to R240) -/

/-- The first member at or after `i`, wrapping, that qualifies and is not in a list (R239). -/
def nextQualified (s : State) (g : Nat) (slots : List Nat) (i : Nat) (no : List Nat) : Option Nat :=
  ((List.range slots.length).map fun k => (i + k) % slots.length).find? fun m =>
    !no.contains m && ((slots[m]?).map (slotQualifies s g)).getD false

/-- The two members that R239 names for the log copies of a stripe, before any replacement. -/
def logPair (w : Nat) (dual : Bool) (n : Nat) : Nat × Nat :=
  if dual then (pMember w n, qMember w n) else (pMember w n, (pMember w n + 1) % w)

/-- Codewords of a log page on a slot. -/
def logPageCws (s : State) (slot : Nat) : Nat := (moduleOr s slot).pageCws

/-- The slots that hold, or are programming, a log copy of a sector. -/
def logCopies (s : State) (g : Nat) (sec : SectorId) : List Nat :=
  ((s.logMap.getD (logKey sec.ns sec.zone sec.sector) []).map (·.slot)) ++
  match groupOf s g with
  | none => []
  | some x => (x.members.values.filter fun y => y.logSent.any fun p => p.cws.any fun c => c.sec = sec).map (·.slot)

/-- How many members of a group qualify (R239). -/
def qualifiedCount (s : State) (g : Nat) : Nat :=
  ((groupOf s g).map fun x => (x.members.values.filter (·.qualifies)).length).getD 0

/-- The codewords of a log page as they are programmed (Table 8-2, R239). -/
def logCodewords (s : State) (g target seq n : Nat) (cws : List LogCw) : List Codeword :=
  padPage g target seq n (cws.mapIdx fun i c =>
    { kind := 4, group := g, member := c.member, sector := i, stripe := c.stripe, seq := seq + i, ns := c.sec.ns
      zone := c.sec.zone, claim := claimOf s, data := c.data }) (claimOf s)

/-- A log page is programmed on a member slot: one SLC page of its open log block (R240). -/
def programLog (s : State) (g slot : Nat) (cws : List LogCw) : Option State :=
  match slotMember s g slot with
  | none => none
  | some (mk, y) =>
    match takePages s slot g .log true false 1 with
    | none => none
    | some (a, s) =>
      let n := logPageCws s slot
      let (seq, s) := takeSeq s n
      let num := y.logNum
      let s := match slotMember s g slot with
        | some (_, y) => keepMember s g mk { y with logNum := num + 1, logSent := y.logSent ++ [{ num := num, cws := cws, released := true }] }
        | none => s
      some (pushCmd s slot { op := 0x03, addr := a, arg := 1, why := .logPage g mk num
                             out := logCodewords s g mk seq n cws })

/-- The slot that a log page gathered at a member goes to: the member's own where it qualifies, else the next one, and
never one that has the other copy of a codeword (R239). -/
def logTarget (s : State) (g : Nat) (slots : List Nat) (m : Nat) (cws : List LogCw) : Option Nat :=
  let taken := cws.flatMap fun c => logCopies s g c.sec
  let others := (cws.map (·.other)).filter fun o => ((slots[o]?).map (slotQualifies s g)).getD false
  let no := others ++ (List.range slots.length).filter fun k => ((slots[k]?).map taken.contains).getD false
  if qualifiedCount s g < 2 then none
  else ((nextQualified s g slots m no).bind fun k => slots[k]?)

/-- The open log page of a member is released, where two members qualify (R239, R240). -/
def releaseLog (s : State) (g mk : Nat) : State :=
  match groupOf s g with
  | none => s
  | some x =>
    match x.member mk with
    | none => s
    | some y =>
      match y.log with
      | none => s
      | some p =>
        let slots := x.members.values.map (·.slot)
        let m := (x.members.keys.findIdx? (· = mk)).getD 0
        match logTarget s g slots m p.cws with
        | none => s
        | some slot =>
          match programLog s g slot p.cws with
          | none => s
          | some t =>
            match (groupOf t g).bind (·.member mk) with
            | some y => keepMember t g mk { y with log := none }
            | none => t

/-- A codeword joins the open log page of a member; a full page is released (R240). -/
def gatherLog (s : State) (g slot : Nat) (c : LogCw) : State :=
  match slotMember s g slot with
  | none => s
  | some (mk, y) =>
    let p := y.log.getD { num := y.logNum, firstAt := s.time.now }
    let p := { p with cws := p.cws ++ [c] }
    let s := keepMember s g mk { y with log := some p }
    if logPageCws s slot ≤ p.cws.length then releaseLog s g mk else s

/-- A log sector of a write goes to the log pages of its two members (R238, R239). -/
def logSector (q : Nat) (s : State) (sector : Nat) : State :=
  match s.commands.get q with
  | none => s
  | some c =>
    let z := zoneOf s c.ns c.zone
    let span := spanSectors z.w z.dual
    match stripeOf s c.ns c.zone (sector / span) with
    | none => s
    | some key =>
      let n := keyStripe key
      let slots := zoneSlots s c.ns c.zone
      let (a, b) := logPair z.w z.dual n
      let data := (bufOf s c.ns c.zone).sectors.getD (sector % span) []
      let cw (o : Nat) : LogCw :=
        { sec := ⟨c.ns, c.zone, sector⟩, stripe := n, member := dataMember z.w z.dual n (sector % span / 64), other := o
          write := some q, data := data }
      let s := gatherLog s (keyGroup key) (slots.getD a 0) (cw b)
      gatherLog s (keyGroup key) (slots.getD b 0) (cw a)

/-! ## Marking (R17, R18, R62) -/

/-- Does a placed write meet R17? -/
def meetsR17 (c : Command) : Bool :=
  (c.phase = .placed || c.phase = .programmed) && c.jobsLeft = 0 && c.logLeft.entries.isEmpty && c.stripesLeft.isEmpty

/-- A write is marked complete (R62): the written pointer advances over it, and its completion is posted. -/
def markWrite (s : State) (q : Nat) (c : Command) : State :=
  let z := zoneOf s c.ns c.zone
  let s := setZone s c.ns c.zone { z with written := c.offset + c.len }
  let s := if z.st = .opened && c.offset + c.len = z.capacity then zoneEnter s c.ns c.zone .full else s
  let s := stamp (stamp s c.conn c.cid 9) c.conn c.cid 10
  complete s q 0 (if c.op = 0x03 then c.offset else 0)

/-- The write that comes next in offset order, where it meets R17: its record is written, and it is marked once the
record counts as written (R62, R224, R344). -/
def markNext (s : State) (ns zone : Nat) : Option State :=
  let z := zoneOf s ns zone
  match s.commands.entries.find? fun e =>
    (e.2.op = 0x02 || e.2.op = 0x03) && e.2.ns = ns && e.2.zone = zone && e.2.offset = z.written && meetsR17 e.2 with
  | none => none
  | some (q, c) =>
    let s := if c.recNo = 0 then
        let s := journal s (.zone ns zone { z with written := c.offset + c.len })
        setCmd s q { c with phase := .programmed, recNo := s.journalSeq }
      else s
    match s.commands.get q with
    | none => none
    | some c => if durable s c.recNo then some (markWrite s q c) else none

/-- Mark every write that can be marked. -/
def markLoop (ns zone : Nat) : Nat → State → State
  | 0, s => s
  | n + 1, s =>
    match markNext s ns zone with
    | none =>
      -- the record of the next write may have been written and await its acknowledgement
      let z := zoneOf s ns zone
      match s.commands.entries.find? fun e =>
        (e.2.op = 0x02 || e.2.op = 0x03) && e.2.ns = ns && e.2.zone = zone && e.2.offset = z.written && meetsR17 e.2 &&
        e.2.recNo = 0 with
      | none => s
      | some (q, c) =>
        let s := journal s (.zone ns zone { z with written := c.offset + c.len })
        setCmd s q { c with phase := .programmed, recNo := s.journalSeq }
    | some t => markLoop ns zone n t

/-- The unfinished writes of a zone. -/
def markWrites (s : State) (ns zone : Nat) : State :=
  releaseBuffer (markLoop ns zone (s.commands.entries.length + 1) s) ns zone

/-! ## The padding of a finish (R65) -/

/-- A finish whose earlier writes have ended pads the stripe that its zone is filling; with no stripe partly filled there
is nothing to pad. -/
def startPadding (s : State) (ns zone : Nat) : State :=
  let z := zoneOf s ns zone
  match z.hold with
  | none => s
  | some q =>
    match s.commands.get q with
    | none => s
    | some c =>
      let span := spanSectors z.w z.dual
      let part := z.written % span
      let ready := c.arg = 2 && c.phase = .holding && c.count = 0 && (zoneWrites s ns zone).isEmpty && 0 < part &&
        (bufOf s ns zone).refill.isEmpty && ((z.group.map (inSummer s)).getD false)
      if !ready then s
      else if s.crypto.halted then haltCount (complete s q 0xFF 0) (span - part)
      else
        let k := z.written / span
        let s := assignStripe ns zone s k
        let s := openFold ns zone (some part) s k
        let sectors := (List.range (span - part)).map (z.written + ·)
        let s := setCmd s q { c with
          count := 1, jobsLeft := sectors.length, stripesLeft := (stripeOf s ns zone k).toList }
        queueJobs s (sectors.map fun x => ⟨.xtsEncrypt, ns, q, x⟩)

/-! ## Placement (R64, R238) -/

/-- May a write be placed: valid, next in its zone's offset order, its group in Summer, no refill under way? -/
def placeable (s : State) (c : Command) : Bool :=
  let z := zoneOf s c.ns c.zone
  c.phase = .valid && z.placed = c.offset && ((z.group.map (inSummer s)).getD false) &&
  (bufOf s c.ns c.zone).refill.isEmpty

/-- A write is placed: numbers are given to its zone stripes, full ones are folded, and its sectors go to encryption. -/
def placeWrite (s : State) (q : Nat) (c : Command) : State :=
  let z := zoneOf s c.ns c.zone
  let span := spanSectors z.w z.dual
  let stop := c.offset + c.len
  let qs := (List.range (ceilDiv stop span - c.offset / span)).map (c.offset / span + ·)
  let s := setZone s c.ns c.zone { z with placed := stop }
  let s := qs.foldl (assignStripe c.ns c.zone) s
  let fulls := qs.filter fun k => decide ((k + 1) * span ≤ stop)
  let s := fulls.foldl (openFold c.ns c.zone none) s
  let tail := max c.offset (stop / span * span)
  let logs := (List.range (stop - tail)).map (tail + ·)
  let s := setCmd s q { c with
    phase := .placed, jobsLeft := c.len, stripesLeft := fulls.filterMap (stripeOf s c.ns c.zone)
    logLeft := ⟨logs.map fun x => (x, 2)⟩ }
  let s := stamp s c.conn c.cid 5
  queueJobs s ((List.range c.len).map fun i => ⟨.xtsEncrypt, c.ns, q, c.offset + i⟩)

/-- A write whose data is valid is placed where R64 allows it; while CRY is halted its jobs fail, and it fails (R336). -/
def tryPlace (s : State) (n cid : Nat) : State :=
  match findCmd s n cid with
  | none => s
  | some (q, c) =>
    if !placeable s c then s
    else if s.crypto.halted then haltCount (failWrite s q 0xFF) c.len
    else placeWrite s q c

/-- WRITE_PLACE (R64). -/
def execWritePlace (n cid : Nat) (s : State) : Res := onUnit "connection" n 4096 (tryPlace s n cid)

/-- Plaintext of sector k of a write, from its staging windows (R93). -/
def windowSector (s : State) (c : Command) (k : Nat) : List Byte :=
  match c.windows[k / 256]? with
  | none => zeros 4096
  | some i => readBytes (regionOf s i).bytes (k % 256 * 4096) 4096

/-- Every sector of a write is encrypted: log sectors go to log pages, full stripes to parity (R238, R242, R328). -/
def writeEncrypted (s : State) (q : Nat) (c : Command) : State :=
  let s := stamp s c.conn c.cid 6
  let s := c.logLeft.keys.foldl (logSector q) s
  c.stripesLeft.foldl tryParity s

/-- A sector of a write, or of the padding of a finish, is encrypted (R13, R65). -/
def sectorEncrypted (s : State) (q key sector : Nat) : State :=
  match s.commands.get q with
  | none => s
  | some c =>
    let plain := if c.op = 0x08 then zeros 4096 else windowSector s c (sector - c.offset)
    let s := putCipher s c.ns c.zone sector (Config.xtsEncrypt key (xtsTweak s c sector) plain)
    let c := { c with jobsLeft := c.jobsLeft - 1 }
    let s := setCmd s q c
    if c.jobsLeft = 0 then writeEncrypted s q c else s

/-! ## The commit of a stripe (R242, R243, R260) -/

/-- The log codewords of a sector become obsolete: their blocks count them (R243). -/
def obsoleteAt (s : State) (p : Place) : State :=
  match s.modules.get p.slot with
  | none => s
  | some m =>
    let l := m.linear p.addr
    let b := m.block l
    keepBlock s p.slot l { b with obsolete := b.obsolete + 1 }

/-- The log copies of a sector leave the extent map. -/
def dropLog (s : State) (key : Nat) : State :=
  match s.logMap.get key with
  | none => s
  | some ps => ps.foldl obsoleteAt { s with logMap := s.logMap.erase key }

/-- The dirty-region log takes a stripe whose strip at a member is absent (R261). -/
def markDirty (g n slot : Nat) (s : State) : State :=
  match slotMember s g slot with
  | none => s
  | some (mk, y) => if y.dirty.contains n then s else putMember s g mk { y with dirty := n :: y.dirty }

/-- A command no longer waits for a stripe. -/
def stripeDone (key : Nat) (c : Command) : Command := { c with stripesLeft := c.stripesLeft.filter (· ≠ key) }

/-- The stripe commits (R242): the map switches to it, the in-flight entry closes, and the writes it held are marked. -/
def commitStripe (s : State) (key : Nat) (f : Fold) : State :=
  let z := zoneOf s f.ns f.zone
  let span := spanSectors z.w z.dual
  let t : Stripe := { ns := f.ns, zone := f.zone, q := f.q, w := z.w, dual := z.dual, strips := f.places }
  let s := journal { s with stripes := s.stripes.set key t } (.stripe key t)
  let s := (List.range span).foldl (fun s i => dropLog s (logKey f.ns f.zone (f.q * span + i))) s
  let s := journal { s with folds := s.folds.erase key } (.foldClose key)
  let s := addJournalEntry s (keyGroup key) 2 key
  let s := pmcEvent (bump s zsqPage O.ZSQ_FOLD_CNT) zsqPage 0x101 1
  let slots := zoneSlots s f.ns f.zone
  let gone := ((List.range z.w).filter fun m => !f.places.has m).filterMap fun m => slots[m]?
  let s := gone.foldl (fun s slot => markDirty (keyGroup key) (keyStripe key) slot s) s
  let s := { s with commands := s.commands.mapVals fun _ c => stripeDone key c }
  startPadding (markWrites s f.ns f.zone) f.ns f.zone

/-- A fold whose pages have all passed commits. -/
def tryCommit (s : State) (key : Nat) : State :=
  match foldOf s key with
  | none => s
  | some f => if f.released && f.pagesLeft.isEmpty && f.rows.isEmpty then commitStripe s key f else s

/-- A page of a strip has passed. -/
def stripPagePassed (s : State) (key m i : Nat) (a : FlashAddr) (slot : Nat) : State :=
  match foldOf s key with
  | none => s
  | some f =>
    match f.places.get m with
    | none => s
    | some p =>
      if p.slot = slot && p.addr.sameBlock a && p.addr.page + i = a.page then
        tryCommit (setFold s key { f with pagesLeft := f.pagesLeft.filter (· ≠ (m, i)) }) key
      else s

/-- The programs of a member's strip of a stripe that are not yet sent leave the queue of a slot. -/
def unpushStrip (s : State) (slot key m : Nat) : State :=
  let l := s.links.getD slot {}
  let keep (c : LinkCmd) : Bool := match c.why with
    | .strip k j _ => !(k = key && j = m)
    | _ => true
  { s with links := s.links.set slot { l with waiting := l.waiting.filter keep } }

/-- A member's strip of a fold becomes absent (R260). -/
def stripAbsent (s : State) (key m : Nat) : State :=
  match foldOf s key with
  | none => s
  | some f =>
    let s := match f.places.get m with
      | some p => unpushStrip s p.slot key m
      | none => s
    tryCommit (setFold s key { f with
      places := f.places.erase m, pagesLeft := f.pagesLeft.filter fun e => e.1 ≠ m }) key

/-- A strip whose program failed is programmed again in a new block and slot on the same member (R217, R233, R242); on a
member that is OUT it is recorded as absent (R260). -/
def replaceStrip (s : State) (key m : Nat) : State :=
  match foldOf s key with
  | none => s
  | some f =>
    match f.places.get m with
    | none => s
    | some p =>
      let s := unpushStrip s p.slot key m
      match placeStrip s (keyGroup key) (zoneSlots s f.ns f.zone) m (keyStripe key) with
      | (none, s) => stripAbsent s key m
      | (some p', s) =>
        let (seq, s) := takeSeq s (64 * (m + 1))
        let left := (f.pagesLeft.filter fun e => e.1 ≠ m) ++ (stripPagesOf s p').map fun i => (m, i)
        let f := { f with places := f.places.set m p', pagesLeft := left, seqFirst := f.seqFirst }
        pushStrip (setFold s key f) key m p' { f with seqFirst := seq }

/-! ## Log pages: end of their programs -/

/-- Does a log codeword that passes still count: its write waits for it, or, for a copy of an older sector, its zone still
has the sector on that stripe? A codeword of a write that failed (R64), or of a zone since reset, is obsolete. -/
def logCopyLive (s : State) (g : Nat) (c : LogCw) : Bool :=
  match c.write with
  | some q => ((s.commands.get q).map fun d => d.logLeft.has c.sec.sector).getD false
  | none => ((sectorStripe s c.sec.ns c.sec.zone c.sec.sector).map fun e => decide (e.1 = stripeKey g c.stripe)).getD false

/-- A sector's log copy stands on the medium: its write comes nearer to R17. -/
def logCopyPassed (slot g : Nat) (a : FlashAddr) (s : State) (e : Nat × LogCw) : State :=
  let c := e.2
  let key := logKey c.sec.ns c.sec.zone c.sec.sector
  let p : Place := ⟨slot, a, e.1⟩
  if !logCopyLive s g c then obsoleteAt s p
  else
    let ps := (s.logMap.getD key []) ++ [p]
    let s := if s.stripes.has (stripeKey g c.stripe) then obsoleteAt s p
      else journal { s with logMap := s.logMap.set key ps } (.logPlace key ps)
    match c.write with
    | none => s
    | some q =>
      match s.commands.get q with
      | none => s
      | some d =>
        match d.logLeft.get c.sec.sector with
        | none => s
        | some n =>
          if n ≤ 1 then
            pmcEvent (bump (setCmd s q { d with logLeft := d.logLeft.erase c.sec.sector }) zsqPage O.ZSQ_LOG_SECT_CNT)
              zsqPage 0x102 1
          else setCmd s q { d with logLeft := d.logLeft.set c.sec.sector (n - 1) }

/-- The zones of a list of log codewords. -/
def logZones (cws : List LogCw) : List (Nat × Nat) := (cws.map fun c => (c.sec.ns, c.sec.zone)).eraseDups

/-- A log page has programmed with PASS. -/
def logPagePassed (s : State) (g mk num slot : Nat) (a : FlashAddr) : State :=
  match (groupOf s g).bind (·.member mk) with
  | none => s
  | some y =>
    match y.logSent.find? fun p => p.num = num with
    | none => s
    | some p =>
      let s := keepMember s g mk { y with logSent := y.logSent.filter fun r => r.num ≠ num }
      let s := (p.cws.mapIdx fun i c => (i, c)).foldl (logCopyPassed slot g a) s
      (logZones p.cws).foldl (fun s z => startPadding (markWrites s z.1 z.2) z.1 z.2) s

/-- A log page whose program failed, or whose member is gone, is placed again (R239, R240). -/
def replaceLog (s : State) (g mk num : Nat) : State :=
  match groupOf s g with
  | none => s
  | some x =>
    match x.member mk with
    | none => s
    | some y =>
      match y.logSent.find? fun p => p.num = num with
      | none => s
      | some p =>
        let s := keepMember s g mk { y with logSent := y.logSent.filter fun r => r.num ≠ num }
        let slots := x.members.values.map (·.slot)
        let m := (x.members.keys.findIdx? (· = mk)).getD 0
        let again := match logTarget s g slots m p.cws with
          | some slot => programLog s g slot p.cws
          | none => none
        match again with
        | some t => t
        | none =>
          -- no two members qualify: the page waits, open, where it was gathered
          match (groupOf s g).bind (·.member mk) with
          | some y =>
            let open_ := { p with released := false, cws := p.cws ++ ((y.log.map (·.cws)).getD []) }
            keepMember s g mk { y with log := some open_ }
          | none => s

/-! ## Journal pages: end of their programs -/

/-- A stripe's OPEN entry stands on a journal member. -/
def entryPassed (m : Nat) (s : State) (e : Nat × Nat) : State :=
  if e.1 ≠ 1 then s
  else match foldOf s e.2 with
    | none => s
    | some f =>
      if f.journalled.contains m then s else tryRelease (setFold s e.2 { f with journalled := m :: f.journalled }) e.2

/-- The seed of a replacement journal member has programmed: it takes the role, and JRNL_SEED is raised (R247). -/
def seedDone (s : State) (g role m : Nat) : State :=
  match groupOf s g with
  | none => s
  | some x =>
    let x := { x with
      seeding := x.seeding.filter fun e => e.1 ≠ role
      jmem0 := if role = 0 then m else x.jmem0, jmem1 := if role = 1 then m else x.jmem1 }
    let s := journal (setGroup s g x) (.group g (some x))
    tryReleaseGroup (alertAt s zsqPage O.ZSQ_GRP_ALERT 0 4) g

/-- A page of the seed of a member has programmed. -/
def seedPagePassed (s : State) (g m : Nat) : State :=
  match groupOf s g with
  | none => s
  | some x =>
    match x.seeding.find? fun e => e.2.1 = m with
    | none => s
    | some (role, _, left) =>
      if left ≤ 1 then seedDone s g role m
      else setGroup s g { x with seeding := x.seeding.map fun e => if e.1 = role then (role, m, left - 1) else e }

/-- A flash page of a journal page has passed on a member. -/
def journalPagePassed (s : State) (g m num : Nat) : State :=
  match groupOf s g with
  | none => s
  | some x =>
    match x.jrnlSent.find? fun j => j.num = num && j.member = m with
    | none => s
    | some j =>
      if 1 < j.left then
        setGroup s g { x with jrnlSent := x.jrnlSent.map fun k =>
          if k.num = num && k.member = m then { k with left := k.left - 1 } else k }
      else
        let s := setGroup s g { x with jrnlSent := x.jrnlSent.filter fun k => !(k.num = num && k.member = m) }
        seedPagePassed (j.entries.foldl (entryPassed m) s) g m

/-- A journal page is programmed again on its member after a failure (R217). -/
def replaceJournal (s : State) (g m num : Nat) : State :=
  match groupOf s g with
  | none => s
  | some x =>
    match x.jrnlSent.find? fun j => j.num = num && j.member = m with
    | none => s
    | some j =>
      journalTo g num j.entries
        (setGroup s g { x with jrnlSent := x.jrnlSent.filter fun k => !(k.num = num && k.member = m) }) m

/-! ## Failure after placement (R64, R336) -/

/-- A stripe in flight is given up: an ABANDON entry is written, and the map still names the log (R242, Table 9-5). -/
def abandonFold (s : State) (key : Nat) : State :=
  let s := s.links.keys.foldl (fun s slot =>
    let l := s.links.getD slot {}
    let keep (c : LinkCmd) : Bool := match c.why with
      | .strip k _ _ => k ≠ key
      | _ => true
    { s with links := s.links.set slot { l with waiting := l.waiting.filter keep } }) s
  let s := journal { s with folds := s.folds.erase key, pqeQueue := s.pqeQueue.filter (· ≠ .parity key) } (.foldAbandon key)
  addJournalEntry (bump s zsqPage O.ZSQ_ABANDON_CNT) (keyGroup key) 3 key

/-- The first sector of a fold's stripe that is not complete through the interim log (R242). -/
def foldUnreleased (s : State) (f : Fold) : Nat :=
  let z := zoneOf s f.ns f.zone
  let span := spanSectors z.w z.dual
  let base := f.q * span
  let n := ((List.range span).find? fun i => (s.logMap.getD (logKey f.ns f.zone (base + i)) []).length < 2).getD 0
  base + n

/-- The sectors of a zone that stand in open log pages. -/
def gatheredSectors (s : State) (ns zone : Nat) : List Nat :=
  s.groups.values.flatMap fun x => x.members.values.flatMap fun y =>
    match y.log with
    | none => []
    | some p => (p.cws.filter fun c => c.sec.ns = ns && c.sec.zone = zone).map (·.sec.sector)

/-- The placed writes of a zone that have not ended, with their offsets and ends. -/
def placedWrites (s : State) (ns zone : Nat) : List (Nat × Command) :=
  s.commands.entries.filter fun e =>
    (e.2.op = 0x02 || e.2.op = 0x03) && e.2.ns = ns && e.2.zone = zone &&
    (e.2.phase = .placed || e.2.phase = .programmed)

/-- The sectors of a zone from which on nothing has been released: of writes under encryption, of open log pages, and of
stripes whose programs are not released. -/
def unreleasedSectors (s : State) (ns zone : Nat) : List Nat :=
  (((placedWrites s ns zone).filter fun e => e.2.jobsLeft ≠ 0).map fun e => e.2.offset) ++
  gatheredSectors s ns zone ++
  ((s.folds.values.filter fun f => f.ns = ns && f.zone = zone && !f.released).map (foldUnreleased s))

/-- A placed write fails: the mark of R69 is set for its connection, and it completes with INTERNAL. -/
def failPlacedWrite (s : State) (q : Nat) : State :=
  match s.commands.get q with
  | none => s
  | some c => complete (revokeWindows (setMark s c.ns c.zone c.conn) q) q 0xFF 0

/-- An open log page without the codewords of a zone from a sector on; none where nothing is left. -/
def LogPage.trim (ns zone bound : Nat) (p : LogPage) : Option LogPage :=
  let cws := p.cws.filter fun c => !(c.sec.ns = ns && c.sec.zone = zone && bound ≤ c.sec.sector)
  if cws.isEmpty then none else some { p with cws := cws }

/-- The log copies of a zone's sectors from `bound` on leave the extent map. -/
def dropLogsFrom (s : State) (ns zone bound : Nat) : State :=
  (s.logMap.keys.filter fun k => decide (logKey ns zone bound ≤ k ∧ k < logKey ns (zone + 1) 0)).foldl dropLog s

/-- The open log pages lose the codewords of a zone from a sector on. -/
def trimLogs (s : State) (ns zone bound : Nat) : State :=
  let trim (y : Member) : Member := { y with log := y.log.bind (LogPage.trim ns zone bound) }
  { s with groups := s.groups.mapVals fun _ x => { x with members := x.members.mapVals fun _ y => trim y } }

/-- Placed writes of a zone fail (R64): `bad` are the sectors that gave the cause. Everything from the first unreleased
sector on fails, the accepted pointer returns, and the unplaced writes fail with ZONE_PTR_MISMATCH. -/
def failZone (s : State) (ns zone : Nat) (bad : List Nat) : State :=
  match bad ++ unreleasedSectors s ns zone with
  | [] => s
  | u :: us =>
    let first := us.foldl min u
    let hit := (placedWrites s ns zone).filter fun e => decide (first < e.2.offset + e.2.len)
    match hit with
    | [] => s
    | h :: hs =>
      let bound := (hs.map fun e => e.2.offset).foldl min h.2.offset
      let late := (s.commands.filter fun _ d => d.ns = ns && d.zone = zone && unplaced d).keys
      let z := zoneOf s ns zone
      let span := spanSectors z.w z.dual
      let k := bound / span
      let kept := match (stripeOf s ns zone k).bind (foldOf s) with
        | some f => f.buf
        | none => if (bufOf s ns zone).q = k then (bufOf s ns zone).sectors else .empty
      let s := setZone s ns zone { z with accepted := bound, placed := bound }
      let folds := (s.folds.filter fun _ f =>
        f.ns = ns && f.zone = zone && decide (bound < (f.q + 1) * span)).keys
      let s := folds.foldl abandonFold s
      let s := dropLogsFrom (trimLogs s ns zone bound) ns zone bound
      let s := setBuf s ns zone { q := k, sectors := kept.filter fun i _ => decide (i < bound % span) }
      let s := (dropJobs s fun j => (hit.map (·.1)).contains j.cmd).2
      let s := (hit.map (·.1)).foldl failPlacedWrite s
      let s := late.foldl (endWrite 0x03) s
      releaseBuffer s ns zone

/-- A finish whose padding failed ends with INTERNAL. -/
def failPadding (s : State) (q : Nat) : State :=
  match s.commands.get q with
  | none => s
  | some c => if c.op = 0x08 then complete (c.stripesLeft.foldl abandonFold s) q 0xFF 0 else s

/-- A strip program ends with ADDR_INVALID or OPCODE_INVALID: the stripe is abandoned (R242). -/
def abandonStripe (s : State) (key : Nat) : State :=
  match foldOf s key with
  | none => s
  | some f =>
    let u := foldUnreleased s f
    let ends := cmdsWhere s fun c => c.op = 0x08 && c.stripesLeft.contains key
    let s := failZone (abandonFold s key) f.ns f.zone [u]
    ends.foldl failPadding s

/-! ## Timed releases -/

/-- LOG_PAGE_FLUSH (R240): FLUSH_US after the first codeword of a member's open log page, the page is released. -/
def logPageFlush (s : State) (g mk : Nat) : State :=
  match (groupOf s g).bind (·.member mk) with
  | none => s
  | some y =>
    match y.log with
    | none => s
    | some p => releaseLog (clockTo s (p.firstAt + regField s zsqPage O.ZSQ_LOG_CFG 0 16 * ticksUs)) g mk

/-- LOG_PAGE_FLUSH (R240). -/
def execLogPageFlush (g mk : Nat) (s : State) : Res := onUnit "group" g 12 (logPageFlush s g mk)

/-- JOURNAL_PAGE_FLUSH (R245): BATCH_US after the first entry of the open journal page, the page is released. -/
def journalPageFlush (s : State) (g : Nat) : State :=
  match groupOf s g with
  | none => s
  | some x =>
    if x.jrnlPage.isEmpty then s
    else releaseJournal (clockTo s (x.jrnlAt + regField s zsqPage O.ZSQ_JRNL_CFG 0 7 * ticksUs)) g

/-- JOURNAL_PAGE_FLUSH (R245). -/
def execJournalPageFlush (g : Nat) (s : State) : Res := onUnit "group" g 12 (journalPageFlush s g)

end Sys2Proof.Machine
end

