-- ==== Sys2Proof/Machine/Reads.lean ====
section
/-! DEFINITION. The read path: lookup of sectors (R11, R20, R21, R66), page reads, decoding and the retry ladder (R19, R199,
R211 to R216), reconstruction of rows (R236, R258, R259, R272), refill of stripe buffers (R241), decryption and sealing
(R13, R97, R102, R328), and the delivery of data (R100). -/
namespace Sys2Proof.Machine


/-! ## Delivery (R100 to R102) -/

/-- The data of a command goes to the host by RDMA WRITE, after it the seal tags (R100, R102). -/
def sendPayload (s : State) (q : Nat) : State :=
  match s.commands.get q with
  | none => s
  | some c =>
    let k := connOf s c.conn
    let s := setCmd s q { c with phase := .delivering }
    let s := emit (stamp s c.conn c.cid 7) (.rdmaWrite c.conn c.cid c.bufKey.toNat c.bufAddr c.payload)
    let s := issue s c.conn .write (some q) c.payload.length
    if c.tags.entries.isEmpty then s
    else
      let tags := c.tags.values.flatten
      issue (emit s (.rdmaWrite c.conn c.cid k.htagKey.toNat (k.htagAddr + 16 * c.sealIdx) tags)) c.conn .write (some q)
        tags.length

/-- The data of a command is complete: the payload of a READ is sealed chunk by chunk on a sealed connection (R97, R102). -/
def deliver (s : State) (q : Nat) (data : List Byte) : State :=
  match s.commands.get q with
  | none => s
  | some c =>
    let c := { c with payload := data }
    if c.op = 0x01 && (connOf s c.conn).sealed then
      let n := ceilDiv data.length 65536
      queueJobs (setCmd s q { c with phase := .sealing, jobsLeft := n })
        ((List.range n).map fun k => ⟨.gcmSeal, c.conn, q, k⟩)
    else sendPayload (setCmd s q c) q

/-- Is a READ still fetching its sectors? -/
def Command.fetching (c : Command) : Bool := c.op = 0x01 && (c.phase = .reading || c.phase = .memberWait)

/-- The bytes of a READ: decrypted sectors, and zeros for those without data (R66, R100). -/
def readPayload (c : Command) : List Byte :=
  (List.range c.len).flatMap fun i =>
    match c.got.get (c.offset + i) with
    | some (some b) => padTo 4096 b
    | _ => zeros 4096

/-- A READ whose sectors are all there is delivered. -/
def finishRead (s : State) (q : Nat) : State :=
  match s.commands.get q with
  | none => s
  | some c =>
    if !c.fetching || !c.want.isEmpty then s
    else
      let s := stamp s c.conn c.cid 4
      if c.jobsLeft ≠ 0 then s else deliver (stamp s c.conn c.cid 6) q (readPayload c)

/-! ## Where codewords lie -/

/-- Does a slot of a group serve host reads (Table 10-1)? -/
def slotServes (s : State) (g slot : Nat) : Bool :=
  linkActive s slot &&
  ((slotMember s g slot).map fun e => !e.2.st.inactive && decide (e.2.st ≠ .resync)).getD false

/-- Can the codewords that a slot of a group holds be read at all? -/
def slotPresent (s : State) (g slot : Nat) : Bool :=
  linkActive s slot && ((slotMember s g slot).map fun e => !e.2.st.inactive).getD false

/-- Is the member of a slot OUT (R259)? -/
def slotOut (s : State) (g slot : Nat) : Bool := ((slotMember s g slot).map fun e => decide (e.2.st = .out)).getD false

/-- Page and codeword of row `row` of a strip. -/
def rowAt (s : State) (p : Place) (row : Nat) : FlashAddr × Nat :=
  let n := (moduleOr s p.slot).pageCws
  ({ p.addr with page := p.addr.page + row / n }, row % n)

/-- A page read that waits takes a further codeword. -/
def joinRead (op set : Nat) (a : FlashAddr) (x : Nat × Need) (c : LinkCmd) : LinkCmd :=
  if c.op = op && c.addr = a && c.arg = set && c.why = .read && !c.cws.contains x then { c with cws := c.cws ++ [x] } else c

/-- A codeword is to be read, with a read-level set: it joins a read of its page that waits, or a new one (R208). -/
def addRead (s : State) (slot op set : Nat) (a : FlashAddr) (x : Nat × Need) : State :=
  let l := s.links.getD slot {}
  if l.waiting.any fun c => c.op = op && c.addr = a && c.arg = set && c.why = .read then
    { s with links := s.links.set slot { l with waiting := l.waiting.map (joinRead op set a x) } }
  else pushCmd s slot { op := op, addr := a, arg := set, why := .read, cws := [x] }

/-- Is something under way for a need? -/
def needPending (s : State) (x : Need) : Bool :=
  (s.links.values.any fun l =>
    l.waiting.any (fun c => c.cws.any fun e => e.2 = x) || l.tags.values.any (fun c => c.cws.any fun e => e.2 = x)) ||
  s.decodes.any (fun d => d.need = x) || s.climbs.any (fun c => c.cws.any fun e => e.2.1 = x) ||
  s.rowJobs.values.any fun r => r.need = x

/-! ## What becomes of a need -/

/-- Sectors of a stripe buffer's refill are all there: what waited for it may go on. -/
def refillSector (s : State) (k sector : Nat) (data : List Byte) : State :=
  match s.buffers.get k with
  | none => s
  | some b =>
    if !b.refill.contains sector then s
    else
      let z := zoneOf s (keyNs k) (keyZone k)
      let b := { b with
        refill := b.refill.filter (· ≠ sector), sectors := b.sectors.set (sector % spanSectors z.w z.dual) data }
      startPadding { s with buffers := s.buffers.set k b } (keyNs k) (keyZone k)

/-- The ciphertext of a sector goes to decryption, or to the buffer that it refills; a second result is discarded (R258). -/
def giveSector (s : State) (x : Need) (data : List Byte) : State :=
  match x with
  | .host q sector =>
    match s.commands.get q with
    | none => s
    | some c =>
      if !c.fetching || !c.want.contains sector then s
      else if s.crypto.halted then haltCount (complete s q 0xFF 0) 1
      else
        let s := setCmd (stamp s c.conn c.cid 5) q { c with
          want := c.want.filter (· ≠ sector), got := c.got.set sector (some data), jobsLeft := c.jobsLeft + 1 }
        finishRead (queueJobs s [⟨.xtsDecrypt, c.ns, q, sector⟩]) q
  | .refill k sector => refillSector s k sector data
  | .row _ _ => s

/-- A sector is lost to the need (R66, R67, R241). -/
def needLost (s : State) (x : Need) : State :=
  match x with
  | .host q sector =>
    match s.commands.get q with
    | none => s
    | some c =>
      if !c.fetching || !c.want.contains sector then s
      else
        let first := match c.lostAt with
          | some k => min k sector
          | none => sector
        finishRead (setCmd s q { c with
          want := c.want.filter (· ≠ sector), got := c.got.set sector none, lostAt := some first }) q
  | .refill k sector => refillSector s k sector (zeros 4096)
  | .row _ _ => s

/-- The need waits for an OUT member (R259). -/
def needWaits (s : State) (x : Need) : State :=
  match x with
  | .host q _ =>
    match s.commands.get q with
    | none => s
    | some c => if c.fetching then setCmd s q { c with phase := .memberWait } else s
  | .refill _ _ | .row _ _ => s

/-! ## Reconstruction of a row (R236, R258, R259, R272) -/

/-- The members whose codewords recover the target of a row by Table 9-3, where `ok` tells which are present; none where
the row is beyond the parity. P is read before Q. -/
def rowInputs (t : Stripe) (n : Nat) (ok : Nat → Bool) (target : Nat) : Option (List Nat) :=
  let d := dataStrips t.w t.dual
  let datas := ((List.range d).map (dataMember t.w t.dual n)).filter fun m => m ≠ target && ok m
  let p := pMember t.w n
  let q := qMember t.w n
  let pOk := p ≠ target && ok p
  let qOk := t.dual && q ≠ target && ok q
  match d - datas.length with
  | 0 => some datas
  | 1 => if pOk then some (datas ++ [p]) else if qOk then some (datas ++ [q]) else none
  | 2 => if pOk && qOk then some (datas ++ [p, q]) else none
  | _ => none

/-- Is member m's codeword of a row job present? -/
def rowMemberOk (s : State) (r : RowJob) (m : Nat) : Bool :=
  !r.bad.contains m && (r.inputs.has m ||
    ((r.map.strips.get m).map fun p => slotPresent s (keyGroup r.stripe) p.slot).getD false)

/-- The same with OUT members counted as present. -/
def rowMemberLater (s : State) (r : RowJob) (m : Nat) : Bool :=
  rowMemberOk s r m || (!r.bad.contains m &&
    ((r.map.strips.get m).map fun p => slotOut s (keyGroup r.stripe) p.slot).getD false)

/-- A row is lost (R272): its data sectors on missing strips enter the loss log. Sectors from the fill point on hold no
host data (R65) and are no losses. -/
def loseRow (s : State) (key : Nat) (t : Stripe) (row cause : Nat) (gone : Nat → Bool) : State :=
  let n := keyStripe key
  let ds := (List.range (dataStrips t.w t.dual)).filter fun d => gone (dataMember t.w t.dual n d)
  let fill := (zoneOf s t.ns t.zone).fill
  let sectors := (ds.map fun d => t.sectorAt d row).filter fun x => (fill.map fun f => decide (x < f)).getD true
  sectors.foldl (loseSector t.ns t.zone cause) s

/-- The lowest-numbered enabled PQE instance counts a row beyond the parity. -/
def rowBeyond (s : State) : State :=
  let i := ((List.range 4).find? fun i => isEnabled s (pqePage i)).getD 0
  alert (bump s (pqePage i) O.PQE_UNREC_CNT) (pqePage i) O.PQE_ALERT 1

/-- A row job leaves. -/
def dropRow (s : State) (j : Nat) : State := { s with rowJobs := s.rowJobs.erase j }

/-- The codeword of a row job's member is to be read. -/
def readRowMember (j : Nat) (r : RowJob) (s : State) (m : Nat) : State :=
  match r.map.strips.get m with
  | none => s
  | some p =>
    let (a, i) := rowAt s p r.row
    addRead s p.slot 1 0 a (i, .row j m)

/-- A row job goes on: what is still needed is read; with all of it there, PQE takes the job (R19). A row that lacks too
much waits for OUT members (R259), or is lost (R272). -/
def runRow (s : State) (j : Nat) : State :=
  match s.rowJobs.get j with
  | none => s
  | some r =>
    let n := keyStripe r.stripe
    match rowInputs r.map n (rowMemberOk s r) r.target with
    | some ms =>
      let want := ms.filter fun m => !r.inputs.has m
      if want.isEmpty then queuePqe { s with rowJobs := s.rowJobs.set j { r with awaiting := [] } } (.reconstruct j)
      else
        let s := { s with rowJobs := s.rowJobs.set j { r with awaiting := want } }
        (want.filter fun m => !r.awaiting.contains m).foldl (readRowMember j r) s
    | none =>
      let s := dropRow s j
      if (rowInputs r.map n (rowMemberLater s r) r.target).isSome then needWaits s r.need
      else
        let s := rowBeyond s
        let live := decide ((s.stripes.get r.stripe).map (fun t => (t.ns, t.zone, t.q)) = some (r.map.ns, r.map.zone, r.map.q))
        let s := if live then
            loseRow s r.stripe r.map r.row (if r.bad.isEmpty then 1 else 2)
              fun m => m = r.target || !rowMemberOk s r m
          else s
        needLost s r.need

/-- A sector is reconstructed from its row (R236, R258). -/
def startRow (s : State) (key : Nat) (t : Stripe) (row target : Nat) (bad : List Nat) (x : Need) : State :=
  let j := s.rowSeq
  let s := match x with
    | .host q _ => match s.commands.get q with
      | some c => traceFlag s c.conn c.cid 3
      | none => s
    | _ => s
  runRow { s with
    rowSeq := j + 1
    rowJobs := s.rowJobs.set j { stripe := key, map := t, row := row, target := target, need := x, bad := bad } } j

/-! ## Lookup (R11, R20, R21, R66) -/

/-- Ciphertext of a sector is fetched from the place that the extent map names: a log copy, or the stripe (R21, R258). -/
def fetchSector (s : State) (ns zone sector : Nat) (x : Need) : State :=
  let z := zoneOf s ns zone
  match z.group with
  | none => s
  | some g =>
    match s.logMap.get (logKey ns zone sector) with
    | some ps =>
      let pick := (ps.find? fun p => slotServes s g p.slot).or (ps.find? fun p => slotPresent s g p.slot)
      match pick with
      | some p => addRead s p.slot 1 0 p.addr (p.cw, x)
      | none =>
        if ps.any fun p => slotOut s g p.slot then needWaits s x
        else needLost (loseLogSector s ns zone sector) x
    | none =>
      match sectorStripe s ns zone sector with
      | none => needLost (loseLogSector s ns zone sector) x
      | some (key, at_) =>
        match s.stripes.get key with
        | none => needLost (loseLogSector s ns zone sector) x
        | some t =>
          let m := dataMember t.w t.dual (keyStripe key) (at_ / 64)
          match t.strips.get m with
          | none => startRow s key t (sector % 64) m [] x
          | some p =>
            if slotServes s g p.slot then
              let (a, i) := rowAt s p (sector % 64)
              addRead s p.slot 1 0 a (i, x)
            else startRow s key t (sector % 64) m [] x

/-- What a READ delivers for a sector without looking at the medium (R66): zeros, lost or not, or nothing. -/
inductive SectorCase | zeros | lost | data
  deriving DecidableEq, Repr

/-- The cases of R66 in their order. -/
def sectorCase (z : Zone) (i : Nat) : SectorCase :=
  if z.group.isNone then .zeros
  else if z.lost.contains i then .lost
  else if (z.fill.map fun f => decide (f ≤ i)).getD false then .zeros
  else if i < z.written then .data
  else .zeros

/-- A READ makes its lookup (R20) and its page reads are issued. -/
def startRead (s : State) (q : Nat) : State :=
  match s.commands.get q with
  | none => s
  | some c =>
    let z := zoneOf s c.ns c.zone
    let sectors := (List.range c.len).map (c.offset + ·)
    let lost := sectors.filter fun i => sectorCase z i = .lost
    let want := sectors.filter fun i => sectorCase z i = .data
    let c := { c with
      phase := .reading, want := want, lostAt := lost.head?
      zeroed := sectors.any fun i => sectorCase z i = .zeros }
    let s := stamp (setCmd s q c) c.conn c.cid 2
    let s := want.foldl (fun s i => fetchSector s c.ns c.zone i (.host q i)) s
    finishRead s q

/-- The refill of an open zone's buffer is issued, once its group is in Summer (R241). -/
def startRefill (s : State) (k : Nat) : State :=
  match s.buffers.get k with
  | none => s
  | some b =>
    let z := zoneOf s (keyNs k) (keyZone k)
    if !((z.group.map (inSummer s)).getD false) then s
    else (b.refill.filter fun i => !needPending s (.refill k i)).foldl
      (fun s i => fetchSector s (keyNs k) (keyZone k) i (.refill k i)) s

/-- Commands and refills that wait for a member are looked at again (R259). -/
def resumeWaits (s : State) : State :=
  let qs := cmdsWhere s fun c => c.phase = .memberWait
  let s := qs.foldl (fun s q =>
    match s.commands.get q with
    | none => s
    | some c =>
      let s := setCmd s q { c with phase := .reading }
      let s := (c.want.filter fun i => !needPending s (.host q i)).foldl
        (fun s i => fetchSector s c.ns c.zone i (.host q i)) s
      finishRead s q) s
  (s.buffers.keys.filter fun k => ((s.buffers.get k).map fun b => !b.refill.isEmpty).getD false).foldl startRefill s

/-! ## Unreadable codewords (R212, R216) -/

/-- A block becomes SUSPECT and is to be relocated (R216). -/
def suspectBlock (s : State) (slot : Nat) (a : FlashAddr) : State :=
  match s.modules.get slot with
  | none => s
  | some m =>
    let l := m.linear a
    let b := m.block l
    if b.st = .retired then s else setBlock s slot l { b with st := .suspect, refreshDue := true }

/-- A decode that took retries adds to its block's score (R215). -/
def addScore (s : State) (slot : Nat) (a : FlashAddr) (k : Nat) : State :=
  match s.modules.get slot with
  | none => s
  | some m =>
    let l := m.linear a
    let b := m.block l
    let score := min 255 (b.score + k)
    let due := decide (regField s (mlxPage 0) O.MLX_REFRESH_CFG 8 8 ≤ score)
    setBlock s slot l { b with score := score, refreshDue := b.refreshDue || due }

/-- A log copy that cannot be read leaves the extent map. -/
def dropLogPlace (s : State) (key slot : Nat) (a : FlashAddr) (cw : Nat) : State :=
  match s.logMap.get key with
  | none => s
  | some ps =>
    let left := ps.filter fun p => !(p.slot = slot && p.addr = a && p.cw = cw)
    if left.length = ps.length then s else journal { s with logMap := s.logMap.set key left } (.logPlace key left)

/-- A sector's codeword at a place was unreadable: the other copy, or the row, gives it (R212, R241, R258). -/
def sectorUnreadable (s : State) (ns zone sector slot : Nat) (a : FlashAddr) (cw : Nat) (x : Need) : State :=
  let key := logKey ns zone sector
  if s.logMap.has key then fetchSector (dropLogPlace s key slot a cw) ns zone sector x
  else
    match (sectorStripe s ns zone sector).bind fun e => (s.stripes.get e.1).map fun t => (e.1, e.2, t) with
    | none => fetchSector s ns zone sector x
    | some (k, at_, t) =>
      let m := dataMember t.w t.dual (keyStripe k) (at_ / 64)
      match t.strips.get m with
      | some p =>
        if p.slot = slot && rowAt s p (sector % 64) = (a, cw) then startRow s k t (sector % 64) m [m] x
        else fetchSector s ns zone sector x
      | none => startRow s k t (sector % 64) m [] x

/-- A codeword is unreadable: what becomes of the need behind it (R212, R236). -/
def needUnreadable (s : State) (slot : Nat) (a : FlashAddr) (cw : Nat) (x : Need) : State :=
  match x with
  | .host q sector =>
    match s.commands.get q with
    | none => s
    | some c => if c.fetching && c.want.contains sector then sectorUnreadable s c.ns c.zone sector slot a cw x else s
  | .refill k sector =>
    if ((s.buffers.get k).map fun b => b.refill.contains sector).getD false then
      sectorUnreadable s (keyNs k) (keyZone k) sector slot a cw x
    else s
  | .row j m =>
    match s.rowJobs.get j with
    | none => s
    | some r =>
      runRow { s with rowJobs := s.rowJobs.set j { r with
        bad := m :: r.bad, awaiting := r.awaiting.filter (· ≠ m) } } j

/-- A codeword is unreadable (R212, R216). -/
def unreadable (s : State) (slot : Nat) (a : FlashAddr) (cw : Nat) (x : Need) : State :=
  let s := bump s (mlxPage (slot / 8)) (O.MLX_STEP_CNT + 4 * 9)
  needUnreadable (suspectBlock s slot a) slot a cw x

/-! ## The ladder (R211, R212) -/

/-- Is the outcome of a climb's present step still awaited? -/
def climbBusy (s : State) (c : Climb) : Bool :=
  let l := s.links.getD c.slot {}
  let mine (k : LinkCmd) : Bool := k.addr = c.addr && k.why = .read &&
    (if c.step = 9 then k.op = 2 else k.op = 1 && k.arg = c.step)
  l.waiting.any mine || l.tags.values.any mine ||
  s.decodes.any fun d => d.slot = c.slot && d.addr = c.addr && d.step = c.step

/-- The state with a climb replaced. -/
def putClimb (s : State) (c : Climb) : State :=
  { s with climbs := s.climbs.map fun d => if d.slot = c.slot && d.addr = c.addr then c else d }

/-- The climb of a page. -/
def climbOf (s : State) (slot : Nat) (a : FlashAddr) : Option Climb := s.climbs.find? fun c => c.slot = slot && c.addr = a

/-- A ladder step begins: the page is read with its level set (R211). -/
def ladderStep (s : State) (c : Climb) (k : Nat) : State :=
  let c := { c with step := k }
  let s := pmcEvent (putClimb s c) (mlxPage (c.slot / 8)) 0x103 1
  c.cws.foldl (fun s e => addRead s c.slot 1 k c.addr (e.1, e.2.1)) s

/-- Soft decode begins: each codeword is read with the level set of its best step, set 0 where it has none (R212). -/
def softStep (s : State) (c : Climb) : State :=
  let c := { c with step := 9 }
  c.cws.foldl (fun s e => addRead s c.slot 2 ((e.2.2.map (·.2)).getD 0) c.addr (e.1, e.2.1)) (putClimb s c)

/-- A climb goes to its next step, to soft decode, or ends with its codewords unreadable (R211, R212). -/
def nextStep (s : State) (c : Climb) : State :=
  let cfg := regOf s (mlxPage (c.slot / 8)) O.MLX_LADDER
  if c.step < field cfg 0 4 then ladderStep s c (c.step + 1)
  else if bit cfg 8 && c.step ≠ 9 then softStep s c
  else
    c.cws.foldl (fun s e => unreadable s c.slot c.addr e.1 e.2.1)
      { s with climbs := s.climbs.filter fun d => !(d.slot = c.slot && d.addr = c.addr) }

/-- A climb without codewords ends; one whose step has been decided goes on (R211, R212). -/
def settleClimb (s : State) (slot : Nat) (a : FlashAddr) : State :=
  match climbOf s slot a with
  | none => s
  | some c =>
    if c.cws.isEmpty then { s with climbs := s.climbs.filter fun d => !(d.slot = slot && d.addr = a) }
    else if climbBusy s c then s
    else nextStep s c

/-- A codeword's place in the climb of its page, with its best candidate: fewest unsatisfied checks, at a tie the lower
step (R212). -/
def bestOf (old : Option (Nat × Nat)) (fresh : Option (Nat × Nat)) : Option (Nat × Nat) :=
  match old, fresh with
  | some a, some b => if b.1 < a.1 then some b else some a
  | some a, none => some a
  | none, b => b

/-- A codeword failed at a step: its climb starts, or goes on; `cand` is the candidate that the decode gave (R211, R212). -/
def stepFailed (s : State) (slot : Nat) (a : FlashAddr) (cw step tag : Nat) (x : Need) (cand : Option (Nat × Nat)) : State :=
  match climbOf s slot a with
  | none =>
    let c : Climb := ⟨slot, a, 0, [(cw, x, cand)]⟩
    nextStep { s with climbs := s.climbs ++ [c] } c
  | some c =>
    if c.cws.any fun e => e.1 = cw && e.2.1 = x then
      let cws := c.cws.map fun e => if e.1 = cw && e.2.1 = x then (e.1, e.2.1, bestOf e.2.2 cand) else e
      settleClimb (putClimb s { c with cws := cws }) slot a
    else
      -- the codeword joins the climb at its current step
      let s := putClimb s { c with cws := c.cws ++ [(cw, x, cand)] }
      if c.step = 0 then s
      else if c.step = 9 then addRead s slot 2 ((cand.map (·.2)).getD 0) a (cw, x)
      else
        let l := s.links.getD slot {}
        let mine (k : LinkCmd) : Bool := k.op = 1 && k.addr = a && k.arg = c.step && k.why = .read
        if l.waiting.any mine || l.tags.values.any mine then
          let join (k : LinkCmd) : LinkCmd := if mine k then { k with cws := k.cws ++ [(cw, x)] } else k
          { s with links := s.links.set slot { l with
              waiting := l.waiting.map join, tags := l.tags.mapVals fun _ k => join k } }
        else if step = c.step then settleClimb s slot a
        else { s with decodes := s.decodes ++ [⟨slot, tag, cw, a, c.step, x⟩] }

/-- A read that gave no decode fails for each of its codewords at its step; a soft read leaves them unreadable (R212,
Table 8-7). -/
def readFailed (s : State) (slot tag : Nat) (c : LinkCmd) : State :=
  c.cws.foldl (fun s e =>
    if c.op = 2 then
      let s := match climbOf s slot c.addr with
        | some k => putClimb s { k with cws := k.cws.filter fun y => !(y.1 = e.1 && y.2.1 = e.2) }
        | none => s
      settleClimb (unreadable s slot c.addr e.1 e.2) slot c.addr
    else stepFailed s slot c.addr e.1 c.arg tag e.2 none) s

/-- A read whose reissue timed out as well leaves every codeword of the page unreadable (R210). -/
def readLost (s : State) (slot : Nat) (c : LinkCmd) : State :=
  let s := match climbOf s slot c.addr with
    | some k => putClimb s { k with cws := k.cws.filter fun y => !c.cws.contains (y.1, y.2.1) }
    | none => s
  settleClimb (c.cws.foldl (fun s e => unreadable s slot c.addr e.1 e.2) s) slot c.addr

/-- A read has ended with PASS: its codewords wait for an ECC engine (R19, R211). -/
def readPassed (s : State) (slot tag : Nat) (c : LinkCmd) : State :=
  let step := if c.op = 2 then 9 else c.arg
  { s with decodes := s.decodes ++ c.cws.map fun e => ⟨slot, tag, e.1, c.addr, step, e.2⟩ }

/-! ## CODEWORD_DECODE -/

/-- A decoded codeword's ciphertext is passed on (R213). -/
def giveCodeword (s : State) (x : Need) (data : List Byte) : State :=
  match x with
  | .row j m =>
    match s.rowJobs.get j with
    | none => s
    | some r =>
      if !r.awaiting.contains m then s
      else runRow { s with rowJobs := s.rowJobs.set j { r with
        awaiting := r.awaiting.filter (· ≠ m), inputs := r.inputs.set m data } } j
  | _ => giveSector s x data

/-- A codeword decodes (R211, R215). -/
def decodePassed (s : State) (j : DecodeJob) (data : List Byte) : State :=
  let s := if j.step = 0 then s
    else
      let s := bump s (mlxPage (j.slot / 8)) (O.MLX_STEP_CNT + 4 * (j.step - 1))
      let s := match j.need with
        | .host q _ => match s.commands.get q with
          | some c => traceFlag s c.conn c.cid 4
          | none => s
        | _ => s
      addScore s j.slot j.addr (if j.step = 9 then 16 else j.step)
  let s := match climbOf s j.slot j.addr with
    | some c => putClimb s { c with cws := c.cws.filter fun e => !(e.1 = j.index && e.2.1 = j.need) }
    | none => s
  settleClimb (giveCodeword s j.need data) j.slot j.addr

/-- A codeword fails a decode at its step (R199, R211, R212). -/
def decodeFailed (s : State) (e : Nat) (j : DecodeJob) (checks : Nat) : State :=
  if j.step = 9 then
    let s := alert (bump s (eccPage e) O.ECC_SOFT_FAIL_CNT) (eccPage e) O.ECC_ALERT 0
    let s := match climbOf s j.slot j.addr with
      | some c => putClimb s { c with cws := c.cws.filter fun y => !(y.1 = j.index && y.2.1 = j.need) }
      | none => s
    settleClimb (unreadable s j.slot j.addr j.index j.need) j.slot j.addr
  else
    let s := pmcEvent (bump s (eccPage e) O.ECC_HARD_FAIL_CNT) (eccPage e) 0x101 1
    let cfg := regOf s (mlxPage (j.slot / 8)) O.MLX_LADDER
    let s := if field cfg 0 4 ≤ j.step && !bit cfg 8 then alert s (eccPage e) O.ECC_ALERT 0 else s
    stepFailed s j.slot j.addr j.index j.step j.tag j.need (some (checks, j.step))

/-- The decode of a codeword ends. -/
def codewordDecode (s : State) (slot tag index : Nat) (r : DecodeResult) : State :=
  match s.decodes.find? fun d => d.slot = slot && d.tag = tag && d.index = index, eccFor s (slot / 8) with
  | some j, some e =>
    let s := { s with decodes := s.decodes.erase j }
    let s := pmcEvent (bump s (eccPage e) O.ECC_CW_CNT) (eccPage e) 0x100 1
    match r with
    | .good data crcOk bits =>
      let s := bumpBy s (eccPage e) O.ECC_BITS_CNT bits
      if crcOk then
        let s := if j.step = 9 then bump s (eccPage e) O.ECC_SOFT_OK_CNT else s
        decodePassed s j (padTo 4096 data)
      else
        decodeFailed (alert (bump s (eccPage e) O.ECC_MISCORR_CNT) (eccPage e) O.ECC_ALERT 1) e j 0
    | .bad checks => decodeFailed s e j checks
  | _, _ => s

/-- CODEWORD_DECODE (R199, R211 to R216). -/
def execCodewordDecode (slot tag index : Nat) (r : DecodeResult) (s : State) : Res :=
  onUnit "slot" slot 48 (codewordDecode s slot tag index r)

/-! ## PQE_JOB_DONE (R234 to R237) -/

/-- A PQE instance has worked through bytes of input (PQE_MIB_CNT, Table 17-2). -/
def pqeWorked (s : State) (i n : Nat) : State :=
  let b := s.pqeBytes.getD i 0 + n
  let s := { s with pqeBytes := s.pqeBytes.set i (b % 2 ^ 20) }
  bumpBy (pmcEvent (pmcEvent s (pqePage i) 0x100 1) (pqePage i) 0x101 (n / 64)) (pqePage i) O.PQE_MIB_CNT (b / 2 ^ 20)

/-- The parity of a stripe is there (R234, R242). -/
def parityDone (s : State) (i key : Nat) : State :=
  match foldOf s key with
  | none => s
  | some f =>
    let z := zoneOf s f.ns f.zone
    let d := dataStrips z.w z.dual
    let s := bump (pqeWorked s i (d * 262144)) (pqePage i) O.PQE_GEN_CNT
    tryRelease (setFold s key { f with parity := some (stripeParity f.buf d z.dual) }) key

/-- The parts of a row that a job gathered. -/
def rowParts (r : RowJob) : RowParts :=
  let n := keyStripe r.stripe
  let role (m : Nat) := roleOf r.map.w r.map.dual n m
  { datas := r.inputs.entries.filterMap fun e => match role e.1 with
      | .data d => some (d, e.2)
      | _ => none
    p := r.inputs.get (pMember r.map.w n)
    q := if r.map.dual then r.inputs.get (qMember r.map.w n) else none }

/-- A row is reconstructed (R236). -/
def rowDone (s : State) (i j : Nat) : State :=
  match s.rowJobs.get j with
  | none => s
  | some r =>
    let s := bump (pqeWorked s i (r.inputs.entries.length * 4096)) (pqePage i) O.PQE_RECON_CNT
    let s := match r.need with
      | .host _ _ => bump s zsqPage O.ZSQ_DEGR_READ_CNT
      | _ => s
    let s := pmcEvent s zsqPage 0x103 1
    match (rowParts r).recover (dataStrips r.map.w r.map.dual) (roleOf r.map.w r.map.dual (keyStripe r.stripe) r.target) with
    | some data => giveSector (dropRow s j) r.need data
    | none => dropRow s j

/-- A job failed on an uncorrectable DRAM error in its input (R237): the writes of a stripe buffer end with INTERNAL; what
came from the medium is read again once. -/
def pqeFailed (s : State) (i addr : Nat) (job : PqeJob) : State :=
  let s := blockError s (pqePage i) 0x0100 (addr % 2 ^ 48)
  match job with
  | .parity key => abandonStripe s key
  | .reconstruct j =>
    match s.rowJobs.get j with
    | none => s
    | some r =>
      if r.again then
        let s := dropRow s j
        match r.need with
        | .host q _ => complete s q 0xFF 0
        | _ => s
      else runRow { s with rowJobs := s.rowJobs.set j { r with again := true, inputs := .empty, awaiting := [] } } j

/-- The job of a PQE instance ends; the next one that waits starts. -/
def pqeJobDone (s : State) (i : Nat) (r : PqeResult) : State :=
  match s.pqeRun.get i with
  | none => s
  | some job =>
    let s := { s with pqeRun := s.pqeRun.erase i }
    let s := match r, job with
      | .eccError addr, _ => pqeFailed s i addr job
      | .done, .parity key => parityDone s i key
      | .done, .reconstruct j => rowDone s i j
    dispatchPqe s

/-- PQE_JOB_DONE (R234 to R237). -/
def execPqeJobDone (i : Nat) (r : PqeResult) (s : State) : Res := onUnit "PQE instance" i 4 (pqeJobDone s i r)

/-! ## CRYPTO_JOB_DONE (R13, R97, R102, R327, R328, R330) -/

/-- A sector of a READ is decrypted (R13). -/
def sectorDecrypted (s : State) (q key sector : Nat) : State :=
  match s.commands.get q with
  | none => s
  | some c =>
    if !c.fetching then s
    else
      let plain := match c.got.get sector with
        | some (some b) => some (Config.xtsDecrypt key (xtsTweak s c sector) b)
        | _ => none
      finishRead (setCmd s q { c with got := c.got.set sector plain, jobsLeft := c.jobsLeft - 1 }) q

/-- Chunk k of a sealed write: ciphertext in the staging windows, 16 chunks to a window (R93, R97). -/
def openChunk (s : State) (c : Command) (key k : Nat) : State :=
  match c.windows[k / 16]? with
  | none => s
  | some i =>
    let r := regionOf s i
    let off := k % 16 * 65536
    let n := min 65536 (c.len * 4096 - k * 65536)
    let text := Config.gcmCrypt key (gcmIv c 0 k) (readBytes r.bytes off n)
    setRegion s i { r with bytes := writeBytes r.bytes off text }

/-- A chunk of a sealed write is checked (R97): one failing chunk fails the write; after the last one its content is valid. -/
def chunkOpened (s : State) (q key k : Nat) (tagOk : Bool) : State :=
  match s.commands.get q with
  | none => s
  | some c =>
    if c.phase ≠ .sealCheck then s
    else if !tagOk then (dropJobs (failWrite s q 0x11) fun j => decide (j.cmd = q)).2
    else
      let s := openChunk s c key k
      let c := { c with jobsLeft := c.jobsLeft - 1 }
      setCmd s q (if c.jobsLeft = 0 then { c with phase := .valid } else c)

/-- A chunk of a READ is sealed: its ciphertext takes its place and its tag is kept (R102, R330). -/
def chunkSealed (s : State) (q key k : Nat) : State :=
  match s.commands.get q with
  | none => s
  | some c =>
    if c.phase ≠ .sealing then s
    else
      let text := Config.gcmCrypt key (gcmIv c 1 k) (slice c.payload (k * 65536) 65536)
      let tag := Config.gcmTag key (gcmIv c 1 k) (gcmAad c text.length) text
      let c := { c with
        payload := c.payload.take (k * 65536) ++ text ++ c.payload.drop (k * 65536 + 65536)
        tags := c.tags.set k (padTo 16 tag), jobsLeft := c.jobsLeft - 1 }
      let s := setCmd s q c
      if c.jobsLeft = 0 then sendPayload s q else s

/-- A core ends its job; the next one that waits starts. -/
def cryptoJobDone (s : State) (i : Nat) (tagOk : Bool) : State :=
  match (coreOf s i).job with
  | none => s
  | some (j, key) =>
    let s := endJob s i j
    let s := match j.kind with
      | .xtsEncrypt => sectorEncrypted s j.cmd key j.unit
      | .xtsDecrypt => sectorDecrypted s j.cmd key j.unit
      | .gcmOpen => chunkOpened s j.cmd key j.unit tagOk
      | .gcmSeal => chunkSealed s j.cmd key j.unit
    dispatchJobs s

/-- CRYPTO_JOB_DONE (R13, R328). -/
def execCryptoJobDone (i : Nat) (tagOk : Bool) (s : State) : Res := onUnit "crypto core" i 8 (cryptoJobDone s i tagOk)

/-! ## Crypto halt (R327, R331, R335) -/

/-- A command whose crypto jobs failed with CRYPTO_HALT completes with INTERNAL (Table 4-15, R64). -/
def haltCommand (s : State) (q : Nat) : State :=
  match s.commands.get q with
  | none => s
  | some c =>
    if c.phase = .ended then s
    else if c.op = 0x08 then failPadding s q
    else if unplaced c then failWrite s q 0xFF
    else if c.op = 0x02 || c.op = 0x03 then failZone s c.ns c.zone [c.offset]
    else complete (dropJobs s fun j => decide (j.cmd = q)).2 q 0xFF 0

/-- Running jobs that satisfy a test fail with CRYPTO_HALT. -/
def stopCores (s : State) (p : CryptoJob → Bool) : List Nat × State :=
  let hit := (List.range 8).filter fun i => ((coreOf s i).job.map fun j => p j.1).getD false
  ((hit.filterMap fun i => (coreOf s i).job.map fun j => j.1.cmd),
    haltCount (hit.foldl (fun s i => setCore s i { coreOf s i with job := none }) s) hit.length)

/-- All jobs, running and queued, that satisfy a test fail with CRYPTO_HALT, and with them their commands (R327, R335). -/
def haltJobs (s : State) (p : CryptoJob → Bool) : State :=
  let (a, s) := stopCores s p
  let (b, s) := dropJobs s p
  dispatchJobs ((a ++ b).eraseDups.foldl haltCommand s)

end Sys2Proof.Machine
end

