-- ==== Sys2Proof/Machine/Members.lean ====
section
/-! DEFINITION. Members that go OUT or FAIL (R257 to R264, R272 to R275), the answer to failed programs and erases (R214,
R217, R260), journal member replacement (R247), the start of rebuilds (R264, R265, R270), and the admission of modules
(R196, R277). -/
namespace Sys2Proof.Machine

/-! ## Retired blocks and failed programs (R214, R217) -/

/-- Is a command a program of a block? -/
def LinkCmd.programs (c : LinkCmd) (a : FlashAddr) : Bool := c.op = 0x03 && c.addr.sameBlock a

/-- What a program carried is placed again, where it still counts (R217, R240, R242, R245, R260). -/
def replaceProgram (slot : Nat) (s : State) (c : LinkCmd) : State :=
  match c.why with
  | .strip key m _ =>
    match (foldOf s key).bind fun f => f.places.get m with
    | some p => if p.slot = slot && p.addr.sameBlock c.addr then replaceStrip s key m else s
    | none => s
  | .logPage g mk num => replaceLog s g mk num
  | .journal g m num => replaceJournal s g m num
  | .read | .erase | .identify | .probe | .internal => s

/-- A block is retired: it takes no further command except reads, what waited to be programmed in it is placed elsewhere, and
its pages are to be relocated (R214, R217). -/
def retireBlock (s : State) (slot : Nat) (a : FlashAddr) : State :=
  match s.modules.get slot with
  | none => s
  | some m =>
    let l := m.linear a
    let b := m.block l
    if b.st = .retired then s
    else
      let s := setBlock s slot l { b with st := .retired, refreshDue := decide (0 < b.nextPage) }
      let k := s.links.getD slot {}
      let gone := k.waiting.filter (·.programs a)
      let s := { s with links := s.links.set slot { k with waiting := k.waiting.filter fun c => !c.programs a } }
      gone.foldl (replaceProgram slot) s

/-- A program ends with PROGRAM_FAIL or a timeout (R214, R217). -/
def programFailed (s : State) (slot : Nat) (c : LinkCmd) : State := replaceProgram slot (retireBlock s slot c.addr) c

/-- The programs that waited for an erase of a block are placed again; the block is retired (R214). -/
def eraseFailed (s : State) (slot : Nat) (c : LinkCmd) : State := retireBlock s slot c.addr

/-! ## Commands of a slot that end at once (R210, R263) -/

/-- What is read from a slot is looked for elsewhere (R258). -/
def rerouteNeed (s : State) (x : Need) : State :=
  match x with
  | .host q sector =>
    match s.commands.get q with
    | some c => if c.fetching && c.want.contains sector then fetchSector s c.ns c.zone sector x else s
    | none => s
  | .refill k sector =>
    if ((s.buffers.get k).map fun b => b.refill.contains sector).getD false then
      fetchSector s (keyNs k) (keyZone k) sector x
    else s
  | .row j m =>
    match s.rowJobs.get j with
    | some r => runRow { s with rowJobs := s.rowJobs.set j { r with awaiting := r.awaiting.filter (· ≠ m) } } j
    | none => s

/-- The needs of the codewords that a slot's reads and climbs are to give. -/
def slotNeeds (s : State) (slot : Nat) : List Need :=
  let l := s.links.getD slot {}
  ((l.waiting ++ l.tags.values).flatMap fun c => c.cws.map (·.2)) ++
  (s.climbs.filter fun c => c.slot = slot).flatMap fun c => c.cws.map (·.2.1)

/-- Reads of a member that is OUT are served from elsewhere (R258). -/
def rerouteSlot (s : State) (slot : Nat) : State := (slotNeeds s slot).eraseDups.foldl rerouteNeed s

/-- A command of a slot ends as one that has timed out, without reissue: its reads have been looked for elsewhere (R210). -/
def endedCommand (slot : Nat) (s : State) (c : LinkCmd) : State :=
  if c.op = 0x03 then programFailed s slot c
  else if c.op = 0x04 then eraseFailed s slot c
  else s

/-- A command is timed out: counted and logged (R210, R228). -/
def countTimeout (slot : Nat) (s : State) (e : Nat × LinkCmd) : State :=
  let s := bump s (mlkPage slot) O.MLK_CMD_TMO_CNT
  alert (blockError s (mlkPage slot) 0x0102 (e.2.op * 2 ^ 16 + e.1)) (mlkPage slot) O.MLK_ALERT 5

/-- Every command in flight to a slot, and every one held for it, ends at once without reissue (R210, R263). -/
def endSlotCommands (s : State) (slot : Nat) : State :=
  let l := s.links.getD slot {}
  let needs := (slotNeeds s slot).eraseDups
  let s := l.tags.entries.foldl (countTimeout slot) s
  let l := s.links.getD slot {}
  let s := { s with
    links := s.links.set slot { l with tags := .empty, waiting := [] }
    climbs := s.climbs.filter fun c => c.slot ≠ slot }
  let s := (l.tags.values ++ l.waiting).foldl (endedCommand slot) s
  needs.foldl rerouteNeed s

/-! ## Journal members (R247, R275) -/

/-- The lowest member index that may take a journal role (R247). -/
def nextJournal (x : Group) : Option Nat :=
  let taken := ([(0, x.jmem0), (1, x.jmem1)].filter fun r => !x.seeding.any fun e => e.1 = r.1).map (·.2) ++
    x.seeding.map (·.2.1)
  (x.members.entries.find? fun e => e.1 < x.w && e.2.qualifies && !taken.contains e.1).map (·.1)

/-- The code that stands for no member in a seeding entry. -/
abbrev noMember : Nat := 255

/-- A list cut into pages of 256 entries. -/
def entryPages (es : List (Nat × Nat)) : List (List (Nat × Nat)) :=
  (List.range (ceilDiv es.length 256)).map fun i => (es.drop (256 * i)).take 256

/-- A journal page of a seed is programmed on a member. -/
def seedPage (g m : Nat) (s : State) (es : List (Nat × Nat)) : State :=
  match groupOf s g with
  | none => s
  | some x => journalTo g x.jrnlNum es (setGroup s g { x with jrnlNum := x.jrnlNum + 1 }) m

/-- A replacement for a journal role is chosen and seeded with every OPEN entry still open (R247); where no member
qualifies, the role stays empty (R275). -/
def seedRole (s : State) (g role : Nat) : State :=
  match groupOf s g with
  | none => s
  | some x =>
    let x := { x with seeding := x.seeding.filter fun e => e.1 ≠ role }
    let x' := { x with seeding := (role, noMember, 0) :: x.seeding }
    match nextJournal x' with
    | none => setGroup s g x'
    | some m =>
      let pages := entryPages ((s.folds.keys.filter fun k => keyGroup k = g).map fun k => (1, k))
      let s := setGroup s g { x with seeding := (role, m, pages.length) :: x.seeding }
      if pages.isEmpty then seedDone s g role m else pages.foldl (seedPage g m) s

/-- Journal roles that a member held, or was being seeded for, are given to others (R247, R275). -/
def replaceJournalMember (s : State) (g m : Nat) : State :=
  match groupOf s g with
  | none => s
  | some x =>
    let roles := [(0, x.jmem0), (1, x.jmem1)].filter fun r =>
      match x.seeding.find? fun e => e.1 = r.1 with
      | some e => e.2.1 = m
      | none => r.2 = m
    let s := setGroup s g { x with jrnlSent := x.jrnlSent.filter fun j => j.member ≠ m }
    let s := roles.foldl (fun s r => seedRole s g r.1) s
    tryReleaseGroup s g

/-- Empty journal roles are tried again after a member's state changed (R275). -/
def retryRoles (s : State) (g : Nat) : State :=
  match groupOf s g with
  | none => s
  | some x => (x.seeding.filter fun e => e.2.1 = noMember).foldl (fun s e => seedRole s g e.1) s

/-- Full log pages that waited for two members are released (R239). -/
def retryLogs (s : State) (g : Nat) : State :=
  match groupOf s g with
  | none => s
  | some x =>
    let full := x.members.entries.filter fun e =>
      (e.2.log.map fun p => decide (logPageCws s e.2.slot ≤ p.cws.length)).getD false
    full.foldl (fun s e => releaseLog s g e.1) s

/-- What follows any change of a member's state: zones (R60, R256), roles, log pages and waiting reads. -/
def memberChanged (s : State) (g : Nat) : State := resumeWaits (retryLogs (retryRoles (recheckZones s g) g) g)

/-! ## OUT (R257, R258, R260) -/

/-- The strips of folding stripes that are not yet programmed on a slot: stripe key and member. -/
def unfinishedStrips (s : State) (g slot : Nat) : List (Nat × Nat) :=
  s.folds.entries.flatMap fun e =>
    if keyGroup e.1 ≠ g then []
    else (e.2.places.entries.filter fun p =>
      p.2.slot = slot && (!e.2.released || e.2.pagesLeft.any fun l => l.1 = p.1)).map fun p => (e.1, p.1)

/-- What a member's slot was to program is placed elsewhere, or recorded as absent (R240, R260). -/
def replaceWork (s : State) (g m slot : Nat) : State :=
  let s := (unfinishedStrips s g slot).foldl (fun s e => replaceStrip s e.1 e.2) s
  match (groupOf s g).bind (·.member m) with
  | none => s
  | some y => y.logSent.foldl (fun s p => replaceLog s g m p.num) s

/-- A member becomes OUT (R257): its work in flight is recorded as absent or placed elsewhere, its journal role passes on,
and reads of it are reconstructed. -/
def memberOut (s : State) (g m : Nat) : State :=
  match (groupOf s g).bind (·.member m) with
  | none => s
  | some y =>
    if y.st.inactive then s
    else
      let s := putMember s g m { y with st := .out, outAt := s.time.now, before := y.st }
      let s := alertAt s zsqPage O.ZSQ_RBD_ALERT 0 8
      let s := replaceWork s g m y.slot
      let s := replaceJournalMember s g m
      memberChanged (rerouteSlot s y.slot) g

/-- The link of a slot is not ACTIVE: its member goes OUT while the group is in Summer (R257). -/
def slotLeftActive (s : State) (slot : Nat) : State :=
  match memberAt s slot with
  | none => s
  | some (g, m) => if inSummer s g && s.rules then memberOut s g m else s

/-! ## FAILED (R263, R264, R270, R272, R274) -/

/-- The slots of the spare mask (R248). -/
def spareMask (s : State) : Nat := (regOf s zsqPage O.ZSQ_SPARE_LO).toNat + 2 ^ 32 * (regOf s zsqPage O.ZSQ_SPARE_HI).toNat

/-- The spare mask with a bit set or cleared. -/
def setSpare (s : State) (slot : Nat) (v : Bool) : State :=
  let b := slot % 32
  if slot < 32 then setField s zsqPage O.ZSQ_SPARE_LO b 1 (num v) else setField s zsqPage O.ZSQ_SPARE_HI b 1 (num v)

/-- The slot spare that a rebuild takes (R248). -/
def pickSpare (s : State) (capacity : Nat) : Option Nat :=
  (List.range 48).find? fun n => (spareMask s).testBit n &&
    ((s.modules.get n).map fun m => m.admitted && decide (capacity ≤ m.capacity)).getD false

/-- What the extent map names on a slot leaves it: the module there is gone, or is treated as new (R277). -/
def purgeSlot (s : State) (slot : Nat) : State :=
  let hit := s.stripes.entries.filter fun e => e.2.strips.values.any fun p => p.slot = slot
  let s := hit.foldl (fun s e =>
    let t := { e.2 with strips := e.2.strips.filter fun _ p => p.slot ≠ slot }
    journal { s with stripes := s.stripes.set e.1 t } (.stripe e.1 t)) s
  let logs := s.logMap.entries.filter fun e => e.2.any fun p => p.slot = slot
  logs.foldl (fun s e =>
    let ps := e.2.filter fun p => p.slot ≠ slot
    journal { s with logMap := s.logMap.set e.1 ps } (.logPlace e.1 ps)) s

/-- The running sweep of a group: the cursor of a member that is swept, other than `m` (R270). -/
def sweepCursor (x : Group) (m : Nat) : Option Nat :=
  (x.members.entries.find? fun e => e.1 ≠ m && e.2.sweeping && e.2.st ≠ .out).map fun e => e.2.cursor

/-- A member with a sweep begun: from the cursor of one that runs, else from 0, to the next-stripe counter (R265, R270). -/
def Member.sweep (y : Member) (x : Group) (m : Nat) : Member :=
  let c := (sweepCursor x m).getD 0
  { y with sweeping := true, cursor := c, start := c, stop := x.next, wrapped := false, logRestore := true }

/-- The ROM orders ON to a member slot in READY while its group is in Spring or Summer (R308). -/
def romOrderOn (s : State) (g slot : Nat) : State :=
  let up := ((groupOf s g).map fun x => x.season = .spring || x.season = .summer).getD false
  if up && (chanOf s slot).st = .ready && chanActs s slot then actOrder s slot .on else s

/-- The rebuild of a FAILED member starts (R264). -/
def startRebuild (s : State) (g m : Nat) : State :=
  match groupOf s g with
  | none => s
  | some x =>
    match x.member m with
    | none => s
    | some y =>
      match x.spare with
      | .none => s
      | .distributed => putMember s g m { y.sweep x m with taken := true }
      | .slot =>
        match pickSpare s y.capacity with
        | none => s
        | some v =>
          let mo := moduleOr s v
          let s := purgeSlot (setSpare s v false) y.slot
          let s := putMember s g m
            { y.sweep x m with st := .rebuilding, slot := v, serial := mo.serial, capacity := mo.capacity, dirty := [] }
          -- the spare gets a Spring of its own (R295)
          setChan s v { chanOf s v with ownWake := true }

/-- Every row that is beyond parity counting FAILED members alone is lost (R272). -/
def loseRows (s : State) (g : Nat) : State :=
  match groupOf s g with
  | none => s
  | some x =>
    let bad (slot : Nat) : Bool := ((memberOfSlot x slot).map fun e => decide (e.2.st = .failed)).getD true
    let absent (m : Nat) : Bool :=
      match x.member m with
      | some y => y.st ≠ .out && y.st ≠ .resync
      | none => true
    let gone (t : Stripe) (m : Nat) : Bool :=
      match t.strips.get m with
      | some p => bad p.slot
      | none => absent m
    let hit := s.stripes.entries.filter fun e =>
      keyGroup e.1 = g && decide (parityStrips e.2.dual < ((List.range e.2.w).filter (gone e.2)).length)
    hit.foldl (fun s e => (List.range 64).foldl (fun s r => loseRow s e.1 e.2 r 1 (gone e.2)) s) s

/-- A member becomes FAILED (R263, R264). A LEAVING member of a reshape that fails is not rebuilt (R285). -/
def memberFailed (s : State) (g m : Nat) : State :=
  match (groupOf s g).bind (·.member m) with
  | none => s
  | some y =>
    if y.st = .failed || y.st = .spared then s
    else
      let leaving := decide (y.st = .leaving || (y.st = .out && y.before = .leaving))
      let s := putMember s g m { y with st := .failed, sweeping := false, taken := false, heldModule := false }
      let s := alertAt s zsqPage O.ZSQ_RBD_ALERT 1 8
      let s := loseRows s g
      let s := groupLost s g
      let lost := ((groupOf s g).map (·.lost)).getD true
      let s := if lost || leaving then s else startRebuild s g m
      let s := endSlotCommands s y.slot
      let s := replaceWork s g m y.slot
      let s := replaceJournalMember s g m
      memberChanged (rerouteSlot s y.slot) g

/-! ## Modules (R196, R277, Table 10-5) -/

/-- The module that an identity page describes (Table 8-1). -/
def parseIdentity (p : List Byte) : Module :=
  let pu := leField p 0x1C 2
  { serial := slice p 0 16, channels := leField p 0x10 1, dies := leField p 0x11 1, planes := leField p 0x12 1
    bits := leField p 0x13 1, blocks := leField p 0x14 4, pagesNative := leField p 0x18 2, pagesSlc := leField p 0x1A 2
    pageUser := pu, pageRaw := leField p 0x1E 2, capacity := leField p 0x28 8, admitted := false }

/-- The tests of R196. -/
def Module.passes (m : Module) : Bool :=
  (1 ≤ m.channels && m.channels ≤ 16) && (1 ≤ m.dies && m.dies ≤ 32) && (1 ≤ m.planes && m.planes ≤ 4) &&
  (m.pageUser = 4 || m.pageUser = 8 || m.pageUser = 16) &&
  (m.pageUser * 1024 / 4096 * 4576 ≤ m.pageRaw) &&
  (m.pagesNative * m.pageUser % 256 = 0 && m.pagesSlc * m.pageUser % 256 = 0)

/-- The block table of a module treated as new: every block FREE and to be erased, recorded P/E counts and RETIRED blocks
kept (R277). -/
def freshTable (t : Tab EraseBlock) : Tab EraseBlock :=
  t.mapVals fun _ b => if b.st = .retired then b else { pe := b.pe, dirty := true }

/-- The block table recorded for a serial (R277). -/
def recordedTable (s : State) (serial : List Byte) : Tab EraseBlock :=
  match s.modules.values.find? fun m => m.serial = serial && m.admitted with
  | some m => m.table
  | none => ((s.history.find? fun e => e.1 = serial).map (·.2)).getD .empty

/-- A module takes a slot's record; the one that was there goes to the history (R277). -/
def recordModule (s : State) (slot : Nat) (m : Module) (fresh : Bool) : State :=
  let t := recordedTable s m.serial
  let keep := match s.modules.get slot with
    | some o => if o.serial = m.serial then none else some (o.serial, o.table)
    | none => none
  let h := s.history.filter fun e => e.1 ≠ m.serial
  { s with
    history := (keep.toList ++ h).take 256
    modules := s.modules.set slot { m with admitted := true, table := if fresh then freshTable t else t } }

/-- The same, journalled so that the partner knows it. -/
def placeModule (s : State) (slot : Nat) (m : Module) (fresh : Bool) : State :=
  journal (recordModule s slot m fresh) (.admitted slot m fresh)

/-- A new module fills an index: REBUILDING, or COPYBACK (Table 10-5, R264, R271). -/
def fillIndex (s : State) (g m slot : Nat) (mo : Module) (st : MemberState) : State :=
  let s := purgeSlot (placeModule s slot mo true) slot
  match groupOf s g with
  | none => s
  | some x =>
    match x.member m with
    | none => s
    | some y =>
      let y := { y.sweep x m with
        st := st, slot := slot, serial := mo.serial, capacity := mo.capacity, dirty := [], heldModule := false
        logRestore := decide (st = .rebuilding) }
      memberChanged (putMember s g m y) g

/-- A resync whose dirty-region log is empty is over (R278). -/
def resyncDone (s : State) (g m : Nat) : State :=
  match (groupOf s g).bind (·.member m) with
  | none => s
  | some y =>
    if y.st = .resync && y.dirty.isEmpty then
      memberChanged (alertAt (putMember s g m { y with st := .online, sweeping := false }) zsqPage O.ZSQ_RBD_ALERT 5 8) g
    else s

/-- A member of a group returns with its own module (Table 10-5, first row and R278). -/
def resumeMember (s : State) (g m slot : Nat) (y : Member) (mo : Module) : State :=
  let st : MemberState := match y.before with
    | .rebuilding => .rebuilding
    | .copyback => .copyback
    | .leaving => .leaving
    | _ => .resync
  let s := placeModule s slot mo false
  resyncDone (memberChanged (putMember s g m { y with
    st := st, sweeping := st ≠ .leaving && st ≠ .resync, logRestore := y.logRestore && st ≠ .resync }) g) g m

/-- Is there a group in SLOT mode (Table 10-5)? -/
def slotGroupExists (s : State) : Bool := s.groups.values.any fun x => decide (x.spare = .slot)

/-- A module in a slot that no group uses (Table 10-5, last row). -/
def freeSlotModule (s : State) (slot : Nat) (mo : Module) : State :=
  let s := placeModule s slot mo true
  if bit (regOf s zsqPage O.ZSQ_RBD_CFG) 31 && slotGroupExists s then setSpare s slot true else s

/-- A new module in the slot of an index that is FAILED or SPARED (Table 10-5). -/
def newModule (s : State) (g m slot : Nat) (mo : Module) : State :=
  match (groupOf s g).bind (·.member m) with
  | none => s
  | some y =>
    if y.slot ≠ slot then freeSlotModule s slot mo
    else if y.st = .spared then fillIndex s g m slot mo .copyback
    else if y.st = .failed && y.sweeping then
      putMember (placeModule s slot mo true) g m { y with heldModule := true }
    else if y.st = .failed then fillIndex s g m slot mo .rebuilding
    else s

/-- An admitted module is treated by Table 10-5. -/
def treatModule (s : State) (slot : Nat) (mo : Module) : State :=
  match memberAt s slot with
  | none => freeSlotModule s slot mo
  | some (g, m) =>
    match (groupOf s g).bind (·.member m) with
    | none => s
    | some y =>
      let same := decide (y.serial = mo.serial)
      match y.st with
      | .out => if same then resumeMember s g m slot y mo else newModule (memberFailed s g m) g m slot mo
      | .failed =>
        if same && !y.taken && bit (regOf s zsqPage O.ZSQ_RBD_CFG) 30 then
          resumeMember s g m slot { y with before := .online } mo
        else newModule s g m slot mo
      | .spared => newModule s g m slot mo
      | .rebuilding | .resync | .copyback =>
        if same then placeModule s slot mo false else newModule (memberFailed s g m) g m slot mo
      | .online | .leaving =>
        -- a Spring brings the same module back; with a serial recorded for none, the module is new to the index
        if same then placeModule s slot mo false
        else if y.serial.isEmpty then
          putMember (placeModule s slot mo true) g m { y with serial := mo.serial, capacity := mo.capacity }
        else newModule (memberFailed s g m) g m slot mo

end Sys2Proof.Machine
end

