-- ==== Sys2Proof/Machine/Demote.lean ====
section
/-! DEFINITION. Demotion of a controller (R355), and the claims that bring it about. -/
namespace Sys2Proof.Machine

/-- The page of PAIR. -/
abbrev pairPage : Nat := 0x010

/-- A command in flight at a demotion ends without an entry: its windows are revoked, its trace entry is written, and its
credit and CID are free in that cycle (R114, R355). -/
def endDemoted (s : State) (q : Nat) : State :=
  let s := revokeWindows s q
  match s.commands.get q with
  | none => s
  | some c =>
    let s := if c.orphan && c.phase = .ended then s else endTrace s c.conn c.cid 0xFF
    { s with commands := s.commands.erase q }

/-- The entries that wait on a connection are discarded, and a QUEUE_RESET there ends (R355). -/
def dropEntries (s : State) (n : Nat) : State :=
  let c := connOf s n
  emitAll (setConn s n { c with waiting := [], resetting := false }) (c.waiting.map fun e => .entryDropped n e.cid)

/-- Every command in flight ends without an entry (R355). -/
def endAllCommands (s : State) : State :=
  let s := s.commands.keys.foldl endDemoted s
  let s := s.conns.keys.foldl dropEntries s
  { s with zones := s.zones.mapVals fun _ z => { z with hold := none } }

/-- What the controller had under way for its tables and on the medium stops (R355). -/
def dropWork (s : State) : State :=
  { s with
    links := s.links.mapVals fun _ l => { l with waiting := [] }
    folds := .empty, buffers := .empty, rowJobs := .empty, climbs := [], decodes := []
    pqeQueue := [], pqeRun := .empty
    crypto := { s.crypto with queue := [], cores := s.crypto.cores.mapVals fun _ k => { k with job := none } }
    groups := s.groups.mapVals fun _ x => { x with
      jrnlPage := [], jrnlSent := [], members := x.members.mapVals fun _ y => { y with log := none, logSent := [] } } }

/-- A controller that runs the shelf demotes itself (R355). -/
def demote (s : State) : State :=
  if !s.rules then s
  else
    let s := dropWork (endAllCommands s)
    let s := { s with pair := { s.pair with
      role := .standby, mirror := if s.sec.bound then .syncing else .none, holding := false
      drill := if s.pair.drill = .handover then .awaiting else .none, drillAt := s.time.now
      confirmAt := none, probes := [], image := [], early := [] } }
    alert (bump s pairPage O.PAIR_DEMOTE_CNT) pairPage O.PAIR_ALERT 3

/-- A claim arrives from a bridge, a die or the partner: one above its own demotes a controller that runs the shelf
(R355). -/
def seeClaim (s : State) (claim : Nat) : State := if claimOf s < claim then demote s else s

end Sys2Proof.Machine
end

