-- ==== Sys2Proof/Machine/Sideband.lean ====
section
/-! DEFINITION. The SMBus management sideband MGT (R433 to R438). -/
namespace Sys2Proof.Machine

/-- CRC-8 with polynomial 0x07: one bit. -/
def crc8Bit (c : Nat) : Nat := if c ≥ 128 then (c * 2 % 256) ^^^ 0x07 else c * 2

/-- CRC-8 with polynomial 0x07 and initial value `c` over bytes (R343, R433). -/
def crc8 (c : Nat) : List Byte → Nat
  | [] => c
  | b :: r => crc8 (crc8Bit (crc8Bit (crc8Bit (crc8Bit (crc8Bit (crc8Bit (crc8Bit (crc8Bit (c ^^^ b.toNat))))))))) r

/-- SPC_STAT.TEMP as MGT reads it: 0x8000 while the die cannot be reached (Table 16-6). -/
def tempSp (s : State) : Nat := if dieReachable s then unsignedOf 16 s.die.temp else 0x8000

/-- STATUS.HOT: TEMP_MAIN at or above 100.0 °C, or TEMP_SP at or above 115.0 °C (Table 16-7). -/
def hotNow (s : State) : Bool :=
  decide (1000 ≤ s.mgt.tempMain) || (dieReachable s && decide (1150 ≤ s.die.temp))

/-- A path to the partner is lost, or the partner (PAIR_PATH, Table 16-7). A PAIR domain that is off reads as zero. -/
def pairLost (s : State) : Bool :=
  s.pwr.isOn.contains 35 && (s.pair.link.lost || s.pair.wire.lost || s.pair.lostDeclared)

/-- A slot is in FAULT or LATCHED (SPC_FAULT_LO, SPC_FAULT_HI). -/
def slotFault (s : State) : Bool :=
  dieReachable s && s.channels.values.any fun c => c.st = .fault || c.st = .latched

/-- The bits [11:0] of the STATUS word (Table 16-7). -/
def statusLow (s : State) : Nat :=
  let f := regOf s mgtPage O.MGT_ROM_FLAGS
  num (bit f 1) * 2 ^ 11 + num (pairLost s) * 2 ^ 10 + num (slotFault s) * 2 ^ 9 + num (bit f 0) * 2 ^ 8 +
  num (hotNow s) * 2 ^ 7 + num s.clk.refclk * 2 ^ 6 + num (decide (s.boot.stage = 15)) * 2 ^ 5 +
  num s.alarm.zeroized * 2 ^ 4 + num s.crypto.halted * 2 ^ 3 +
  num (s.pwr.isOn.contains 35 && s.pair.role = .standby) * 2 ^ 2 +
  num (s.pwr.isOn.contains 35 && s.pair.role = .active) * 2 + num (decide (s.boot.stage = 9))

/-- STATUS.SNAP_VALID: the last commit is less than 1 s old. -/
def snapValid (s : State) : Bool := decide (snapAge s < 1000)

/-- The STATUS word (Table 16-7). -/
def statusWord (s : State) : Nat := num (snapValid s) * 2 ^ 15 + statusLow s

/-- MGT_ALERT_N asserted (R437). -/
def alertAsserted (s : State) : Bool :=
  decide (s.mgt.cause &&& regField s mgtPage O.MGT_CFG 16 6 ≠ 0) && !s.mgt.released

/-- Record a change of the MGT_ALERT_N pin between two states. -/
def notePin (before after : State) : State :=
  if alertAsserted before = alertAsserted after then after else emit after (.alertPin (alertAsserted after))

/-- Causes of Table 16-9 are set; a further cause bit ends the release of an alert response (R437). -/
def setCauses (s : State) (mask : Nat) : State :=
  let fresh := decide (mask &&& (63 - s.mgt.cause % 64) ≠ 0)
  notePin s { s with mgt := { s.mgt with cause := s.mgt.cause ||| (mask % 64), released := s.mgt.released && !fresh } }

/-- Causes are cleared (R437). -/
def clearCauses (s : State) (mask : Nat) : State :=
  notePin s { s with mgt := { s.mgt with cause := s.mgt.cause &&& (63 - mask % 64) } }

/-- STATUS_CHANGE and HOT after something that bears on STATUS happened (Table 16-9, causes 0 and 2). -/
def noteStatus (before after : State) : State :=
  let b := statusLow before
  let a := statusLow after
  if a = b then after
  else setCauses after (1 + if !hotNow before && hotNow after then 4 else 0)

/-! ## Transactions -/

/-- MGT answers an address: its page is enabled and the address is the one in effect (R433, R438). -/
def mgtAnswers (s : State) (a : SmbXfer) : Bool :=
  (getPage s mgtPage).enabled && a.address = s.mgt.addr

/-- The STOP condition ends a transaction: a new ADDR comes into effect (MGT_CFG). -/
def smbStop (s : State) : State :=
  { s with mgt := { s.mgt with addr := regField s mgtPage O.MGT_CFG 0 7 } }

/-- A read transaction that returns `data` after the command bytes `sent`, the host taking `a.count` of them and then
the PEC where it asks for it (R433, R434). -/
def smbAnswer (s : State) (a : SmbXfer) (sent : List Byte) (data : List Byte) : State :=
  let given := data.take a.count
  let all := sent ++ given
  let pec := if a.pec then some (BitVec.ofNat 8 (crc8 0 all)) else none
  smbStop (emit (bump s mgtPage O.MGT_XFER_CNT) (.smb given pec))

/-- The bytes that go before the data of a read with a command code: address and write bit, code, address and read
bit. -/
def smbHead (a : SmbXfer) (code : Nat) : List Byte :=
  [BitVec.ofNat 8 (2 * a.address), BitVec.ofNat 8 code, BitVec.ofNat 8 (2 * a.address + 1)]

/-- A word command: low byte first (R434, R435). -/
def smbWord (s : State) (a : SmbXfer) (code w : Nat) : State :=
  if mgtAnswers s a then smbAnswer s a (smbHead a code) (leBytes 2 w) else emit s .smbNack

/-- Bytes of the current snapshot (R436). -/
def snapBytes (s : State) (off n : Nat) : List Byte :=
  (List.range n).map fun i =>
    BitVec.ofNat 8 ((s.mgt.current.getD ((off + i) / 4) 0#32).toNat / 256 ^ ((off + i) % 4))

/-- A block command: byte count, then the bytes of the current snapshot (R434 to R436). -/
def smbBlock (s : State) (a : SmbXfer) (code off n : Nat) : State :=
  if mgtAnswers s a then
    smbAnswer s { a with count := a.count + 1 } (smbHead a code) (BitVec.ofNat 8 n :: snapBytes s off n)
  else emit s .smbNack

/-- Mean of SPC_PWR.TOTAL over the last second, in W (Table 16-6): the time-weighted mean of its values (log entry 11).
-/
def meanPower (now : Nat) (since : Nat) : List (Tick × Nat) → Nat
  | [] => 0
  | (t, v) :: r => if t ≤ since then v * (now - since) else v * (now - t) + meanPower t since r

/-- SLOT_POWER: W, or 0xFFFF while the link is down. TOTAL counts in 10 mW. -/
def slotPowerWord (s : State) : Nat :=
  if !dieReachable s then 0xFFFF
  else min 0xFFFE (meanPower s.time.now (s.time.now - ticksS) s.die.totals / ticksS / 100)

/-- The command codes of Table 16-6. -/
def smbListed (code : Nat) : Bool :=
  code ≤ 0x05 || code = 0x10 || code = 0x11 || (0x20 ≤ code && code ≤ 0x2B) || (0x40 ≤ code && code ≤ 0x6F)

/-- SMB_STATUS (R435). -/
def execSmbStatus (a : SmbXfer) (s : State) : Res := .next (smbWord s a 0x00 (statusWord s))

/-- SMB_TEMP_MAIN (R435). -/
def execSmbTempMain (a : SmbXfer) (s : State) : Res := .next (smbWord s a 0x01 (unsignedOf 16 s.mgt.tempMain))

/-- SMB_TEMP_SP (R435). -/
def execSmbTempSp (a : SmbXfer) (s : State) : Res := .next (smbWord s a 0x02 (tempSp s))

/-- SMB_SLOT_POWER (R435). -/
def execSmbSlotPower (a : SmbXfer) (s : State) : Res := .next (smbWord s a 0x03 (slotPowerWord s))

/-- SMB_BOOT (R435). -/
def execSmbBoot (a : SmbXfer) (s : State) : Res :=
  .next (smbWord s a 0x04 (s.boot.stage + 16 * s.boot.failStage))

/-- SMB_CAUSE (R437): returns the causes and clears those it returned. -/
def execSmbCause (a : SmbXfer) (s : State) : Res :=
  .next (if mgtAnswers s a then clearCauses (smbWord s a 0x05 s.mgt.cause) s.mgt.cause else smbWord s a 0x05 0)

/-- SMB_IDENTITY (R436). -/
def execSmbIdentity (a : SmbXfer) (s : State) : Res := .next (smbBlock s a 0x10 0x000 32)

/-- SMB_PAIR (R436). -/
def execSmbPair (a : SmbXfer) (s : State) : Res := .next (smbBlock s a 0x11 0x020 32)

/-- SMB_GROUP (R436). -/
def execSmbGroup (a : SmbXfer) (g : Nat) (s : State) : Res :=
  onUnit "group" g 12 (smbBlock s a (0x20 + g) (0x040 + 32 * g) 32)

/-- SMB_SLOT (R436). -/
def execSmbSlot (a : SmbXfer) (n : Nat) (s : State) : Res :=
  onUnit "slot" n 48 (smbBlock s a (0x40 + n) (0x1C0 + 16 * n) 16)

/-- SMB_RECEIVE_BYTE (R434): the low byte of STATUS. -/
def execSmbReceiveByte (a : SmbXfer) (s : State) : Res :=
  .next (if mgtAnswers s a then
    smbAnswer s a [BitVec.ofNat 8 (2 * a.address + 1)] [BitVec.ofNat 8 (statusWord s)]
  else emit s .smbNack)

/-- A command code that is not acknowledged (R434). -/
def smbUnknown (s : State) : State :=
  smbStop (emit (alert (bump s mgtPage O.MGT_NACK_CNT) mgtPage O.MGT_ALERT 0) .smbNack)

/-- SMB_UNKNOWN_COMMAND (R434). A listed code is none of this command's: it changes nothing. -/
def execSmbUnknownCommand (a : SmbXfer) (code : Nat) (s : State) : Res :=
  .next (if !mgtAnswers s a then emit s .smbNack else if smbListed code then s else smbUnknown s)

/-- SMB_WRITE (R434): a listed code's first data byte is not acknowledged and counted; an unlisted code is not
acknowledged at its command byte. -/
def execSmbWrite (a : SmbXfer) (code : Nat) (s : State) : Res :=
  .next (if !mgtAnswers s a then emit s .smbNack
    else if smbListed code then smbStop (emit (bump s mgtPage O.MGT_NACK_CNT) .smbNack)
    else smbUnknown s)

/-- ALERT_RESPONSE (R437): MGT takes part while the pin is asserted; when it wins it returns its address and releases
the pin until a further cause is set. -/
def execAlertResponse (win : Bool) (s : State) : Res :=
  .next (if !(getPage s mgtPage).enabled || !alertAsserted s then emit s .smbNack
    else if !win then s
    else notePin s (smbStop (emit (bump { s with mgt := { s.mgt with released := true } } mgtPage O.MGT_ARA_CNT)
      (.smb [BitVec.ofNat 8 (2 * s.mgt.addr)] none))))

/-- SMB_TIMEOUT (R433). -/
def execSmbTimeout (s : State) : Res :=
  .next (if (getPage s mgtPage).enabled then
    smbStop (alert (bump s mgtPage O.MGT_TMO_CNT) mgtPage O.MGT_ALERT 1) else s)

/-! ## Snapshots and causes -/

/-- COMMIT: the open buffer becomes current in one cycle (R436). -/
def snapCommit (s : State) : State :=
  { s with mgt := { s.mgt with curB := !s.mgt.curB, commitAt := some s.time.now, fresh := true } }

/-- What a write of MGT_SNAP_CTRL does: COMMIT acts and clears itself. -/
def snapEffect (v : Word) (_ after : State) : State :=
  let t := setReg after mgtPage O.MGT_SNAP_CTRL 0#32
  if bit v 31 then snapCommit t else t

/-- SNAP_COMMIT (R436): a write of MGT_SNAP_CTRL with COMMIT = 1. -/
def execSnapCommit (req : Nat) (s : State) : Res :=
  .next (writeBlock (snapEffect (oneBit 31)) s req mgtPage O.MGT_SNAP_CTRL (oneBit 31))

/-- MGT_SNAP_IDX advances by 1, wrapping from 511 to 0. -/
def snapAdvance (s : State) : State :=
  setField s mgtPage O.MGT_SNAP_IDX 0 9 (regField s mgtPage O.MGT_SNAP_IDX 0 9 + 1)

/-- What a write of MGT_SNAP_DATA does: the word goes into the open buffer. -/
def snapStore (v : Word) (before after : State) : State :=
  let i := regField before mgtPage O.MGT_SNAP_IDX 0 9
  let m := after.mgt
  snapAdvance { after with
    mgt := if m.curB then { m with bufA := m.bufA.set i v } else { m with bufB := m.bufB.set i v } }

/-- SNAP_DATA_ACCESS (R436, MGT_SNAP_DATA). -/
def execSnapDataAccess (req : Nat) (write : Bool) (v : Word) (s : State) : Res :=
  .next (if write then writeBlock (snapStore v) s req mgtPage O.MGT_SNAP_DATA v
    else readWith snapAdvance (fun t => showReg t mgtPage O.MGT_SNAP_DATA) s req mgtPage O.MGT_SNAP_DATA)

/-- SNAP_STALE (Table 16-9, R436): 1 s has passed since the last commit. -/
def execSnapStale (s : State) : Res :=
  .next (match s.mgt.commitAt with
    | none => s
    | some t =>
      if !s.mgt.fresh then s
      else
        let s := clockTo s (t + ticksS)
        setCauses { s with mgt := { s.mgt with fresh := false } } 2)

/-- What a write of MGT_CAUSE_SET does (R437). -/
def causeSetEffect (v : Word) (_ after : State) : State := setCauses after (field v 0 6)

/-- CAUSE_SET (R437). -/
def execCauseSet (req : Nat) (v : Word) (s : State) : Res :=
  .next (writeBlock (causeSetEffect v) s req mgtPage O.MGT_CAUSE_SET v)

/-- STATUS_HOT_RISE (R437): the main die's temperature sensor gives a new value, or the slot power die is hot. -/
def execStatusHotRise (tempMain : Int) (s : State) : Res :=
  .next (noteStatus s { s with mgt := { s.mgt with tempMain := tempMain } })

end Sys2Proof.Machine
end

