-- ==== Sys2Proof/Machine/Link.lean ====
section
/-! DEFINITION. Slot links and module commands (R200 to R210, R228): training, frames and their acknowledgement, credits,
retraining, sideband signals, the issue of module commands, and what their STATUS frames and timeouts bring about. -/
namespace Sys2Proof.Machine

/-- A slot link. -/
def linkOf (s : State) (n : Nat) : Link := s.links.getD n {}

/-- The state with a slot link replaced. -/
def putLink (s : State) (n : Nat) (l : Link) : State := { s with links := s.links.set n l }

/-! ## Links that go down (R201, R207, R210) -/

/-- A link as it stands in DOWN: its sequence, credit and replay state is gone. -/
def Link.downState (l : Link) (now : Tick) : Link :=
  { st := .down, prsnt := l.prsnt, mrst := l.mrst, mrstAt := l.mrstAt, mrstOff := l.mrstOff, mrstDue := l.mrstDue
    retryAt := now, serial := l.serial }

/-- A link goes to DOWN (Table 8-3): commands in flight and held end (R210), its member goes OUT in Summer (R257). A FAILED
link leaves only where `reset` says that MRST or a soft reset brings it down. -/
def linkToDown (s : State) (n : Nat) (reset : Bool) : State :=
  let l := linkOf s n
  if l.st = .down || (l.st = .failed && !reset) then s
  else
    let left := decide (l.st = .active)
    let s := putLink s n { l with st := .down }
    let s := if left then alert s (mlkPage n) O.MLK_ALERT 1 else s
    let s := slotLeftActive s n
    let s := endSlotCommands s n
    putLink s n ((linkOf s n).downState s.time.now)

/-- SLOTnn_MRST_N asserts (R207): the bridge is reset and the link is DOWN. -/
def assertMrst (s : State) (n : Nat) : State :=
  let s := setField s (mlkPage n) O.MLK_SB_CTRL 0 1 1
  if (linkOf s n).mrst then putLink s n { linkOf s n with mrstDue := false }
  else
    let s := linkToDown s n true
    let s := putLink s n { linkOf s n with mrst := true, mrstAt := s.time.now, mrstDue := false }
    emit s (.mrst n true)

/-- SLOTnn_MRST_N is released. -/
def dropMrst (s : State) (n : Nat) : State :=
  let s := putLink s n { linkOf s n with mrst := false, mrstDue := false, mrstOff := s.time.now }
  emit s (.mrst n false)

/-- MRST is written 0: the release takes effect at once, or 100 us after the assertion (R207). -/
def releaseMrst (s : State) (n : Nat) : State :=
  let s := setField s (mlkPage n) O.MLK_SB_CTRL 0 1 0
  let l := linkOf s n
  if !l.mrst then s
  else if l.mrstAt + 100 * ticksUs ≤ s.time.now then dropMrst s n
  else putLink s n { l with mrstDue := true }

/-- What a write of MLK_SB_CTRL does once stored (R207). -/
def mrstEffect (n : Nat) (_ after : State) : State :=
  if bit (regOf after (mlkPage n) O.MLK_SB_CTRL) 0 then assertMrst after n else releaseMrst after n

/-- MRST_RELEASE (R207): 100 us have passed since the assertion, and the release that was written takes effect. -/
def mrstRelease (s : State) (n : Nat) : State :=
  let l := linkOf s n
  if l.mrst && l.mrstDue then dropMrst (clockTo s (l.mrstAt + 100 * ticksUs)) n else s

/-! ## Training (R201) -/

/-- TRAINING_START (Table 8-3, R201): MLK is ENABLED, power-good is present, MRST_N has been released for 10 ms, and 10 ms
have passed since a failed training. -/
def trainingStart (s : State) (n : Nat) : State :=
  let l := linkOf s n
  if l.st ≠ .down || l.mrst || !isEnabled s (mlkPage n) || !(chanOf s n).pg then s
  else
    let s := clockTo s (max (l.mrstOff + 10 * ticksMs) l.retryAt)
    emit (putLink s n { l with st := .train, trainAt := some s.time.now }) (.linkTrain n)

/-- TRAIN_TIMEOUT (R201): 400 ms after its start a training has failed. -/
def trainTimeout (s : State) (n : Nat) : State :=
  let l := linkOf s n
  match l.st, l.trainAt with
  | .train, some t =>
    let s := clockTo s (t + 400 * ticksMs)
    let s := putLink s n { l.downState (s.time.now + 10 * ticksMs) with trainAt := none }
    bump s (mlkPage n) O.MLK_TRAIN_FAIL_CNT
  | _, _ => s

/-- The ROM reads the identity page of a module whose link came up (R289, step 4). -/
def askIdentity (s : State) (n : Nat) : State :=
  if !s.rules || ((linkOf s n).waiting ++ (linkOf s n).tags.values).any (fun c => c.op = 0x08 && c.why = .identify) then s
  else pushCmd s n { op := 0x08, arg := 0, why := .identify }

/-- A module whose SERIAL differs from the one recorded for its index makes the member FAILED at once (R263). -/
def serialSeen (s : State) (n : Nat) (serial : List Byte) : State :=
  if !s.rules then s
  else match memberAt s n with
  | none => s
  | some (g, m) =>
    match (groupOf s g).bind (·.member m) with
    | none => s
    | some y =>
      if y.serial.isEmpty || y.serial = serial || y.st = .failed || y.st = .spared then s else memberFailed s g m

/-- A link enters ACTIVE. -/
def linkUpAlert (s : State) (n : Nat) : State := askIdentity (alert s (mlkPage n) O.MLK_ALERT 0) n

/-- LINK_PARAM (R201, R206): it completes a training; in RETRAIN it is part of it; in ACTIVE it is ignored. -/
def linkParam (s : State) (n : Nat) (p : LinkParam) : State :=
  let l := linkOf s n
  match l.st with
  | .train =>
    let s := putLink s n { l.downState s.time.now with
      st := .active, lock := 15, serial := padTo 16 p.serial, credCmd := p.cmd, credData := p.data }
    let s := emit s (.linkParam n)
    linkUpAlert (serialSeen s n (padTo 16 p.serial)) n
  | .retrain =>
    let s := emit (putLink s n { l with serial := padTo 16 p.serial }) (.linkParam n)
    serialSeen s n (padTo 16 p.serial)
  | _ => s

/-! ## Frames (R203 to R206) -/

/-- A sequenced frame is sent (R203): it takes the next sequence number and a place in the replay buffer. -/
def sendFrame (s : State) (n tag op : Nat) : State :=
  let l := linkOf s n
  let s := putLink s n { l with
    txSeq := (l.txSeq + 1) % 4096, held := l.held ++ [{ seq := l.txSeq, tag := tag, op := op, sentAt := s.time.now }] }
  pmcEvent (countOn s (mlkPage n) O.MLK_TX_FRAMES 1) (mlkPage n) 0x100 1

/-- Waiting data frames are sent while credits and replay room last (R203, R206). -/
def pumpFrames (n : Nat) : Nat → State → State
  | 0, s => s
  | f + 1, s =>
    let l := linkOf s n
    match l.dataQueue with
    | [] => s
    | tag :: rest =>
      if l.st = .active && 0 < l.credData && decide (l.held.length < 64) then
        let s := putLink s n { l with dataQueue := rest, credData := l.credData - 1 }
        pumpFrames n f (sendFrame s n tag 0)
      else s

/-- What waits on a link is sent as far as it may. -/
def pump (s : State) (n : Nat) : State := pumpFrames n (linkOf s n).dataQueue.length s

/-- The held frames after the one that an acknowledgement names (R203). -/
def afterSeq (seq : Nat) (held : List HeldFrame) : List HeldFrame :=
  if held.any fun h => h.seq = seq then (held.dropWhile fun h => h.seq ≠ seq).drop 1 else held

/-- An acknowledgement frees the frames up to the one that it names. -/
def ackFrames (s : State) (n seq : Nat) : State :=
  let l := linkOf s n
  pump (putLink s n { l with held := afterSeq seq l.held }) n

/-- An acknowledgement is sent, with the credits consumed (R203, R206, log entry 26). -/
def sendLinkAck (s : State) (n : Nat) : State :=
  let l := linkOf s n
  let s := putLink s n { l with ackDue := 0, ackAt := none }
  emitAll s [.linkAck n ((l.rxSeq + 4095) % 4096), .linkCredit n (l.outData % 65536) (l.outSts % 65536)]

/-- LINK_ACK_TIMER (R203): 1 us after the first frame not yet acknowledged. -/
def linkAckTimer (s : State) (n : Nat) : State :=
  match (linkOf s n).ackAt with
  | some t => sendLinkAck (clockTo s t) n
  | none => s

/-- Held frames are replayed (R203, R204). -/
def replayHeld (s : State) (n : Nat) (count : Nat → Nat) : State :=
  let l := linkOf s n
  let k := l.held.length
  let s := emitAll s (l.held.map fun h => .linkReplay n h.seq)
  let s := putLink s n { l with held := l.held.map fun h => { h with replays := count h.replays, sentAt := s.time.now } }
  pmcEvent (bumpBy s (mlkPage n) O.MLK_REPLAY_CNT k) (mlkPage n) 0x102 k

/-- A retraining starts (R205). -/
def startRetrain (s : State) (n : Nat) : State :=
  let l := linkOf s n
  emit (bump (putLink s n { l with st := .retrain }) (mlkPage n) O.MLK_RETRAIN_CNT) (.linkTrain n)

/-- The third replay of a frame has failed: the link enters RETRAIN (R205), and its member goes OUT in Summer (R257). -/
def enterRetrain (s : State) (n seq : Nat) : State :=
  let s := startRetrain (blockError s (mlkPage n) 0x0100 seq) n
  slotLeftActive (alert s (mlkPage n) O.MLK_ALERT 1) n

/-- A NAK or the replay timer asks for a replay of what is held (R203, R205). -/
def replayAsked (s : State) (n : Nat) : State :=
  match (linkOf s n).held.find? fun h => 3 ≤ h.replays with
  | some h => enterRetrain s n h.seq
  | none => replayHeld s n (· + 1)

/-- The claim and the acknowledgement that a frame from the bridge carries. -/
def frameHead (s : State) (n claim : Nat) (ack : Option Nat) : State :=
  let s := seeClaim s claim
  match ack with
  | some a => ackFrames s n a
  | none => s

/-- LINK_ACK (R203). -/
def linkAck (s : State) (n seq claim : Nat) : State :=
  if linkActive s n then frameHead s n claim (some seq) else s

/-- LINK_NAK (R203, R205): what it names has been received in order, and the frames after it are replayed. -/
def linkNak (s : State) (n seq claim : Nat) : State :=
  if !linkActive s n then s
  else
    let s := seeClaim s claim
    let l := linkOf s n
    replayAsked (putLink s n { l with held := afterSeq seq l.held }) n

/-- REPLAY_TIMER (R203, R205): REPLAY_US after the oldest held frame was last sent. -/
def replayTimer (s : State) (n : Nat) : State :=
  match linkActive s n, (linkOf s n).held with
  | true, h :: _ => replayAsked (clockTo s (h.sentAt + regField s (mlkPage n) O.MLK_CFG 8 8 * ticksUs)) n
  | _, _ => s

/-- CREDIT (R206): cumulative counts give back what an earlier lost frame would have. -/
def creditFrame (s : State) (n cmd data _sts claim : Nat) : State :=
  if !linkActive s n then s
  else
    let s := seeClaim s claim
    let l := linkOf s n
    pump (putLink s n { l with
      credCmd := l.credCmd + wrapGap 16 l.cumCmd cmd, cumCmd := cmd % 65536
      credData := l.credData + wrapGap 16 l.cumData data, cumData := data % 65536 }) n

/-- A sequenced frame arrives (R203): true where it is the expected one and is accepted. -/
def acceptFrame (s : State) (n : Nat) (h : LinkHdr) : Bool × State :=
  if !linkActive s n then (false, s)
  else
    let s := frameHead s n h.claim h.ack
    let l := linkOf s n
    if h.seq = l.rxSeq then
      let due := l.ackDue + 1
      let s := putLink s n { l with
        rxSeq := (l.rxSeq + 1) % 4096, nakSent := false, ackDue := due
        ackAt := some (l.ackAt.getD (s.time.now + ticksUs)) }
      let s := pmcEvent (countOn s (mlkPage n) O.MLK_RX_FRAMES 1) (mlkPage n) 0x101 1
      (true, if regField s (mlkPage n) O.MLK_CFG 0 8 ≤ due then sendLinkAck s n else s)
    else if wrapGap 12 h.seq l.rxSeq ≤ 2048 then
      (false, emit s (.linkAck n ((l.rxSeq + 4095) % 4096)))
    else if l.nakSent then (false, s)
    else (false, emit (putLink s n { l with nakSent := true }) (.linkNak n ((l.rxSeq + 4095) % 4096)))

/-- READ_DATA (R206, R208): a data frame of a tag; one for a freed tag is discarded. -/
def readData (s : State) (n : Nat) (h : LinkHdr) (_data : List Byte) : State :=
  match acceptFrame s n h with
  | (false, s) => s
  | (true, s) =>
    let l := linkOf s n
    let l := { l with outData := l.outData + 1 }
    putLink s n { l with tags := match l.tags.get h.tag with
      | some c => l.tags.set h.tag { c with frames := c.frames + 1 }
      | none => l.tags }

/-- BAD_CRC_FRAME (R202, R342): a frame of a slot link is discarded and counted; one of the pair link is discarded. -/
def badCrcFrame (s : State) (n : Nat) (pair : Bool) : State :=
  if pair || (linkOf s n).st = .down || (linkOf s n).st = .failed then s
  else bump s (mlkPage n) O.MLK_CRC_ERR_CNT

/-- The ROM declares the member of a slot failed (R205, R263). -/
def slotFailed (s : State) (n : Nat) : State :=
  if !s.rules then s
  else match memberAt s n with
  | some (g, m) => memberFailed s g m
  | none => s

/-- RETRAIN_RESULT (R205). -/
def retrainResult (s : State) (n : Nat) (pass : Bool) : State :=
  let l := linkOf s n
  if l.st ≠ .retrain then s
  else if pass then
    let s := putLink s n { l with st := .active, retrainFails := 0 }
    pump (linkUpAlert (replayHeld s n fun _ => 1) n) n
  else
    let k := l.retrainFails + 1
    let s := blockError (putLink s n { l with retrainFails := k }) (mlkPage n) 0x0101 ((l.held.head?.map (·.seq)).getD 0)
    if k < 2 then startRetrain s n
    else
      let s := alert (putLink s n { linkOf s n with st := .failed, lock := 0 }) (mlkPage n) O.MLK_ALERT 2
      endSlotCommands (slotFailed s n) n

/-! ## Sideband (R207) -/

/-- PRSNT_CHANGE (R207). -/
def prsntChange (s : State) (n : Nat) (v : Bool) : State :=
  let l := linkOf s n
  if l.prsnt = v then s else alert (putLink s n { l with prsnt := v }) (mlkPage n) O.MLK_ALERT 3

/-- MODULE_ALERT (R207): the ROM reads TELEMETRY page 1; an edge while the link is not ACTIVE is ignored. -/
def moduleAlert (s : State) (n : Nat) : State :=
  if !linkActive s n then s
  else
    let s := alert (putLink s n { linkOf s n with alert := true }) (mlkPage n) O.MLK_ALERT 4
    if s.rules then pushCmd s n { op := 0x08, arg := 1 } else s

/-! ## Issue of module commands (R206, R208, R209, R229) -/

/-- Commands of a slot that are in flight. -/
def Link.inFlight (l : Link) : List LinkCmd := l.tags.values

/-- Is a command a read of a page? -/
def LinkCmd.reads (c : LinkCmd) : Bool := c.op = 0x01 || c.op = 0x02

/-- The orders of R209 for a command, and R222's for an erase: no read of a page under program, no program of a block under
erase or of a plane's block under program, no erase of a block under read. -/
def orderAllows (l : Link) (op : Nat) (a : FlashAddr) : Bool :=
  if op = 0x01 || op = 0x02 then !(l.inFlight.any fun c => c.op = 0x03 && c.addr = a)
  else if op = 0x03 then
    !((l.inFlight ++ l.waiting).any fun c => c.op = 0x04 && c.addr.sameBlock a) &&
    !(l.inFlight.any fun c => c.op = 0x03 && c.addr.sameBlock a) &&
    ((l.waiting.find? fun c => c.op = 0x03 && c.addr.sameBlock a).map fun c => decide (c.addr = a)).getD true
  else if op = 0x04 then
    !((l.inFlight ++ l.waiting).any fun c => c.reads && c.addr.sameBlock a) &&
    !(l.inFlight.any fun c => (c.op = 0x03 || c.op = 0x04) && c.addr.sameBlock a)
  else true

/-- May a module command be issued to a slot under a tag now? -/
def mayIssue (s : State) (n tag op : Nat) (a : FlashAddr) : Bool :=
  let l := linkOf s n
  let failed := ((memberAt s n).bind fun e => (groupOf s e.1).bind (·.member e.2)).any fun y => decide (y.st = .failed)
  l.st = .active && accepting s (mlkPage n) && s.rules &&
  decide (tag < 512) && !l.tags.has tag && decide (0 < l.credCmd) && decide (l.held.length < 64) &&
  (4 < op || accepting s (mlxPage (n / 8))) && (!failed || op = 0x05 || op = 0x08) && orderAllows l op a &&
  ((op ≠ 0x03 && op ≠ 0x04) || (!(chanOf s n).pwarn && programGateOpen s n && s.pair.role ≠ .isolated))

/-- The device time in hours, for PROG_HOURS (Table 8-10). -/
def deviceHours (s : State) : Nat := s.time.sec / 3600 % 2 ^ 24

/-- A program that is issued: its codewords are encoded, and the block's first program is dated (R198, R218). -/
def programIssued (s : State) (n : Nat) (c : LinkCmd) : State :=
  let s := pmcEvent (bumpBy s (mlxPage (n / 8)) O.MLX_ENC_CNT c.out.length) (mlxPage (n / 8)) 0x100 c.out.length
  match s.modules.get n with
  | none => s
  | some m =>
    let l := m.linear c.addr
    let b := m.block l
    if b.progHours ≠ 0 then s else setBlock s n l { b with progHours := deviceHours s }

/-- The host reads whose codewords a page read is to give: their first page read is issued (Table 17-3). -/
def stampRead (s : State) (x : Nat × Need) : State :=
  match x.2 with
  | .host q _ =>
    match s.commands.get q with
    | some c => stamp s c.conn c.cid 3
    | none => s
  | _ => s

/-- Data frames that a command sends (Table 8-6). -/
def dataFrames (s : State) (n op : Nat) : Nat :=
  if op = 0x03 then ceilDiv (((s.modules.get n).map (·.pageRaw)).getD 0) 4096 else if op = 0x06 then 1 else 0

/-- A command goes out under a tag (R208). -/
def sendCommand (s : State) (n tag : Nat) (c : LinkCmd) : State :=
  let l := linkOf s n
  let s := putLink s n { l with
    credCmd := l.credCmd - 1, tags := l.tags.set tag { c with issued := s.time.now, frames := 0 }
    dataQueue := l.dataQueue ++ List.replicate (dataFrames s n c.op) tag }
  let s := emit (sendFrame s n tag c.op) (.linkCmd n tag c.op c.addr c.arg (claimOf s))
  let s := pump s n
  let s := c.cws.foldl stampRead s
  let s := if c.op = 0x03 then programIssued s n c else s
  if c.op = 0x03 || c.op = 0x04 then pmcEvent s (mlxPage (n / 8)) 0x101 1 else s

/-- The first of the waiting commands that satisfies a test, and the others. -/
def takeFirst (p : LinkCmd → Bool) : List LinkCmd → Option (LinkCmd × List LinkCmd)
  | [] => none
  | c :: r => if p c then some (c, r) else (takeFirst p r).map fun x => (x.1, c :: x.2)

/-- A module command is issued: the waiting one that it matches, or, where `own` allows it, one of the ROM's own. -/
def issueCommand (s : State) (n tag op : Nat) (a : FlashAddr) (arg : Nat) (own : Bool) : State :=
  if !mayIssue s n tag op a then s
  else
    let l := linkOf s n
    match takeFirst (fun c => c.op = op && c.addr = a && c.arg = arg) l.waiting with
    | some (c, rest) => sendCommand (putLink s n { l with waiting := rest }) n tag c
    | none => if own then sendCommand s n tag { op := op, addr := a, arg := arg } else s

/-! ## STATUS (R209, Table 8-7) -/

/-- A slot has had its own Spring: its module is identified. A slot of no group goes back to Winter; a spare that a rebuild
has taken stays up with its group (R295). -/
def ownSpringDone (s : State) (n : Nat) : State :=
  if (chanOf s n).ownSeason = 0 then s
  else
    let s := if (memberAt s n).isSome then s else actOrder (assertMrst s n) n .off
    setChan s n { chanOf s n with ownSeason := 0 }

/-- The identity page of a module has been read (R196, R289): it is admitted by Table 10-5, or reported and its slot returned
to Winter. -/
def identified (s : State) (n : Nat) (page : List Byte) : State :=
  let mo := parseIdentity page
  let s := setChan s n { chanOf s n with identified := true }
  if mo.passes then ownSpringDone (treatModule s n mo) n
  else
    let s := { s with healthLog := n :: s.healthLog }
    let s := actOrder (assertMrst s n) n .off
    setChan s n { chanOf s n with ownSeason := 0 }

/-- An erase has passed (R215, R218, R219). -/
def erasePassed (s : State) (n : Nat) (c : LinkCmd) : State :=
  match s.modules.get n with
  | none => s
  | some m =>
    let l := m.linear c.addr
    let b := m.block l
    setBlock s n l { b with
      pe := min 131071 (b.pe + 1), score := 0, heat := 0, progHours := 0, dirty := false, slc := decide (c.arg = 1) }

/-- A command has ended with PASS. -/
def commandPassed (s : State) (n tag : Nat) (c : LinkCmd) (page : List Byte) : State :=
  if c.reads then readPassed s n tag c
  else if c.op = 0x03 then
    match c.why with
    | .strip key m i => stripPagePassed s key m i c.addr n
    | .logPage g mk num => logPagePassed s g mk num n c.addr
    | .journal g m num => journalPagePassed s g m num
    | _ => s
  else if c.op = 0x04 then erasePassed s n c
  else if c.op = 0x06 then
    match s.modules.get n with
    | some m => { s with modules := s.modules.set n { m with levels := (c.arg :: m.levels).eraseDups } }
    | none => s
  else if c.op = 0x08 && c.why = .identify then identified s n page
  else s

/-- An internal fault of the controller ends a read: INTERNAL to the host command behind it (Table 8-7). -/
def readInternal (n : Nat) (a : FlashAddr) (s : State) (x : Nat × Need) : State :=
  match x.2 with
  | .host q _ => complete s q 0xFF 0
  | _ => unreadable s n a x.1 x.2

/-- The sectors of a zone among log codewords. -/
def logSectors (cws : List LogCw) (ns zone : Nat) : List Nat :=
  (cws.filter fun c => c.sec.ns = ns && c.sec.zone = zone).map fun c => c.sec.sector

/-- A log page that met an internal fault: the writes of its zones fail (Table 8-7, R64). -/
def logInternal (s : State) (g mk num : Nat) : State :=
  match (groupOf s g).bind (·.member mk) with
  | none => s
  | some y =>
    match y.logSent.find? fun p => p.num = num with
    | none => s
    | some p =>
      let s := keepMember s g mk { y with logSent := y.logSent.filter fun r => r.num ≠ num }
      (logZones p.cws).foldl (fun s z => failZone s z.1 z.2 (logSectors p.cws z.1 z.2)) s

/-- A command ended with ADDR_INVALID or OPCODE_INVALID (Table 8-7, R242). -/
def commandInvalid (s : State) (n : Nat) (c : LinkCmd) : State :=
  let s := { s with healthLog := n :: s.healthLog }
  if c.reads then c.cws.foldl (readInternal n c.addr) s
  else match c.why with
  | .strip key _ _ => abandonStripe s key
  | .logPage g mk num => logInternal s g mk num
  | .journal g m num => replaceJournal s g m num
  | _ => if c.op = 0x04 then eraseFailed s n c else s

/-- A program or erase was refused because the module saw its supply warning: the data is placed again, and the block is not
retired (Table 8-7). -/
def commandWarned (s : State) (n : Nat) (c : LinkCmd) : State :=
  if c.op = 0x03 then replaceProgram n s c
  else if c.op = 0x04 then
    let l := linkOf s n
    putLink s n { l with waiting := { c with issued := 0 } :: l.waiting }
  else s

/-- A command has failed as its kind fails (Table 8-7). -/
def commandFailed (s : State) (n tag : Nat) (c : LinkCmd) : State :=
  if c.reads then readFailed s n tag c
  else if c.op = 0x03 then programFailed s n c
  else if c.op = 0x04 then eraseFailed s n c
  else s

/-- CLAIM_REJECTED in a STATUS (Table 8-7, R355). -/
def claimRejected (s : State) (n : Nat) : State :=
  demote (alert (bump s (mlkPage n) O.MLK_CLAIM_REJ_CNT) (mlkPage n) O.MLK_ALERT 6)

/-- A command under a tag has its STATUS (Table 8-7); one to the claim broadcast confirms the claim (R358). A controller that no longer runs the shelf only frees the tag. -/
def commandEnded (s : State) (n tag : Nat) (c : LinkCmd) (code : Nat) (page : List Byte) : State :=
  if code = 6 then claimRejected s n
  else if c.why = .probe then { s with pair := { s.pair with probes := s.pair.probes.filter (· ≠ n) } }
  else if !s.rules then s
  else if code = 0 then commandPassed s n tag c page
  else if code = 4 || code = 5 then commandInvalid s n c
  else if code = 7 && !c.reads then commandWarned s n c
  else commandFailed s n tag c

/-- STATUS (R208, R209, R210): it frees its tag; one for a freed tag is late. -/
def statusFrame (s : State) (n : Nat) (h : LinkHdr) (code : Nat) (page : List Byte) : State :=
  match acceptFrame s n h with
  | (false, s) => s
  | (true, s) =>
    let l := linkOf s n
    let l := { l with outSts := l.outSts + 1 }
    match l.tags.get h.tag with
    | none => bump (putLink s n l) (mlkPage n) O.MLK_LATE_STS_CNT
    | some c =>
      let l := { l with tags := l.tags.erase h.tag, dataQueue := l.dataQueue.filter (· ≠ h.tag) }
      commandEnded (putLink s n l) n h.tag c code page

/-- Timeout of a kind of command in ticks (MLK_TMO). -/
def commandTmo (s : State) (n op : Nat) : Nat :=
  if op = 0x04 then regField s (mlkPage n) O.MLK_TMO 24 8 * ticksMs
  else if op = 0x03 then regField s (mlkPage n) O.MLK_TMO 16 8 * ticksMs
  else regField s (mlkPage n) O.MLK_TMO 0 16 * ticksUs

/-- MODULE_CMD_TIMEOUT (R210): the tag is freed, counted and logged, the die is reset, and the command is treated by its
kind. -/
def moduleCmdTimeout (s : State) (n tag : Nat) : State :=
  match (linkOf s n).tags.get tag with
  | none => s
  | some c =>
    let s := countTimeout n (clockTo s (c.issued + commandTmo s n c.op)) (tag, c)
    let l := linkOf s n
    let s := putLink s n { l with tags := l.tags.erase tag, dataQueue := l.dataQueue.filter (· ≠ tag) }
    if !s.rules then s
    else
      let s := if c.op = 0x07 then s else pushCmd s n { op := 0x07, addr := { chan := c.addr.chan, die := c.addr.die } }
      if c.reads then
        if c.reissued then readLost s n c else pushCmd s n { c with reissued := true, frames := 0 }
      else if c.op = 0x03 then programFailed s n c
      else if c.op = 0x04 then eraseFailed s n c
      else s

/-! ## The commands -/

/-- An effect on a slot. -/
def onSlot (n : Nat) (t : State) : Res := onUnit "slot" n 48 t

/-- TRAINING_START (R201). -/
def execTrainingStart (slot : Nat) (s : State) : Res := onSlot slot (trainingStart s slot)

/-- TRAIN_TIMEOUT (R201). -/
def execTrainTimeout (slot : Nat) (s : State) : Res := onSlot slot (trainTimeout s slot)

/-- LINK_PARAM (R201). -/
def execLinkParam (slot : Nat) (p : LinkParam) (s : State) : Res := onSlot slot (noteStatus s (linkParam s slot p))

/-- READ_DATA (R203, R208). -/
def execReadData (slot : Nat) (h : LinkHdr) (data : List Byte) (s : State) : Res :=
  onSlot slot (noteStatus s (readData s slot h data))

/-- LINK_ACK (R203). -/
def execLinkAck (slot seq claim : Nat) (s : State) : Res := onSlot slot (noteStatus s (linkAck s slot seq claim))

/-- LINK_NAK (R203, R205). -/
def execLinkNak (slot seq claim : Nat) (s : State) : Res := onSlot slot (noteStatus s (linkNak s slot seq claim))

/-- CREDIT (R206). -/
def execCredit (slot cmd data sts claim : Nat) (s : State) : Res :=
  onSlot slot (noteStatus s (creditFrame s slot cmd data sts claim))

/-- LINK_ACK_TIMER (R203). -/
def execLinkAckTimer (slot : Nat) (s : State) : Res := onSlot slot (linkAckTimer s slot)

/-- REPLAY_TIMER (R203, R205). -/
def execReplayTimer (slot : Nat) (s : State) : Res := onSlot slot (replayTimer s slot)

/-- RETRAIN_RESULT (R205). -/
def execRetrainResult (slot : Nat) (pass : Bool) (s : State) : Res := onSlot slot (noteStatus s (retrainResult s slot pass))

/-- BAD_CRC_FRAME (R202, R342). -/
def execBadCrcFrame (slot : Nat) (pair : Bool) (s : State) : Res :=
  if pair then .next (badCrcFrame s slot true) else onSlot slot (badCrcFrame s slot false)

/-- PRSNT_CHANGE (R207). -/
def execPrsntChange (slot : Nat) (asserted : Bool) (s : State) : Res := onSlot slot (prsntChange s slot asserted)

/-- MODULE_ALERT (R207). -/
def execModuleAlert (slot : Nat) (s : State) : Res := onSlot slot (moduleAlert s slot)

/-- MRST_WRITE (R207): a write of MLK_SB_CTRL. -/
def execMrstWrite (req slot : Nat) (assert : Bool) (s : State) : Res :=
  onSlot slot (noteStatus s (writeBlock (mrstEffect slot) s req (mlkPage slot) O.MLK_SB_CTRL (Word.ofNum (num assert))))

/-- MRST_RELEASE (R207). -/
def execMrstRelease (slot : Nat) (s : State) : Res := onSlot slot (mrstRelease s slot)

/-- READ_PAGE (R208, R211). -/
def execReadPage (slot tag : Nat) (a : FlashAddr) (level : Nat) (s : State) : Res :=
  onSlot slot (if level ≤ 8 then issueCommand s slot tag 0x01 a level true else s)

/-- READ_SOFT (R208, R212). -/
def execReadSoft (slot tag : Nat) (a : FlashAddr) (level : Nat) (s : State) : Res :=
  onSlot slot (if level ≤ 8 then issueCommand s slot tag 0x02 a level true else s)

/-- PROGRAM_PAGE (R208, R209, R229). -/
def execProgramPage (slot tag : Nat) (a : FlashAddr) (slc : Bool) (s : State) : Res :=
  onSlot slot (issueCommand s slot tag 0x03 a (num slc) false)

/-- ERASE_BLOCK (R208, R209, R229). -/
def execEraseBlock (slot tag : Nat) (a : FlashAddr) (slc : Bool) (s : State) : Res :=
  onSlot slot (issueCommand s slot tag 0x04 a (num slc) false)

/-- READ_STATUS (R208). -/
def execReadStatus (slot tag : Nat) (a : FlashAddr) (s : State) : Res :=
  onSlot slot (issueCommand s slot tag 0x05 a 0 true)

/-- SET_READ_LEVELS (R208): sets 1 to 8. -/
def execSetReadLevels (slot tag : Nat) (a : FlashAddr) (set : Nat) (_offsets : List Int) (s : State) : Res :=
  onSlot slot (if 1 ≤ set && set ≤ 8 then issueCommand s slot tag 0x06 a set true else s)

/-- DIE_RESET (R208, R210). -/
def execDieReset (slot tag : Nat) (a : FlashAddr) (s : State) : Res :=
  onSlot slot (issueCommand s slot tag 0x07 a 0 true)

/-- TELEMETRY (R208): pages 0 to 2. -/
def execTelemetry (slot tag page : Nat) (s : State) : Res :=
  onSlot slot (if page ≤ 2 then issueCommand s slot tag 0x08 {} page true else s)

/-- MODULE_CMD_TIMEOUT (R210). -/
def execModuleCmdTimeout (slot tag : Nat) (s : State) : Res := onSlot slot (noteStatus s (moduleCmdTimeout s slot tag))

end Sys2Proof.Machine
end

