-- ==== Sys2Proof/Machine/Power.lean ====
section
/-! DEFINITION. The commands of the slot power die (R303 to R316, R352, R353, R455, R467): orders and the claims they
carry, channel events, and what power-good and READY mean to a slot's link and group (R257, R289, R295). -/
namespace Sys2Proof.Machine

/-! ## What a channel's change means to its slot -/

/-- The group of a slot is in Spring or Summer, or the slot has a Spring of its own (R289, R295). -/
def slotAwake (s : State) (n : Nat) : Bool :=
  (chanOf s n).ownSeason ≠ 0 ||
  (((memberAt s n).bind fun e => groupOf s e.1).any fun x => x.season = .spring || x.season = .summer)

/-- Power-good has asserted: the ROM releases the slot's MRST (R289, step 3). -/
def powerGood (s : State) (n : Nat) : State := if s.rules && slotAwake s n then releaseMrst s n else s

/-- A channel has reached READY: the ROM orders ON to a member that is to be up (R289, step 2), and wants a Spring for a slot
of no group whose module is not identified (R295). -/
def channelReady (s : State) (n : Nat) : State :=
  if !s.rules then s
  else match memberAt s n with
  | some (g, _) => romOrderOn s g n
  | none => if (chanOf s n).identified then s else setChan s n { chanOf s n with ownWake := true }

/-- What follows a change of a channel. -/
def channelChanged (before after : State) (n : Nat) : State :=
  let b := chanOf before n
  let a := chanOf after n
  let s := if b.pg && !a.pg then linkToDown after n false else after
  let s := if a.st = .ready && b.st ≠ .ready then channelReady s n else s
  if !b.pg && (chanOf s n).pg then powerGood s n else s

/-- A channel event of a slot, with what follows it. A die in lockout takes none (R455). -/
def channelEvent (s : State) (n : Nat) (f : State → State) : Res :=
  onSlot n (if s.die.uvlo then s else noteStatus s (channelChanged s (f s) n))

/-! ## Drive ownership (R352, R353) -/

/-- The state in which a new drive owner takes a channel over by its own sensing (R353). -/
def senseChannel (_n : Nat) (c : Channel) : Channel :=
  let on := decide (c.activeMv ≤ c.outMv + 300) && decide (0 < c.activeMv)
  { c with
    st := if on then .on else if c.present && c.fed then .ready else .off
    pg := on, ftCount := 0, ftRun := none, ftBelow := none, rampTimer := false, retries := 0 }

/-- Ownership of the slot drive moves: a new owner drives from the last state record where one came in the last 20 us, else
from its own sensing; a former owner lets go 1 us after the new owner starts (R353). -/
def moveOwner (s : State) (mine : Bool) : State :=
  if s.die.owner = mine then s
  else if mine then
    { s with
      die := { s.die with owner := true }
      pair := { s.pair with releaseAt := none }
      channels := if spxUp s then s.channels else s.channels.mapVals senseChannel }
  else
    { s with
      die := { s.die with owner := false }
      pair := { s.pair with releaseAt := some (s.time.now + ticksUs) } }

/-- The die sees a claim: one above SPC_CLAIM raises it, and moves the ownership (R315, R352). -/
def dieSeesClaim (s : State) (claim : Nat) : State :=
  if claim ≤ s.die.claim then s
  else
    let s := { s with die := { s.die with claim := claim } }
    let s := emit (alert s spcPage O.SPC_ALERT 0) (.spxClaim claim)
    moveOwner s (decide (claim % 2 = s.boot.ctrlId))

/-- DRIVE_RELEASE (R353): the former owner's outputs go high-impedance. -/
def driveRelease (s : State) : State :=
  match s.pair.releaseAt with
  | none => s
  | some t =>
    let s := clockTo s t
    emit { s with pair := { s.pair with releaseAt := none } } .gatesFloat

/-! ## Orders (R308, R315, R352) -/

/-- An order arrives at the die with its claim. A lower claim is refused, and demotes the controller where the order was its
own (R355). A die that does not own the drive forwards the order, and returns the owner's RESULT, which only the owner knows. -/
def spwOrder (s : State) (n claim : Nat) (o : SpwOrder) : State :=
  if !dieReachable s then s
  else if claim < s.die.claim then
    let s := setResult s n 1
    if claim % 2 = s.boot.ctrlId then demote s else s
  else
    let s := dieSeesClaim s claim
    if !s.die.owner then
      let (k, s) := draw s
      emit (setResult s n (Config.freeNat k % 5)) (.spxOrder n o.code claim)
    else if !isEnabled s (spwPage n) then setResult s n 4
    else actOrder s n o

/-- An order with what it brings about on the slot. -/
def orderSlot (s : State) (n claim : Nat) (o : SpwOrder) : State := channelChanged s (spwOrder s n claim o) n

/-- What a write of SPW_CMD does once stored: GO = 1 applies OP with the claim that PAIR holds (R9, R308, R315). -/
def spwCmdEffect (n : Nat) (_ after : State) : State :=
  let v := regOf after (spwPage n) O.SPW_CMD
  if !bit v 31 then after
  else
    let s := setReg after (spwPage n) O.SPW_CMD (putField v 31 1 0)
    match field v 0 2 with
    | 1 => orderSlot s n (claimOf s) .on
    | 2 => orderSlot s n (claimOf s) .off
    | 3 => orderSlot s n (claimOf s) .clear
    | _ => s

/-! ## The die as a whole (R316, R455) -/

/-- The pages of the slot power die. -/
def diePages : List Nat := spcPage :: (List.range 48).map spwPage

/-- A channel after a reset of its die: what its pins show stays, and everything else is at reset. -/
def resetChannel (_n : Nat) (c : Channel) : Channel :=
  { present := c.present, feedA := c.feedA, feedB := c.feedB, ovA := c.ovA, ovB := c.ovB, mvA := c.mvA, mvB := c.mvB
    ownSeason := c.ownSeason, ownWake := c.ownWake, identified := c.identified }

/-- A slot whose channel has lost power-good has its link brought down. -/
def dropSlot (before : State) (s : State) (n : Nat) : State :=
  if (chanOf before n).pg then linkToDown s n false else s

/-- SP_UVLO (R455): a supply is locked out, and the die is in reset. Voltages in mV. -/
def spUvlo (s : State) (vcc vin : Nat) : State :=
  if s.die.uvlo || (2900 ≤ vcc && 9000 ≤ vin) then s
  else
    let t := { s with
      die := { s.die with uvlo := true, claim := 0, totals := [] }
      channels := s.channels.mapVals resetChannel
      pages := s.pages.filter fun p _ => !diePages.contains p
      regs := s.regs.filter fun k _ => !diePages.contains (k / 4096) }
    let t := emit t .gatesFloat
    (s.channels.keys).foldl (dropSlot s) t

/-- SP_UVLO_RECOVER (R455). -/
def spUvloRecover (s : State) (vcc vin : Nat) : State :=
  if !s.die.uvlo || vcc < 3000 || vin < 9500 then s
  else alert { s with die := { s.die with uvlo := false } } spcPage O.SPC_ALERT 2

/-- DIE_OT: the die temperature, in 0.1 degrees C, rises through 125 degrees (SPC_ALERT). -/
def dieTemp (s : State) (temp : Int) : State :=
  let old := s.die.temp
  let s := { s with die := { s.die with temp := temp } }
  if old < 1250 && 1250 ≤ temp && !s.die.uvlo then alert s spcPage O.SPC_ALERT 1 else s

/-- LINK_RESTORED (R316). -/
def dieLinkUp (s : State) : State :=
  if s.die.linkUp then s else alert { s with die := { s.die with linkUp := true } } spcPage O.SPC_ALERT 2

/-! ## The commands -/

/-- SPW_ON (R308, R315). -/
def execSpwOn (slot claim : Nat) (s : State) : Res := onSlot slot (noteStatus s (orderSlot s slot claim .on))

/-- SPW_OFF (R308, R315). -/
def execSpwOff (slot claim : Nat) (s : State) : Res := onSlot slot (noteStatus s (orderSlot s slot claim .off))

/-- SPW_CLEAR (R308, R311, R315). -/
def execSpwClear (slot claim : Nat) (s : State) : Res := onSlot slot (noteStatus s (orderSlot s slot claim .clear))

/-- PRESENCE_ASSERT (R307). -/
def execPresenceAssert (slot : Nat) (s : State) : Res :=
  if s.die.uvlo then onSlot slot (setChan s slot { chanOf s slot with present := true })
  else channelEvent s slot fun t => presenceAsserted t slot

/-- PRESENCE_LOSS (R307, R312). -/
def execPresenceLoss (slot : Nat) (s : State) : Res :=
  if s.die.uvlo then onSlot slot (setChan s slot { chanOf s slot with present := false, identified := false })
  else channelEvent s slot fun t => presenceLost t slot

/-- INSERT_DELAY_END (R307). -/
def execInsertDelayEnd (slot : Nat) (s : State) : Res := channelEvent s slot fun t => insertEnds t slot

/-- FEED_WINDOW_CHANGE (R304 to R306). -/
def execFeedWindowChange (slot : Nat) (feedB : Bool) (mv : Nat) (s : State) : Res :=
  onSlot slot (noteStatus s (channelChanged s (feedChange s slot feedB mv) slot))

/-- REVERSE_CURRENT (R305). -/
def execReverseCurrent (slot : Nat) (feedB : Bool) (mv : Nat) (s : State) : Res :=
  channelEvent s slot fun t => feedReverse t slot feedB mv

/-- FEED_FET_TURN_ON (R305). -/
def execFeedFetTurnOn (slot : Nat) (feedB : Bool) (mv : Nat) (s : State) : Res :=
  channelEvent s slot fun t => feedTurnOn t slot feedB mv

/-- FEED_WARNING (R314). -/
def execFeedWarning (slot mv fall : Nat) (s : State) : Res := channelEvent s slot fun t => feedWarning t slot mv fall

/-- PWARN_DEASSERT (R314). -/
def execPwarnDeassert (slot : Nat) (s : State) : Res := channelEvent s slot fun t => pwarnEnds t slot

/-- FEED_LOSS_TIMEOUT (R306). -/
def execFeedLossTimeout (slot : Nat) (s : State) : Res := channelEvent s slot fun t => feedsGone t slot

/-- RAMP_END (R309). -/
def execRampEnd (slot outMv senseUv : Nat) (s : State) : Res := channelEvent s slot fun t => rampEnds t slot outMv senseUv

/-- RAMP_TIMEOUT (R309). -/
def execRampTimeout (slot : Nat) (s : State) : Res := channelEvent s slot fun t => rampLate t slot

/-- FAST_TRIP (R309). -/
def execFastTrip (slot senseUv : Nat) (s : State) : Res := channelEvent s slot fun t => fastTrip t slot senseUv

/-- BREAKER_CROSSING (R310). -/
def execBreakerCrossing (slot senseUv at_ : Nat) (s : State) : Res :=
  channelEvent s slot fun t => breakerCrossed (clockTo t at_) slot senseUv

/-- BREAKER_RELEASE (R310). -/
def execBreakerRelease (slot senseUv at_ : Nat) (s : State) : Res :=
  channelEvent s slot fun t => breakerReleased (clockTo t at_) slot senseUv

/-- FAULT_TIMER_EXPIRY (R310). -/
def execFaultTimerExpiry (slot : Nat) (s : State) : Res := channelEvent s slot fun t => faultTimerEnds t slot

/-- FAULT_TIMER_RESET (R310). -/
def execFaultTimerReset (slot : Nat) (s : State) : Res := channelEvent s slot fun t => faultTimerClears t slot

/-- RETRY_TIMER_END (R311). -/
def execRetryTimerEnd (slot : Nat) (s : State) : Res := channelEvent s slot fun t => retryEnds t slot

/-- OT_COOL (R311). -/
def execOtCool (slot : Nat) (temp : Int) (s : State) : Res := channelEvent s slot fun t => otCools t slot temp

/-- RETRY_COUNT_RESET (R311). -/
def execRetryCountReset (slot : Nat) (s : State) : Res := channelEvent s slot fun t => retriesClear t slot

/-- OVER_TEMPERATURE (R313). -/
def execOverTemperature (slot : Nat) (temp : Int) (s : State) : Res := channelEvent s slot fun t => overTemp t slot temp

/-- Does the measured slot power, averaged over 1 s, exceed BUDGET_W (R301)? -/
def drawOver (s : State) : Bool :=
  decide (regField s zsqPage O.ZSQ_SEASON_CFG 16 16 * 100 * ticksS <
    meanPower s.time.now (s.time.now - ticksS) s.die.totals)

/-- BUDGET_OVER is raised at a sample that finds the mean above the budget (R301). -/
def noteDraw (s : State) : State := if drawOver s then alertAt s zsqPage O.ZSQ_SEASON_ALERT 1 20 else s

/-- MEASUREMENT_SAMPLE (R301, R313, R467). -/
def execMeasurementSample (slot : Nat) (m : Measurement) (s : State) : Res :=
  channelEvent s slot fun t => noteDraw (sampleTaken t slot m)

/-- D2D_LINK_DOWN (R316): the channels hold their state. -/
def execD2dLinkDown (s : State) : Res := .next (noteStatus s { s with die := { s.die with linkUp := false } })

/-- LINK_RESTORED (R316). -/
def execLinkRestored (s : State) : Res := .next (noteStatus s (dieLinkUp s))

/-- SP_UVLO (R455). -/
def execSpUvlo (vcc vin : Nat) (s : State) : Res := .next (noteStatus s (spUvlo s vcc vin))

/-- SP_UVLO_RECOVER (R455). -/
def execSpUvloRecover (vcc vin : Nat) (s : State) : Res := .next (noteStatus s (spUvloRecover s vcc vin))

/-- DIE_OT (SPC_ALERT). -/
def execDieOt (temp : Int) (s : State) : Res := .next (noteStatus s (dieTemp s temp))

/-- DRIVE_RELEASE (R353). -/
def execDriveRelease (s : State) : Res := .next (driveRelease s)

end Sys2Proof.Machine
end

