-- ==== Sys2Proof/Machine/GroupRows.lean ====
section
/-! DEFINITION. The commands on stripe groups and their medium: definition and query of groups, spares (R231, R247, R248,
R252), lock-stepped rows (R250, R251), log reclamation (R243), wear, patrol and refresh (R219 to R222) and checkpoints
(R225). -/
namespace Sys2Proof.Machine

/-! ## ZSQ_GRP_CMD (R231, R252) -/

/-- The group that ZSQ_GRP_SEL names. -/
def grpSel (s : State) : Nat := regField s zsqPage O.ZSQ_GRP_SEL 0 4

/-- Slot of member index m in ZSQ_GRP_SLOT0 to 5. -/
def slotArg (s : State) (m : Nat) : Nat := regField s zsqPage (O.ZSQ_GRP_SLOT + 4 * (m / 4)) (8 * (m % 4)) 6

/-- May a slot join a new group (R231)? -/
def slotJoins (s : State) (n : Nat) : Bool :=
  decide (n < 48) && (memberAt s n).isNone && !(spareMask s).testBit n && (chanOf s n).present && (chanOf s n).identified &&
  ((s.modules.get n).map (·.admitted)).getD false

/-- The spare mode of a code of ZSQ_GRP_CFG.SPARE. -/
def spareOf : Nat → SpareMode
  | 1 => .slot | 2 => .distributed | _ => .none

/-- Code of a spare mode. -/
def SpareMode.code : SpareMode → Nat
  | .none => 0 | .slot => 1 | .distributed => 2

/-- Do all entries of a list differ? -/
def allDiffer (l : List Nat) : Bool := decide (l.eraseDups.length = l.length)

/-- RESULT of a DEFINE: the first test of R231 that fails. -/
def defineResult (s : State) (g : Nat) : Nat :=
  let cfg := regOf s zsqPage O.ZSQ_GRP_CFG
  let w := field cfg 24 5
  let layout := field cfg 20 2
  let slots := (List.range w).map (slotArg s)
  let j0 := field cfg 0 5
  let j1 := field cfg 5 5
  if (groupOf s g).isSome then 1
  else if (layout ≠ 1 && layout ≠ 2) || !widthOk w (layout = 2) || field cfg 16 2 = 3 then 4
  else if !allDiffer slots || !slots.all (slotJoins s) then 3
  else if j0 = j1 || w ≤ j0 || w ≤ j1 then 6
  else 0

/-- A member record for a slot with its admitted module (R248). -/
def memberFor (s : State) (slot : Nat) : Member :=
  let mo := moduleOr s slot
  { slot := slot, serial := mo.serial, capacity := mo.capacity }

/-- The group that a DEFINE makes (R231). -/
def newGroup (s : State) : Group :=
  let cfg := regOf s zsqPage O.ZSQ_GRP_CFG
  let w := field cfg 24 5
  { w := w, dual := field cfg 20 2 = 2, spare := spareOf (field cfg 16 2), lock := bit cfg 12, lockTmo := field cfg 14 2
    jmem0 := field cfg 0 5, jmem1 := field cfg 5 5
    members := (List.range w).foldl (fun t m => t.set m (memberFor s (slotArg s m))) .empty
    since := s.time.now, idleAt := s.time.now }

/-- A group's entry is written to the tables. -/
def writeGroup (s : State) (g : Nat) (x : Group) : State := journal (setGroup s g x) (.group g (some x))

/-- RESULT of a group operation; a failure is logged (R231, R252). -/
def grpResult (s : State) (g r : Nat) : State :=
  let s := setReg s zsqPage O.ZSQ_GRP_STAT (packWord [(24, r)])
  if r = 0 then s else blockError s zsqPage 0x0100 (g + r * 256)

/-- The blocks of a group on a slot are released at their next erase (R231). -/
def releaseBlocks (g slot : Nat) (s : State) : State :=
  match s.modules.get slot with
  | none => s
  | some m =>
    let mine := m.table.entries.filter fun e => e.2.group = some g && e.2.st ≠ .retired
    mine.foldl (fun s e => setBlock s slot e.1 { pe := e.2.pe, dirty := true }) s

/-- A slot that leaves its group goes to Winter (R294, R295). -/
def slotToWinter (s : State) (n : Nat) : State :=
  if (chanOf s n).gateOn then orderSlot (assertMrst s n) n (claimOf s) .off else s

/-- RETIRE (R231). -/
def retireGroup (s : State) (g : Nat) : State :=
  match groupOf s g with
  | none => grpResult s g 5
  | some x =>
    if !(zonesOn s g).isEmpty then grpResult s g 2
    else
      let slots := x.members.values.map (·.slot)
      let s := slots.foldl (fun s n => releaseBlocks g n s) s
      let s := journal { s with groups := s.groups.erase g } (.group g none)
      grpResult (slots.foldl slotToWinter s) g 0

/-- The six slot words of a group. -/
def loadSlots (x : Group) (s : State) : State :=
  (List.range 6).foldl (fun s i =>
    setReg s zsqPage (O.ZSQ_GRP_SLOT + 4 * i) (packWord ((List.range 4).map fun j =>
      (8 * j, ((x.member (4 * i + j)).map (·.slot)).getD 0)))) s

/-- QUERY (ZSQ_GRP_CFG, R247): a defined group's values, or the proposals for an undefined one. -/
def queryGroup (s : State) (g : Nat) : State :=
  match groupOf s g with
  | none =>
    let cfg := regOf s zsqPage O.ZSQ_GRP_CFG
    let v := putField (putField (putField cfg 31 1 0) 5 5 (field cfg 24 5 / 2)) 0 5 0
    grpResult (setReg (setReg s zsqPage O.ZSQ_GRP_CFG v) zsqPage O.ZSQ_GRP_STRIPES 0#32) g 0
  | some x =>
    let v := packWord [(31, 1), (24, x.w), (20, if x.dual then 2 else 1), (16, x.spare.code), (14, x.lockTmo),
      (12, num x.lock), (5, x.jmem1), (0, x.jmem0)]
    let s := setReg (loadSlots x s) zsqPage O.ZSQ_GRP_CFG v
    grpResult (setReg s zsqPage O.ZSQ_GRP_STRIPES (Word.ofNum x.next)) g 0

/-- SETLOCK (ZSQ_GRP_CMD): LOCK and LOCK_TMO_MS of a defined group. -/
def setLock (s : State) (g : Nat) : State :=
  match groupOf s g with
  | none => grpResult s g 5
  | some x =>
    let cfg := regOf s zsqPage O.ZSQ_GRP_CFG
    grpResult (writeGroup s g { x with lock := bit cfg 12, lockTmo := field cfg 14 2 }) g 0

/-- An operation of ZSQ_GRP_CMD. -/
def groupOperation (s : State) (op : Nat) : State :=
  let g := grpSel s
  match op with
  | 1 => match defineResult s g with
    | 0 => grpResult (writeGroup s g (newGroup s)) g 0
    | r => grpResult s g r
  | 2 => retireGroup s g
  | 3 => queryGroup s g
  | 4 => setLock s g
  | _ => s

/-- What a write of ZSQ_GRP_CMD does once stored: GO = 1 applies OP and clears. -/
def grpCmdEffect (_ after : State) : State :=
  let v := regOf after zsqPage O.ZSQ_GRP_CMD
  if bit v 31 then groupOperation (setReg after zsqPage O.ZSQ_GRP_CMD (putField v 31 1 0)) (field v 0 3) else after

/-- A write of ZSQ_GRP_CMD with GO = 1 and an operation. -/
def groupCommand (s : State) (req op : Nat) : State :=
  writeBlock grpCmdEffect s req zsqPage O.ZSQ_GRP_CMD (packWord [(31, 1), (0, op)])

/-- A spare mask bit written 1 for a group member is stored as 0 and logged (R252). -/
def spareConflict (base : Nat) (s : State) (i : Nat) : State :=
  if (spareMask s).testBit (base + i) && (memberAt s (base + i)).isSome then
    blockError (setSpare s (base + i) false) zsqPage 0x0102 (base + i)
  else s

/-- What a write of ZSQ_SPARE_LO or ZSQ_SPARE_HI does once stored (R248, R252). -/
def spareEffect (base n : Nat) (_ after : State) : State := (List.range n).foldl (spareConflict base) after

/-! ## Lock-stepped rows (R250, R251) -/

/-- The lowest unused tag of a link. -/
def freeTag (l : Link) : Nat := firstGap 0 l.tags.entries

/-- May member m's page of a row go now (R250): gate open, link ACTIVE with a credit, no inhibit, the page before it done? -/
def rowReady (s : State) (f : Fold) (p : Place) (m row : Nat) : Bool :=
  let l := linkOf s p.slot
  let a : FlashAddr := { p.addr with page := p.addr.page + row }
  mayIssue s p.slot (freeTag l) 0x03 a && !(row ≠ 0 && f.pagesLeft.contains (m, row - 1))

/-- The members that a row waits for: those whose page has not passed and is not on its own way, on ACTIVE members (R251). -/
def rowTargets (s : State) (key : Nat) (f : Fold) (row : Nat) : List (Nat × Place) :=
  f.places.entries.filter fun e =>
    f.pagesLeft.contains (e.1, row) && linkActive s e.2.slot &&
    !((linkOf s e.2.slot).waiting ++ (linkOf s e.2.slot).tags.values).any fun c => c.why = .strip key e.1 row

/-- One member's page of a row goes out under a free tag. -/
def sendRowPage (key row : Nat) (f : Fold) (s : State) (e : Nat × Place) : State :=
  sendCommand s e.2.slot (freeTag (linkOf s e.2.slot)) (stripProgram s key e.1 row e.2 f)

/-- LOCKSTEP_RELEASE (R250): at tick T the PROGRAM_PAGE commands of a row go out together, where every targeted slot meets the
conditions; otherwise T is chosen again. The pages of members that are not ACTIVE join those waiting at their links (R251). -/
def lockstepRelease (s : State) (g n row at_ : Nat) : State :=
  let key := stripeKey g n
  match foldOf s key with
  | none => s
  | some f =>
    if !f.released || !f.locked || f.rows.head? ≠ some row || at_ < s.time.now + 2 * ticksUs then s
    else
      let targets := rowTargets s key f row
      if !targets.all fun e => rowReady s f e.2 e.1 row then s
      else
        let away := f.places.entries.filter fun e =>
          f.pagesLeft.contains (e.1, row) && !linkActive s e.2.slot
        let s := setFold (clockTo s at_) key { f with rows := f.rows.drop 1 }
        let s := targets.foldl (sendRowPage key row f) s
        away.foldl (fun s e => pushCmd s e.2.slot (stripProgram s key e.1 row e.2 f)) s

/-- LOCK_TMO_MS in ticks (ZSQ_GRP_CFG). -/
def lockTicks (code : Nat) : Nat :=
  (match code with
  | 0 => 10 | 1 => 20 | 2 => 50 | _ => 100) * ticksMs

/-- LOCK_TIMEOUT (R251): a member whose PROG_INHIBIT has lasted LOCK_TMO_MS leaves the row; its page goes alone later. -/
def lockTimeout (s : State) (g n m : Nat) : State :=
  let key := stripeKey g n
  match foldOf s key, groupOf s g with
  | some f, some x =>
    match f.places.get m, f.rows with
    | some p, row :: _ =>
      if !f.released || !f.locked || !(chanOf s p.slot).pwarn || !(rowTargets s key f row).any (fun e => e.1 = m) then s
      else
        let s := clockTo s ((chanOf s p.slot).pwarnAt + lockTicks x.lockTmo)
        pushCmd s p.slot (stripProgram s key m row p f)
    | _, _ => s
  | _, _ => s

/-! ## Freeing blocks (R243, R222, R283) -/

/-- Is a command that reads a block waiting or in flight at a slot (R21)? -/
def blockBeingRead (s : State) (slot : Nat) (a : FlashAddr) : Bool :=
  let l := s.links.getD slot {}
  (l.waiting ++ l.tags.values).any fun c => c.why = .read && c.addr.sameBlock a

/-- Does the extent map, a stripe in flight or a read looked up before still name a block? -/
def blockMapped (s : State) (slot : Nat) (a : FlashAddr) : Bool :=
  (s.stripes.values.any fun t => t.strips.values.any fun p => p.slot = slot && p.addr.sameBlock a) ||
  (s.folds.values.any fun f => f.places.values.any fun p => p.slot = slot && p.addr.sameBlock a) ||
  (s.logMap.values.any fun ps => ps.any fun p => p.slot = slot && p.addr.sameBlock a) || blockBeingRead s slot a

/-- FULL strip blocks of a slot in which no strip is mapped become FREE, to be erased before their next use. -/
def freeSlotBlocks (s : State) (slot : Nat) : State :=
  match s.modules.get slot with
  | none => s
  | some m =>
    let gone := m.table.entries.filter fun e =>
      e.2.use = .strips && e.2.st = .full && !blockMapped s slot (m.place e.1 0)
    gone.foldl (fun s e => setBlock s slot e.1 { pe := e.2.pe, dirty := true }) s

/-- Blocks of a group that hold nothing any more are freed. -/
def freeBlocks (s : State) (g : Nat) : State :=
  match groupOf s g with
  | none => s
  | some x => (x.members.values.map (·.slot)).foldl freeSlotBlocks s

/-! ## Interim log reclamation (R243) -/

/-- A slot's log block of the lowest order. -/
def oldestLog (m : Module) (g : Nat) : Option (Nat × EraseBlock) :=
  (m.table.entries.filter fun e => e.2.use = .log && e.2.group = some g && e.2.st = .slc).foldl
    (fun best e => match best with
      | none => some e
      | some b => if e.2.order < b.2.order then some e else some b) none

/-- The log sectors whose copy lies in a block of a slot. -/
def logKeysIn (s : State) (slot : Nat) (a : FlashAddr) : List Nat :=
  (s.logMap.filter fun _ ps => ps.any fun p => p.slot = slot && p.addr.sameBlock a).keys

/-- A log copy of a sector moves to another place: journalled (R222, R224). -/
def moveLog (slot : Nat) (a : FlashAddr) (dest : Place) (s : State) (key : Nat) : State :=
  let ps := ((s.logMap.get key).getD []).map fun p => if p.slot = slot && p.addr.sameBlock a then dest else p
  journal { s with logMap := s.logMap.set key ps } (.logPlace key ps)

/-- The log copies of sectors are placed on the pages that start at `to`, one codeword each, in order. -/
def placeLogs (move : Place → State → Nat → State) (slot cws : Nat) (dest : FlashAddr) : Nat → List Nat → State → State
  | _, [], s => s
  | i, k :: ks, s =>
    placeLogs move slot cws dest (i + 1) ks
      (move ⟨slot, { dest with page := dest.page + i / cws }, i % cws⟩ s k)

/-- LOG_RECLAIM (R243): the live codewords of a member's oldest log block go to its open log block, and the block is freed;
where a program of the copy fails, the block that took it is retired and nothing is switched (R217, R222). -/
def logReclaim (s : State) (g m : Nat) (pass : Bool) : State :=
  match (groupOf s g).bind (·.member m) with
  | none => s
  | some y =>
    match s.modules.get y.slot with
    | none => s
    | some mo =>
      match oldestLog mo g with
      | none => s
      | some (l, b) =>
        let share := b.obsolete * 100
        let full := decide (mo.pages true ≤ b.nextPage)
        if !inSummer s g || !full || share < regField s zsqPage O.ZSQ_LOG_CFG 24 8 * (b.nextPage * mo.pageCws) then s
        else
          let a := mo.place l 0
          let keys := logKeysIn s y.slot a
          match takePages s y.slot g .log true false (ceilDiv keys.length mo.pageCws) with
          | none => s
          | some (dest, s) =>
            if !pass then retireBlock s y.slot dest
            else
              let s := placeLogs (moveLog y.slot a) y.slot mo.pageCws dest 0 keys s
              setBlock s y.slot l { pe := b.pe, dirty := true }

/-! ## Wear and retention (R219 to R222) -/

/-- Terms of the exponential series of y / 10^12, each term from the last: term, index, terms left. -/
def expTerms (y : Int) : Nat → Int → Nat → Int
  | 0, _, _ => 0
  | f + 1, term, i => term + expTerms y f (term * y / (((i + 1 : Nat) : Int) * 1000000000000)) (i + 1)

/-- A number of 10^-12 squared so many times. -/
def squareTimes : Nat → Int → Int
  | 0, v => v
  | n + 1, v => squareTimes n (v * v / 1000000000000)

/-- exp(12,765 × (1/313.15 − 1/T)) at a temperature in degrees C, in 10^-12 (R220): the series at 1/256 of the exponent,
squared eight times. -/
def heatFactor (temp : Int) : Nat :=
  let k := 27315 + 100 * temp
  if k ≤ 0 then 0
  else
    let x := 1276500 * (100 * temp - 4000) * 1000000000000 / (31315 * k)
    (squareTimes 8 (expTerms (x / 256) 12 1000000000000 0)).toNat

/-- Equivalent days of a number of 10^-12 days: the whole days, and one more or not (the manual gives no rounding: log
entry 27). -/
def heatDays (s : State) (n : Nat) : Nat × State :=
  let (k, s) := draw s
  (n / 1000000000000 + Config.freeNat k % 2, s)

/-- Every programmed block of a slot ages by so many days (R218, R220). -/
def ageBlocks (s : State) (slot days : Nat) : State :=
  match s.modules.get slot with
  | none => s
  | some m =>
    let hot := m.table.entries.filter fun e => decide (e.2.nextPage ≠ 0)
    hot.foldl (fun s e => setBlock s slot e.1 { e.2 with heat := min 4095 (e.2.heat + days) }) s

/-- HEAT_UPDATE (R220): one day, at the module's mean temperature; a day in Winter at that of its last Autumn, and the Winter
days again at the mean where the module then reports a higher temperature. -/
def heatUpdate (s : State) (slot : Nat) (temp : Int) : State :=
  match s.modules.get slot with
  | none => s
  | some m =>
    let season := (memberAt s slot).bind fun e => (groupOf s e.1).map (·.season)
    let winter : Bool := (season.map fun x => decide (x = .winter)).getD true
    if winter then
      let (d, s) := heatDays s (heatFactor m.autumnTemp)
      ageBlocks { s with modules := s.modules.set slot { m with winterDays := m.winterDays + 1 } } slot d
    else
      let mean := (temp + m.autumnTemp) / 2
      let again := if m.autumnTemp < temp then m.winterDays * (heatFactor mean - heatFactor m.autumnTemp) else 0
      let (d, s) := heatDays s (heatFactor temp + again)
      ageBlocks { s with modules := s.modules.set slot { m with temp := temp, winterDays := 0 } } slot d

/-- The codewords of a stripe's row are present, those of OUT members counted (R272). -/
def rowLater (s : State) (g : Nat) (t : Stripe) (m : Nat) : Bool :=
  match t.strips.get m with
  | some p => slotPresent s g p.slot || slotOut s g p.slot
  | none => false

/-- A row of which codewords are unreadable is lost where it is beyond parity (R272): CAUSE 2. -/
def loseIfBeyond (s : State) (key : Nat) (t : Stripe) (row m : Nat) (bad : List Nat) : State :=
  let ok (i : Nat) : Bool := rowLater s (keyGroup key) t i && !bad.contains i
  match rowInputs t (keyStripe key) ok m with
  | some _ => s
  | none => loseRow s key t row 2 fun i => !ok i

/-- The strip of the extent map that lies on a page of a slot: stripe key, stripe, member and row of a codeword. -/
def stripOn (s : State) (mo : Module) (slot : Nat) (a : FlashAddr) (cw : Nat) : Option (Nat × Stripe × Nat × Nat) :=
  s.stripes.entries.findSome? fun e =>
    (e.2.strips.entries.find? fun p => p.2.slot = slot && p.2.addr.sameBlock a && p.2.addr.page ≤ a.page &&
      decide (a.page < p.2.addr.page + mo.stripPages)).map
      fun p => (e.1, e.2, p.1, (a.page - p.2.addr.page) * mo.pageCws + cw)

/-- A codeword of a block was unreadable on a patrol visit (R216, R221): its row is looked at. -/
def patrolUnreadable (slot l : Nat) (s : State) (c : Nat) : State :=
  match s.modules.get slot with
  | none => s
  | some mo =>
    let a := mo.place l (c / mo.pageCws)
    match stripOn s mo slot a (c % mo.pageCws) with
    | none => s
    | some (key, t, m, row) => loseIfBeyond s key t row m [m]

/-- PATROL_VISIT (R221): the ROM reads pages of a block; `rber` is the rate it measured, `bad` the codewords of the block that
were unreadable. A group in Winter is woken first. -/
def patrolVisit (s : State) (g m l rber : Nat) (bad : List Nat) : State :=
  match (groupOf s g).bind (·.member m) with
  | none => s
  | some y =>
    match s.modules.get y.slot with
    | none => s
    | some mo =>
      let b := mo.block l
      if b.nextPage = 0 then s
      else
        let period := regField s (mlxPage 0) O.MLX_PATROL_CFG 0 8 * 86400 * ticksS
        let late := decide (b.visitAt + period < s.time.now)
        if !inSummer s g then
          let s := requestWake s g .patrol
          if late then alert s (mlxPage 0) O.MLX_MED_ALERT 0 else s
        else
          let s := setBlock s y.slot l { b with
            visitAt := s.time.now
            refreshDue := b.refreshDue || decide (regField s (mlxPage 0) O.MLX_REFRESH_CFG 16 16 < rber) }
          if bad.isEmpty then s
          else bad.foldl (patrolUnreadable y.slot l) (suspectBlock s y.slot (mo.place l 0))

/-- The strips of the extent map that lie in a block of a slot: stripe key and member, in page order. -/
def stripsIn (s : State) (slot : Nat) (a : FlashAddr) : List (Nat × Nat) :=
  let hits := s.stripes.entries.flatMap fun e =>
    (e.2.strips.entries.filter fun p => p.2.slot = slot && p.2.addr.sameBlock a).map fun p => (p.2.addr.page, e.1, p.1)
  (hits.mergeSort fun x y => decide (x.1 ≤ y.1)).map (·.2)

/-- The strip of a stripe at a member moves to another place: the map switches, journalled (R222, R224). -/
def moveStrip (dest : Place) (s : State) (key m : Nat) : State :=
  match s.stripes.get key with
  | none => s
  | some t =>
    let t := { t with strips := t.strips.set m dest }
    journal { s with stripes := s.stripes.set key t } (.stripe key t)

/-- Strips are placed one after another in a block that starts at `to`. -/
def placeMoved (slot pages : Nat) (dest : FlashAddr) : Nat → List (Nat × Nat) → State → State
  | _, [], s => s
  | i, (k, m) :: r, s =>
    placeMoved slot pages dest (i + 1) r (moveStrip ⟨slot, { dest with page := dest.page + i * pages }, 0⟩ s k m)

/-- A block's strips and log copies are copied into a FREE block of the same member (R216, R217, R222): the map switches once
all of the copy has passed. The old block is freed, or stays RETIRED. -/
def relocate (s : State) (g slot l fresh : Nat) (pass : Bool) : State :=
  match s.modules.get slot with
  | none => s
  | some mo =>
    let b := mo.block l
    let f := mo.block fresh
    let a := mo.place l 0
    let dest := mo.place fresh 0
    let strips := stripsIn s slot a
    let keys := logKeysIn s slot a
    let pages := strips.length * mo.stripPages + ceilDiv keys.length mo.pageCws
    let erased := !mo.table.has fresh || f.dirty || f.slc ≠ b.slc
    let st : BlockState := if b.slc then .slc else if mo.pages false < pages + mo.stripPages then .full else .opened
    let s := setBlock s slot fresh
      { st := st, pe := if erased then min 131071 (f.pe + 1) else f.pe, use := b.use, group := some g, nextPage := pages
        slc := b.slc, reserved := b.reserved, order := b.order, visitAt := s.time.now, progHours := deviceHours s }
    if !pass then retireBlock s slot dest
    else
      let s := placeMoved slot mo.stripPages dest 0 strips s
      let logTo : FlashAddr := { dest with page := dest.page + strips.length * mo.stripPages }
      let s := placeLogs (moveLog slot a) slot mo.pageCws logTo 0 keys s
      let kept : EraseBlock := { pe := b.pe, dirty := true }
      setBlock s slot l (if b.st = .retired || b.st = .suspect then { b with st := .retired, refreshDue := false } else kept)

/-- BLOCK_REFRESH (R215 to R217, R219, R221, R222): a block whose refresh or relocation is due is copied into the FREE block
that R219 names. -/
def blockRefresh (s : State) (g m l fresh : Nat) (pass : Bool) : State :=
  match (groupOf s g).bind (·.member m) with
  | none => s
  | some y =>
    match s.modules.get y.slot with
    | none => s
    | some mo =>
      let b := mo.block l
      if !(b.refreshDue || b.st = .suspect) || mo.pickFree ≠ some fresh then s
      else if !inSummer s g then requestWake s g .internal
      else if (slotMember s g y.slot).any fun e => e.2.st.inactive then s
      else relocate s g y.slot l fresh pass

/-- The block of a list with the lowest or the highest P/E count, at a tie the lower address. -/
def extremeBlock (low : Bool) : List (Nat × Nat) → Option (Nat × Nat)
  | [] => none
  | a :: r => some (r.foldl (fun b e => if (low && e.2 < b.2) || (!low && b.2 < e.2) then e else b) a)

/-- WEAR_LEVEL (R219): where the spread of P/E over FULL and FREE blocks exceeds the gap, the strips of the lowest-P/E FULL
block go into the highest-P/E FREE block. -/
def wearLevel (s : State) (g m : Nat) : State :=
  match (groupOf s g).bind (·.member m) with
  | none => s
  | some y =>
    match s.modules.get y.slot with
    | none => s
    | some mo =>
      let of_ (st : BlockState) : List (Nat × Nat) :=
        (mo.table.entries.filter fun e => decide (e.2.st = st)).map fun e => (e.1, e.2.pe)
      let gap := firstGap 0 mo.table.entries
      let free := (if gap < mo.total then [(gap, 0)] else []) ++ of_ .free
      let all := of_ .full ++ free
      match extremeBlock true (of_ .full), extremeBlock false free, extremeBlock true all, extremeBlock false all with
      | some (l, _), some (f, _), some (_, lo), some (_, hi) =>
        if !inSummer s g || hi - lo ≤ 10 * regField s (mlxPage 0) O.MLX_REFRESH_CFG 0 8 || y.st.inactive then s
        else relocate s g y.slot l f true
      | _, _, _, _ => s

/-! ## Checkpoints (R225) -/

/-- The group whose tables a journal record belongs to. -/
def recordGroup (s : State) : RecordBody → Option Nat
  | .zone _ _ z => z.group
  | .block slot _ _ | .admitted slot _ _ => (memberAt s slot).map (·.1)
  | .stripe k _ | .unstripe k | .foldOpen k _ | .foldClose k | .foldAbandon k => some (keyGroup k)
  | .logPlace k _ => (zoneOf s (k / 2 ^ 44) (k / 2 ^ 24 % 2 ^ 20)).group
  | .group g _ | .member g _ _ => some g
  | .loss l => some l.group
  | .reshape r => some r.group
  | .reshapeEnd g => some g
  | .nsState _ _ | .nsEntry _ _ | .nwk _ _ | .nsk _ _ | .tvk _ _ | .owner _ _ => none

/-- One copy of a checkpoint is programmed in a METADATA block of a member (R225). -/
def checkpointCopy (g : Nat) (s : State) (slot : Nat) : State :=
  match takePages s slot g .checkpoint false false 1 with
  | some (_, t) => t
  | none => s

/-- CHECKPOINT (R225): two copies on two members; where both pass, the older journal records of the group are released. A
group that is not in Summer defers it. -/
def checkpoint (s : State) (g a b : Nat) (passA passB : Bool) : State :=
  match groupOf s g with
  | none => s
  | some x =>
    match x.member a, x.member b with
    | some ya, some yb =>
      if a = b || x.season ≠ .summer || ya.st.inactive || yb.st.inactive then s
      else
        let at_ := s.journalSeq
        let s := checkpointCopy g (checkpointCopy g s ya.slot) yb.slot
        if !(passA && passB) then alert s (mlxPage 0) O.MLX_MED_ALERT 2
        else
          let keep (r : JournalRecord) : Bool := at_ < r.seq || recordGroup s r.body ≠ some g
          match groupOf s g with
          | some x => setGroup { s with journal := s.journal.filter keep } g { x with ckptNs := devNs s, ckptSeq := at_ }
          | none => s
    | _, _ => s

/-! ## The commands -/

/-- An effect on a group. -/
def onGroup (g : Nat) (t : State) : Res := onUnit "group" g 12 t

/-- GROUP_DEFINE (R231). -/
def execGroupDefine (req : Nat) (s : State) : Res := .next (groupCommand s req 1)

/-- GROUP_RETIRE (R231). -/
def execGroupRetire (req : Nat) (s : State) : Res := .next (noteStatus s (groupCommand s req 2))

/-- GROUP_QUERY (R247, R252). -/
def execGroupQuery (req : Nat) (s : State) : Res := .next (groupCommand s req 3)

/-- GROUP_SETLOCK (R251, R252). -/
def execGroupSetlock (req : Nat) (s : State) : Res := .next (groupCommand s req 4)

/-- SPARE_MASK_WRITE (R248, R252). -/
def execSpareMaskWrite (req : Nat) (high : Bool) (v : Word) (s : State) : Res :=
  .next (writeBlock (if high then spareEffect 32 16 else spareEffect 0 32) s req zsqPage
    (if high then O.ZSQ_SPARE_HI else O.ZSQ_SPARE_LO) v)

/-- LOG_RECLAIM (R243). -/
def execLogReclaim (g m : Nat) (pass : Bool) (s : State) : Res :=
  onGroup g (background s (logReclaim s g m pass))

/-- LOCKSTEP_RELEASE (R250). -/
def execLockstepRelease (g n row at_ : Nat) (s : State) : Res := onGroup g (lockstepRelease s g n row at_)

/-- LOCK_TIMEOUT (R251). -/
def execLockTimeout (g n m : Nat) (s : State) : Res := onGroup g (lockTimeout s g n m)

/-- HEAT_UPDATE (R220). -/
def execHeatUpdate (slot : Nat) (temp : Int) (s : State) : Res := onSlot slot (heatUpdate s slot temp)

/-- PATROL_VISIT (R221). -/
def execPatrolVisit (g m l rber : Nat) (bad : List Nat) (s : State) : Res :=
  onGroup g (background s (patrolVisit s g m l rber bad))

/-- BLOCK_REFRESH (R222). -/
def execBlockRefresh (g m l fresh : Nat) (pass : Bool) (s : State) : Res :=
  onGroup g (background s (blockRefresh s g m l fresh pass))

/-- WEAR_LEVEL (R219). -/
def execWearLevel (g m : Nat) (s : State) : Res :=
  onGroup g (background s (wearLevel s g m))

/-- CHECKPOINT (R225). -/
def execCheckpoint (g a b : Nat) (passA passB : Bool) (s : State) : Res :=
  onGroup g (background s (checkpoint s g a b passA passB))

end Sys2Proof.Machine
end

