-- ==== Sys2Proof/Machine/Rebuild.lean ====
section
/-! DEFINITION. The commands of failure, rebuild and reshape (R263 to R285, R287): OUT timeouts, ZSQ_MBR_CMD, one stripe of
a rebuild, resync or copy-back, and one new stripe of a reshape. -/
namespace Sys2Proof.Machine

/-! ## OUT_TIMEOUT and ZSQ_MBR_CMD (R263, R287) -/

/-- OUT_TIMEOUT (R263): a member has been OUT for OUT_TMO_S. -/
def outTimeout (s : State) (g m : Nat) : State :=
  match (groupOf s g).bind (·.member m) with
  | none => s
  | some y =>
    if y.st ≠ .out then s
    else memberFailed (clockTo s (y.outAt + regField s zsqPage O.ZSQ_RBD_CFG 16 8 * ticksS)) g m

/-- Code of a member state (Table 10-1). -/
def MemberState.code : MemberState → Nat
  | .online => 0 | .out => 1 | .failed => 2 | .rebuilding => 3 | .resync => 4 | .spared => 5 | .copyback => 6 | .leaving => 7

/-- The slot that QUERY shows for a member: 63 where the index has none. -/
def Member.shownSlot (y : Member) : Nat := if y.st = .spared then 63 else y.slot

/-- RESULT of a member operation; a failure is logged (R287). -/
def mbrResult (s : State) (g m r : Nat) : State :=
  let s := setField s zsqPage O.ZSQ_MBR_CMD 24 4 r
  if r = 0 then s else blockError s zsqPage 0x0103 (g + m * 256 + r * 65536)

/-- QUERY of ZSQ_MBR_CMD. -/
def queryMember (s : State) (g m : Nat) : State :=
  match groupOf s g with
  | none => mbrResult s g m 1
  | some x =>
    if x.w ≤ m then mbrResult s g m 2
    else match x.member m with
    | none => mbrResult s g m 2
    | some y =>
      let jmem := (x.jmem0 = m || x.jmem1 = m) && !x.seeding.any fun e =>
        (e.1 = 0 && x.jmem0 = m) || (e.1 = 1 && x.jmem1 = m)
      let runs := y.sweeping || y.st = .resync
      mbrResult (setReg s zsqPage O.ZSQ_MBR_STAT
        (packWord [(28, y.st.code), (16, y.shownSlot), (1, num runs), (0, num jmem)])) g m 0

/-- FAIL of ZSQ_MBR_CMD (R263). -/
def failMember (s : State) (g m : Nat) (force : Bool) : State :=
  match groupOf s g with
  | none => mbrResult s g m 1
  | some x =>
    if x.w ≤ m then mbrResult s g m 2
    else match x.member m with
    | none => mbrResult s g m 2
    | some y =>
      if y.st = .failed || y.st = .spared then mbrResult s g m 3
      else if !force && (x.setMember m { y with st := .failed }).beyond then mbrResult s g m 4
      else memberFailed (mbrResult s g m 0) g m

/-- What a write of ZSQ_MBR_CMD does once stored: GO = 1 applies OP to the member of ZSQ_MBR_SEL and clears. -/
def mbrCmdEffect (_ after : State) : State :=
  let v := regOf after zsqPage O.ZSQ_MBR_CMD
  if !bit v 31 then after
  else
    let s := setReg after zsqPage O.ZSQ_MBR_CMD (putField v 31 1 0)
    let g := regField s zsqPage O.ZSQ_MBR_SEL 0 4
    let m := regField s zsqPage O.ZSQ_MBR_SEL 8 5
    match field v 0 2 with
    | 1 => queryMember s g m
    | 2 => failMember s g m (bit v 8)
    | _ => s

/-- A write of ZSQ_MBR_CMD with GO = 1. -/
def memberCommand (s : State) (req op : Nat) (force : Bool) : State :=
  writeBlock mbrCmdEffect s req zsqPage O.ZSQ_MBR_CMD (packWord [(31, 1), (8, num force), (0, op)])

/-! ## Restoring log copies (R265) -/

/-- The log sectors of a group that have fewer than two copies. -/
def shortLogs (s : State) (g : Nat) : List Nat :=
  (s.logMap.filter fun k ps => ps.length < 2 && (zoneOf s (k / 2 ^ 44) (k / 2 ^ 24 % 2 ^ 20)).group = some g).keys

/-- A log sector gets a place more, journalled. -/
def addLogPlace (p : Place) (s : State) (key : Nat) : State :=
  let ps := ((s.logMap.get key).getD []) ++ [p]
  journal { s with logMap := s.logMap.set key ps } (.logPlace key ps)

/-- The slot that takes a new log copy of a sector: the first that qualifies and holds none (R239). -/
def logHome (s : State) (g key : Nat) : Option Nat :=
  match groupOf s g with
  | none => none
  | some x =>
    let held := ((s.logMap.get key).getD []).map (·.slot)
    (x.members.values.find? fun y => y.qualifies && !held.contains y.slot).map (·.slot)

/-- Log copies are programmed on a slot, in as many pages as they take. -/
def copyLogs (s : State) (g slot : Nat) (keys : List Nat) : State :=
  let n := logPageCws s slot
  if keys.isEmpty then s
  else match takePages s slot g .log true false (ceilDiv keys.length n) with
    | none => s
    | some (dest, s) => placeLogs addLogPlace slot n dest 0 keys s

/-- A rebuild restores the log sectors that had a copy on the member: `bad` are the sectors whose surviving copy cannot be
decoded, and which are lost (R241, R265). -/
def restoreLogs (s : State) (g : Nat) (bad : List Nat) : State :=
  let keys := shortLogs s g
  let lost := keys.filter bad.contains
  let s := lost.foldl (fun s k =>
    dropLog (loseLogSector s (k / 2 ^ 44) (k / 2 ^ 24 % 2 ^ 20) (k % 2 ^ 24)) k) s
  let keep := keys.filter fun k => !bad.contains k
  let slots := ((groupOf s g).map fun x => x.members.values.map (·.slot)).getD []
  slots.foldl (fun s n => copyLogs s g n (keep.filter fun k => logHome s g k = some n)) s

/-! ## One stripe of a sweep (R265 to R271, R278) -/

/-- The members of a group that are swept now: none that is OUT, whose sweep pauses (R257). -/
def sweepers (x : Group) : List (Nat × Member) :=
  x.members.entries.filter fun e =>
    e.2.sweeping && (e.2.st = .rebuilding || e.2.st = .copyback || e.2.st = .failed)

/-- Does the extent map already name a valid strip of a stripe at an index (R265)? -/
def stripValid (y : Member) (t : Stripe) (m : Nat) : Bool :=
  match t.strips.get m with
  | none => false
  | some p =>
    match y.st with
    | .failed => decide (p.slot ≠ y.slot)
    | .resync => false
    | _ => decide (p.slot = y.slot)

/-- Rows of a stripe, 0 to 63. -/
def stripeRows : List Nat := List.range 64

/-- The members whose codeword of a row the sweep found unreadable: `bad` numbers member × 64 + row. -/
def badInRow (bad : List Nat) (row : Nat) : List Nat := (bad.filter fun b => b % 64 = row).map (· / 64)

/-- Can a row be read now for an index, or is it lost in any case (R259, R272)? -/
def rowNow (s : State) (g key : Nat) (t : Stripe) (m row : Nat) (bad : List Nat) : Bool :=
  let no := m :: badInRow bad row
  let now (i : Nat) : Bool := ((t.strips.get i).map fun p => slotPresent s g p.slot).getD false && !no.contains i
  let later (i : Nat) : Bool := rowLater s g t i && !no.contains i
  (rowInputs t (keyStripe key) now m).isSome || (rowInputs t (keyStripe key) later m).isNone

/-- The blocks of the codewords that a sweep found unreadable become SUSPECT (R216, Table 10-2). -/
def suspectRows (t : Stripe) (bad : List Nat) (s : State) : State :=
  (bad.map (· / 64)).eraseDups.foldl (fun s i =>
    match t.strips.get i with
    | some p => suspectBlock s p.slot p.addr
    | none => s) s

/-- A strip leaves the dirty-region log of a member (R261). -/
def cleanStripe (s : State) (g m n : Nat) : State :=
  match (groupOf s g).bind (·.member m) with
  | none => s
  | some y => if y.dirty.contains n then putMember s g m { y with dirty := y.dirty.filter (· ≠ n) } else s

/-- The strip of a stripe at an index is rebuilt, resynced or copied back (R266): none where it has to wait (R259). -/
def rebuildIndex (s : State) (g m n : Nat) (y : Member) (pass : Bool) (bad : List Nat) : Option State :=
  let key := stripeKey g n
  match s.stripes.get key with
  | none => some (cleanStripe s g m n)
  | some t =>
    if t.w ≤ m || stripValid y t m then some (cleanStripe s g m n)
    else if y.st ≠ .copyback && !stripeRows.all fun r => rowNow s g key t m r bad then none
    else
      match placeStrip s g (zoneSlots s t.ns t.zone) m n with
      | (none, _) => none
      | (some p, s') =>
        if !pass then some (retireBlock s' p.slot p.addr)
        else
          let s := if y.st = .copyback then s' else
            suspectRows t bad (stripeRows.foldl (fun s r => loseIfBeyond s key t r m (m :: badInRow bad r)) s')
          let s := bump (moveStrip p s key m) zsqPage O.ZSQ_RBD_STRIPE_CNT
          some (freeBlocks (cleanStripe s g m n) g)

/-- A sweep has ended for an index (R270, R271). -/
def sweepEnds (s : State) (g m : Nat) : State :=
  match (groupOf s g).bind (·.member m) with
  | none => s
  | some y =>
    let st : MemberState := if y.st = .failed then .spared else .online
    let s := putMember s g m { y with st := st, sweeping := false, dirty := [], heldModule := false }
    let s := memberChanged (alertAt s zsqPage O.ZSQ_RBD_ALERT 2 8) g
    if st = .spared && y.heldModule then
      match s.modules.get y.slot with
      | some mo => fillIndex s g m y.slot mo .copyback
      | none => s
    else freeBlocks s g

/-- The cursor of an index moves past a stripe (R265, R268, R270): to END, and from 0 up to START where the sweep joined
another. Every 64 stripes it is journalled. -/
def advanceCursor (s : State) (g m : Nat) : State :=
  match (groupOf s g).bind (·.member m) with
  | none => s
  | some y =>
    let c := y.cursor + 1
    if !y.wrapped && y.stop ≤ c then
      if y.start = 0 then sweepEnds s g m else putMember s g m { y with cursor := 0, wrapped := true }
    else if y.wrapped && y.start ≤ c then sweepEnds s g m
    else if c % 64 = 0 then putMember s g m { y with cursor := c }
    else keepMember s g m { y with cursor := c }

/-- A stripe of a sweep at one index: done where it need not wait and its program passed. -/
def sweepIndex (g n : Nat) (pass : Bool) (bad : List Nat) (s : State) (e : Nat × Member) : State :=
  if e.2.stop = 0 then sweepEnds s g e.1
  else match rebuildIndex s g e.1 n e.2 pass bad with
  | none => s
  | some s => if pass then advanceCursor s g e.1 else s

/-- The lowest stripe of a member's dirty-region log (R278). -/
def lowestDirty (y : Member) : Option Nat :=
  match y.dirty with
  | [] => none
  | d :: r => some (r.foldl min d)

/-- A stripe of a member's dirty-region log is resynced (R278). -/
def resyncStripe (s : State) (g m n : Nat) (y : Member) (pass : Bool) (bad : List Nat) : State :=
  match rebuildIndex s g m n y pass bad with
  | none => s
  | some s => resyncDone s g m

/-- REBUILD_STRIPE (R265 to R271, R278): log copies are restored first; then the indices that are swept together do the stripe
at their cursor, or the lowest stripe of a resync's dirty-region log is done. -/
def rebuildStripe (s : State) (g : Nat) (pass : Bool) (bad : List Nat) : State :=
  match groupOf s g with
  | none => s
  | some x =>
    if x.lost || x.season ≠ .summer then s
    else
      let sw := sweepers x
      if sw.any fun e => e.2.logRestore then
        let s := restoreLogs s g bad
        sw.foldl (fun s e => match (groupOf s g).bind (·.member e.1) with
          | some y => putMember s g e.1 { y with logRestore := false }
          | none => s) s
      else match sw with
      | (_, y) :: _ =>
        (sw.filter fun e => e.2.cursor = y.cursor).foldl (sweepIndex g y.cursor pass bad) s
      | [] =>
        match x.members.entries.find? fun e => e.2.st = .resync with
        | none => s
        | some (m, y) =>
          match lowestDirty y with
          | none => resyncDone s g m
          | some n => resyncStripe s g m n y pass bad

/-! ## Reshape (R279 to R285) -/

/-- RESULT of a reshape operation; a failure is logged (R287). -/
def rshResult (s : State) (g r : Nat) : State :=
  let s := { s with reshapeResult := r }
  if r = 0 then s else blockError s zsqPage 0x0104 (g + r * 256)

/-- Sectors of a zone that a reshape lays out again (R281): up to the fill point or the capacity of a zone that is FULL, up to
the written pointer of another. -/
def reshapeEnd (z : Zone) : Nat :=
  match z.st with
  | .full => z.fill.getD z.capacity
  | _ => z.written

/-- New zone stripes that a zone takes in a geometry: whole spans, and the last partial one of a FULL zone. -/
def newStripes (z : Zone) (span : Nat) : Nat :=
  if z.st = .full then ceilDiv (reshapeEnd z) span else reshapeEnd z / span

/-- FREE strips that a slot has for a reshape, outside the reserves, with the blocks the group holds there now (R279). -/
def stripRoom (s : State) (g : Nat) (x : Group) (slot : Nat) : Nat :=
  match s.modules.get slot with
  | none => 0
  | some m =>
    let mine := (m.table.values.filter fun b => b.use = .strips && b.group = some g && b.st ≠ .retired).length
    let spare := reserveBlocks s m + spareBlocks s x m
    (m.freeBlocks + mine - spare) * (m.pagesNative / max 1 m.stripPages)

/-- Does the written data of a group, in the new geometry, fit the new members (R279)? -/
def reshapeFits (s : State) (g w : Nat) (dual : Bool) (slots : List Nat) (x : Group) : Bool :=
  let span := max 1 (spanSectors w dual)
  let need := ((zonesOn s g).map fun k => newStripes (zoneOf s (keyNs k) (keyZone k)) span).sum
  slots.all fun n => decide (need ≤ stripRoom s g x n)

/-- May a slot stand in the new member list (R279)? -/
def slotReshapes (s : State) (g n : Nat) : Bool :=
  match memberAt s n with
  | some (h, _) => decide (h = g)
  | none => decide (n < 48) && !(spareMask s).testBit n && ((s.modules.get n).map (·.admitted)).getD false

/-- RESULT of START: the first test of R279 that fails. -/
def reshapeResult (s : State) (g w layout : Nat) (slots : List Nat) : Nat :=
  match groupOf s g with
  | none => 1
  | some x =>
    if !x.normal then 5
    else if s.reshape.isSome then 2
    else if (layout ≠ 1 && layout ≠ 2) || !widthOk w (layout = 2) then 3
    else if !allDiffer slots || !slots.all (slotReshapes s g) then 4
    else if !reshapeFits s g w (layout = 2) slots x then 6
    else 0

/-- The zones of a group in the order of R280: OPEN ones last. -/
def reshapeOrder (s : State) (g : Nat) : List Nat :=
  let ks := zonesOn s g
  let opn (k : Nat) : Bool := decide ((zoneOf s (keyNs k) (keyZone k)).st = .opened)
  ks.filter (fun k => !opn k) ++ ks.filter opn

/-- The members of a group as a reshape starts: those that leave are LEAVING, absorbed slots join above the indices. -/
def reshapeMembers (s : State) (x : Group) (slots : List Nat) : Tab Member :=
  let old := x.members.mapVals fun _ y => if slots.contains y.slot then y else { y with st := .leaving }
  let new := slots.filter fun n => !x.members.values.any fun y => decide (y.slot = n)
  (List.range new.length).foldl (fun t i => t.set (32 + i) (memberFor s ((new[i]?).getD 63))) old

/-- START of ZSQ_RSH_CMD (R279, R280). -/
def reshapeStart (s : State) : State :=
  let cfg := regOf s zsqPage O.ZSQ_RSH_CFG
  let g := field cfg 0 4
  let w := field cfg 24 5
  let layout := field cfg 20 2
  let slots := (List.range w).map (slotArg s)
  let r := reshapeResult s g w layout slots
  match groupOf s g, r with
  | some x, 0 =>
    let rs : Reshape := { group := g, w := w, dual := layout = 2, slots := slots, zones := reshapeOrder s g }
    let s := writeGroup s g { x with members := reshapeMembers s x slots }
    journal (rshResult { s with reshape := some rs } g 0) (.reshape rs)
  | _, _ => rshResult s g r

/-- What a write of ZSQ_RSH_CMD does once stored. QUERY shows what the status registers show anyway. -/
def rshCmdEffect (_ after : State) : State :=
  let v := regOf after zsqPage O.ZSQ_RSH_CMD
  if !bit v 31 then after
  else
    let s := setReg after zsqPage O.ZSQ_RSH_CMD (putField v 31 1 0)
    match field v 0 2 with
    | 1 => reshapeStart s
    | 2 => rshResult s (regField s zsqPage O.ZSQ_RSH_CFG 0 4) 0
    | _ => s

/-- A write of ZSQ_RSH_CMD with GO = 1. -/
def reshapeCommand (s : State) (req op : Nat) : State :=
  writeBlock rshCmdEffect s req zsqPage O.ZSQ_RSH_CMD (packWord [(31, 1), (0, op)])

/-- A stripe leaves the extent map: journalled (R224). -/
def dropStripe (s : State) (key : Nat) : State :=
  journal { s with stripes := s.stripes.erase key } (.unstripe key)

/-- A checkpoint record of the reshape is written (R283): old stripes of the zone at the boundary that lie wholly below it are
freed. -/
def reshapeCheckpoint (s : State) : State :=
  match s.reshape with
  | none => s
  | some r =>
    let r := { r with ckptBound := r.bound, since := 0 }
    let s := journal { s with reshape := some r } (.reshape r)
    match r.zones with
    | [] => s
    | k :: _ =>
      let z := zoneOf s (keyNs k) (keyZone k)
      let span := spanSectors z.w z.dual
      let old := z.extents.entries.filter fun e => decide ((e.1 + 1) * span ≤ r.bound)
      let s := old.foldl (fun s e => dropStripe s (stripeKey r.group e.2)) s
      freeBlocks (setZone s (keyNs k) (keyZone k)
        { z with extents := z.extents.filter fun q _ => decide (r.bound < (q + 1) * span) }) r.group

/-- May the reshape go on: every member ONLINE, SPARED or LEAVING (or a LEAVING one that failed), and blocks free on the new
members (R285)? -/
def reshapeRuns (s : State) (r : Reshape) : Bool :=
  match groupOf s r.group with
  | none => false
  | some x =>
    x.season = .summer &&
    (x.members.values.all fun y => y.st = .online || y.st = .spared || y.st = .leaving || !r.slots.contains y.slot) &&
    r.slots.all fun n => ((s.modules.get n).map fun m => decide (0 < m.freeBlocks)).getD false

/-- The reshape suspends with a checkpoint record (R285). -/
def reshapeSuspend (s : State) (r : Reshape) : State :=
  if r.suspended then s
  else alertAt (reshapeCheckpoint { s with reshape := some { r with suspended := true } }) zsqPage O.ZSQ_RBD_ALERT 7 8

/-- A new zone stripe is written as a full stripe (R281): its number, its strips and the boundary. -/
def newZoneStripe (s : State) (r : Reshape) (k q : Nat) (pass : Bool) (lost : List Nat) : State :=
  match groupOf s r.group with
  | none => s
  | some x =>
    let span := spanSectors r.w r.dual
    let key := stripeKey r.group x.next
    let (strips, s) := placeStrips r.group r.slots x.next (List.range r.w) (.empty, s)
    if !pass then
      match strips.values with
      | p :: _ => retireBlock s p.slot p.addr
      | [] => s
    else
      let t : Stripe := { ns := keyNs k, zone := keyZone k, q := q, w := r.w, dual := r.dual, strips := strips }
      let s := (lost.filter fun i => q * span ≤ i && decide (i < (q + 1) * span)).foldl
        (loseSector (keyNs k) (keyZone k) 2) s
      let s := match groupOf s r.group with
        | some x => setGroup s r.group { x with next := x.next + 1 }
        | none => s
      let r := { r with fresh := r.fresh.set q (keyStripe key), bound := (q + 1) * span, since := r.since + 1 }
      let s := journal { s with stripes := s.stripes.set key t, reshape := some r } (.stripe key t)
      let s := ((List.range span).map fun i => logKey (keyNs k) (keyZone k) (q * span + i)).foldl dropLog s
      let s := bump s zsqPage O.ZSQ_RSH_STRIPE_CNT
      if r.since = 64 then reshapeCheckpoint s else s

/-- The sectors of a zone from the last whole new span to the written pointer are log sectors in the new geometry (R281):
those without log copies get them on the two members of R239. -/
def relogTail (s : State) (r : Reshape) (k from_ : Nat) : State :=
  let z := zoneOf s (keyNs k) (keyZone k)
  let need := ((List.range (z.written - from_)).map fun i => logKey (keyNs k) (keyZone k) (from_ + i)).filter fun l =>
    !s.logMap.has l
  let n := ((groupOf s r.group).map (·.next)).getD 0
  let pair := logPair r.w r.dual n
  let slots := ([pair.1, pair.2].filterMap fun m => r.slots[m]?)
  slots.foldl (fun s slot => copyLogs s r.group slot need) s

/-- The stripe buffer of an OPEN zone is laid out again in the new geometry (R282): what it does not hold is refilled. -/
def rebuffer (s : State) (r : Reshape) (k oldSpan : Nat) : State :=
  match s.buffers.get k with
  | none => s
  | some b =>
    let z := zoneOf s (keyNs k) (keyZone k)
    let span := spanSectors r.w r.dual
    let q := z.written / span
    let all := (List.range (z.placed - q * span)).map (q * span + ·)
    let get (i : Nat) : Option (List Byte) := if b.q * oldSpan ≤ i then b.sectors.get (i - b.q * oldSpan) else none
    let have_ := all.filter fun i => (get i).isSome
    let nb : StripeBuf := {
      q := q, refill := all.filter fun i => (get i).isNone
      sectors := have_.foldl (fun t i => t.set (i - q * span) ((get i).getD [])) .empty }
    startRefill { s with buffers := s.buffers.set k nb } k

/-- The zone at the boundary is done (R281 to R283): its map is that of the new geometry, and its old stripes are freed. -/
def zoneReshaped (s : State) (r : Reshape) (k : Nat) (rest : List Nat) : State :=
  let ns := keyNs k
  let zi := keyZone k
  let z := zoneOf s ns zi
  let oldSpan := spanSectors z.w z.dual
  let s := if z.st = .full then s else relogTail s r k r.bound
  let s := z.extents.values.foldl (fun s n => dropStripe s (stripeKey r.group n)) s
  let s := setZone s ns zi { z with extents := r.fresh, w := r.w, dual := r.dual }
  let s := rebuffer (journalZone s ns zi) r k oldSpan
  let r := { r with zones := rest, done := r.done + 1, bound := 0, fresh := .empty, held := false }
  freeBlocks (reshapeCheckpoint { s with reshape := some r }) r.group

/-- New index of a slot in the member list of a reshape. -/
def newIndex (slots : List Nat) (slot : Nat) : Option Nat := slots.findIdx? (· = slot)

/-- The last zone is done (R285): LEAVING slots become free, the group takes its new width, layout and members, and the role
of a journal member that left passes on (R247). -/
def reshapeDone (s : State) (r : Reshape) : State :=
  match groupOf s r.group with
  | none => s
  | some x =>
    let index (m : Nat) : Option Nat := (x.member m).bind fun y => newIndex r.slots y.slot
    let j0 := index x.jmem0
    let j1 := index x.jmem1
    let leaving := (x.members.values.filter fun y => !r.slots.contains y.slot).map (·.slot)
    let members := (List.range r.slots.length).foldl (fun t i =>
      match memberOfSlot x ((r.slots[i]?).getD 63) with
      | some (_, y) => t.set i y
      | none => t) Tab.empty
    let x := { x with w := r.w, dual := r.dual, members := members, jmem0 := j0.getD 0, jmem1 := j1.getD 0 }
    let s := leaving.foldl (fun s n => releaseBlocks r.group n s) s
    let s := alertAt (journal { writeGroup s r.group x with reshape := none } (.reshapeEnd r.group)) zsqPage O.ZSQ_RBD_ALERT 6 8
    let s := leaving.foldl slotToWinter s
    let s := if j0.isNone then seedRole s r.group 0 else s
    if j1.isNone then seedRole s r.group 1 else s

/-- Writes of a zone accepted and not ended (R282). -/
def zoneBusy (s : State) (k : Nat) : Bool := !(zoneWrites s (keyNs k) (keyZone k)).isEmpty

/-- The hold that a reshape puts on a zone (R282): no ZONE_MGMT has this number. -/
abbrev reshapeHold : Nat := 2 ^ 64

/-- The zone at the boundary is held, or let go of, as R65 holds one. -/
def holdZone (s : State) (k : Nat) (on : Bool) : State :=
  let z := zoneOf s (keyNs k) (keyZone k)
  setZone s (keyNs k) (keyZone k) { z with hold := if on then some reshapeHold else none }

/-- RESHAPE_STRIPE (R280 to R285): one new zone stripe at the boundary, or the end of a zone, of the running reshape. `lost` are
the sectors of the zone whose rows were found beyond the parity. -/
def reshapeStripe (s : State) (pass : Bool) (lost : List Nat) : State :=
  match s.reshape with
  | none => s
  | some r =>
    if !reshapeRuns s r then reshapeSuspend s r
    else
      let r := { r with suspended := false }
      let s := { s with reshape := some r }
      match r.zones with
      | [] => reshapeDone s r
      | k :: rest =>
        let z := zoneOf s (keyNs k) (keyZone k)
        let q := r.bound / max 1 (spanSectors r.w r.dual)
        if z.group ≠ some r.group || z.st = .empty then
          reshapeCheckpoint { s with reshape := some { r with
            zones := rest, done := r.done + 1, bound := 0, fresh := .empty, held := false } }
        else if q < newStripes z (spanSectors r.w r.dual) then newZoneStripe s r k q pass lost
        else if z.st ≠ .opened && !zoneBusy s k then zoneReshaped s r k rest
        else if !r.held then
          if z.hold.isSome then s else holdZone { s with reshape := some { r with held := true } } k true
        else if zoneBusy s k then s
        else holdZone (zoneReshaped s r k rest) k false

/-! ## The commands -/

/-- OUT_TIMEOUT (R263). -/
def execOutTimeout (g m : Nat) (s : State) : Res := onGroup g (outTimeout s g m)

/-- MEMBER_QUERY (R287). -/
def execMemberQuery (req : Nat) (s : State) : Res := .next (memberCommand s req 1 false)

/-- MEMBER_FAIL (R263, R287). -/
def execMemberFail (req : Nat) (force : Bool) (s : State) : Res := .next (noteStatus s (memberCommand s req 2 force))

/-- REBUILD_STRIPE (R265 to R271, R278). -/
def execRebuildStripe (g : Nat) (pass : Bool) (bad : List Nat) (s : State) : Res :=
  onGroup g (background s (rebuildStripe s g pass bad))

/-- RESHAPE_START (R279). -/
def execReshapeStart (req : Nat) (s : State) : Res := .next (reshapeCommand s req 1)

/-- RESHAPE_QUERY (R287). -/
def execReshapeQuery (req : Nat) (s : State) : Res := .next (reshapeCommand s req 2)

/-- RESHAPE_STRIPE (R280 to R285). -/
def execReshapeStripe (pass : Bool) (lost : List Nat) (s : State) : Res := .next (background s (noteStatus s (reshapeStripe s pass lost)))

end Sys2Proof.Machine
end

