-- ==== Sys2Proof/Machine/Capsules.lean ====
section
/-! DEFINITION. Intake of capsules: the parse of submission ring slots, holds, the checks of R88 before and at acceptance
(chapter 04, R53, R76). -/
namespace Sys2Proof.Machine

/-- A capsule (Table 4-2). -/
structure Capsule where
  op : Nat
  flags : Nat
  cid : Nat
  ns : Nat
  handle : Nat
  zone : Nat
  offset : Nat
  len : Nat
  bufKey : Nat
  bufAddr : Nat
  sealIdx : Nat
  arg : Nat
  /-- the reserved bytes together; zero in every valid capsule -/
  reserved : Nat
  deriving DecidableEq, Repr

/-- The fields of 64 bytes (Table 4-2). -/
def parseCapsule (b : List Byte) : Capsule :=
  { op := leField b 0 1, flags := leField b 1 1, cid := leField b 2 2, ns := leField b 4 2, handle := leField b 6 1
    zone := leField b 8 4, offset := leField b 12 4, len := leField b 16 4, bufKey := leField b 20 4
    bufAddr := leField b 24 8, sealIdx := leField b 32 4, arg := leField b 40 4
    reserved := leField b 7 1 + leField b 36 4 + leField b 44 20 }

/-- Is an opcode in Table 4-3? -/
def Capsule.known (k : Capsule) : Bool :=
  [0x01, 0x02, 0x03, 0x04, 0x05, 0x08, 0x09, 0x10, 0x11, 0x18, 0x1F].contains k.op

/-- Does the opcode take a credit (R83)? -/
def Capsule.takesCredit (k : Capsule) : Bool := k.op ≠ 0x04 && k.op ≠ 0x1F

/-- Does the capsule name a namespace (R53)? -/
def Capsule.namesNs (k : Capsule) : Bool :=
  k.op = 0x01 || k.op = 0x02 || k.op = 0x03 || k.op = 0x08 || k.op = 0x09 || (k.op = 0x10 && k.arg = 1) ||
  (k.op = 0x11 && k.arg = 3)

/-- Does the opcode use the ZONE field (Table 4-4)? -/
def Capsule.usesZone (k : Capsule) : Bool :=
  k.op = 0x01 || k.op = 0x02 || k.op = 0x03 || k.op = 0x08 || k.op = 0x09

/-- Range of LENGTH (Table 4-4): greatest value, 0 where the field is unused. -/
def Capsule.maxLen (k : Capsule) : Nat :=
  if k.op = 0x01 || k.op = 0x02 || k.op = 0x03 || k.op = 0x11 then 4096
  else if k.op = 0x09 then 65536
  else if k.op = 0x10 then 1
  else 0

/-- Does the opcode use BUF_KEY and BUF_ADDR (Table 4-4)? -/
def Capsule.usesBuf (k : Capsule) : Bool := k.op = 0x01 || k.op = 0x09 || k.op = 0x10 || k.op = 0x11 || k.op = 0x18

/-- ARG0 in its range (Table 4-4, R105, R107, R108, R109). -/
def Capsule.argOk (k : Capsule) : Bool :=
  if k.op = 0x08 then decide (k.arg ≤ 3)
  else if k.op = 0x10 then decide (k.arg ≤ 2)
  else if k.op = 0x11 then decide (1 ≤ k.arg ∧ k.arg ≤ 3)
  else if k.op = 0x18 then decide (k.arg < 512 ∧ 1 ≤ k.arg % 256 ∧ k.arg % 256 ≤ 16)
  else decide (k.arg = 0)

/-- The tests on the namespace's size (R87): not made for an UNUSED namespace. -/
def Capsule.fitsNs (k : Capsule) (ns : Namespace) : Bool :=
  if ns.st = .unused then true
  else if k.op = 0x09 then decide (k.zone + k.len ≤ ns.zoneCount)
  else if k.op = 0x01 then decide (k.zone < ns.zoneCount ∧ k.offset + k.len ≤ 2 ^ (ns.shift - 12))
  else if k.usesZone then decide (k.zone < ns.zoneCount)
  else true

/-- SEAL_IDX (R97): tag slots of a sealed connection, zero elsewhere. -/
def Capsule.sealOk (k : Capsule) (isSealed : Bool) : Bool :=
  if isSealed && (k.op = 0x01 || k.op = 0x02 || k.op = 0x03) then decide (k.sealIdx + ceilDiv k.len 16 ≤ 16384)
  else decide (k.sealIdx = 0)

/-- The fields of a capsule meet Tables 4-2 and 4-4 (R85, R87). -/
def Capsule.fieldsOk (k : Capsule) (c : Conn) (ns : Namespace) : Bool :=
  decide (k.flags = 0 ∧ k.reserved = 0 ∧ k.handle ≤ 16) &&
  (if k.namesNs then decide (k.ns < 1024) else decide (k.ns = 0)) &&
  (k.usesZone || decide (k.zone = 0)) &&
  (k.op = 0x01 || k.op = 0x02 || k.op = 0x11 || decide (k.offset = 0)) &&
  (if k.maxLen = 0 then decide (k.len = 0) else decide (1 ≤ k.len ∧ k.len ≤ k.maxLen)) &&
  (k.usesBuf || decide (k.bufKey = 0 ∧ k.bufAddr = 0)) && k.argOk && k.sealOk c.sealed &&
  (!k.namesNs || k.fitsNs ns)

/-- The CID rule (R86, R96): unique among the commands that hold credits, and for DATA_DONE that of a write that awaits
it. -/
def cidOk (s : State) (n : Nat) (k : Capsule) : Bool :=
  if k.cid = 0xFFFF then false
  else if k.op = 0x04 then ((findCmd s n k.cid).map fun e => decide (e.2.phase = .dataWait)).getD false
  else !(s.commands.values.any fun c => c.conn = n && c.cid = k.cid && c.credit)

/-- A status for a capsule that is rejected at intake: checks 1 to 3 of R88 in their order. -/
def intakeStatus (s : State) (n : Nat) (k : Capsule) : Option Nat :=
  let c := connOf s n
  if !k.known then some 0x01
  else if !(k.fieldsOk c (nsOf s k.ns) && cidOk s n k) then some 0x02
  else if k.takesCredit && c.grant ≤ creditsHeld s n then some 0x10
  else none

/-! ## Token and namespace checks (R76, R53) -/

/-- The right of Table 3-8 as a bit of RIGHTS; none where no token is needed. Controller logs ask for a valid token and no
right: bit 31 stands for that. -/
def Capsule.right (k : Capsule) : Option (Option Nat) :=
  if k.op = 0x01 || k.op = 0x09 || (k.op = 0x11 && k.arg = 3) then some (some 0)
  else if k.op = 0x02 || k.op = 0x03 then some (some 1)
  else if k.op = 0x08 then some (some 2)
  else if k.op = 0x11 then some none
  else none

/-- Is an attached token still good (R76): not expired, its key the one it was verified under, its serial not denied? -/
def tokenGood (s : State) (t : Token) : Bool :=
  decide (s.time.sec < t.expiry) && ((s.sec.tvk.get t.keyId).map fun v => decide (v.2 = t.keyGen)).getD false &&
  !s.sec.deny.contains t.serial

/-- The token check of R76. -/
def tokenOk (s : State) (n : Nat) (k : Capsule) : Bool :=
  match k.right with
  | none => true
  | some right =>
    match (connOf s n).tokens.get k.handle with
    | none => false
    | some t =>
      tokenGood s t &&
      match right with
      | none => true
      | some b => t.rights.testBit b && t.ranges.any fun r => decide (r.1 ≤ k.ns ∧ k.ns ≤ r.2)

/-- The status that a namespace's state gives to a capsule that names it (R53, Table 3-2); IDENTIFY has none. -/
def nsStatus (s : State) (k : Capsule) : Option Nat :=
  if !k.namesNs || k.op = 0x10 then none
  else match (nsOf s k.ns).st with
    | .unused | .retiring => some 0x02
    | .locked => some 0x07
    | .active => none

/-- Is the controller one that serves only IDENTIFY, TOKEN_ATTACH and QUEUE_RESET (R113)? A controller whose role is not
yet settled is like a standby (DEDUCED, log entry 28). -/
def servesLittle (s : State) : Bool := s.pair.role = .standby || s.pair.role = .boot

/-- The command that a capsule becomes when it is accepted. -/
def Capsule.toCommand (k : Capsule) (s : State) (n number : Nat) (phase : Phase) : Command :=
  { conn := n, cid := k.cid, op := k.op, ns := k.ns, zone := k.zone, offset := k.offset, len := k.len
    bufKey := Word.ofNum k.bufKey, bufAddr := k.bufAddr, sealIdx := k.sealIdx, arg := k.arg, seq := s.accepted
    born := s.time.now, phase := phase, credit := k.takesCredit, capsule := number }

/-- A capsule is accepted (R88, R92): it takes its place in the acceptance order. -/
def accept (s : State) (n number : Nat) (k : Capsule) (phase : Phase) : Nat × State :=
  let q := s.accepted
  let s := { s with accepted := q + 1, commands := s.commands.set q (k.toCommand s n number phase) }
  let s := traceTarget (stamp s n k.cid 1) n k.cid k.ns k.zone k.len
  (q, if (connOf s n).ordered then traceFlag s n k.cid 1 else s)

/-- What follows a capsule's leaving the ring or the hold: the checks of R88 up to the namespace's state; `act` carries on
with an accepted command. -/
def checkCapsule (act : State → Nat → Capsule → State) (s : State) (n number : Nat) (k : Capsule) : State :=
  match intakeStatus s n k with
  | some st => reject s n k.cid k.op st
  | none =>
    if k.op = 0x04 then act s 0 k
    else
      let (q, s) := accept s n number k .reading
      if servesLittle s && k.op ≠ 0x10 && k.op ≠ 0x18 && k.op ≠ 0x1F then complete s q 0x0A 0
      else if !tokenOk s n k then complete s q 0x06 0
      else match nsStatus s k with
        | some st => complete s q st 0
        | none => act s q k

/-! ## Parsing (R79, R110, R112, R358) -/

/-- The hold of a patch activation, a takeover or a drill is in progress (R112, R358, R362). -/
def holdActive (s : State) : Bool := s.boot.act ≠ .none || s.pair.holding

/-- Does a capsule wait at intake (R110, R112)? -/
def waitsAtIntake (s : State) (n : Nat) (k : Capsule) : Bool :=
  (connOf s n).resetting || (holdActive s && k.op ≠ 0x04)

/-- A capsule leaves its slot (R79): SQ_HEAD counts it, and CMD tags it (R444). -/
def takeSlot (s : State) (n : Nat) (trig : Tick) (k : Capsule) : State :=
  let c := connOf s n
  let s := setConn s n { c with
    slots := c.slots.erase c.parse, parse := (c.parse + 1) % 1024, sqHead := c.sqHead + 1 }
  let s := pmcEvent s cmdPage 0x100 1
  if k.op = 0x04 then s else (tagCapsule s n k.cid k.op trig).2

/-- One capsule of a connection is taken, where it is of the kind that the command names (`fits`): the oldest one that was
held, once nothing holds it; else the next slot whose trigger has fired. It is held where R110 and R112 say so. A sealed
connection whose capsule count would wrap enters ERROR (R330). -/
def intake (fits : Capsule → Bool) (act : State → Nat → Capsule → State) (n : Nat) (s : State) : State :=
  let c := connOf s n
  if c.st ≠ .ready || !accepting s cmdPage then s
  else
    match c.heldCaps with
    | (b, _, number) :: r =>
      let k := parseCapsule b
      if !waitsAtIntake s n k then
        if fits k then checkCapsule act (setConn s n { c with heldCaps := r }) n number k else s
      else parse c
    | [] => parse c
where
  /-- the next slot in ring order -/
  parse (c : Conn) : State :=
    match c.slots.get c.parse with
    | none => s
    | some trig =>
      let b := readBytes c.ringBytes (c.parse * 64) 64
      let k := parseCapsule b
      if !fits k then s
      else if c.sealed && c.sqHead = 2 ^ 32 - 1 then connError s n
      else
        let s := takeSlot s n trig k
        if waitsAtIntake s n k then
          let c := connOf s n
          setConn s n { c with heldCaps := c.heldCaps ++ [(b, s.time.now, c.sqHead - 1)] }
        else checkCapsule act s n (c.sqHead) k

/-- A command row of one connection. -/
def onConn (n : Nat) (t : State) : Res := onUnit "connection" n 4096 t

/-- The row of a capsule kind. -/
def capsuleRow (n : Nat) (fits : Capsule → Bool) (act : State → Nat → Capsule → State) (s : State) : Res :=
  onConn n (intake fits act n s)

/-- INVALID_OPCODE_CAPSULE (R87): a capsule with an opcode outside Table 4-3. -/
def execInvalidOpcodeCapsule (n : Nat) (s : State) : Res := capsuleRow n (fun k => !k.known) (fun s _ _ => s) s

/-- HOLD_OVERRUN (R112): the oldest held capsule has been held for 250 ms. It completes with RETRY_LATER, takes no credit,
and HOLD_OVERRUN is raised. -/
def holdOverrun (s : State) (n : Nat) : State :=
  let c := connOf s n
  match c.heldCaps with
  | [] => s
  | (b, t, _) :: r =>
    if !holdActive s then s
    else
      let k := parseCapsule b
      let s := setConn (clockTo s (t + 250 * ticksMs)) n { c with heldCaps := r }
      let s := alert (addError s 0x0A n k.cid) cmdPage O.CMD_ALERT 0
      postEntry s n ⟨k.cid, 0x0A, 1, 0, none, [], 0⟩

/-- HOLD_OVERRUN (R112). -/
def execHoldOverrun (n : Nat) (s : State) : Res := onConn n (holdOverrun s n)

end Sys2Proof.Machine
end

