-- ==== Sys2Proof/Machine/Commands.lean ====
section
/-! DEFINITION. The data commands of hosts: READ, WRITE, APPEND, DATA_DONE, FLUSH and QUEUE_RESET, the allocation of
windows, and the limits on waiting (chapters 03 and 04). -/
namespace Sys2Proof.Machine

/-- A command changes its phase. -/
def setPhase (s : State) (q : Nat) (p : Phase) : State :=
  match s.commands.get q with
  | none => s
  | some c => setCmd s q { c with phase := p }

/-- Does ZSQ take new work? Commands that it has to check are left in their ring until it does (DEDUCED, log entry 29). -/
def zsqTakes (s : State) : Bool := accepting s zsqPage

/-- A command waits for its group's Summer: the wake is requested (R68). -/
def waitForSummer (s : State) (q g : Nat) : State :=
  match s.commands.get q with
  | none => s
  | some c => traceFlag (setCmd (requestWake s g .demand) q { c with phase := .summerWait }) c.conn c.cid 2

/-! ## READ (R66 to R68, R100) -/

/-- An accepted READ: an OFFLINE zone fails it, a group that is not in Summer makes it wait, or fails it for a Patrol-only
namespace (R67, R68). -/
def acceptRead (s : State) (q : Nat) (k : Capsule) : State :=
  let z := zoneOf s k.ns k.zone
  if z.st = .offline then complete s q 0x05 0
  else match z.group with
    | none => startRead s q
    | some g =>
      let s := touchGroup s g
      if inSummer s g then startRead s q
      else if (nsOf s k.ns).cls = .patrol then complete (requestWake s g .demand) q 0x0A 0
      else waitForSummer s q g

/-- READ (R100). -/
def execRead (n : Nat) (s : State) : Res := capsuleRow n (fun k => k.op = 0x01 && zsqTakes s) acceptRead s

/-! ## WRITE and APPEND (R63, R92) -/

/-- A WRITE or APPEND that ZSQ accepts: the zone opens where it has to, and the accepted pointer advances (R63). Windows
are allocated once its group is in Summer (R92). -/
def takeWrite (s : State) (q : Nat) (k : Capsule) (g : Option Nat) : State :=
  let st := (zoneOf s k.ns k.zone).st
  let s := if st = .empty || st = .closed then startRefill (openZone s k.ns k.zone g) (zoneKey k.ns k.zone) else s
  let z := zoneOf s k.ns k.zone
  let s := setZone s k.ns k.zone { z with accepted := z.accepted + k.len }
  match s.commands.get q with
  | none => s
  | some c =>
    let s := stamp (pmcEvent s zsqPage 0x100 1) c.conn c.cid 2
    let s := setCmd s q { c with offset := z.accepted, phase := .windowWait }
    match z.group with
    | none => s
    | some g =>
      let s := touchGroup s g
      if inSummer s g then s else waitForSummer s q g

/-- ZSQ checks a WRITE or APPEND (R63); a refused open raises OPEN_REFUSED (R77). -/
def acceptWrite (s : State) (q : Nat) (k : Capsule) : State :=
  match s.commands.get q with
  | none => s
  | some c =>
    match checkWrite s c.conn k.ns k.zone (k.op = 0x03) k.offset k.len with
    | .status st => complete (if st = 0x0B then openRefused s else s) q st 0
    | .accept g => takeWrite s q k g

/-- WRITE (R63). -/
def execWrite (n : Nat) (s : State) : Res := capsuleRow n (fun k => k.op = 0x02 && zsqTakes s) acceptWrite s

/-- APPEND (R63). -/
def execAppend (n : Nat) (s : State) : Res := capsuleRow n (fun k => k.op = 0x03 && zsqTakes s) acceptWrite s

/-! ## Windows (R92, R93) -/

/-- The most windows that STG holds (Table 1-9: 16,384). -/
abbrev windowPool : Nat := 16384

/-- Windows not free. -/
def windowsUsed (s : State) : Nat := (s.regions.values.filter fun r => r.kind = .window && r.st ≠ .free).length

/-- Windows that a write needs. -/
def Command.windowCount (c : Command) : Nat := ceilDiv c.len 256

/-- Are the region table entries that STG takes for windows free and distinct? -/
def keysFree (s : State) (ks : List Nat) : Bool :=
  ks.all (fun i => decide (1 ≤ i ∧ i < 65536) && (regionOf s i).st = .free) && decide ks.Nodup

/-- Length in bytes of window i of a write (R93). -/
def Command.windowLen (c : Command) (i : Nat) : Nat := min 1048576 (c.len * 4096 - i * 1048576)

/-- Windows are registered for a write and its XRDY is posted (R93). -/
def giveWindows (s : State) (q : Nat) (c : Command) (ks : List Nat) : State :=
  let lens := (List.range ks.length).map c.windowLen
  let s := (ks.zip lens).foldl (fun s e => register s e.1
    { kind := .window, owner := c.conn, len := e.2, canRead := true, canWrite := true, canFlush := true }) s
  let s := pmcEvent s stgPage 0x100 ks.length
  let s := setCmd s q { c with windows := ks, phase := .xrdyWait }
  let tmo := regField s cmdPage O.CMD_DATA_TMO 0 16
  postEntry s c.conn ⟨c.cid, 0, 2, ks.length, some q, (ks.map (regionKey s)).zip lens, tmo⟩

/-- The first write in acceptance order that waits for windows and whose group is in Summer. -/
def nextForWindows (s : State) : Option (Nat × Command) :=
  s.commands.entries.find? fun e => e.2.phase = .windowWait &&
    (((zoneOf s e.2.ns e.2.zone).group.map (inSummer s)).getD true)

/-- WINDOW_ALLOCATE (R92): the write gets its windows where so many are free. `keys` are the region table entries that
STG takes. -/
def windowAllocate (s : State) (ks : List Nat) : State :=
  match nextForWindows s with
  | none => s
  | some (q, c) =>
    if accepting s stgPage && ks.length = c.windowCount && windowsUsed s + ks.length ≤ windowPool && keysFree s ks then
      giveWindows s q c ks
    else s

/-- WINDOW_ALLOCATE (R92). -/
def execWindowAllocate (ks : List Nat) (s : State) : Res := .next (windowAllocate s ks)

/-! ## DATA_DONE (R96 to R98) -/

/-- A valid DATA_DONE: the data timeout ends, and STG waits for the windows to drain (R96). -/
def acceptDataDone (n : Nat) (s : State) (_ : Nat) (k : Capsule) : State :=
  match findCmd s n k.cid with
  | none => s
  | some (q, c) => stamp (setCmd s q { c with phase := .draining, deadline := none }) n k.cid 4

/-- DATA_DONE (R96). -/
def execDataDone (n : Nat) (s : State) : Res := capsuleRow n (fun k => k.op = 0x04) (acceptDataDone n) s

/-- Were exactly LEN bytes placed in each window (R96)? -/
def windowsFull (s : State) (c : Command) : Bool :=
  (List.range c.windows.length).all fun i =>
    ((c.windows[i]?).map fun x => decide ((regionOf s x).placed = c.windowLen i)).getD false

/-- DATA_DONE_DRAINED (R96, R97): the counts are compared; a sealed connection's chunks are then checked. -/
def dataDoneDrained (s : State) (n cid : Nat) : State :=
  match findCmd s n cid with
  | none => s
  | some (q, c) =>
    if c.phase ≠ .draining || c.windows.any fun i => decide ((regionOf s i).inflight ≠ 0) then s
    else if !windowsFull s c then failWrite s q 0x0D
    else if (connOf s n).sealed then
      let m := ceilDiv c.len 16
      queueJobs (setCmd s q { c with phase := .sealCheck, jobsLeft := m })
        ((List.range m).map fun i => ⟨.gcmOpen, n, q, i⟩)
    else setCmd s q { c with phase := .valid }

/-- DATA_DONE_DRAINED (R96). -/
def execDataDoneDrained (n cid : Nat) (s : State) : Res := onConn n (dataDoneDrained s n cid)

/-- DATA_TIMEOUT (R98): the write fails with DATA_TIMEOUT. -/
def dataTimeout (s : State) (n cid : Nat) : State :=
  match findCmd s n cid with
  | none => s
  | some (q, c) =>
    if c.phase ≠ .dataWait then s
    else
      let s := clockToOpt s c.deadline
      failWrite (alert (bump s cmdPage O.CMD_TMO_CNT) cmdPage O.CMD_ALERT 1) q 0x0C

/-- DATA_TIMEOUT (R98). -/
def execDataTimeout (n cid : Nat) (s : State) : Res := onConn n (dataTimeout s n cid)

/-- WAKE_LIMIT_EXPIRY (R68, R259): a command that waits for Summer, or for an OUT member, fails with RETRY_LATER. -/
def wakeLimitExpiry (s : State) (n cid : Nat) : State :=
  match findCmd s n cid with
  | none => s
  | some (q, c) =>
    if c.phase ≠ .summerWait && c.phase ≠ .memberWait then s
    else
      let s := clockTo s (c.born + (nsOf s c.ns).wakeLimit * ticksS)
      if c.op = 0x01 then complete s q 0x0A 0 else failWrite s q 0x0A

/-- WAKE_LIMIT_EXPIRY (R68). -/
def execWakeLimitExpiry (n cid : Nat) (s : State) : Res := onConn n (wakeLimitExpiry s n cid)

/-! ## FLUSH (R104) -/

/-- A FLUSH capsule covers the writes of its connection that have not posted their completion (R104). -/
def acceptFlush (n : Nat) (s : State) (q : Nat) (_ : Capsule) : State :=
  match s.commands.get q with
  | none => s
  | some c =>
    let covered := cmdsWhere s fun d => d.conn = n && !d.orphan && (d.op = 0x02 || d.op = 0x03)
    let s := setCmd s q { c with phase := .barrier, awaits := covered }
    if covered.isEmpty then drain (barrierReady n s q) n else s

/-- FLUSH (R104). -/
def execFlush (n : Nat) (s : State) : Res := capsuleRow n (fun k => k.op = 0x05) (acceptFlush n) s

/-! ## QUEUE_RESET (R70, R110, R111) -/

/-- Is a command still queued (Table 4-14)? -/
def Command.queued (c : Command) : Bool :=
  if c.op = 0x02 || c.op = 0x03 then
    c.phase = .summerWait || c.phase = .windowWait || c.phase = .xrdyWait || c.phase = .dataWait
  else if c.op = 0x01 then c.phase = .summerWait
  else if c.op = 0x05 then true
  else if c.op = 0x08 then decide (c.phase = .holding ∧ c.count = 0 ∧ c.recNo = 0)
  else false

/-- An executing command is marked: its completion will be ABORTED_BY_RESET. A write also sets the mark of R69. -/
def markAborted (n : Nat) (s : State) (q : Nat) : State :=
  match s.commands.get q with
  | none => s
  | some c =>
    if c.phase = .ended then s
    else
      let s := if c.queued then s else setCmd s q { c with aborted := true }
      if c.op = 0x02 || c.op = 0x03 then setMark s c.ns c.zone n else s

/-- A queued command completes at once with ABORTED_BY_RESET (R110). -/
def abortQueued (s : State) (q : Nat) : State :=
  match s.commands.get q with
  | none => s
  | some c =>
    if c.phase = .ended || !c.queued then s
    else if c.op = 0x02 || c.op = 0x03 then failWrite s q 0x09
    else complete s q 0x09 0

/-- QUEUE_RESET acts on every command of its connection accepted before it, later writes first, so that R64 reaches only
the writes of other connections; it completes when all have handed over their entries (R110, R111). -/
def acceptQueueReset (n : Nat) (s : State) (q : Nat) (_ : Capsule) : State :=
  match s.commands.get q with
  | none => s
  | some c =>
    let mine := cmdsWhere s fun d => d.conn = n && !d.orphan && d.seq < q
    let s := setCmd s q { c with phase := .resetting, awaits := mine }
    let s := setConn s n { connOf s n with resetting := true }
    let s := mine.foldl (markAborted n) s
    let s := mine.reverse.foldl abortQueued s
    drain (barrierReady n s q) n

/-- QUEUE_RESET (R110). -/
def execQueueReset (n : Nat) (s : State) : Res := capsuleRow n (fun k => k.op = 0x1F) (acceptQueueReset n) s

end Sys2Proof.Machine
end

