-- ==== Sys2Proof/Machine/ZoneOps.lean ====
section
/-! DEFINITION. ZONE_MGMT: open, close, finish and reset of a zone, the release of a retired namespace's zones (R57 to R65,
R105, R468). -/
namespace Sys2Proof.Machine

/-- Blocks that a zone's strips leave on FAILED members are retired (R61). -/
def retireLeft (g : Nat) (s : State) (p : Place) : State :=
  let failed := ((slotMember s g p.slot).map fun e => decide (e.2.st = .failed)).getD false
  match s.modules.get p.slot with
  | none => s
  | some m =>
    let l := m.linear p.addr
    let b := m.block l
    if failed && b.st ≠ .retired && !blockMapped s p.slot p.addr then setBlock s p.slot l { b with st := .retired } else s

/-- New stripes of a zone at the boundary of a reshape (R281). -/
def freshStripes (s : State) (key : Nat) : List Nat :=
  match s.reshape with
  | none => []
  | some r => if r.zones.head? = some key then r.fresh.values else []

/-- What the extent map, the logs and the stripe buffer hold of a zone leaves them. -/
def unmapZone (s : State) (ns zi g : Nat) : State :=
  let key := zoneKey ns zi
  let folds := (s.folds.filter fun _ f => f.ns = ns && f.zone = zi).keys
  let s := folds.foldl abandonFold s
  let s := dropLogsFrom (trimLogs s ns zi 0) ns zi 0
  let stripes := ((zoneOf s ns zi).extents.values ++ freshStripes s key).map (stripeKey g)
  let places := stripes.flatMap fun k => ((s.stripes.get k).map fun t => t.strips.values).getD []
  let s := stripes.foldl dropStripe s
  let s := places.foldl (retireLeft g) s
  let s := { s with
    buffers := s.buffers.erase key
    reshape := s.reshape.map fun r =>
      if r.zones.head? = some key then { r with bound := 0, ckptBound := 0, fresh := .empty } else r }
  freeBlocks s g

/-- A zone returns to EMPTY: it loses its group, its entries leave the loss log, its blocks are released, and its return is
journalled (R61, R65, R276). The takeover mark of R69 ends; marks of single connections stay (DEDUCED, log entry 30). -/
def clearZone (s : State) (ns zi : Nat) : State :=
  let s := dropLosses s ns zi
  let s := match (zoneOf s ns zi).group with
    | none => s
    | some g => unmapZone s ns zi g
  let z := zoneOf s ns zi
  journalZone (setZone s ns zi { hold := z.hold, marks := z.marks }) ns zi

/-- A zone is finished: it keeps its fill point, and both pointers stand at capacity (R65). A zone that entered READ_ONLY
or DEGRADED_LOST keeps that state. -/
def finishZone (s : State) (ns zi : Nat) : State :=
  let z := zoneOf s ns zi
  let st := if z.st = .opened || z.st = .closed then .full else z.st
  let z := { z with
    st := st, fill := some z.written, accepted := z.capacity, written := z.capacity, placed := z.capacity }
  journalZone (setZone s ns zi z) ns zi

/-- An EMPTY zone is finished: it takes no group and no blocks, with both pointers at the capacity of R56 (R55). -/
def finishEmpty (s : State) (ns zi : Nat) : State :=
  let c := emptyCapacity s ns
  let z := { zoneOf s ns zi with
    st := .full, group := none, capacity := c, accepted := c, written := c, placed := c, fill := some 0 }
  journalZone (setZone s ns zi z) ns zi

/-- The operation of a ZONE_MGMT has taken place: it completes, and lets go of the zone. -/
def mgmtDone (s : State) (q status : Nat) (c : Command) : State :=
  releaseBuffer (complete s q status 0) c.ns c.zone

/-- A held close is applied: an OPEN zone closes, or becomes EMPTY when nothing is written; one that a write has filled
meanwhile, or that left OPEN otherwise, has no row of Table 3-5 (DEDUCED, log entry 31). -/
def applyClose (s : State) (q : Nat) (c : Command) : State :=
  let z := zoneOf s c.ns c.zone
  if z.st ≠ .opened then mgmtDone s q 0x05 c
  else if z.written = 0 then mgmtDone (clearZone s c.ns c.zone) q 0 c
  else mgmtDone (zoneEnter s c.ns c.zone .closed) q 0 c

/-- A held finish goes on: the padding starts, or has committed (R65). -/
def applyFinish (s : State) (q : Nat) (c : Command) : State :=
  let z := zoneOf s c.ns c.zone
  if z.st = .offline || z.st = .full then mgmtDone s q 0x05 c
  else if c.count = 1 then
    if c.jobsLeft = 0 && c.stripesLeft.isEmpty then mgmtDone (finishZone s c.ns c.zone) q 0 c else s
  else if z.written % max 1 (spanSectors z.w z.dual) = 0 then mgmtDone (finishZone s c.ns c.zone) q 0 c
  else startPadding s c.ns c.zone

/-- A held reset: the return to EMPTY is journalled, and the command completes once the record counts as written (R65,
R344). -/
def applyReset (s : State) (q : Nat) (c : Command) : State :=
  let (s, r) := if c.recNo ≠ 0 then (s, c.recNo)
    else
      let s := clearZone s c.ns c.zone
      (setCmd s q { c with recNo := s.journalSeq }, s.journalSeq)
  if durable s r then mgmtDone s q 0 c else s

/-- A ZONE_MGMT that holds its zone goes as far as it can: writes accepted before it run to their end first (R65). -/
def advanceMgmt (s : State) (q : Nat) : State :=
  match s.commands.get q with
  | none => s
  | some c =>
    if c.phase ≠ .holding || !(zoneWrites s c.ns c.zone).isEmpty then s
    else if c.arg = 1 then applyClose s q c
    else if c.arg = 2 then applyFinish s q c
    else applyReset s q c

/-- A ZONE_MGMT takes hold of its zone (R65). -/
def holdMgmt (s : State) (q : Nat) (k : Capsule) : State :=
  let z := zoneOf s k.ns k.zone
  setPhase (setZone s k.ns k.zone { z with hold := some q }) q .holding

/-- The stripe buffer of a CLOSED zone that is to be finished is filled again (R241). -/
def bufferForFinish (s : State) (ns zi : Nat) : State :=
  let z := zoneOf s ns zi
  let key := zoneKey ns zi
  if s.buffers.has key then s
  else
    let q := z.written / max 1 (spanSectors z.w z.dual)
    startRefill { s with buffers := s.buffers.set key { q := q, refill := refillSectors z } } key

/-- ZONE_MGMT open (R58, R59, R65): it completes at once. -/
def mgmtOpen (s : State) (q : Nat) (k : Capsule) : State :=
  let z := zoneOf s k.ns k.zone
  if z.st ≠ .empty && z.st ≠ .closed then complete s q 0x05 0
  else if openLimitReached s then complete (openRefused s) q 0x0B 0
  else if z.st = .closed then complete (startRefill (openZone s k.ns k.zone none) (zoneKey k.ns k.zone)) q 0 0
  else match chooseGroup s k.ns with
    | none => complete (openRefused s) q 0x0B 0
    | some g => complete (openZone s k.ns k.zone (some g)) q 0 0

/-- ZONE_MGMT close (R65). -/
def mgmtClose (s : State) (q : Nat) (k : Capsule) : State :=
  if (zoneOf s k.ns k.zone).st ≠ .opened then complete s q 0x05 0 else holdMgmt s q k

/-- ZONE_MGMT finish (R55, R65): a zone without a group is FULL at once; the padding of another needs its group in
Summer. -/
def mgmtFinish (s : State) (q : Nat) (k : Capsule) : State :=
  let z := zoneOf s k.ns k.zone
  if z.st = .empty then complete (finishEmpty s k.ns k.zone) q 0 0
  else if z.st ≠ .opened && z.st ≠ .closed then complete s q 0x05 0
  else
    let s := bufferForFinish (holdMgmt s q k) k.ns k.zone
    let s := match z.group with
      | some g => if inSummer s g then s else requestWake s g .demand
      | none => s
    startPadding s k.ns k.zone

/-- ZONE_MGMT reset (R61, R65). -/
def mgmtReset (s : State) (q : Nat) (k : Capsule) : State :=
  if (zoneOf s k.ns k.zone).st = .empty then complete s q 0 0 else advanceMgmt (holdMgmt s q k) q

/-- An accepted ZONE_MGMT (R65, R105): a held zone turns it away. -/
def acceptMgmt (act : State → Nat → Capsule → State) (s : State) (q : Nat) (k : Capsule) : State :=
  let z := zoneOf s k.ns k.zone
  if z.hold.isSome then complete s q 0x05 0
  else act (match z.group with | some g => touchGroup s g | none => s) q k

/-- ZONE_OPEN (R65); a ZONE_MGMT whose ARG0 is none of the actions is turned away here. -/
def execZoneOpen (n : Nat) (s : State) : Res :=
  capsuleRow n (fun k => k.op = 0x08 && k.arg ≠ 1 && k.arg ≠ 2 && k.arg ≠ 3 && zsqTakes s) (acceptMgmt mgmtOpen) s

/-- ZONE_CLOSE (R65). -/
def execZoneClose (n : Nat) (s : State) : Res :=
  capsuleRow n (fun k => k.op = 0x08 && k.arg = 1 && zsqTakes s) (acceptMgmt mgmtClose) s

/-- ZONE_FINISH (R65). -/
def execZoneFinish (n : Nat) (s : State) : Res :=
  capsuleRow n (fun k => k.op = 0x08 && k.arg = 2 && zsqTakes s) (acceptMgmt mgmtFinish) s

/-- ZONE_RESET (R65). -/
def execZoneReset (n : Nat) (s : State) : Res :=
  capsuleRow n (fun k => k.op = 0x08 && k.arg = 3 && zsqTakes s) (acceptMgmt mgmtReset) s

/-- ZONE_MGMT_COMPLETE (R65): the command that holds a zone, its connection's own or not, goes on. -/
def execZoneMgmtComplete (n cid : Nat) (s : State) : Res :=
  onConn n (match s.commands.entries.find? fun e =>
      e.2.conn = n && e.2.cid = cid && e.2.op = 0x08 && e.2.phase = .holding with
    | none => s
    | some (q, _) => advanceMgmt s q)

/-- A namespace changes its state (R53), journalled. -/
def enterNs (s : State) (ns : Nat) (st : NsState) : State :=
  journal { s with namespaces := s.namespaces.set ns { nsOf s ns with st := st } } (.nsState ns st)

/-- The lowest zone of a namespace that is not EMPTY. -/
def nextZone (s : State) (ns : Nat) : Option Nat :=
  (s.zones.entries.find? fun e => keyNs e.1 = ns && e.2.st ≠ .empty).map fun e => keyZone e.1

/-- NS_ZONE_RELEASE (R468): one zone of a RETIRING namespace returns to EMPTY; when none is left the namespace is
UNUSED. -/
def nsZoneRelease (s : State) (ns : Nat) : State :=
  if (nsOf s ns).st ≠ .retiring || !zsqTakes s || !worksBehind s then s
  else
    let s := match nextZone s ns with
      | none => s
      | some zi => clearZone s ns zi
    if (nextZone s ns).isSome then s
    else
      let s := { s with zones := s.zones.filter fun k _ => keyNs k ≠ ns }
      journal { s with namespaces := s.namespaces.erase ns } (.nsState ns .unused)

/-- NS_ZONE_RELEASE (R468). -/
def execNsZoneRelease (ns : Nat) (s : State) : Res := onUnit "namespace" ns 1024 (nsZoneRelease s ns)

end Sys2Proof.Machine
end

