-- ==== Sys2Proof/Machine/Reports.lean ====
section
/-! DEFINITION. What hosts ask for: ZONE_REPORT (R106), IDENTIFY (R107), the logs (R108, R276, R286, R365), and access
tokens (R72 to R75, R109). -/
namespace Sys2Proof.Machine

/-! ## ZONE_REPORT (R106) -/

/-- State codes of Table 4-10. -/
def ZoneState.code : ZoneState → Nat
  | .empty => 0 | .opened => 1 | .closed => 2 | .full => 3 | .readOnly => 4 | .degraded => 5 | .offline => 6

/-- A zone descriptor (Table 4-10), for a connection that still carries the mark, or not. -/
def zoneDescriptor (s : State) (n ns zi : Nat) : List Byte :=
  let z := zoneOf s ns zi
  let flags := num (z.marked n) + 2 * num z.hold.isSome + 4 * num (!z.lost.isEmpty)
  let cap := if z.st = .empty then emptyCapacity s ns else z.capacity
  leBytes 4 zi ++ leBytes 1 z.st.code ++ leBytes 1 flags ++ leBytes 1 (z.group.getD 0xFF) ++ zeros 1 ++
  leBytes 4 cap ++ leBytes 4 z.accepted ++ leBytes 4 z.written ++ zeros 12

/-- Reading a zone clears its mark for the connection, and counts as a command that addresses its group (R69, R291). -/
def reportZone (n ns : Nat) (s : State) (zi : Nat) : State :=
  let z := zoneOf s ns zi
  let s := match z.group with
    | some g => touchGroup s g
    | none => s
  if z.marked n then setZone s ns zi (z.clearMark n) else s

/-- ZONE_REPORT: the descriptors of a range of zones (R106). -/
def acceptReport (n : Nat) (s : State) (q : Nat) (k : Capsule) : State :=
  let zs := (List.range k.len).map (k.zone + ·)
  deliver (zs.foldl (reportZone n k.ns) s) q (zs.flatMap (zoneDescriptor s n k.ns))

/-- ZONE_REPORT (R106). -/
def execZoneReport (n : Nat) (s : State) : Res :=
  capsuleRow n (fun k => k.op = 0x09 && zsqTakes s) (acceptReport n) s

/-! ## IDENTIFY (R107) -/

/-- IDENTIFY CNS 0: the controller data (Table 4-11). -/
def controllerData (s : State) (n : Nat) : List Byte :=
  let c := connOf s n
  let active := !servesLittle s
  padTo 4096 (
    leBytes 2 0x5E1A ++ leBytes 2 0x4896 ++ leBytes 1 s.boot.ctrlId ++ leBytes 1 (num active) ++ zeros 2 ++
    leBytes 4 (claimOf s) ++ leBytes 4 (regOf s 0x003 O.BOOT_ROM_VER).toNat ++ leBytes 4 s.boot.level ++
    leBytes 2 4096 ++ leBytes 2 c.grant ++ leBytes 4 65536 ++ leBytes 4 4096 ++ leBytes 4 4096 ++ leBytes 4 1048576 ++
    leBytes 2 1024 ++ leBytes 2 (regField s zsqPage O.ZSQ_OPEN_LIMIT 0 13) ++
    leBytes 4 (regField s cmdPage O.CMD_DATA_TMO 0 16) ++ leBytes 1 (num c.ordered) ++ leBytes 1 (num c.sealed) ++
    leBytes 1 16 ++ zeros 1 ++ leBytes 4 (2 ^ c.cqShift) ++ leBytes 8 (s.time.sec % 2 ^ 48 + num s.time.isSet * 2 ^ 63) ++
    leBytes 16 Config.serial)

/-- State codes of Table 4-12. -/
def NsState.code : NsState → Nat
  | .unused => 0 | .locked => 1 | .active => 2 | .retiring => 3

/-- Class codes of Table 4-12. -/
def LatClass.code : LatClass → Nat
  | .pinned => 0 | .seasonal => 1 | .patrol => 2

/-- Zones of a namespace now OPEN. -/
def openZonesOf (s : State) (n : Nat) : Nat :=
  (s.zones.entries.filter fun e => keyNs e.1 = n && e.2.st = .opened).length

/-- IDENTIFY CNS 1: the namespace data (Table 4-12). An UNUSED namespace has no attributes: their bytes are free values
(log entry 32). -/
def namespaceData (s : State) (n : Nat) : List Byte × State :=
  let x := nsOf s n
  let head := leBytes 2 n ++ leBytes 1 x.st.code
  if x.st = .unused then
    let bytes := (List.range 17).map fun i => Config.freeByte (s.draws + i)
    (padTo 4096 (head ++ bytes.take 2 ++ zeros 1 ++ bytes.drop 2 ++ leBytes 4 0), { s with draws := s.draws + 17 })
  else
    (padTo 4096 (head ++ leBytes 1 x.cls.code ++ leBytes 1 x.shift ++ zeros 1 ++ leBytes 2 x.groupSet ++
      leBytes 4 x.zoneCount ++ leBytes 4 x.wakeLimit ++ leBytes 4 (emptyCapacity s n) ++ leBytes 4 (openZonesOf s n)), s)

/-- IDENTIFY CNS 2: the namespaces that are not UNUSED. -/
def namespaceList (s : State) : List Byte :=
  let ns := (s.namespaces.entries.filter fun e => decide (e.2.st ≠ .unused)).map (·.1)
  padTo 4096 (leBytes 2 ns.length ++ ns.flatMap (leBytes 2))

/-- IDENTIFY_CONTROLLER (R107); an IDENTIFY whose ARG0 is none of the selections is turned away here. -/
def execIdentifyController (n : Nat) (s : State) : Res :=
  capsuleRow n (fun k => k.op = 0x10 && k.arg ≠ 1 && k.arg ≠ 2) (fun s q _ => deliver s q (controllerData s n)) s

/-- IDENTIFY_NAMESPACE (R107). -/
def execIdentifyNamespace (n : Nat) (s : State) : Res :=
  capsuleRow n (fun k => k.op = 0x10 && k.arg = 1) (fun s q k =>
    let (b, s) := namespaceData s k.ns
    deliver s q b) s

/-- IDENTIFY_NS_LIST (R107). -/
def execIdentifyNsList (n : Nat) (s : State) : Res :=
  capsuleRow n (fun k => k.op = 0x10 && k.arg = 2) (fun s q _ => deliver s q (namespaceList s)) s

/-! ## Logs (R108) -/

/-- An entry of the error log (Table 4-13). -/
def LogEntry.bytes (e : LogEntry) : List Byte :=
  leBytes 8 e.tick ++ leBytes 2 e.code ++ leBytes 2 e.conn ++ leBytes 4 e.cid ++ zeros 16

/-- The error log: 64 KiB, newest entry first (Table 4-13). -/
def errorLogBytes (s : State) : List Byte := padTo 65536 (s.errorLog.flatMap LogEntry.bytes)

/-- MEMBERS of a group record: one member index (Table 10-7). -/
def memberWord (x : Group) (m : Nat) : List Byte :=
  match x.member m with
  | none => zeros 4
  | some y =>
    let slot := if y.shownSlot = 63 then 0xFF else y.shownSlot
    leBytes 4 (slot + y.st.code * 2 ^ 8 + num (x.jmem0 = m || x.jmem1 = m) * 2 ^ 16 + num y.sweeping * 2 ^ 17)

/-- The health log's record of a group (Table 10-7). -/
def groupRecord (s : State) (g : Nat) : List Byte :=
  match groupOf s g with
  | none => zeros 128
  | some x =>
    let st := if x.lost then 3 else if x.normal then 1 else 2
    let spare := match x.spare with | .none => 0 | .slot => 1 | .distributed => 2
    let reshape := match s.reshape with
      | some r => if r.group ≠ g then 0 else if r.suspended then 2 else 1
      | none => 0
    padTo 128 (leBytes 1 st ++ leBytes 1 x.w ++ leBytes 1 (if x.dual then 2 else 1) ++ leBytes 1 spare ++
      leBytes 1 x.season.code ++ leBytes 1 reshape ++ zeros 2 ++
      ((List.range 24).flatMap fun m => if m < x.w then memberWord x m else zeros 4) ++ leBytes 4 x.next ++
      leBytes 4 (s.losses.filter fun l => decide (l.group = g)).length)

/-- The pair record of the health log (Table 13-3). -/
def pairRecord (s : State) : List Byte :=
  let p := s.pair
  leBytes 1 p.role.code ++ leBytes 1 p.mirror.code ++
  leBytes 1 (num p.link.ok + 2 * num p.wire.ok + 4 * num (spxUp s)) ++ leBytes 1 p.drillResult ++ leBytes 4 (claimOf s) ++
  leBytes 4 p.peerClaim ++ leBytes 2 p.drillDays ++
  leBytes 6 ((List.range 48).map fun i => num (p.drillSlots.contains i) * 2 ^ i).sum ++
  leBytes 4 (regOf s 0x010 O.PAIR_TKO_CNT).toNat ++ leBytes 8 p.tkoSec ++ leBytes 8 p.acked

/-- The health log: 4 KiB (R286, R365). -/
def healthLogBytes (s : State) : List Byte :=
  padTo 4096 ((List.range 12).flatMap (groupRecord s) ++ pairRecord s)

/-- Does a loss log entry come before another: by zone, then first sector (R276)? -/
def Loss.before (a b : Loss) : Bool := decide (a.zone < b.zone ∨ a.zone = b.zone ∧ a.first ≤ b.first)

/-- A loss log entry sorted into a list. -/
def insertLoss (l : Loss) : List Loss → List Loss
  | [] => [l]
  | m :: r => if l.before m then l :: m :: r else m :: insertLoss l r

/-- An entry of the loss log (Table 10-3). -/
def Loss.bytes (l : Loss) : List Byte :=
  leBytes 4 l.zone ++ leBytes 4 l.first ++ leBytes 4 l.count ++ leBytes 1 l.group ++ leBytes 1 l.cause ++ zeros 2 ++
  leBytes 8 (l.time % 2 ^ 48) ++ leBytes 4 l.stripe ++ zeros 4

/-- The loss log of a namespace: header and sorted entries (R276). -/
def lossLogBytes (s : State) (ns : Nat) : List Byte :=
  let mine := (s.losses.filter fun l => decide (l.ns = ns)).foldr insertLoss []
  leBytes 4 mine.length ++ zeros 4 ++ leBytes 8 (s.lossGen.getD ns 0) ++ zeros 16 ++ mine.flatMap Loss.bytes

/-- A log is delivered from a sector on: sectors beyond its end are zeros, and the status then ZERO_FILLED (R108). -/
def deliverLog (log : State → Nat → List Byte) (s : State) (q : Nat) (k : Capsule) : State :=
  let b := log s k.ns
  match s.commands.get q with
  | none => s
  | some c =>
    let s := setCmd s q { c with zeroed := decide (ceilDiv b.length 4096 < k.offset + k.len) }
    deliver s q (padTo (k.len * 4096) (slice b (k.offset * 4096) (k.len * 4096)))

/-- GET_LOG_ERROR (R108); a GET_LOG of an unknown log is turned away here. -/
def execGetLogError (n : Nat) (s : State) : Res :=
  capsuleRow n (fun k => k.op = 0x11 && k.arg ≠ 2 && k.arg ≠ 3) (deliverLog fun s _ => errorLogBytes s) s

/-- GET_LOG_HEALTH (R286, R365). -/
def execGetLogHealth (n : Nat) (s : State) : Res :=
  capsuleRow n (fun k => k.op = 0x11 && k.arg = 2) (deliverLog fun s _ => healthLogBytes s) s

/-- GET_LOG_LOSS (R276). -/
def execGetLogLoss (n : Nat) (s : State) : Res :=
  capsuleRow n (fun k => k.op = 0x11 && k.arg = 3) (deliverLog lossLogBytes) s

/-! ## Tokens (R72 to R75, R109) -/

/-- TOKEN_ATTACH: before its token is read it fails while the time base is not set or CRY is halted (R74); otherwise the
token is read (R109). -/
def acceptToken (n : Nat) (s : State) (q : Nat) (k : Capsule) : State :=
  if !s.time.isSet || s.crypto.halted then complete s q 0x0A 0
  else
    let s := setPhase s q .tokenRead
    issue (emit s (.rdmaRead n k.cid k.bufKey k.bufAddr 160)) n .read (some q) 160

/-- TOKEN_ATTACH (R73). -/
def execTokenAttach (n : Nat) (s : State) : Res :=
  capsuleRow n (fun k => k.op = 0x18 && !k.arg.testBit 8) (acceptToken n) s

/-- TOKEN_DETACH: the handle is emptied at once (R109). -/
def execTokenDetach (n : Nat) (s : State) : Res :=
  capsuleRow n (fun k => k.op = 0x18 && k.arg.testBit 8) (fun s q k =>
    let c := connOf s n
    complete (setConn s n { c with tokens := c.tokens.erase (k.arg % 256) }) q 0 0) s

/-- The namespace ranges of a token; an entry with first > last is unused (Table 3-7). -/
def tokenRanges (d : List Byte) : List (Nat × Nat) :=
  ((List.range 8).map fun i => (leField d (0x40 + 4 * i) 2, leField d (0x42 + 4 * i) 2)).filter fun r =>
    decide (r.1 ≤ r.2)

/-- A number from its bytes, most significant first: addresses stand in network order (DEDUCED, log entry 33). -/
def beNat (bs : List Byte) : Nat := leNat bs.reverse

/-- The first line of R73 that a token fails, counted from 1; none where it is accepted. -/
def tokenFault (s : State) (n : Nat) (d : List Byte) (tagOk : Bool) : Option Nat :=
  let c := connOf s n
  let f := leField d
  if f 0 2 ≠ 1 || f 2 2 ≠ 160 || 8 ≤ f 4 4 || 8 ≤ f 0x10 4 || f 0x14 4 ≠ 0 || 2 ^ 48 ≤ f 0x18 8 || 2 ^ 48 ≤ f 0x20 8 ||
      f 0x60 16 ≠ 0 then some 1
  else if !s.sec.tvk.has (f 4 4) || !tagOk then some 2
  else if s.sec.deny.contains (f 8 8) then some 3
  else if s.time.sec < f 0x18 8 || f 0x20 8 ≤ s.time.sec then some 4
  else if beNat (slice d 0x28 16) ≠ c.hostIp || f 0x38 8 ≠ c.hostId then some 5
  else none

/-- The token that 160 bytes hold. -/
def parseToken (s : State) (d : List Byte) : Token :=
  let id := leField d 4 4
  { keyId := id, keyGen := ((s.sec.tvk.get id).map (·.2)).getD 0, serial := leField d 8 8, rights := leField d 0x10 4
    expiry := leField d 0x20 8, ranges := tokenRanges d }

/-- The token of a TOKEN_ATTACH has been read and is verified (R73, R75). `tagOk` is whether its HMAC tag is the one under
its key. A rejection is entered in the security log; its code in the error log is not given: a free value (log entry 34). An
ERASE while the token was read has cleared the keys: it fails as before the read (R335). -/
def tokenRead (s : State) (n cid : Nat) (data : List Byte) (tagOk : Bool) : State :=
  match findCmd s n cid with
  | none => s
  | some (q, c) =>
    if c.phase ≠ .tokenRead then s
    else
      let s := responseTaken s n q .read
      if s.crypto.halted then complete s q 0x0A 0
      else match tokenFault s n data tagOk with
      | some r =>
        let (k, s) := draw { s with sec := { s.sec with log := (0x100 + r) :: s.sec.log } }
        complete (addError s (0x0200 + Config.freeNat k % 256) 0xFFFF 0xFFFFFFFF) q 0x06 0
      | none =>
        let t := parseToken s data
        let k := connOf s n
        complete (setConn s n { k with tokens := k.tokens.set (c.arg % 256) t }) q 0 t.expiry

/-- RDMA_READ_RESPONSE (R137): the read of a token is done. -/
def execRdmaReadResponse (n cid : Nat) (data : List Byte) (tagOk : Bool) (s : State) : Res :=
  onConn n (tokenRead (takeConnFrame s n) n cid data tagOk)

end Sys2Proof.Machine
end

