-- ==== Sys2Proof/Machine/Seasons.lean ====
section
/-! DEFINITION. The seasons of groups and of single slots: wakes and their admission, Spring, Summer and Autumn, and the
power budget (R288 to R301). -/
namespace Sys2Proof.Machine

/-! ## Budget (R297, R301) -/

/-- Do the charges in force exceed a limit (R301)? -/
def overBudget (s : State) : Bool :=
  decide (regField s zsqPage O.ZSQ_SEASON_CFG 16 16 < reservedWatts s) ||
  decide (regField s zsqPage O.ZSQ_SEASON_CFG 12 4 < groupsUp s)

/-- BUDGET_OVER is raised where the charges come to exceed a limit (R301). -/
def noteBudget (before after : State) : State :=
  if !overBudget before && overBudget after then alertAt after zsqPage O.ZSQ_SEASON_ALERT 1 20 else after

/-- What a write of ZSQ_SEASON_CFG or ZSQ_SEASON_RSV does once stored: the limits and charges apply at once (R301). -/
def seasonCfgEffect (before after : State) : State := noteBudget before after

/-! ## Spring (R289, R290, R298) -/

/-- A group enters a season: journalled (R289, R292; DEDUCED for Summer and Autumn, log entry 35). -/
def enterSeason (s : State) (g : Nat) (x : Group) (season : Season) : State :=
  let x := { x with season := season, since := s.time.now }
  journal (setGroup s g x) (.group g (some x))

/-- The slots of a group's members in index order; a SPARED index has none. -/
def springSlots (x : Group) : List Nat := (x.members.values.filter fun y => decide (y.st ≠ .spared)).map (·.slot)

/-- The next member of a group in Spring gets its ON order, where its channel is READY (R289, step 2). -/
def orderNext (s : State) (g : Nat) : State :=
  match groupOf s g with
  | none => s
  | some x =>
    match (springSlots x)[x.ramped]? with
    | none => s
    | some n =>
      let s := setGroup s g { x with ramped := x.ramped + 1 }
      if (chanOf s n).st = .ready then orderSlot s n (claimOf s) .on else s

/-- A group's Spring begins (R289): journalled, and the first member is ordered ON. -/
def springBegins (s : State) (g : Nat) (x : Group) : State :=
  let s := bump s zsqPage O.ZSQ_SPRING_CNT
  orderNext (enterSeason s g { x with ramped := 0, wake := none, wakeWaited := false } .spring) g

/-- A slot's own Spring begins (R295). -/
def slotSpring (s : State) (n : Nat) : State :=
  let s := bump (setChan s n { chanOf s n with ownSeason := 1, ownWake := false }) zsqPage O.ZSQ_SPRING_CNT
  if (chanOf s n).st = .ready then orderSlot s n (claimOf s) .on else s

/-- A wake request: rank, order, group (R298). -/
def wakeList (s : State) : List (Nat × Nat × Nat) :=
  s.groups.entries.filterMap fun e => e.2.wake.map fun w => (w.1.rank, w.2, e.1)

/-- Does one request come before another (R298)? -/
def wakeBefore (a b : Nat × Nat × Nat) : Bool := decide (a.1 < b.1 ∨ a.1 = b.1 ∧ a.2.1 ≤ b.2.1)

/-- A request sorted into a list. -/
def insertWake (a : Nat × Nat × Nat) : List (Nat × Nat × Nat) → List (Nat × Nat × Nat)
  | [] => [a]
  | b :: r => if wakeBefore a b then a :: b :: r else b :: insertWake a r

/-- The requests in the order of R298. -/
def wakeOrder (s : State) : List (Nat × Nat × Nat) := (wakeList s).foldr insertWake []

/-- May a group's Spring be admitted: in Winter, not LOST, within the budget (R288, R298)? -/
def wakeFits (s : State) (g : Nat) : Bool :=
  match groupOf s g with
  | none => false
  | some x => x.season = .winter && !x.lost && springFits s x.w true

/-- What WAKE_ADMIT admits. -/
inductive Admit
  | group (g : Nat)
  | slot (n : Nat)
  | nothing
  deriving DecidableEq, Repr

/-- The first slot that waits for a Spring of its own, where that fits (R295). -/
def nextSlot (s : State) : Admit :=
  match s.channels.entries.find? fun e => e.2.ownWake with
  | none => .nothing
  | some (n, _) => if springFits s 1 false then .slot n else .nothing

/-- The request that is admitted: the first that fits; one of a host command blocks those behind it (R298). Slots with a
Spring of their own come last (log entry 36). -/
def firstFit (s : State) : List (Nat × Nat × Nat) → Admit
  | [] => nextSlot s
  | (rank, _, g) :: r => if wakeFits s g then .group g else if rank = 0 then .nothing else firstFit s r

/-- WAKE_ADMIT (R298): one waiting wake is admitted, once WINTER_MIN_MS has passed since the group's Winter began. -/
def wakeAdmit (s : State) : State :=
  if !s.rules then s
  else match firstFit s (wakeOrder s) with
    | .nothing => s
    | .slot n => slotSpring s n
    | .group g =>
      match groupOf s g with
      | none => s
      | some x =>
        let s := clockTo s (x.since + regField s zsqPage O.ZSQ_SEASON_TMG 8 8 * ticksMs)
        springBegins s g x

/-- WAKE_ADMIT (R298). -/
def execWakeAdmit (s : State) : Res := .next (noteStatus s (wakeAdmit s))

/-- SPRING_STAGGER (R289): STAGGER_MS after the member before. -/
def springStagger (s : State) (g : Nat) : State :=
  match groupOf s g with
  | none => s
  | some x =>
    if x.season ≠ .spring || !s.rules then s
    else
      let s := clockTo s (x.since + x.ramped * regField s zsqPage O.ZSQ_SEASON_TMG 0 8 * ticksMs)
      orderNext s g

/-- SPRING_STAGGER (R289). -/
def execSpringStagger (g : Nat) (s : State) : Res := onGroup g (noteStatus s (springStagger s g))

/-- Is a member's link ACTIVE, with its module's identity checked (R290)? -/
def memberUp (s : State) (n : Nat) : Bool :=
  linkActive s n && (chanOf s n).identified && ((s.modules.get n).map (·.admitted)).getD false

/-- A command that waited for Summer goes on: a READ makes its lookup, a write waits for its windows (R68, R92, R290). -/
def summerComes (g : Nat) (s : State) (q : Nat) : State :=
  match s.commands.get q with
  | none => s
  | some c =>
    if c.phase ≠ .summerWait || (zoneOf s c.ns c.zone).group ≠ some g then s
    else if c.op = 0x01 then startRead s q
    else setCmd s q { c with phase := .windowWait }

/-- What waits for a group's Summer goes on (R290). -/
def summerWork (s : State) (g : Nat) : State :=
  let s := (cmdsWhere s fun c => c.phase = .summerWait).foldl (summerComes g) s
  let s := (zonesOn s g).foldl (fun s k => startPadding s (keyNs k) (keyZone k)) s
  tryReleaseGroup (retryLogs (resumeWaits s) g) g

/-- A group enters Summer (R290): members whose link is not ACTIVE become OUT. -/
def enterSummer (s : State) (g : Nat) (x : Group) : State :=
  let late := x.members.entries.filter fun e => e.2.st ≠ .spared && !linkActive s e.2.slot
  let s := noteBudget s (enterSeason s g { x with wake := none, wakeWaited := false } .summer)
  let s := late.foldl (fun s e => memberOut s g e.1) s
  let s := if late.isEmpty then s else alertAt s zsqPage O.ZSQ_SEASON_ALERT 2 20
  summerWork s g

/-- SPRING_END (R290): every member is up, or SPRING_MAX_MS have passed. -/
def springEnd (s : State) (g : Nat) : State :=
  match groupOf s g with
  | none => s
  | some x =>
    if x.season ≠ .spring || x.lost || !s.rules then s
    else if (springSlots x).all (memberUp s) then enterSummer s g x
    else enterSummer (clockTo s (x.since + regField s zsqPage O.ZSQ_SEASON_TMG 16 16 * ticksMs)) g x

/-- SPRING_END (R290). -/
def execSpringEnd (g : Nat) (s : State) : Res := onGroup g (noteStatus s (springEnd s g))

/-! ## Autumn (R291, R292, R299, R300) -/

/-- Does a rebuild, resync, copy-back or reshape hold a group in Summer? A FAILED member holds it until its rebuild ends
(R294, R300). -/
def workHolds (s : State) (g : Nat) (x : Group) : Bool :=
  (s.reshape.any fun r => decide (r.group = g)) ||
  x.members.values.any fun y =>
    y.sweeping || y.st = .failed || y.st = .rebuilding || y.st = .resync || y.st = .copyback

/-- May a group in Summer enter Autumn (R68, R291, R300)? -/
def mayAutumn (s : State) (g : Nat) (x : Group) : Bool :=
  x.season = .summer && !x.lost && !workHolds s g x &&
  !((zonesOn s g).any fun k =>
    (zoneOf s (keyNs k) (keyZone k)).st = .opened || (nsOf s (keyNs k)).cls = .pinned)

/-- The pending log and journal pages of a group are released at once (R292, step 3). -/
def flushPages (s : State) (g : Nat) : State :=
  match groupOf s g with
  | none => s
  | some x => releaseJournal ((x.members.entries.filter fun e => e.2.log.isSome).foldl (fun s e => releaseLog s g e.1) s) g

/-- A group enters Autumn (R292). -/
def enterAutumn (s : State) (g : Nat) (x : Group) : State :=
  flushPages (enterSeason (bump s zsqPage O.ZSQ_AUTUMN_CNT) g x .autumn) g

/-- IDLE_TIMEOUT (R291): no host command has addressed a zone of the group for IDLE_S. -/
def idleTimeout (s : State) (g : Nat) : State :=
  match groupOf s g with
  | none => s
  | some x =>
    if !mayAutumn s g x || !s.rules then s
    else enterAutumn (clockTo s (x.idleAt + regField s zsqPage O.ZSQ_SEASON_CFG 0 12 * ticksS)) g x

/-- IDLE_TIMEOUT (R291). -/
def execIdleTimeout (g : Nat) (s : State) : Res := onGroup g (idleTimeout s g)

/-- Does every zone of a group belong to a Patrol-only namespace, or has it none (R299)? -/
def patrolOnly (s : State) (g : Nat) : Bool := (zonesOn s g).all fun k => (nsOf s (keyNs k)).cls = .patrol

/-- The groups that R299 can choose: those R291 allows, not addressed for 1 s. -/
def autumnCandidates (s : State) : List (Nat × Group) :=
  s.groups.entries.filter fun e => mayAutumn s e.1 e.2 && decide (e.2.idleAt + ticksS ≤ s.time.now)

/-- Is the first candidate chosen before the second: Patrol-only, then idle longest, then the lower number (R299)? -/
def chosenBefore (s : State) (a b : Nat × Group) : Bool :=
  let pa := patrolOnly s a.1
  let pb := patrolOnly s b.1
  if pa ≠ pb then pa else decide (a.2.idleAt < b.2.idleAt ∨ a.2.idleAt = b.2.idleAt ∧ a.1 < b.1)

/-- Is room wanted: a host command's wake that does not fit, or charges above a limit (R299, R301)? Groups go one at a
time: none is chosen while one is in Autumn (DEDUCED, log entry 37). -/
def roomWanted (s : State) : Bool :=
  let demand := match wakeOrder s with
    | (0, _, g) :: _ => ((groupOf s g).map fun x => !springFits s x.w true).getD false
    | _ => false
  (demand || overBudget s) && !s.groups.values.any fun x => decide (x.season = .autumn)

/-- AUTUMN_CHOICE (R299, R301). -/
def autumnChoice (s : State) : State :=
  if !roomWanted s || !s.rules then s
  else match autumnCandidates s with
    | [] => s
    | e :: r =>
      let c := r.foldl (fun a b => if chosenBefore s b a then b else a) e
      enterAutumn s c.1 c.2

/-- AUTUMN_CHOICE (R299). -/
def execAutumnChoice (s : State) : Res := .next (autumnChoice s)

/-- Has what was released in a group ended: its stripes committed, its pages programmed, its links idle (R292)? -/
def autumnQuiet (s : State) (g : Nat) (x : Group) : Bool :=
  (s.folds.keys.all fun k => decide (keyGroup k ≠ g)) && x.jrnlPage.isEmpty && x.jrnlSent.isEmpty &&
  x.members.values.all fun y =>
    y.log.isNone && y.logSent.isEmpty &&
    let l := s.links.getD y.slot {}
    l.waiting.isEmpty && l.tags.entries.isEmpty

/-- The temperature at which a module's Winter is charged is that of its Autumn (R220). -/
def keepAutumnTemp (s : State) (n : Nat) : State :=
  match s.modules.get n with
  | none => s
  | some m => { s with modules := s.modules.set n { m with autumnTemp := m.temp, winterDays := 0 } }

/-- AUTUMN_END (R292, steps 5 and 6): links are quiesced, MRST asserted, OFF ordered, and the Winter journalled. What has
still to be released goes first. -/
def autumnEnd (s : State) (g : Nat) : State :=
  match groupOf s g with
  | none => s
  | some x =>
    if x.season ≠ .autumn || x.lost || !s.rules then s
    else if !autumnQuiet s g x then flushPages s g
    else
      let slots := springSlots x
      let s := slots.foldl keepAutumnTemp s
      let s := slots.foldl slotToWinter s
      match groupOf s g with
      | none => s
      | some x => wakeWaits (enterSeason s g x .winter) g

/-- AUTUMN_END (R292). -/
def execAutumnEnd (g : Nat) (s : State) : Res := onGroup g (noteStatus s (autumnEnd s g))

/-! ## ZSQ_SEASON_CMD (R291, R298, R317) -/

/-- RESULT of a season operation; a failure is logged (R317). A wake that waits is none. -/
def seasonResult (s : State) (g r : Nat) : State :=
  let s := setField s zsqPage O.ZSQ_SEASON_CMD 24 4 r
  if r = 0 || r = 3 then s else blockError s zsqPage 0x0105 (g + r * 256)

/-- WAKE: the request is entered; RESULT says whether it waits (R298). -/
def seasonWake (s : State) (g : Nat) : State :=
  match groupOf s g with
  | none => seasonResult s g 1
  | some x =>
    if x.lost then seasonResult s g 2
    else if x.season = .spring || x.season = .summer then seasonResult s g 0
    else
      let s := requestWake s g .season
      let now := decide (firstFit s (wakeOrder s) = .group g ∧
        x.since + regField s zsqPage O.ZSQ_SEASON_TMG 8 8 * ticksMs ≤ s.time.now)
      seasonResult s g (if now then 0 else 3)

/-- SLEEP: an eligible group enters Autumn (R291). A group that is not in Summer is not eligible (log entry 38). -/
def seasonSleep (s : State) (g : Nat) : State :=
  match groupOf s g with
  | none => seasonResult s g 1
  | some x => if mayAutumn s g x then enterAutumn (seasonResult s g 0) g x else seasonResult s g 2

/-- What a write of ZSQ_SEASON_CMD does once stored: GO = 1 applies OP to the group and clears. -/
def seasonCmdEffect (_ after : State) : State :=
  let v := regOf after zsqPage O.ZSQ_SEASON_CMD
  if !bit v 31 then after
  else
    let s := setReg after zsqPage O.ZSQ_SEASON_CMD (putField v 31 1 0)
    match field v 0 2 with
    | 1 => seasonWake s (field v 4 4)
    | 2 => seasonSleep s (field v 4 4)
    | _ => s

/-- A write of ZSQ_SEASON_CMD with GO = 1. -/
def seasonCommand (s : State) (req g op : Nat) : State :=
  writeBlock seasonCmdEffect s req zsqPage O.ZSQ_SEASON_CMD (packWord [(31, 1), (4, g), (0, op)])

/-- SEASON_WAKE (R298). -/
def execSeasonWake (req g : Nat) (s : State) : Res := .next (seasonCommand s req (g % 16) 1)

/-- SEASON_SLEEP (R291). -/
def execSeasonSleep (req g : Nat) (s : State) : Res := .next (seasonCommand s req (g % 16) 2)

end Sys2Proof.Machine
end

