-- ==== Sys2Proof/Machine/Security.lean ====
section
/-! DEFINITION. The security core's requests (R321 to R324, R336, R338, R430, R431), the key vault (R325 to R327), the
alarms (R333 to R337), the zeroize order (R364) and the random number generator (R339). -/
namespace Sys2Proof.Machine

/-- The page of BOOT. -/
abbrev bootPage : Nat := 0x003

/-- Requester id of the security core (Table 2-8). -/
abbrev securityCore : Nat := 0x10

/-! ## Keys of namespaces (R319, R320, R323) -/

/-- The namespace key NSK as the security core unwraps it: it needs the PWK, which needs the PUF response, and the
namespace's NWK (Table 12-1, R337). -/
def unwrapKey (s : State) (n : Nat) : Option Nat :=
  if s.sec.pwk.isSome && s.sec.pufIntact && s.sec.nwk.has n then s.sec.nsk.get n else none

/-- The security core loads a key into a namespace slot: KEY_KCV holds its check value (R323, R325). -/
def loadSlot (s : State) (n key : Nat) : State :=
  let s := { s with vault := { s.vault with slots := s.vault.slots.set n key, kcv := Config.kcv key, result := 0 } }
  bump s keyPage O.KEY_LOAD_CNT

/-- The security core unwraps and loads a LOCKED namespace's key: it becomes ACTIVE (R53, R323). A key that cannot be
unwrapped is absent, and UNWRAP_FAIL is raised (R320). -/
def loadNamespace (s : State) (n : Nat) : State :=
  match unwrapKey s n with
  | some key => enterNs (loadSlot s n key) n .active
  | none => alert s secPage O.SEC_ALERT 1

/-- The namespaces in a state. -/
def nsIn (s : State) (st : NsState) : List Nat := s.namespaces.keys.filter fun n => decide ((nsOf s n).st = st)

/-- Does the controller hold a namespace (R322)? -/
def holdsNamespace (s : State) : Bool := s.namespaces.values.any fun x => decide (x.st ≠ .unused)

/-- Jobs of a bank entry that wait fail with CRYPTO_HALT, and with them their commands; running jobs finish (R327). -/
def failQueued (s : State) (p : CryptoJob → Bool) : State :=
  let (qs, s) := dropJobs s p
  dispatchJobs (qs.foldl haltCommand s)

/-- A namespace is crypto-erased (R54, R338): its slot is zeroed, its NWK is overwritten here and in the mirror, it becomes
RETIRING, and its commands complete with INTERNAL. Later ones end first, so that none fails for the one before it. -/
def retireNamespace (s : State) (n : Nat) : State :=
  let s := (dropJobs s fun j => !j.kind.sealed && j.index = n).2
  let s := { s with
    vault := { s.vault with slots := s.vault.slots.erase n }
    sec := { s.sec with nwk := s.sec.nwk.erase n, wasActive := s.sec.wasActive.filter (· ≠ n) } }
  let s := enterNs (journal s (.nwk n none)) n .retiring
  let qs := cmdsWhere s fun c =>
    c.ns = n && decide (c.phase ≠ .ended) && (c.op = 0x01 || c.op = 0x02 || c.op = 0x03 || c.op = 0x08 || c.op = 0x09 ||
      (c.op = 0x11 && c.arg = 3))
  dispatchJobs (qs.reverse.foldl haltCommand s)

/-! ## Patch sets (R428 to R432) -/

/-- ROM version in the format of Table 4-11, as BOOT_ROM_VER shows it (R428). -/
abbrev romVersion : Nat := 0x01030011

/-- Is a patch set valid for this controller (R429)? -/
def PatchSet.valid (p : PatchSet) : Bool :=
  p.magic = 0x53504C45 && p.format = 1 && p.romVer = romVersion && 512 ≤ p.length && p.length ≤ 8388608 &&
  1 ≤ p.entries && p.entries ≤ 256 && (p.table.all fun t => decide (t.2.1 + t.2.2 ≤ p.length)) && p.digestOk && p.sigOk

/-- Every command accepted before the hold has posted its entry (R112, R431). -/
def holdDrained (s : State) : Bool := s.commands.values.all (·.orphan)

/-! ## Requests (R321) -/

/-- What serving a request comes to. -/
inductive Answer
  /-- it waits for the random number generator (R339) -/
  | waits
  /-- it ends with a status and a response; the state counts where the status is 0 -/
  | done (status : Nat) (response : List Nat) (t : State)
  /-- it runs on, and its status is written when it ends -/
  | running (t : State)
  deriving DecidableEq, Repr

/-- A request entry gets its status and response (R321): an accepted one is entered in the security log and the error log, a
failed one is counted. -/
def endRequest (s : State) (op status : Nat) (response : List Nat) : State :=
  let s := emit { s with sec := { s.sec with head := s.sec.head + 1 } } (.secStatus status response)
  if status = 0 then
    addError { s with sec := { s.sec with log := op :: s.sec.log } } (0x0200 + op) 0xFFFF 0xFFFFFFFF
  else alert (bump s secPage O.SEC_REQ_FAIL_CNT) secPage O.SEC_ALERT 0

/-- The nonce of an accepted request is kept in MRAM and mirrored (R321). -/
def keepNonce (s : State) (nonce : Nat) : State :=
  journal { s with sec := { s.sec with nonce := nonce } } (.owner s.sec.owner nonce)

/-- The status with which a request fails before it is looked at, in the order of R321, R336, R337 and its layout. -/
def requestFault (s : State) (op : Nat) (signed vault : Bool) (r : SecReq) : Option Nat :=
  if s.alarm.zeroized || s.sec.mode = .zeroized then (if op = 0x01 then none else some 5)
  else if signed && s.sec.owner.isNone then some 3
  else if signed && r.nonce ≤ s.sec.nonce then some 2
  else if signed && !r.sigOk then some 1
  else if vault && s.crypto.halted then some 6
  else if !r.bodyOk then some 4
  else none

/-- A request is served: none where it waits. `keep` is whether its nonce becomes the last accepted one. -/
def serveWith (s : State) (op : Nat) (signed keep vault : Bool) (r : SecReq) (body : State → Answer) : Option State :=
  match requestFault s op signed vault r with
  | some st => some (endRequest s op st [])
  | none =>
    match body s with
    | .waits => none
    | .running t => some { t with sec := { t.sec with heldNonce := r.nonce } }
    | .done st response t =>
      if st = 0 then some (endRequest (if keep then keepNonce t r.nonce else t) op 0 response)
      else some (endRequest s op st response)

/-- A signed request (Table 12-3). -/
def serveSigned (s : State) (op : Nat) (vault : Bool) (r : SecReq) (body : State → Answer) : Option State :=
  serveWith s op true true vault r body

/-- IDENTITY: the identity point and the device serial (Table 12-3). -/
def identityRequest (r : SecReq) (s : State) : Option State :=
  serveWith s 0x01 false false false r fun s => .done 0 [Config.idPoint, Config.serial] s

/-- A PWK, where there is none yet (R319). -/
def ensurePwk (s : State) : State :=
  match s.sec.pwk with
  | some _ => s
  | none =>
    let (k, s) := draw s
    { s with sec := { s.sec with pwk := some (Config.random k % 2 ^ 256) } }

/-- BIND_OWNER: the operator's key is installed, the last accepted nonce is 0 for it, and the PWK is drawn where none exists
(R321). -/
def bindOwnerRequest (r : SecReq) (key : Nat) (s : State) : Option State :=
  serveWith s 0x02 s.sec.owner.isSome false false r fun s =>
    if s.sec.pwk.isNone && !s.rng.ready then .waits
    else
      let s := ensurePwk s
      .done 0 [] (journal { s with sec := { s.sec with owner := some key, nonce := 0 } } (.owner (some key) 0))

/-- PAIR_BIND: the exchange starts (R322). Its end is in `bindExchange`. -/
def pairBindRequest (r : SecReq) (b : PairBind) (s : State) : Option State :=
  serveSigned s 0x03 true r fun s =>
    if b.ownPoint ≠ Config.idPoint then .done 4 [] s
    else if !s.pair.link.ok || (holdsNamespace s && b.peerHolds) then .done 5 [] s
    else if !s.rng.ready then .waits
    else .running (emit { s with sec := { s.sec with binding := some b } } (.secure (claimOf s)))

/-- The attributes that NS_CREATE and NS_SET give lie in the ranges of Table 3-1. -/
def attrsOk (groupSet wakeLimit : Nat) : Bool :=
  0 < groupSet && groupSet < 4096 && 1 ≤ wakeLimit && wakeLimit ≤ 60

/-- Zones of all namespaces that are not UNUSED (R52). -/
def zoneSum (s : State) : Nat := ((s.namespaces.values.filter fun x => decide (x.st ≠ .unused)).map (·.zoneCount)).sum

/-- A namespace is created with fresh keys, LOCKED, and loaded where its policy is AUTO (R52, R53, R319, R323). -/
def createNamespace (s : State) (a : NsAttr) : State :=
  let (k, s) := draw s
  let (j, s) := draw s
  let x : Namespace := {
    st := .locked, shift := a.shift, zoneCount := a.zoneCount, groupSet := a.groupSet, cls := a.cls
    wakeLimit := a.wakeLimit, autoUnlock := a.autoUnlock }
  let nwk := Config.random k % 2 ^ 256
  let nsk := Config.random j % 2 ^ 512
  let s := { s with
    namespaces := s.namespaces.set a.ns x
    sec := { s.sec with nwk := s.sec.nwk.set a.ns nwk, nsk := s.sec.nsk.set a.ns nsk } }
  let s := journal (journal (journal s (.nwk a.ns (some nwk))) (.nsk a.ns (some nsk))) (.nsEntry a.ns x)
  if a.autoUnlock then loadNamespace s a.ns else s

/-- NS_CREATE (R52, R321). -/
def nsCreateRequest (r : SecReq) (a : NsAttr) (s : State) : Option State :=
  serveSigned s 0x10 true r fun s =>
    if 1024 ≤ a.ns || a.shift < 32 || 36 < a.shift || a.zoneCount = 0 || 2 ^ 20 < a.zoneCount ||
        !attrsOk a.groupSet a.wakeLimit then .done 4 [] s
    else if (nsOf s a.ns).st ≠ .unused || 4194304 < zoneSum s + a.zoneCount then .done 5 [] s
    else if !s.rng.ready then .waits
    else .done 0 [] (createNamespace s a)

/-- NS_SET (R51): a created namespace takes new attributes. -/
def nsSetRequest (r : SecReq) (a : NsChange) (s : State) : Option State :=
  serveSigned s 0x11 false r fun s =>
    let x := nsOf s a.ns
    let y := { x with
      groupSet := a.groupSet.getD x.groupSet, cls := a.cls.getD x.cls, wakeLimit := a.wakeLimit.getD x.wakeLimit }
    if 1024 ≤ a.ns then .done 4 [] s
    else if x.st = .unused || x.st = .retiring then .done 5 [] s
    else if !attrsOk y.groupSet y.wakeLimit then .done 4 [] s
    else .done 0 [] (journal { s with namespaces := s.namespaces.set a.ns y } (.nsEntry a.ns y))

/-- NS_UNLOCK: a LOCKED namespace's key is loaded (R323). One that cannot be unwrapped leaves the request with STATE. -/
def nsUnlockRequest (r : SecReq) (n : Nat) (s : State) : Option State :=
  serveSigned s 0x12 true r fun s =>
    if 1024 ≤ n then .done 4 [] s
    else if (nsOf s n).st ≠ .locked then .done 5 [] s
    else if (unwrapKey s n).isNone then .done 5 [] s
    else .done 0 [] (loadNamespace s n)

/-- NS_RETIRE (R338). -/
def nsRetireRequest (r : SecReq) (n : Nat) (s : State) : Option State :=
  serveSigned s 0x13 false r fun s =>
    if 1024 ≤ n then .done 4 [] s
    else if (nsOf s n).st = .unused || (nsOf s n).st = .retiring then .done 5 [] s
    else .done 0 [] (retireNamespace s n)

/-- TVK_SET: a token verification key is installed or replaced (R76, R321). -/
def tvkSetRequest (r : SecReq) (k key : Nat) (s : State) : Option State :=
  serveSigned s 0x20 true r fun s =>
    if 8 ≤ k then .done 4 [] s
    else
      let g := s.sec.tvkGen + 1
      .done 0 [] (journal { s with sec := { s.sec with tvk := s.sec.tvk.set k (key, g), tvkGen := g } } (.tvk k (some key)))

/-- TVK_REMOVE (R76, R321). -/
def tvkRemoveRequest (r : SecReq) (k : Nat) (s : State) : Option State :=
  serveSigned s 0x21 false r fun s =>
    if 8 ≤ k then .done 4 [] s
    else .done 0 [] (journal { s with sec := { s.sec with tvk := s.sec.tvk.erase k } } (.tvk k none))

/-- An entry added to a list of 256: FULL where it does not fit (R321). -/
def addEntry (l : List Nat) (x : Nat) : Option (List Nat) :=
  if l.contains x then some l else if 256 ≤ l.length then none else some (l ++ [x])

/-- DENY_ADD (R73, R321). -/
def denyAddRequest (r : SecReq) (serial : Nat) (s : State) : Option State :=
  serveSigned s 0x22 false r fun s =>
    match addEntry s.sec.deny serial with
    | some l => .done 0 [] { s with sec := { s.sec with deny := l } }
    | none => .done 8 [] s

/-- DENY_REMOVE (R73, R321). -/
def denyRemoveRequest (r : SecReq) (serial : Nat) (s : State) : Option State :=
  serveSigned s 0x23 false r fun s =>
    .done 0 [] { s with sec := { s.sec with deny := s.sec.deny.filter (· ≠ serial) } }

/-- ORDERED_ADD (R101, R321). -/
def orderedAddRequest (r : SecReq) (hostId : Nat) (s : State) : Option State :=
  serveSigned s 0x24 false r fun s =>
    match addEntry s.sec.ordered hostId with
    | some l => .done 0 [] { s with sec := { s.sec with ordered := l } }
    | none => .done 8 [] s

/-- ORDERED_REMOVE (R101, R321). -/
def orderedRemoveRequest (r : SecReq) (hostId : Nat) (s : State) : Option State :=
  serveSigned s 0x25 false r fun s =>
    .done 0 [] { s with sec := { s.sec with ordered := s.sec.ordered.filter (· ≠ hostId) } }

/-- The keys are unwrapped again, the namespaces that were ACTIVE are loaded, and the halt ends (R336). -/
def recoverKeys (s : State) : State :=
  let s := (s.sec.wasActive.filter fun n => decide ((nsOf s n).st = .locked)).foldl loadNamespace s
  dispatchJobs { s with
    crypto := { s.crypto with halted := false }
    alarm := { s.alarm with first := 0, firstTick := 0 }
    sec := { s.sec with mode := .ready, wasActive := [], working := true } }

/-- RECOVER (R336). -/
def recoverRequest (r : SecReq) (s : State) : Option State :=
  serveSigned s 0x30 false r fun s =>
    if s.alarm.present ≠ 0 then .done 7 [] s
    else if !s.crypto.halted then .done 5 [] s
    else .done 0 [] (recoverKeys s)

/-- PAGE_UNLOCK: PG_LOCK of a page is cleared (R42, R324). -/
def pageUnlockRequest (r : SecReq) (page : Nat) (s : State) : Option State :=
  serveSigned s 0x31 false r fun s =>
    if (blockOf page).isNone then .done 4 [] s
    else .done 0 [] (setPage s page { getPage s page with lock := false })

/-- PATCH_STAGE: the set goes to the slot that is not active (R430). -/
def patchStageRequest (r : SecReq) (p : PatchSet) (s : State) : Option State :=
  serveSigned s 0x40 false r fun s =>
    if !p.valid then .done 4 [] s
    else if p.level ≤ s.boot.level then .done 5 [] s
    else
      let b := if s.boot.useB then { s.boot with slotA := some p } else { s.boot with slotB := some p }
      .done 0 [] (mramWritten { s with boot := b } p.length)

/-- PATCH_ACTIVATE: the staged set is verified again, and the hold begins (R430, R431). -/
def patchActivateRequest (r : SecReq) (level : Nat) (s : State) : Option State :=
  serveSigned s 0x41 true r fun s =>
    let staged := s.boot.staged.any fun p => decide (p.level = level) && p.valid
    if !staged || (s.pair.role ≠ .active && s.pair.role ≠ .standby) || s.pair.drill ≠ .none then .done 5 [] s
    else .running { s with boot := { s.boot with act := .draining, actAt := s.time.now } }

/-! ## The request ring (R321) -/

/-- May the security core serve the next entry: its self-check is done and the ring is mapped (R427), and the request before
it has ended? -/
def ringServed (s : State) : Bool :=
  s.sec.mode ≠ .boot && 7 ≤ s.boot.stage && s.boot.stage ≤ 9 && s.sec.binding.isNone && s.boot.act = .none

/-- One entry is served: none where it waits. -/
def serveEntry (i : Instr) (s : State) : Option State :=
  match i with
  | .identity r => identityRequest r s
  | .bindOwner r key => bindOwnerRequest r key s
  | .pairBind r b => pairBindRequest r b s
  | .nsCreate r a => nsCreateRequest r a s
  | .nsSet r a => nsSetRequest r a s
  | .nsUnlock r n => nsUnlockRequest r n s
  | .nsRetire r n => nsRetireRequest r n s
  | .tvkSet r k key => tvkSetRequest r k key s
  | .tvkRemove r k => tvkRemoveRequest r k s
  | .denyAdd r x => denyAddRequest r x s
  | .denyRemove r x => denyRemoveRequest r x s
  | .orderedAdd r x => orderedAddRequest r x s
  | .orderedRemove r x => orderedRemoveRequest r x s
  | .recover r => recoverRequest r s
  | .pageUnlock r page => pageUnlockRequest r page s
  | .patchStage r p => patchStageRequest r p s
  | .patchActivate r level => patchActivateRequest r level s
  | _ => some s

/-- Entries are served in ring order, one at a time (R321). -/
def pumpRing : Nat → State → State
  | 0, s => s
  | n + 1, s =>
    match s.secWait with
    | [] => s
    | i :: rest =>
      if !ringServed s then s
      else match serveEntry i { s with secWait := rest } with
        | some t => pumpRing n t
        | none => s

/-- The entries that wait are looked at. -/
def serveRing (s : State) : State := pumpRing s.secWait.length s

/-- The security core finds a new entry in the ring (R321). -/
def newEntry (s : State) (i : Instr) : State := serveRing { s with secWait := s.secWait ++ [i] }

/-- IDENTITY (Table 12-3). -/
def execIdentity (r : SecReq) (s : State) : Res := .next (newEntry s (.identity r))

/-- BIND_OWNER (R321). -/
def execBindOwner (r : SecReq) (key : Nat) (s : State) : Res := .next (newEntry s (.bindOwner r key))

/-- PAIR_BIND (R322). -/
def execPairBind (r : SecReq) (b : PairBind) (s : State) : Res := .next (newEntry s (.pairBind r b))

/-- NS_CREATE (R52, R321). -/
def execNsCreate (r : SecReq) (a : NsAttr) (s : State) : Res := .next (newEntry s (.nsCreate r a))

/-- NS_SET (R51, R321). -/
def execNsSet (r : SecReq) (a : NsChange) (s : State) : Res := .next (newEntry s (.nsSet r a))

/-- NS_UNLOCK (R323). -/
def execNsUnlock (r : SecReq) (ns : Nat) (s : State) : Res := .next (newEntry s (.nsUnlock r ns))

/-- NS_RETIRE (R338). -/
def execNsRetire (r : SecReq) (ns : Nat) (s : State) : Res := .next (newEntry s (.nsRetire r ns))

/-- TVK_SET (R321). -/
def execTvkSet (r : SecReq) (k key : Nat) (s : State) : Res := .next (newEntry s (.tvkSet r k key))

/-- TVK_REMOVE (R321). -/
def execTvkRemove (r : SecReq) (k : Nat) (s : State) : Res := .next (newEntry s (.tvkRemove r k))

/-- DENY_ADD (R321). -/
def execDenyAdd (r : SecReq) (serial : Nat) (s : State) : Res := .next (newEntry s (.denyAdd r serial))

/-- DENY_REMOVE (R321). -/
def execDenyRemove (r : SecReq) (serial : Nat) (s : State) : Res := .next (newEntry s (.denyRemove r serial))

/-- ORDERED_ADD (R321). -/
def execOrderedAdd (r : SecReq) (hostId : Nat) (s : State) : Res := .next (newEntry s (.orderedAdd r hostId))

/-- ORDERED_REMOVE (R321). -/
def execOrderedRemove (r : SecReq) (hostId : Nat) (s : State) : Res := .next (newEntry s (.orderedRemove r hostId))

/-- RECOVER (R336). -/
def execRecover (r : SecReq) (s : State) : Res := .next (noteStatus s (newEntry s (.recover r)))

/-- PAGE_UNLOCK (R324). -/
def execPageUnlock (r : SecReq) (page : Nat) (s : State) : Res := .next (newEntry s (.pageUnlock r page))

/-- PATCH_STAGE (R430). -/
def execPatchStage (r : SecReq) (p : PatchSet) (s : State) : Res := .next (newEntry s (.patchStage r p))

/-- PATCH_ACTIVATE (R430, R431). -/
def execPatchActivate (r : SecReq) (level : Nat) (s : State) : Res := .next (newEntry s (.patchActivate r level))

/-! ## The end of an activation (R112, R431) -/

/-- An activation ends: HOLD_MS is noted, the hold is over, and the request that ordered it gets its status. -/
def endActivation (s : State) (abandoned : Bool) : State :=
  let s := { s with boot := { s.boot with
    act := .none, abandoned := abandoned, holdMs := (s.time.now - s.boot.actAt) / ticksMs } }
  serveRing (if abandoned then endRequest s 0x41 5 [] else endRequest (keepNonce s s.sec.heldNonce) 0x41 0 [])

/-- PATCH_APPLY (R431): BOOT loads the patch table and names the new slot in the boot record, and the cores resume. -/
def patchApply (s : State) : State :=
  match s.boot.act, s.boot.staged with
  | .draining, some p =>
    if !holdDrained s then s
    else
      let s := mramWritten { s with boot := { s.boot with
        useB := !s.boot.useB, level := p.level, table := p.table } } 64
      endActivation (alert s bootPage O.BOOT_ALERT 2) false
  | _, _ => s

/-- PATCH_APPLY (R431). -/
def execPatchApply (s : State) : Res := .next (patchApply s)

/-- PATCH_HOLD_TIMEOUT (R112, R431): 200 ms after the hold began, with commands unfinished, the activation is abandoned. -/
def patchHoldTimeout (s : State) : State :=
  if s.boot.act ≠ .draining || holdDrained s then s
  else endActivation (alert (clockTo s (s.boot.actAt + 200 * ticksMs)) bootPage O.BOOT_ALERT 3) true

/-- PATCH_HOLD_TIMEOUT (R112). -/
def execPatchHoldTimeout (s : State) : Res := .next (patchHoldTimeout s)

/-! ## The key vault (R325 to R327) -/

/-- The token that KEY_LOCK gives next: the previous one plus 1, skipping 0 (R326). -/
def nextToken (s : State) : Nat := s.vault.lastToken % 0xFFFF + 1

/-- What a read of KEY_LOCK changes: the security core takes a lock that is free (R326). -/
def keyLockTaken (req : Nat) (s : State) : State :=
  if req = securityCore && s.vault.holder.isNone then
    { s with vault := { s.vault with holder := some (nextToken s), lastToken := nextToken s } }
  else s

/-- What a read of KEY_LOCK returns (R326). -/
def keyLockValue (req : Nat) (s : State) : Word :=
  if req = securityCore && s.vault.holder.isNone then Word.ofNum (nextToken s) else 0#32

/-- KEY_LOCK_ACQUIRE (R326). -/
def execKeyLockAcquire (req : Nat) (s : State) : Res :=
  .next (readWith (keyLockTaken req) (keyLockValue req) s req keyPage O.KEY_LOCK)

/-- What a write of KEY_LOCK does: the holder's token frees the lock, any other is dropped and logged (R326). What ERR_ADDR
holds for it is not given: a free value (log entry 2). -/
def keyLockEffect (_ after : State) : State :=
  let token := regField after keyPage O.KEY_LOCK 0 16
  if after.vault.holder = some token then { after with vault := { after.vault with holder := none } }
  else
    let (k, s) := draw after
    blockError s keyPage 0x0100 (Config.freeNat k % 2 ^ 64)

/-- KEY_LOCK_RELEASE (R326). -/
def execKeyLockRelease (req : Nat) (value : Word) (s : State) : Res :=
  .next (writeBlock keyLockEffect s req keyPage O.KEY_LOCK value)

/-- The key in KEY_DATA0-15: 512 bits, of which the seal bank takes the low 256 (R325). -/
def keyData (s : State) (bank : Bool) : Nat :=
  ((List.range (if bank then 8 else 16)).map fun i => (regOf s keyPage (O.KEY_DATA + 4 * i)).toNat * 2 ^ (32 * i)).sum

/-- KEY_DATA0-15 are cleared (R325). -/
def clearKeyData (s : State) : State :=
  (List.range 16).foldl (fun s i => setReg s keyPage (O.KEY_DATA + 4 * i) 0#32) s

/-- KEY_STAT.RESULT. -/
def keyResult (s : State) (r : Nat) : State := { s with vault := { s.vault with result := r } }

/-- LOAD (R325, R327): the data goes to the slot or entry and is cleared. A LOCKED namespace whose key this is becomes
ACTIVE (R53). -/
def applyLoad (s : State) (bank : Bool) (i : Nat) : State :=
  let key := keyData s bank
  let s := clearKeyData s
  if bank then bump { s with vault := { s.vault with seals := s.vault.seals.set i key } } keyPage O.KEY_LOAD_CNT
  else
    let s := loadSlot s i key
    if (nsOf s i).st = .locked && s.sec.nsk.get i = some key then enterNs s i .active else s

/-- ZERO (R325, R327). -/
def applyZero (s : State) (bank : Bool) (i : Nat) : State :=
  let s := if bank then { s with vault := { s.vault with seals := s.vault.seals.erase i } }
    else { s with vault := { s.vault with slots := s.vault.slots.erase i } }
  failQueued s fun j => j.kind.sealed = bank && j.index = i

/-- ZERO_ALL (R325, R327). -/
def applyZeroAll (s : State) (bank : Bool) : State :=
  let s := if bank then { s with vault := { s.vault with seals := .empty } }
    else { s with vault := { s.vault with slots := .empty } }
  failQueued s fun j => j.kind.sealed = bank

/-- What a write of KEY_LOAD with GO = 1 does (R325 to R327): only the security core starts an operation, HALTED comes
first, then LOCK_BUSY, then INDEX_RANGE. -/
def keyLoadEffect (req : Nat) (_ after : State) : State :=
  let v := regOf after keyPage O.KEY_LOAD
  let s := setReg after keyPage O.KEY_LOAD (putField v 31 1 0)
  let op := field v 28 2
  let bank := bit v 30
  let i := field v 16 12
  if !bit v 31 || req ≠ securityCore || op = 0 then s
  else if s.crypto.halted then keyResult s 3
  else if s.vault.holder ≠ some (field v 0 16) then
    alert (bump (keyResult s 1) keyPage O.KEY_BUSY_CNT) keyPage O.KEY_ALERT 0
  else if op ≠ 3 && !bank && 1024 ≤ i then keyResult s 2
  else if op = 1 then keyResult (applyLoad s bank i) 0
  else if op = 2 then keyResult (applyZero s bank i) 0
  else keyResult (applyZeroAll s bank) 0

/-- A write of KEY_LOAD with GO = 1. -/
def keyOperation (s : State) (req op : Nat) (bank : Bool) (i token : Nat) : State :=
  writeBlock (keyLoadEffect req) s req keyPage O.KEY_LOAD
    (packWord [(31, 1), (30, num bank), (28, op), (16, i % 4096), (0, token % 65536)])

/-- KEY_LOAD (R325). -/
def execKeyLoad (req : Nat) (bank : Bool) (index token : Nat) (s : State) : Res :=
  .next (keyOperation s req 1 bank index token)

/-- KEY_ZERO (R325, R327). -/
def execKeyZero (req : Nat) (bank : Bool) (index token : Nat) (s : State) : Res :=
  .next (keyOperation s req 2 bank index token)

/-- KEY_ZERO_ALL (R325, R327). -/
def execKeyZeroAll (req : Nat) (bank : Bool) (token : Nat) (s : State) : Res := .next (keyOperation s req 3 bank 0 token)

/-! ## Alarms (R333 to R337) -/

/-- Class of a source: true for ZEROIZE (R334). -/
def zeroizes (s : State) (i : Nat) : Bool := i = 3 && s.alarm.fuse && regField s almPage O.ALM_CFG (2 * i) 2 = 2

/-- What a write of ALM_CFG stores: ZEROIZE for MESH alone, where its fuse is blown, and ERASE for everything else (R334). -/
def almCfgEffect (_ after : State) : State :=
  setReg after almPage O.ALM_CFG
    (packWord ((List.range 5).map fun i => (2 * i, if zeroizes after i then 2 else 1)))

/-- A sealed connection enters ERROR, one in SETUP too (R335). -/
def sealedError (s : State) (n : Nat) : State :=
  let c := connOf s n
  if c.st = .setup then connError (setConn s n { c with st := .ready }) n else connError s n

/-- The hardware's part of an ERASE (R335, steps 1 to 4). -/
def eraseKeys (s : State) : State :=
  let active := nsIn s .active
  let s := { s with
    crypto := { s.crypto with halted := true }
    sec := { s.sec with mode := .halted, wasActive := active, working := false } }
  let s := alert (alert s almPage O.ALM_ALERT 0) cryPage O.CRY_ALERT 0
  let s := haltJobs s fun _ => true
  let s := clearKeyData { s with
    vault := { s.vault with slots := .empty, seals := .empty, holder := none }
    crypto := { s.crypto with cores := s.crypto.cores.mapVals fun _ c => { c with round := none } } }
  alert s keyPage O.KEY_ALERT 1

/-- An ERASE acts (R335): the hardware's part, then the ROM's. A bind under way ends with HALTED (R336). -/
def eraseActs (s : State) : State :=
  let s := eraseKeys s
  let s := (nsIn s .active).foldl (fun s n => enterNs s n .locked) s
  let s := (s.conns.filter fun _ c => c.sealed && (c.st = .ready || c.st = .setup)).keys.foldl sealedError s
  if s.sec.binding.isSome then serveRing (endRequest { s with sec := { s.sec with binding := none } } 0x03 6 []) else s

/-- The zeroize order goes out on the pair link and on the heartbeat wires (R337, R364). -/
def sendZeroize (s : State) : State := emitAll s [.pairZeroize false, .pairZeroize true]

/-- A ZEROIZE acts (R337): as an ERASE, then the PUF helper data is overwritten and the order is sent. -/
def zeroizeActs (s : State) : State :=
  let s := if s.crypto.halted then s else eraseActs s
  let s := { s with
    sec := { s.sec with pufIntact := false }
    alarm := { s.alarm with
      zeroized := true, orderAt := some (s.time.now + 50 * ticksUs, s.time.now + ticksS) } }
  sendZeroize (alert s almPage O.ALM_ALERT 1)

/-- The sources that hold now become those of a mask; the ones that are new are alarms, which are recorded, and the highest
class among them acts (R333, R334). -/
def sourcesHold (s : State) (mask : Nat) : State :=
  let now := (List.range 5).filter mask.testBit
  let new := now.filter fun i => !s.alarm.present.testBit i
  let s := { s with alarm := { s.alarm with present := (now.map (2 ^ ·)).sum } }
  if !s.alarm.armed || new.isEmpty then s
  else
    let s := new.foldl (fun s i => bump s almPage (O.ALM_CNT + 4 * i)) s
    let s := if s.alarm.first ≠ 0 then s
      else { s with alarm := { s.alarm with first := (new.map (2 ^ ·)).sum, firstTick := tickCount s } }
    if new.any (zeroizes s) then zeroizeActs s else if s.crypto.halted then s else eraseActs s

/-- ALARM_ERASE (R333 to R336): `sources` are those whose condition holds from now. -/
def execAlarmErase (sources : Nat) (s : State) : Res := .next (noteStatus s (sourcesHold s sources))

/-- ALARM_ZEROIZE (R333, R334, R337). -/
def execAlarmZeroize (sources : Nat) (s : State) : Res :=
  let t := sourcesHold s sources
  .next (noteStatus s t)

/-! ## The zeroize order (R364) -/

/-- ZEROIZE_REPEAT (R364): 50 us after the last order it is sent again, until 1 s has passed. -/
def zeroizeRepeat (s : State) : State :=
  match s.alarm.orderAt with
  | none => s
  | some (at_, stop) =>
    let s := clockTo s at_
    if stop ≤ at_ then { s with alarm := { s.alarm with orderAt := none } }
    else sendZeroize { s with alarm := { s.alarm with orderAt := some (at_ + 50 * ticksUs, stop) } }

/-- ZEROIZE_REPEAT (R364). -/
def execZeroizeRepeat (s : State) : Res := .next (zeroizeRepeat s)

/-- A zeroize order arrives (R364): PWK and NWKs are destroyed, ZACK is answered on both paths. A standby cannot take over
after it; the namespaces of a controller that runs the shelf enter RETIRING. -/
def zeroizeReceived (s : State) : State :=
  let s := { s with sec := { s.sec with pwk := none, nwk := .empty } }
  let s := alert (emitAll s [.pairZack false, .pairZack true]) pairPage O.PAIR_ALERT 7
  if s.rules then (nsIn s .active ++ nsIn s .locked).foldl retireNamespace s
  else { s with pair := { s.pair with barred := true } }

/-- ZEROIZE (R364): the frame needs the PAIR block, the wire does not (R341). -/
def execZeroize (wire : Bool) (s : State) : Res :=
  .next (if wire || isEnabled s pairPage then zeroizeReceived s else s)

/-- ZACK (R364): the order stops, and the partner's confirmation is noted. -/
def zackReceived (s : State) : State :=
  if !s.alarm.zeroized then s else { s with alarm := { s.alarm with orderAt := none, partnerAck := true } }

/-- ZACK (R364). -/
def execZack (wire : Bool) (s : State) : Res := .next (if wire || isEnabled s pairPage then zackReceived s else s)

/-! ## The random number generator (R339) -/

/-- RNG_HEALTH_FAIL (R339): output stops, and the source restarts after 64 ms. -/
def rngHealthFail (s : State) (adaptive : Bool) : State :=
  if !s.rng.running then s
  else
    let s := { s with rng := { s.rng with
      ready := false, fail := true, running := false, restartAt := some (s.time.now + 64 * ticksMs) } }
    alert (bump s rngPage (if adaptive then O.RNG_APT_CNT else O.RNG_RCT_CNT)) rngPage O.RNG_ALERT 0

/-- RNG_HEALTH_FAIL (R339). -/
def execRngHealthFail (adaptive : Bool) (s : State) : Res := .next (rngHealthFail s adaptive)

/-- RNG_RESTART (R339). -/
def rngRestart (s : State) : State :=
  match s.rng.restartAt with
  | none => s
  | some t =>
    let s := clockTo s t
    { s with rng := { s.rng with running := true, fail := false, restartAt := none } }

/-- RNG_RESTART (R339). -/
def execRngRestart (s : State) : Res := .next (rngRestart s)

/-- RNG_READY (R339): 1,024 samples have passed; REQs and requests that waited go on. -/
def rngReady (s : State) : State :=
  if !s.rng.running || s.rng.ready then s
  else
    let reqs := s.reqWait
    let s := { s with rng := { s.rng with ready := true }, reqWait := [] }
    serveRing (reqs.foldl reqReceived s)

/-- RNG_READY (R339). -/
def execRngReady (s : State) : Res := .next (rngReady s)

/-- What a read of RNG_OUT takes from the generator: it is reseeded after RESEED × 4,096 requests (R339). -/
def rngTaken (s : State) : State :=
  if !s.rng.ready then s
  else
    let n := s.rng.requests + 1
    let all := regField s rngPage O.RNG_CFG 0 12 * 4096
    { (draw s).2 with rng := { s.rng with requests := if all ≤ n then 0 else n } }

/-- What a read of RNG_OUT returns: 32 fresh bits, or 0 while not READY (R339). -/
def rngValue (s : State) : Word := if s.rng.ready then Word.ofNum (Config.random s.draws) else 0#32

/-- RNG_OUT_READ (R339). -/
def execRngOutRead (req : Nat) (s : State) : Res := .next (readWith rngTaken rngValue s req rngPage O.RNG_OUT)

end Sys2Proof.Machine
end

