-- ==== Sys2Proof/Machine/Pairing.lean ====
section
/-! DEFINITION. Controller pairing (chapter 13): heartbeats and loss, mirroring, claims, isolation, takeover, the roles at
boot and the swap drill. -/
namespace Sys2Proof.Machine

/-- The running CRC as a HEARTBEAT frame carries it (R126, R346). -/
def mirrorCrc (s : State) : Nat := s.pair.crc ^^^ 0xFFFFFFFF

/-- A partner is bound and heard (R345). -/
def partnerHeard (s : State) : Bool := s.sec.bound && (s.pair.link.ok || s.pair.wire.ok)

/-! ## The mirror (R344 to R347) -/

/-- The active starts SYNCING (R345): the image is sent, and the running CRC starts at it (R346). -/
def startSync (s : State) : State :=
  emit { s with pair := { s.pair with mirror := .syncing, crc := 0xFFFFFFFF, sentSeq := s.journalSeq } }
    (.sync (claimOf s) s.journalSeq)

/-- MIRRORING is reached: SYNC_DONE, and the first time since power-on reset is noted (R345, R363). -/
def syncDone (s : State) : State :=
  let p := { s.pair with mirror := .mirroring, mirrorDays := some (s.pair.mirrorDays.getD 0) }
  alert { s with pair := p } pairPage O.PAIR_ALERT 8

/-- The standby's private store: the key of an AUTO namespace that can be unwrapped (R347). -/
def keepInStore (s : State) (n : Nat) : State :=
  let x := nsOf s n
  let store := match x.autoUnlock && x.st ≠ .unused && x.st ≠ .retiring, unwrapKey s n with
    | true, some key => s.pair.store.set n key
    | _, _ => s.pair.store.erase n
  { s with pair := { s.pair with store := store } }

/-- A loss log entry of the partner enters the loss log (R276, R344). -/
def applyLoss (s : State) (l : Loss) : State :=
  let z := zoneOf s l.ns l.zone
  let fits := s.losses.any (·.absorbs l.ns l.zone l.first l.cause)
  let s := { s with losses := if fits then absorb l.ns l.zone l.first l.cause l.stripe s.losses else l :: s.losses }
  bumpGen (setZone s l.ns l.zone { z with lost := l.first :: z.lost }) l.ns

/-- A record of the partner is applied to the standby's tables (R344). A namespace that is ACTIVE there is LOCKED here: no
key slot is loaded (R53, R347). -/
def applyBody (s : State) (b : RecordBody) : State :=
  match b with
  | .zone ns zi z => setZone s ns zi { z with hold := none }
  | .block slot l x => keepBlock s slot l x
  | .stripe k t => { s with stripes := s.stripes.set k t }
  | .unstripe k => { s with stripes := s.stripes.erase k }
  | .foldOpen k f => { s with folds := s.folds.set k f }
  | .foldClose k | .foldAbandon k => { s with folds := s.folds.erase k }
  | .logPlace k ps => { s with logMap := if ps.isEmpty then s.logMap.erase k else s.logMap.set k ps }
  | .group g x =>
    match x with
    | some x => setGroup s g x
    | none => { s with groups := s.groups.erase g }
  | .member g m y =>
    match groupOf s g with
    | some x => setGroup s g (x.setMember m y)
    | none => s
  | .loss l => applyLoss s l
  | .reshape r => { s with reshape := some r }
  | .reshapeEnd _ => { s with reshape := none }
  | .admitted slot m fresh => recordModule s slot m fresh
  | .nsState ns st =>
    if st = .unused then { s with namespaces := s.namespaces.erase ns }
    else { s with namespaces := s.namespaces.set ns { nsOf s ns with st := if st = .active then .locked else st } }
  | .nsEntry ns x =>
    { s with namespaces := s.namespaces.set ns { x with st := if x.st = .active then .locked else x.st } }
  | .nwk ns k => { s with sec := { s.sec with nwk := match k with | some k => s.sec.nwk.set ns k | none => s.sec.nwk.erase ns } }
  | .nsk ns k => { s with sec := { s.sec with nsk := match k with | some k => s.sec.nsk.set ns k | none => s.sec.nsk.erase ns } }
  | .tvk k key =>
    let g := s.sec.tvkGen + 1
    { s with sec := { s.sec with
      tvkGen := g, tvk := match key with | some x => s.sec.tvk.set k (x, g) | none => s.sec.tvk.erase k } }
  | .owner key nonce => { s with sec := { s.sec with owner := key, nonce := nonce } }

/-- The namespace whose key a record bears on. -/
def recordNs : RecordBody → Option Nat
  | .nsState ns _ | .nsEntry ns _ | .nwk ns _ | .nsk ns _ => some ns
  | _ => none

/-- A record is applied, and the private store is kept current (R344, R347). -/
def applyKept (s : State) (b : RecordBody) : State :=
  let s := applyBody s b
  match recordNs b with
  | some n => keepInStore s n
  | none => s

/-- The mirror is found bad (R346): MIRROR_BAD, counted and logged, and a new SYNCING starts. -/
def mirrorBad (s : State) : State :=
  let s := bump (alert s pairPage O.PAIR_ALERT 4) pairPage O.PAIR_MIRROR_ERR_CNT
  let s := blockError s pairPage 0x0100 s.journalSeq
  { s with pair := { s.pair with mirror := .syncing, image := [], early := [] } }

/-- The standby compares its running CRC with the active's where it has applied the same record (R346). -/
def checkMirror (s : State) : State :=
  if s.pair.role = .standby && s.pair.mirror = .mirroring && s.pair.peerSeq = s.journalSeq && s.pair.peerCrc ≠ mirrorCrc s
  then mirrorBad s else s

/-- A record is placed in the standby's MRAM and applied, where it is the next in sequence and the mirror still holds. -/
def takeRecord (s : State) (r : JournalRecord) : State :=
  if s.pair.mirror ≠ .mirroring || r.seq ≠ s.journalSeq + 1 then s
  else
    let s := mramWritten { s with
      journal := r :: s.journal, journalSeq := r.seq
      pair := { s.pair with crc := crc32cRun s.pair.crc (Config.recordBytes r) } } 64
    checkMirror (applyKept s r.body)

/-- A frame of the pair link is received: PAIR is enabled (R341), and the claim it carries is noted (R342). -/
def hearClaim (s : State) (claim : Nat) : State := { s with pair := { s.pair with peerClaim := claim } }

/-- RECORD (R344, R345): a standby applies and acknowledges the records; while its image is not complete it keeps them. -/
def recordFrame (s : State) (claim first : Nat) (rs : List JournalRecord) : State :=
  let s := hearClaim s claim
  let rs := rs.filter fun r => decide (first ≤ r.seq)
  if s.pair.role ≠ .standby then s
  else match s.pair.mirror with
    | .syncing => { s with pair := { s.pair with early := s.pair.early ++ rs } }
    | .mirroring =>
      let s := rs.foldl takeRecord s
      if s.pair.mirror = .mirroring then emit s (.mirrorAck (claimOf s) s.journalSeq) else s
    | _ => s

/-- The tables that an image restates are emptied before it is put in their place (R345). -/
def emptyTables (s : State) : State :=
  { s with
    namespaces := .empty, zones := .empty, stripes := .empty, folds := .empty, buffers := .empty, logMap := .empty
    losses := [], lossGen := .empty, groups := .empty, reshape := none, journal := []
    sec := { s.sec with nwk := .empty, nsk := .empty, tvk := .empty, owner := none, nonce := 0 }
    pair := { s.pair with store := .empty } }

/-- The image is complete: it is put in place, the records that came early are applied, and it is acknowledged (R345). -/
def installImage (s : State) (seq epoch : Nat) : State :=
  let image := s.pair.image
  let early := s.pair.early
  let s := image.foldl applyKept (emptyTables s)
  let s := { s with
    journalSeq := seq
    pair := { s.pair with peerEpoch := epoch, crc := 0xFFFFFFFF, image := [], early := [] } }
  let s := early.foldl takeRecord (syncDone s)
  emit s (.mirrorAck (claimOf s) s.journalSeq)

/-- SYNC (R345). -/
def syncFrame (s : State) (claim seq : Nat) (last : Bool) (image : SyncImage) : State :=
  let s := hearClaim s claim
  if s.pair.role ≠ .standby || s.pair.mirror ≠ .syncing then s
  else
    let s := { s with pair := { s.pair with image := s.pair.image ++ image.entries } }
    if last then installImage s seq image.epoch else s

/-- What waited for records to count as written goes on (R62, R65, R245, R344). -/
def recordsWritten (s : State) : State :=
  let s := s.zones.keys.foldl (fun s k => markWrites s (keyNs k) (keyZone k)) s
  let s := s.folds.keys.foldl tryRelease s
  (cmdsWhere s fun c => c.op = 0x08 && decide (c.phase = .holding)).foldl advanceMgmt s

/-- MIRROR_ACK (R344, R345): records count as written, and SYNCING ends when the image and every record after it are
covered. -/
def mirrorAckFrame (s : State) (claim seq : Nat) : State :=
  let s := hearClaim s claim
  if !s.rules then s
  else
    let s := { s with pair := { s.pair with acked := max s.pair.acked (min seq s.journalSeq) } }
    let s := if s.pair.mirror = .syncing && s.pair.sentSeq ≤ seq then syncDone s else s
    recordsWritten s

/-! ## Claims (R351, R358 step 2) -/

/-- The claim is raised (R351): the epoch is one above the larger of its own and the partner's last. -/
def raiseClaim (s : State) : State :=
  mramWritten { s with pair := { s.pair with epoch := (max s.pair.epoch s.pair.peerEpoch + 1) % 2 ^ 31 } } 4

/-- Slots whose link is ACTIVE. -/
def activeSlots (s : State) : List Nat := (List.range 48).filter (linkActive s)

/-- The claim is broadcast to the slot power dies and, as READ_STATUS, to every slot link that is ACTIVE (R358, step 2).
`withSpx`: SPX is to confirm it too (R363). -/
def broadcastClaim (s : State) (withSpx : Bool) : State :=
  let s := if dieReachable s then dieSeesClaim s (claimOf s) else s
  let slots := activeSlots s
  let s := slots.foldl (fun s n => pushCmd (emit s (.claimProbe n (claimOf s))) n { op := 0x05, why := .probe }) s
  { s with pair := { s.pair with
    confirmAt := some s.time.now, probes := slots ++ if withSpx then [48] else [] } }

/-! ## Adoption of the tables (R71, R226, R246, R358 step 3) -/

/-- A stripe in flight is settled (Table 9-5): abandoned where MRAM or the mirror is the source; where only the member
copies are, by what the medium holds, which is free. -/
def settleFold (tables : Bool) (s : State) (key : Nat) : State :=
  if tables then abandonFold s key
  else match foldOf s key with
    | none => s
    | some f =>
      let (k, s) := draw s
      if Config.freeNat k % 2 = 1 then commitStripe s key f else abandonFold s key

/-- A zone as the new active controller takes it over: the accepted pointer is the written pointer (R71), and with `mark` a
report is required of every connection on an OPEN or CLOSED zone (R69). -/
def adoptZone (mark : Bool) (_k : Nat) (z : Zone) : Zone :=
  { z with
    accepted := z.written, placed := z.written, hold := none
    markAll := z.markAll || (mark && (z.st = .opened || z.st = .closed))
    cleared := if mark && (z.st = .opened || z.st = .closed) then [] else z.cleared }

/-- The buffers of OPEN zones are to be filled again (R241). -/
def adoptBuffers (s : State) : State :=
  let open_ := s.zones.filter fun _ z => z.st = .opened
  let s := { s with buffers := open_.mapVals fun _ z =>
    { q := z.written / spanSectors z.w z.dual, refill := refillSectors z } }
  open_.keys.foldl startRefill s

/-- A block that was left OPEN is sealed as FULL: new strips and log pages go to fresh blocks (R358). -/
def sealBlock (_l : Nat) (b : EraseBlock) : EraseBlock := if b.st = .opened then { b with st := .full } else b

/-- A group as it is adopted: no log or journal page is under way. -/
def adoptGroup (_g : Nat) (x : Group) : Group :=
  { x with
    jrnlPage := [], jrnlSent := [], idleAt := x.since
    members := x.members.mapVals fun _ y => { y with log := none, logSent := [] } }

/-- The ROM adopts its tables and settles the stripes in flight (R226, R246, R358 step 3). -/
def adoptTables (s : State) (mirrored mark : Bool) : State :=
  let s := { s with groups := s.groups.mapVals adoptGroup }
  let s := s.folds.keys.foldl (settleFold mirrored) s
  adoptBuffers { s with
    zones := s.zones.mapVals (adoptZone mark)
    modules := s.modules.mapVals fun _ m => { m with table := m.table.mapVals sealBlock } }

/-- The keys of AUTO namespaces are loaded, from the private store where there is one (R323, R347, R358 step 4). -/
def takeKey (s : State) (n : Nat) : State :=
  match s.pair.store.get n with
  | some key => enterNs (loadSlot s n key) n .active
  | none => loadNamespace s n

/-- Step 4 of R358. Loads are refused while CRY is halted (R327). -/
def takeKeys (s : State) : State :=
  if s.crypto.halted then s
  else
    let s := ((nsIn s .locked).filter fun n => (nsOf s n).autoUnlock).foldl takeKey s
    { s with pair := { s.pair with store := .empty } }

/-- The TAKEOVER notice goes first on a connection (R114). -/
def postNotice (s : State) (n : Nat) : State :=
  let c := connOf s n
  if c.st ≠ .ready then s
  else drain (setConn s n { c with waiting := ⟨0xFFFF, 0x0F, 4, claimOf s, none, [], 0⟩ :: c.waiting }) n

/-- Step 5 of R358. -/
def postNotices (s : State) : State := s.conns.keys.foldl postNotice s

/-! ## The end of a claim broadcast: takeover, drill and boot (R296, R358 to R363) -/

/-- Members of groups in Summer whose bridge has given no STATUS become OUT (R257, R358). -/
def membersOut (s : State) (slots : List Nat) : State :=
  slots.foldl (fun s n => if (memberAt s n).any (fun e => inSummer s e.1) then slotLeftActive s n else s) s

/-- The groups that the ROM wakes after a boot: those with a zone of a Summer-pinned namespace, and those with stripes to
settle (R296). -/
def bootWakes (s : State) : List Nat :=
  s.groups.keys.filter fun g =>
    (s.folds.keys.any fun k => decide (keyGroup k = g)) ||
    ((zonesOn s g).any fun k => decide ((nsOf s (keyNs k)).cls = .pinned))

/-- The boot is complete (Table 16-3, BOOT_TIME). -/
def bootReady (s : State) : State :=
  let s := { s with boot := { s.boot with stage := 9, timeMs := (s.time.now - s.boot.resetAt) / ticksMs } }
  serveRing (alert s bootPage O.BOOT_ALERT 0)

/-- A controller that became ACTIVE at boot begins serving (R296, R323, R360). -/
def servesAfterBoot (s : State) : State :=
  let wakes := bootWakes s
  let s := takeKeys (adoptTables s s.boot.mramOk false)
  let s := { s with pair := { s.pair with holding := false } }
  wakes.foldl (fun s g => requestWake s g .internal) (bootReady s)

/-- The standby serves after a loss (R358, R359): steps 3 to 6. -/
def servesAfterLoss (s : State) (missing : List Nat) : State :=
  let s := membersOut (adoptTables s (s.pair.mirror = .mirroring) true) missing
  let s := postNotices (takeKeys s)
  let s := { s with pair := { s.pair with
    role := .active, mirror := .none, holding := false, drill := .none
    tkoUs := (s.time.now - s.pair.declaredAt) / ticksUs, tkoSec := s.time.sec } }
  let s := alert (bump s pairPage O.PAIR_TKO_CNT) pairPage O.PAIR_ALERT 2
  s.conns.keys.foldl drain s

/-- A drill ends with a failure (R363, R366). -/
def drillFails (s : State) (result : Nat) (slots : List Nat) : State :=
  let s := { s with pair := { s.pair with
    drillResult := result, drillSlots := slots
    cmdResult := if s.pair.drillMine then result else s.pair.cmdResult } }
  alert (blockError s pairPage 0x0101 result) pairPage O.PAIR_ALERT 6

/-- The hand-back of a drill starts: capsules are held (R362, step 1). -/
def startHandBack (s : State) : State :=
  { s with pair := { s.pair with drill := .returning, drillAt := s.time.now, holding := true } }

/-- A drill that has completed both handovers (R363). -/
def drillSucceeds (s : State) : State :=
  bump { s with pair := { s.pair with
    drill := .none, drillMine := false, drillDays := 0, drillResult := 0, drillSlots := [], cmdResult := 0
    drillDue := false } } pairPage O.PAIR_DRILL_CNT

/-- The partner of a handover serves (R362, step 3): notices, serving, then the keys. At the hand-back the drill ends; else
the new active dwells, or hands back at once where the claim was not confirmed (R363). -/
def servesInDrill (s : State) (missing : List Nat) : State :=
  let back := s.pair.drill = .awaiting
  let early := decide (s.time.now < s.pair.drillAt + regField s pairPage O.PAIR_DRILL_CFG 0 16 * ticksS)
  let s := adoptTables s true false
  let s := postNotices { s with pair := { s.pair with role := .active, mirror := .none, holding := false } }
  let s := takeKeys s
  let s := if missing.isEmpty then s else drillFails s 5 missing
  if back then
    if missing.isEmpty && !early then drillSucceeds s
    else
      let s := if missing.isEmpty then drillFails s 5 [] else s
      { s with pair := { s.pair with drill := .none, drillMine := false } }
  else
    let s := { s with pair := { s.pair with drill := .dwelling, drillAt := s.time.now, drillMine := false } }
    if missing.isEmpty then s else startHandBack s

/-- The broadcast has ended, with the slots that did not answer. -/
def claimSettled (s : State) (missing : List Nat) : State :=
  let s := { s with pair := { s.pair with confirmAt := none, probes := [] } }
  if s.pair.role = .active then servesAfterBoot s
  else if s.pair.role ≠ .takingOver then s
  else if s.pair.drill = .none then servesAfterLoss s missing
  else servesInDrill s missing

/-- Once every answer is there, the broadcast has ended. -/
def claimProgress (s : State) : State :=
  if s.pair.confirmAt.isSome && s.pair.probes.isEmpty then claimSettled s [] else s

/-- Members whose link is not ACTIVE while their group is in Summer: they can give no STATUS. -/
def silentSlots (s : State) : List Nat :=
  (List.range 48).filter fun n => !linkActive s n && (memberAt s n).any fun e => inSummer s e.1

/-- CLAIM_CONFIRM_TIMEOUT (R358, R363): 100 us after the broadcast. The command names the slots, and the sideband, whose answer
is still out; an awaited answer it does not name has come by then. -/
def claimConfirmTimeout (s : State) (slots : List Nat) (spx : Bool) : State :=
  match s.pair.confirmAt with
  | none => s
  | some t => claimSettled (clockTo s (t + 100 * ticksUs))
      (s.pair.probes.filter fun n => if n = 48 then spx else slots.contains n)

/-- CLAIM_CONFIRM_TIMEOUT (R358, R363). -/
def execClaimConfirmTimeout (slots : List Nat) (spx : Bool) (s : State) : Res :=
  .next (noteStatus s (claimConfirmTimeout s slots spx))

/-- STATUS (R209, R358): it may be the last answer to a claim broadcast. -/
def execStatus (slot : Nat) (h : LinkHdr) (code : Nat) (payload : List Byte) (s : State) : Res :=
  onSlot slot (noteStatus s (claimProgress (statusFrame s slot h code payload)))

/-! ## Takeover (R350, R358) -/

/-- A standby takes over (R358, steps 1 and 2): ROLE is TAKING_OVER, capsules are held, the claim is raised and broadcast. -/
def takeOver (s : State) (withSpx : Bool) : State :=
  let s := raiseClaim { s with pair := { s.pair with role := .takingOver, holding := true } }
  claimProgress (membersOut (broadcastClaim s withSpx) (silentSlots s))

/-- A controller becomes ACTIVE at boot (R360): it serves once its claim is broadcast. -/
def activeAtBoot (s : State) : State :=
  let s := raiseClaim { s with pair := { s.pair with role := .active, mirror := .none, holding := true } }
  claimProgress (broadcastClaim s false)

/-- A controller becomes STANDBY at boot (R360). -/
def standbyAtBoot (s : State) : State :=
  bootReady { s with pair := { s.pair with
    role := .standby, mirror := if s.sec.bound then .syncing else .none, image := [], early := [] } }

/-- Does the role wait to be settled (R360, Table 16-3)? -/
def roleOpen (s : State) : Bool := s.pair.role = .boot && s.boot.stage = 8

/-- BOOT_WAIT in ticks. -/
def bootWait (s : State) : Nat := regField s pairPage O.PAIR_CFG 16 10 * 10 * ticksMs

/-- BOOT_WAIT_EXPIRY (R360): nothing has been heard. -/
def bootWaitExpiry (s : State) : State :=
  match s.pair.bootAt with
  | none => s
  | some t =>
    if !roleOpen s || s.pair.link.ever || s.pair.wire.ever then s else activeAtBoot (clockTo s (t + bootWait s))

/-- BOOT_WAIT_EXPIRY (R360). -/
def execBootWaitExpiry (s : State) : Res := .next (noteStatus s (bootWaitExpiry s))

/-- BOOT_LINK_WAIT_EXPIRY (R360): the partner was heard on the wire alone; the higher claim becomes ACTIVE. The wire carries
no claim: the last one heard counts. -/
def bootLinkWaitExpiry (s : State) : State :=
  match s.pair.bootAt with
  | none => s
  | some t =>
    if !roleOpen s || s.pair.link.ever || !s.pair.wire.ever then s
    else
      let s := clockTo s (t + 10 * bootWait s)
      if s.pair.peerClaim < claimOf s then activeAtBoot s else standbyAtBoot s

/-- BOOT_LINK_WAIT_EXPIRY (R360). -/
def execBootLinkWaitExpiry (s : State) : Res := .next (noteStatus s (bootLinkWaitExpiry s))

/-! ## Heartbeats (R343, R348, R349) -/

/-- May heartbeats be sent: journal recovery has ended (R360), and the watchdog is kicked or a patch set is being applied
(R348)? -/
def heartbeatsSent (s : State) : Bool := s.pair.bootAt.isSome && (s.pair.kicked || s.boot.act ≠ .none)

/-- The three bytes of a wire word above its CRC, most significant first (R343). -/
def wireBytes (typ role count : Nat) : List Byte :=
  [BitVec.ofNat 8 (typ * 16 + role), BitVec.ofNat 8 (count / 256), BitVec.ofNat 8 count]

/-- A wire word (R343). -/
def wireWordOf (typ role count : Nat) : Word :=
  packWord [(28, typ), (24, role), (8, count % 65536), (0, crc8 0 (wireBytes typ role count))]

/-- The drill's drain has ended: HANDOVER is sent, and its acknowledgement awaited (R362, step 2). The ROM looks at each
heartbeat. -/
def drillDrained (s : State) : State :=
  if (s.pair.drill ≠ .draining && s.pair.drill ≠ .returning) || s.pair.role ≠ .active || !holdDrained s then s
  else
    let p := { s.pair with
      role := .handingOver, drill := if s.pair.drill = .draining then .handover else .returning }
    emit { s with pair := p } (.handover (claimOf s) s.journalSeq)

/-- HEARTBEAT_SEND (R348): 50 us after the last ones, one on each path. -/
def heartbeatSend (s : State) : State :=
  let s := clockTo s (s.pair.sendAt + 50 * ticksUs)
  let s := { s with pair := { s.pair with sendAt := s.time.now } }
  if !heartbeatsSent s then s
  else
    let p := s.pair
    let s := if isEnabled s pairPage then
        emit s (.heartbeat (claimOf s) p.role p.epoch s.journalSeq (mirrorCrc s) p.drill.code)
      else s
    let s := emit s (.wireWord (wireWordOf 5 p.role.code p.wireCount))
    drillDrained { s with pair := { s.pair with wireCount := (p.wireCount + 1) % 65536 } }

/-- HEARTBEAT_SEND (R348). -/
def execHeartbeatSend (s : State) : Res := .next (noteStatus s (heartbeatSend s))

/-- A path hears a valid heartbeat (R349). -/
def HbPath.hear (_p : HbPath) : HbPath := { missed := 0, heard := true, lost := false, ever := true }

/-- What a heartbeat from an ACTIVE partner, or a silent one's return, means to the role (R345, R360). -/
def partnerSeen (s : State) (role : Role) : State :=
  if roleOpen s then
    if role = .active then standbyAtBoot s else s
  else if !s.sec.bound then s
  else if s.pair.role = .standby && role = .active && s.pair.mirror ≠ .syncing && s.pair.mirror ≠ .mirroring then
    { s with pair := { s.pair with mirror := .syncing, image := [], early := [] } }
  else s

/-- A BOOT or STANDBY partner on the pair link (R345, R347, R360): at boot the higher record sequence, then the higher claim,
becomes ACTIVE; an active starts SYNCING with a standby that it does not mirror to, or whose mirror is bad. -/
def linkPartner (s : State) (h : Heartbeat) : State :=
  if roleOpen s then
    let mine := decide (h.lastSeq < s.journalSeq) || (decide (h.lastSeq = s.journalSeq) && decide (h.claim < claimOf s))
    if h.role = .boot then (if mine then activeAtBoot s else standbyAtBoot s)
    else if h.role = .standby && mine then activeAtBoot s
    else s
  else if s.pair.role = .active && h.role = .standby && s.sec.bound then
    if s.pair.mirror = .none || s.pair.mirror = .degraded then startSync s
    else if s.pair.mirror = .mirroring && h.lastSeq = s.journalSeq && h.crc ≠ mirrorCrc s then startSync s
    else s
  else s

/-- HEARTBEAT (R346, R349, R355, R360): a valid frame from the partner. -/
def heartbeatFrame (s : State) (h : Heartbeat) : State :=
  let s := clockTo s h.at_
  if !isEnabled s pairPage then s
  else
    let s := { s with pair := { s.pair with
      link := s.pair.link.hear, lastHeard := s.time.now, lostDeclared := false, peerClaim := h.claim
      peerEpoch := h.epoch, peerRole := some h.role, peerSeq := h.lastSeq, peerCrc := h.crc } }
    let s := seeClaim s h.claim
    checkMirror (linkPartner (partnerSeen s h.role) h)

/-- HEARTBEAT (R349). -/
def execHeartbeat (h : Heartbeat) (s : State) : Res := .next (noteStatus s (heartbeatFrame s h))

/-- Is a count above the last valid one, modulo 2^16 with window 2^15 (R343)? -/
def countValid (last : Option Nat) (count : Nat) : Bool :=
  match last with
  | none => true
  | some l => let d := wrapGap 16 l count; 0 < d && d < 32768

/-- The role that a wire word carries. -/
def roleOfCode (n : Nat) : Option Role :=
  [Role.boot, .standby, .active, .takingOver, .isolated, .handingOver][n]?

/-- HEARTBEAT_WORD (R343): one with a bad CRC or count is ignored; a ZEROIZE or ZACK word is taken as such (R364). -/
def heartbeatWord (s : State) (w : Word) : State :=
  let typ := field w 28 4
  let count := field w 8 16
  if field w 0 8 ≠ crc8 0 (wireBytes typ (field w 24 4) count) then s
  else if !countValid s.pair.wireLast count then s
  else
    let s := { s with pair := { s.pair with wireLast := some count } }
    if typ = 0xA then zeroizeReceived s
    else if typ = 0x6 then zackReceived s
    else if typ ≠ 0x5 then s
    else
      let s := { s with pair := { s.pair with
        wire := s.pair.wire.hear, lastHeard := s.time.now, lostDeclared := false, peerRole := roleOfCode (field w 24 4) } }
      match roleOfCode (field w 24 4) with
      | some r => partnerSeen s r
      | none => s

/-- HEARTBEAT_WORD (R343). -/
def execHeartbeatWord (word : Word) (s : State) : Res := .next (noteStatus s (heartbeatWord s word))

/-- One path at a 50 us boundary (R349). -/
def HbPath.boundary (p : HbPath) : HbPath :=
  if p.heard then { p with heard := false } else { p with missed := min 7 (p.missed + 1), lost := p.lost || 3 ≤ p.missed }

/-- An active that has lost its partner isolates itself (R350, R356); a drill ends there. -/
def isolate (s : State) : State :=
  alert { s with pair := { s.pair with
    role := .isolated, isolatedAt := s.time.now, holding := false, drill := .none } } pairPage O.PAIR_ALERT 1

/-- The partner is lost (R349, R350). -/
def partnerLost (s : State) : State :=
  let s := { s with pair := { s.pair with
    lostDeclared := true, tkoTick := tickCount s, declaredAt := s.time.now } }
  match s.pair.role with
  | .standby =>
    if bit (regOf s pairPage O.PAIR_CFG) 31 && !s.pair.barred then takeOver { s with pair := { s.pair with drill := .none } } false
    else alert s pairPage O.PAIR_ALERT 1
  | .active | .handingOver => isolate s
  | _ => s

/-- HEARTBEAT_BOUNDARY (R349): the missed counts advance, PATH_LOST is raised, or the partner is declared lost. -/
def heartbeatBoundary (s : State) : State :=
  let s := clockTo s (s.pair.boundaryAt + 50 * ticksUs)
  let p := s.pair
  let link := p.link.boundary
  let wire := p.wire.boundary
  let s := if p.link.heard then s else bump s pairPage O.PAIR_LINK_MISS_CNT
  let s := if p.wire.heard then s else bump s pairPage O.PAIR_WIRE_MISS_CNT
  let s := { s with pair := { s.pair with
    boundaryAt := s.time.now, link := link, wire := wire, wireLast := if 4 ≤ wire.missed then none else p.wireLast } }
  let one (a b : HbPath) (old : HbPath) : Bool := a.missed = 4 && old.missed < 4 && b.missed < 4
  if 4 ≤ link.missed && 4 ≤ wire.missed then
    if p.lostDeclared then s else partnerLost s
  else if one link wire p.link || one wire link p.wire then alert s pairPage O.PAIR_ALERT 0
  else s

/-- HEARTBEAT_BOUNDARY (R349, R350, R358). -/
def execHeartbeatBoundary (s : State) : Res := .next (noteStatus s (heartbeatBoundary s))

/-- What a write of PAIR_KICK does (R348). -/
def kickEffect (_ after : State) : State :=
  { after with pair := { after.pair with kicked := true, kickAt := after.time.now } }

/-- PAIR_KICK (R348). -/
def execPairKick (req : Nat) (value : Word) (s : State) : Res :=
  .next (writeBlock kickEffect s req pairPage O.PAIR_KICK value)

/-- WATCHDOG_EXPIRY (R348): KICK_US after the last kick; suspended while a patch set is being applied. -/
def watchdogExpiry (s : State) : State :=
  if !s.pair.kicked || s.boot.act ≠ .none then s
  else
    let s := clockTo s (s.pair.kickAt + regField s pairPage O.PAIR_WDOG 0 10 * ticksUs)
    { s with pair := { s.pair with kicked := false } }

/-- WATCHDOG_EXPIRY (R348). -/
def execWatchdogExpiry (s : State) : Res := .next (watchdogExpiry s)

/-! ## Frames of the pair link (R342) -/

/-- A frame of the pair link, which needs the PAIR block (R341). -/
def onPairLink (s t : State) : Res := .next (if isEnabled s pairPage then noteStatus s t else s)

/-- RECORD (R344). -/
def execRecord (claim first : Nat) (records : List JournalRecord) (s : State) : Res :=
  onPairLink s (recordFrame s claim first records)

/-- MIRROR_ACK (R344, R345). -/
def execMirrorAck (claim seq : Nat) (s : State) : Res := onPairLink s (mirrorAckFrame s claim seq)

/-- SYNC (R345). -/
def execSync (claim seq : Nat) (last : Bool) (image : SyncImage) (s : State) : Res :=
  onPairLink s (syncFrame s claim seq last image)

/-- HANDOVER (R362): the standby that has every record acknowledges it, and takes over as step 3 gives. -/
def handoverFrame (s : State) (claim seq : Nat) : State :=
  let s := hearClaim s claim
  if s.pair.role ≠ .standby || s.pair.mirror ≠ .mirroring || s.journalSeq < seq || s.pair.barred then s
  else
    let s := emit s (.mirrorAck (claimOf s) seq)
    let p := { s.pair with drill := if s.pair.drill = .awaiting then .awaiting else .handover }
    takeOver { s with pair := p } true

/-- HANDOVER (R362). -/
def execHandover (claim seq : Nat) (s : State) : Res := onPairLink s (handoverFrame s claim seq)

/-- The exchange of PAIR_BIND ends (R322): the side that receives the PWK takes it, and the pair is bound. -/
def bindExchange (s : State) (pwk : Nat) (sigOk : Bool) : State :=
  match s.sec.binding with
  | none => s
  | some b =>
    let s := { s with sec := { s.sec with binding := none } }
    if !sigOk then serveRing (endRequest s 0x03 1 [])
    else
      let receives := b.peerHolds || (!holdsNamespace s && b.peerHigher)
      let s := { s with sec := { s.sec with bound := true, pwk := if receives then some pwk else s.sec.pwk } }
      let s := if s.pair.role = .standby then
          { s with pair := { s.pair with mirror := .syncing, image := [], early := [] } }
        else if s.pair.role = .active then startSync s
        else s
      serveRing (endRequest (keepNonce s s.sec.heldNonce) 0x03 0 [])

/-- SECURE (R322). -/
def execSecure (claim pwk : Nat) (sigOk : Bool) (s : State) : Res :=
  onPairLink s (bindExchange (hearClaim s claim) pwk sigOk)

/-! ## Isolation (R356) -/

/-- FENCE_PROBE (R356): FENCE_US after the loss the claim is probed. A higher claim in any answer demotes the controller;
else it is ACTIVE again with MIRROR DEGRADED, and the entries that waited are posted. -/
def fenceProbe (s : State) (spcClaim : Nat) (bridges : List Nat) : State :=
  if s.pair.role ≠ .isolated then s
  else
    let s := clockTo s (s.pair.isolatedAt + regField s pairPage O.PAIR_CFG 0 10 * ticksUs)
    let s := (activeSlots s).foldl (fun s n => emit s (.claimProbe n (claimOf s))) s
    let s := if dieReachable s then dieSeesClaim s spcClaim else s
    let seen := (if dieReachable s then [s.die.claim] else []) ++ bridges
    if seen.any fun c => decide (claimOf s < c) then demote s
    else
      let s := { s with pair := { s.pair with role := .active, mirror := .degraded } }
      recordsWritten (s.conns.keys.foldl drain s)

/-- FENCE_PROBE (R356). -/
def execFenceProbe (spcClaim : Nat) (bridges : List Nat) (s : State) : Res :=
  .next (noteStatus s (fenceProbe s spcClaim bridges))

/-! ## The slot power cross link (R352, R353) -/

/-- One channel of a state record, as the die that does not own the drive takes it. -/
def takeChannel (s : State) (x : SpxChannel) : State :=
  if 48 ≤ x.slot then s
  else setChan s x.slot { chanOf s x.slot with
    st := x.st, onReq := x.onReq, pg := x.pg, ftCount := x.ftCount, retries := x.retries, fetTemp := x.fetTemp }

/-- SPX_STATE_RECORD (R352, R353): the partner die's highest claim, and as owner its channels. A claim not below its own
confirms a broadcast (R363). -/
def spxRecord (s : State) (claim : Nat) (channels : List SpxChannel) : State :=
  if !dieReachable s then s
  else
    let s := dieSeesClaim s claim
    let s := if channels.isEmpty then s else { s with pair := { s.pair with spxAt := some s.time.now } }
    let s := if s.die.owner then s else channels.foldl takeChannel s
    if claimOf s ≤ claim then
      claimProgress { s with pair := { s.pair with probes := s.pair.probes.filter (· ≠ 48) } }
    else s

/-- SPX_STATE_RECORD (R352, R353). -/
def execSpxStateRecord (claim : Nat) (channels : List SpxChannel) (s : State) : Res :=
  .next (noteStatus s (spxRecord s claim channels))

/-! ## The swap drill (R362, R363) -/

/-- RESULT of a drill's START (R362): 0 where it starts. -/
def drillRefused (s : State) : Nat :=
  let p := s.pair
  if p.role ≠ .active then 1
  else if p.mirror ≠ .mirroring then 2
  else if !p.link.ok || !p.wire.ok then 3
  else if p.drill ≠ .none || s.boot.act ≠ .none then 6
  else 0

/-- START of a drill (R362): it is refused with RESULT, or capsules are held. -/
def startDrill (s : State) : State :=
  let r := drillRefused s
  if r ≠ 0 then { s with pair := { s.pair with cmdResult := r } }
  else drillDrained { s with pair := { s.pair with
    cmdResult := 0, drill := .draining, drillAt := s.time.now, drillMine := true, holding := true } }

/-- TAKEOVER through PAIR_DRILL_CMD (R350): a standby that has lost its partner takes over. What RESULT reads where it may not
is not given: a free value (log entry 2). -/
def commandedTakeover (s : State) : State :=
  if s.pair.role = .standby && s.pair.lostDeclared && !s.pair.barred then
    takeOver { s with pair := { s.pair with cmdResult := 0, drill := .none } } false
  else
    let (k, s) := draw s
    { s with pair := { s.pair with cmdResult := Config.freeNat k % 16 } }

/-- What a write of PAIR_DRILL_CMD does once stored: GO = 1 starts OP and clears. -/
def drillCmdEffect (_ after : State) : State :=
  let v := regOf after pairPage O.PAIR_DRILL_CMD
  if !bit v 31 then after
  else
    let s := setReg after pairPage O.PAIR_DRILL_CMD (putField v 31 1 0)
    match field v 0 2 with
    | 1 => startDrill s
    | 2 => commandedTakeover s
    | _ => s

/-- A write of PAIR_DRILL_CMD with GO = 1. -/
def drillCommand (s : State) (req op : Nat) : State :=
  noteStatus s (writeBlock drillCmdEffect s req pairPage O.PAIR_DRILL_CMD (packWord [(31, 1), (0, op)]))

/-- DRILL (R362). -/
def execDrill (req : Nat) (s : State) : Res := .next (drillCommand s req 1)

/-- TAKEOVER_COMMAND (R350). -/
def execTakeoverCommand (req : Nat) (s : State) : Res := .next (drillCommand s req 2)

/-- Step 2 of a handover is not complete (R363): the drain goes on, or HANDOVER is not acknowledged. -/
def handoverOpen (s : State) : Bool :=
  (s.pair.drill = .draining || s.pair.drill = .handover || s.pair.drill = .returning) &&
  (s.pair.role = .active || (s.pair.role = .handingOver && s.pair.acked < s.journalSeq))

/-- DRILL_DRAIN_TIMEOUT (R363): 200 ms after the hold began the drill ends with DRAIN, and the hold ends unchanged. -/
def drillDrainTimeout (s : State) : State :=
  if !handoverOpen s then s
  else
    let s := drillFails (clockTo s (s.pair.drillAt + 200 * ticksMs)) 4 []
    { s with pair := { s.pair with role := .active, drill := .none, drillMine := false, holding := false } }

/-- DRILL_DRAIN_TIMEOUT (R363). -/
def execDrillDrainTimeout (s : State) : Res := .next (noteStatus s (drillDrainTimeout s))

/-- DRILL_DWELL_END (R362): DWELL_S after it became active the new active hands back. -/
def drillDwellEnd (s : State) : State :=
  if s.pair.drill ≠ .dwelling || s.pair.role ≠ .active then s
  else drillDrained (startHandBack (clockTo s (s.pair.drillAt + regField s pairPage O.PAIR_DRILL_CFG 0 16 * ticksS)))

/-- DRILL_DWELL_END (R362). -/
def execDrillDwellEnd (s : State) : Res := .next (noteStatus s (drillDwellEnd s))

/-- DRILL_DAY (R363): a day of device time passes. -/
def drillDay (s : State) : State :=
  let p := s.pair
  let limit := regField s pairPage O.PAIR_DRILL_CFG 16 8
  if p.drillDays = 0xFFFF then
    match p.mirrorDays with
    | none => s
    | some d =>
      let s := { s with pair := { p with mirrorDays := some (d + 1), drillDue := p.drillDue || decide (limit ≤ d + 1) } }
      if !p.drillDue && limit ≤ d + 1 then alert s pairPage O.PAIR_ALERT 5 else s
  else
    let d := min 0xFFFE (p.drillDays + 1)
    let s := { s with pair := { p with drillDays := d, drillDue := p.drillDue || decide (limit < d) } }
    if !p.drillDue && limit < d then alert s pairPage O.PAIR_ALERT 5 else s

/-- DRILL_DAY (R363). -/
def execDrillDay (s : State) : Res := .next (drillDay s)

end Sys2Proof.Machine
end

