-- ==== Sys2Proof/Machine/ServicePort.lean ====
section
/-! DEFINITION. The service port but for the inbound requests and the delivery of completions (chapter 15): its windows,
its link, its interrupt vectors, master enable, function-level reset and the registers of its page. -/
namespace Sys2Proof.Machine

/-- The state with SVP changed by a function. -/
def updateSvp (s : State) (f : Service → Service) : State := { s with svp := f s.svp }

/-! ## Interrupt vectors (R410, R411) -/

/-- A page's interrupt line: the OR of its INT_PEND bits; a page whose domain is off drives 0 (R36, R410). -/
def lineOf (s : State) (page : Nat) : Bool :=
  poweredOn s page && decide ((getPage s page).intRaw &&& (getPage s page).intEn ≠ 0#32)

/-- The lines routed to a vector: their OR (R410). -/
def vectorLevel (s : State) (v : Nat) : Bool :=
  s.svp.imap.entries.any fun e => bit e.2 31 && field e.2 0 6 = v && lineOf s e.1

/-- A vector of the MSI-X table. -/
def vectorOf (s : State) (v : Nat) : Vector := s.svp.vectors.getD v {}

/-- The state with a vector replaced. -/
def setVector (s : State) (v : Nat) (x : Vector) : State := updateSvp s fun p => { p with vectors := p.vectors.set v x }

/-- May SVP issue a request or a message: enabled, in D0, with Bus Master Enable (R397, R406, R408)? -/
def portMayIssue (s : State) : Bool := isEnabled s svpPage && !s.svp.d3 && s.svp.bme

/-- SVP sends a TLP (Table 17-2). -/
def sendTlp (s : State) (o : Out) : State := emit (pmcEvent s svpPage 0x101 1) o

/-- The link leaves L1 (R409). -/
def leaveL1 (s : State) : State :=
  if !s.svp.l1 then s
  else
    let t := updateSvp s fun p => { p with l1 := false, clkreq := true }
    if s.svp.clkreq then t else emit t (.clkreq true)

/-- May a vector's message be sent (R410)? -/
def vectorOpen (s : State) (v : Nat) : Bool :=
  portMayIssue s && s.svp.msixEn && !s.svp.msixMask && !(vectorOf s v).masked

/-- A vector's message is sent: SVP leaves L1 for it (R409, R410). -/
def sendMsix (s : State) (v : Nat) : State :=
  let s := leaveL1 s
  sendTlp (bump (setVector s v { vectorOf s v with pending := false }) svpPage O.SVP_MSIX_CNT) (.msix v)

/-- A rising edge of a vector's cause: its message, or its PBA bit (R410). -/
def vectorEdge (s : State) (v : Nat) : State :=
  if vectorOpen s v then sendMsix s v else setVector s v { vectorOf s v with pending := true }

/-- A vector whose cause has fallen loses its PBA bit; a pending one sends its message as soon as it may (R410). -/
def settleVector (s : State) (v : Nat) : State :=
  let x := vectorOf s v
  if x.cause && !vectorLevel s v then setVector s v { x with cause := false, pending := false }
  else if x.pending && vectorOpen s v then sendMsix s v
  else s

/-- Every vector of the table is settled. -/
def settleVectors (s : State) : State := s.svp.vectors.keys.foldl settleVector s

/-- A vector's cause rises (R410). -/
def causeEdge (s : State) (v : Nat) : State :=
  let s := settleVector s v
  if vectorLevel s v && !(vectorOf s v).cause then vectorEdge (setVector s v { vectorOf s v with cause := true }) v
  else s

/-- MSIX_CAUSE_EDGE (R410). -/
def execMsixCauseEdge (v : Nat) (s : State) : Res := onUnit "MSI-X vector" v 64 (causeEdge s v)

/-- What a write of SVP_EOI does: a cause still at 1 counts as a new edge (R411). -/
def eoiEffect (value : Word) (_ after : State) : State :=
  let v := field value 0 6
  let s := settleVector after v
  if vectorLevel s v then vectorEdge (setVector s v { vectorOf s v with cause := true }) v else s

/-- What a write of SVP_SWI does: the cause is 1 for one cycle (R411). A message that cannot be sent in that cycle is
lost with it, because its PBA bit clears as the cause falls. -/
def swiEffect (value : Word) (_ after : State) : State :=
  let v := field value 0 6
  let s := settleVector after v
  if vectorLevel s v || (vectorOf s v).cause || !vectorOpen s v then s else sendMsix s v

/-- SVP_EOI (R411). -/
def execSvpEoi (req : Nat) (value : Word) (s : State) : Res :=
  .next (writeBlock (eoiEffect value) s req svpPage O.SVP_EOI value)

/-- SVP_SWI (R411). -/
def execSvpSwi (req : Nat) (value : Word) (s : State) : Res :=
  .next (writeBlock (swiEffect value) s req svpPage O.SVP_SWI value)

/-! ## Windows (R398 to R401) -/

/-- A page that BAR0 may not map: KEY, SEC, ALM, and every locked page (R400). -/
def unmappable (s : State) (page : Nat) : Bool :=
  page = secPage || page = keyPage || page = almPage || (getPage s page).lock

/-- A refused entry (R400, R412). -/
def mapRefused (s : State) (entry : Nat) : State := alert (blockError s svpPage 0x0100 entry) svpPage O.SVP_ALERT 7

/-- What a write of SVP_W0_ENTRY does: the indexed BAR0 entry is applied or refused (R400, R412). -/
def w0Effect (value : Word) (_ after : State) : State :=
  let i := regField after svpPage O.SVP_W0_IDX 0 6
  let base := field value 0 13
  let pages := field value 16 7 + 1
  let s := updateSvp after fun p => { p with w0 := p.w0.erase i, w0last := p.w0last.set i (base, pages) }
  if !bit value 31 then s
  else if (List.range pages).any fun k => unmappable s (base + k) then mapRefused s i
  else updateSvp s fun p => { p with w0 := p.w0.set i ⟨base, pages⟩ }

/-- BAR0_ENTRY_WRITE (R400). -/
def execBar0EntryWrite (req : Nat) (value : Word) (s : State) : Res :=
  .next (writeBlock (w0Effect value) s req svpPage O.SVP_W0_ENTRY value)

/-- What a write of SVP_W2_BASE_LO or _HI does: it goes to the indexed BAR2 entry. -/
def w2BaseEffect (_ after : State) : State :=
  let j := regField after svpPage O.SVP_W2_IDX 0 4
  let base := (regOf after svpPage O.SVP_W2_BASE_LO).toNat + 2 ^ 32 * (regOf after svpPage O.SVP_W2_BASE_HI).toNat
  updateSvp after fun p => { p with w2base := p.w2base.set j base }

/-- What a write of SVP_W2_IDX does: the base registers hold those of the entry now indexed. -/
def w2IdxEffect (_ after : State) : State :=
  let b := after.svp.w2base.getD (regField after svpPage O.SVP_W2_IDX 0 4) 0
  setReg (setReg after svpPage O.SVP_W2_BASE_LO (Word.ofNum (b % 2 ^ 32))) svpPage O.SVP_W2_BASE_HI
    (Word.ofNum (b / 2 ^ 32))

/-- What a write of SVP_W2_CTRL does: the indexed BAR2 entry is applied or refused (R401, R412). -/
def w2Effect (_ after : State) : State :=
  let j := regField after svpPage O.SVP_W2_IDX 0 4
  let v := regOf after svpPage O.SVP_W2_CTRL
  let base := after.svp.w2base.getD j 0
  let fits := decide (base + field v 12 13 * 4096 ≤ dramSize after)
  let e : W2 := { base := base, size := field v 12 13, write := bit v 30, valid := bit v 31 && fits }
  let s := updateSvp after fun p => { p with w2 := p.w2.set j e }
  if bit v 31 && !fits then mapRefused s (256 + j) else s

/-- BAR2_ENTRY_WRITE (R401). -/
def execBar2EntryWrite (req : Nat) (value : Word) (s : State) : Res :=
  .next (writeBlock w2Effect s req svpPage O.SVP_W2_CTRL value)

/-- What a write of SVP_IMAP does: the line of the indexed page is routed (R410). -/
def imapEffect (value : Word) (_ after : State) : State :=
  let page := regField after svpPage O.SVP_IMAP_IDX 0 9
  settleVectors (updateSvp after fun p => { p with imap := p.imap.set page (value &&& 0x8000003F#32) })

/-- What a write of an SVP register does beyond the store. -/
def svpEffect (off : Nat) (v : Word) (before after : State) : State :=
  if off = O.SVP_W0_ENTRY then w0Effect v before after
  else if off = O.SVP_W2_IDX then w2IdxEffect before after
  else if off = O.SVP_W2_BASE_LO || off = O.SVP_W2_BASE_HI then w2BaseEffect before after
  else if off = O.SVP_W2_CTRL then w2Effect before after
  else if off = O.SVP_IMAP then imapEffect v before after
  else if off = O.SVP_EOI then eoiEffect v before after
  else if off = O.SVP_SWI then swiEffect v before after
  else after

/-! ## Errors of the function (R402, R404, R405) -/

/-- AER records an uncorrectable error, with the address of the first one (R402, PRESUMED bit numbers, log entry 48). -/
def aerReport (s : State) (b addr : Nat) : State :=
  updateSvp s fun p => { p with aer := p.aer ||| oneBit b, aerHdr := if p.aer = 0#32 then addr else p.aerHdr }

/-- A request answered or reported as UR (R402). -/
def unsupported (s : State) (read : Bool) (addr : Nat) : State :=
  let s := aerReport (bump s svpPage O.SVP_UR_CNT) 20 addr
  if read then sendTlp (alert s svpPage O.SVP_ALERT 2) .cplUr else s

/-- A read answered with CA (R402). -/
def aborted (s : State) (addr : Nat) : State :=
  sendTlp (aerReport (bump s svpPage O.SVP_CA_CNT) 15 addr) .cplCa

/-- A write with EP set is dropped (Table 15-3). -/
def poisonedTlp (s : State) (addr : Nat) : State := aerReport s 12 addr

/-! ## The link (R408, R409) -/

/-- The data link layer goes down. -/
def portDown (s : State) : State :=
  if !s.svp.up then s
  else alert (leaveL1 (updateSvp s fun p => { p with up := false, speed := 0, width := 0 })) svpPage O.SVP_ALERT 0

/-- DATA_LINK_DOWN (R408). -/
def execDataLinkDown (s : State) : Res := .next (portDown s)

/-- The data link layer comes up: SVP enabled and SVP_PERST_N deasserted (R395, R408). -/
def portUp (s : State) (speed width : Nat) : State :=
  if s.svp.up || s.svp.perst || !isEnabled s svpPage || speed = 0 || 5 < speed ||
      !(width = 1 || width = 2 || width = 4) then s
  else alert (updateSvp s fun p => { p with up := true, speed := speed, width := width }) svpPage O.SVP_ALERT 1

/-- DATA_LINK_UP (R408). -/
def execDataLinkUp (speed width : Nat) (s : State) : Res := .next (portUp s speed width)

/-- Is an outbound read outstanding? -/
def readsOut (s : State) : Bool := s.svp.tags.values.any fun | .reading .. => true | .quarantine _ => false

/-- Dword offsets of configuration space: Link Control and L1 PM Substates Control 1 (Table 15-2). -/
abbrev linkControl : Nat := 0x080
abbrev l1Control : Nat := 0x1F8

/-- SVP requests L1 entry (R409). -/
def enterL1 (s : State) : State :=
  if s.svp.l1 || !s.svp.up || !isEnabled s svpPage || readsOut s || !bit (s.svp.config.getD linkControl 0#32) 1 then s
  else
    let deep := bit (s.svp.config.getD l1Control 0#32) 3
    let s := bump (updateSvp s fun p => { p with l1 := true, clkreq := !deep }) svpPage O.SVP_L1_CNT
    if deep then emit s (.clkreq false) else s

/-- L1_ENTRY (R409). -/
def execL1Entry (s : State) : Res := .next (enterL1 s)

/-- L1_EXIT (R409). -/
def execL1Exit (s : State) : Res := .next (leaveL1 s)

/-! ## Master enable and resets of the function (R406 to R408) -/

/-- Bus Master Enable is cleared (R406): nothing is issued from now on. -/
def clearBme (s : State) : State :=
  if s.svp.bme then alert (updateSvp s fun p => { p with bme := false }) svpPage O.SVP_ALERT 6 else s

/-- BME_CLEAR (R406). -/
def execBmeClear (s : State) : Res := .next (clearBme s)

/-- The status that a descriptor takes when no more of its data comes because the master is disabled (R381, R406). -/
def DmaDesc.disable (d : DmaDesc) : DmaDesc :=
  { d with reads := [], disabled := true, status := some (d.status.getD 0x06) }

/-- An outbound tag is freed by an FLR: a control core's read ends with an access error, reading zero (R404, R407). -/
def releaseTag (s : State) (tag : Nat) : State :=
  match s.svp.tags.get tag with
  | some (.reading (.core c) addr len _ _) => emit (emit s (.accessError c addr)) (.toCore c (zeros len))
  | some (.reading (.dma ch) ..) =>
    let x := s.dma.getD ch {}
    { s with dma := s.dma.set ch { x with desc := x.desc.map DmaDesc.disable } }
  | _ => s

/-- The function's own state at its defaults, its sticky fields and its pins kept (R407). -/
def Service.atDefaults (p : Service) : Service :=
  { p with
    mse := false, bme := false, config := .empty, d3 := false, msixEn := false, msixMask := false
    vectors := p.vectors.mapVals fun _ v => { cause := v.cause }
    flrTags := (p.tags.filter fun _ u => match u with | .reading .. => true | .quarantine _ => false).keys ++ p.flrTags
    tags := .empty, flr := true }

/-- A function-level reset begins (R407). -/
def beginFlr (s : State) : State :=
  let s := clearBme s
  let s := s.svp.tags.keys.foldl releaseTag s
  let s := leaveL1 (updateSvp s Service.atDefaults)
  alert (bump s svpPage O.SVP_FLR_CNT) svpPage O.SVP_ALERT 5

/-- FLR (R407). -/
def execFlr (s : State) : Res := .next (if isEnabled s svpPage then beginFlr s else s)

/-- FLR_DONE (R407). -/
def execFlrDone (s : State) : Res := .next (updateSvp s fun p => { p with flr := false })

/-- SVP_PERST_N asserts, or a hot reset arrives (R408): it acts as an FLR and takes the link down. -/
def perstAssert (s : State) (hot : Bool) : State :=
  let s := if isEnabled s svpPage && !(s.svp.perst && !hot) then beginFlr s else s
  portDown (updateSvp s fun p => { p with perst := p.perst || !hot })

/-- PERST_ASSERT (R408). -/
def execPerstAssert (hot : Bool) (s : State) : Res := .next (perstAssert s hot)

/-- PERST_DEASSERT (R408). -/
def execPerstDeassert (s : State) : Res := .next (updateSvp s fun p => { p with perst := false })

/-- SVP at a reset of its page or of the part: its pin keeps its level. -/
def Service.atReset (p : Service) : Service := { perst := p.perst }

/-- TAG_QUARANTINE_END (R404): 2 × US after its timeout a tag may be used again. -/
def quarantineEnd (s : State) (tag : Nat) : State :=
  match s.svp.tags.get tag with
  | some (.quarantine t) => updateSvp (clockTo s t) fun p => { p with tags := p.tags.erase tag }
  | _ => s

/-- TAG_QUARANTINE_END (R404). -/
def execTagQuarantineEnd (tag : Nat) (s : State) : Res := onUnit "tag" tag 1024 (quarantineEnd s tag)

end Sys2Proof.Machine
end

