-- ==== Sys2Proof/Machine/Pages.lean ====
section
/-! DEFINITION. PG_CTRL: enable, shutdown, quiesce, soft reset and lock requests of every page (R26 to R35, R42, R50), with
what each block's chapter adds. -/
namespace Sys2Proof.Machine

/-- What follows any change of a page: the SMBus status causes, and the interrupt vectors of the service port. -/
def settleSigns (before after : State) : State := settleVectors (noteStatus before after)

/-! ## Shutdowns (R27) -/

/-- A page shuts down: ENABLED starts a shutdown, an enable in progress will end in one (R26, R27). -/
def stopPage (s : State) (page : Nat) : State :=
  let p := getPage s page
  if p.enabled then pageShutdown s page
  else if p.enabling then setPage s page { p with enable := false }
  else if p.shutdown then setPage s page { p with enable := false, reenable := false }
  else s

/-- An SPW shutdown turns the gate off at once, whatever the state (R316). -/
def cutChannel (s : State) (n : Nat) : State :=
  let t := gateOff s n
  channelChanged s (setChan t n { chanOf t n with st := .off, fetA := false, fetB := false }) n

/-- The crypto cores that take jobs. -/
def coresEnabled (s : State) : Bool := (List.range 8).any fun i => isEnabled s (0x101 + i)

/-- What a block does as its shutdown starts (R129, R227, R316, R331, R447). -/
def shutdownBegins (s : State) (page : Nat) : State :=
  match blockOf page with
  | some .xpt => engineShutdown s (page - 0x028)
  | some .mlx => (List.range 8).foldl (fun s i => stopPage s (mlkPage (8 * (page - 0x060) + i))) s
  | some .spc => (List.range 48).foldl (fun s n =>
      let on := (getPage s (spwPage n)).enabled
      let t := stopPage s (spwPage n)
      if on then cutChannel t n else t) s
  | some .spw => cutChannel s (page - 0x0C1)
  | some .cry => if coresEnabled s then s else haltJobs s fun _ => true
  | some .pmt => bumpBy { s with trace := { s.trace with live := [] } } pmtPage O.PMT_ABORT_CNT s.trace.live.length
  | _ => s

/-- Does a block refuse a shutdown in its present state (R331, R340)? -/
def refusesShutdown (s : State) (page : Nat) : Bool :=
  match blockOf page with
  | some .alm => s.crypto.halted
  | some .cry => !s.crypto.queue.isEmpty && coresEnabled s
  | _ => false

/-- A shutdown is asked for in ENABLED: it starts, or is refused and logged (R27). -/
def requestShutdown (s : State) (req page : Nat) : State :=
  if refusesShutdown s page then
    logError (setPage s page { getPage s page with enable := true }) page 0x0009 req (regAddr page 0x008)
  else shutdownBegins (pageShutdown s page) page

/-- The last moment at which a frame in transmission on a port ends. -/
def lastFrameEnd (s : State) (n : Nat) : Tick :=
  ((s.ports.getD n {}).subs.values.filterMap fun p => p.tx.map (·.endTick)).foldl max 0

/-- Is a page at rest: DISABLED, and no enable under way? -/
def atRest (s : State) (page : Nat) : Bool :=
  let p := getPage s page
  !p.enabled && !p.enabling && !p.shutdown

/-- The moment at which a shutdown may end, where frames in transmission are waited for (R194). -/
def shutdownClock (s : State) (page : Nat) : State :=
  match blockOf page with
  | some .net => clockTo s (lastFrameEnd s (page - 0x020))
  | some .egs => clockTo s (lastFrameEnd s (page - 0x038))
  | _ => s

/-- Has a block's work in flight ended, as its chapter defines for a shutdown (R129, R227, R316, R382, R387, R408)? -/
def workEnded (s : State) (page : Nat) : Bool :=
  match blockOf page with
  | some .xpt => s.conns.values.all fun c => c.engine ≠ page - 0x028 || c.st = .free
  | some .mlx => (List.range 8).all fun i => atRest s (mlkPage (8 * (page - 0x060) + i))
  | some .spc => (List.range 48).all fun n => atRest s (spwPage n)
  | some .svp => !readsOut s
  | some .spw | some .swc | some .pol | some .pair => true
  | _ => !workInFlight s page

/-- What a block does as its shutdown ends (R154, R227, R387, R408). -/
def shutdownEnds (s : State) (page : Nat) : State :=
  match blockOf page with
  | some .net => netDisabled s (page - 0x020)
  | some .mlk => linkToDown s (page - 0x080) false
  | some .ddr => { s with ddr := s.ddr.modify (page - 0x130) {} fun d => { d with selfRefresh := true } }
  | some .svp => portDown s
  | _ => s

/-! ## Enables (R26) -/

/-- A page's enable starts (R26); a page in FAULT starts none (R32). -/
def startEnable (s : State) (page : Nat) : State :=
  let p := getPage s page
  if p.fault || p.enabled || p.enabling || p.shutdown || p.softReset then s
  else setPage s page { p with enable := true, enabling := true }

/-- A free choice of DIODE_FITTED, the feeds' FETs and the state that presence brings, as a channel is enabled (R305,
R307, R313). -/
def channelEnabled (s : State) (n : Nat) : State :=
  let (k, s) := draw s
  let s := setChan s n { chanOf s n with diodeFitted := decide (Config.freeNat k % 2 = 1) }
  let turn (s : State) (b : Bool) : State :=
    let c := chanOf s n
    let mv := if b then c.mvB else c.mvA
    if c.nodeFor b + 50 ≤ mv then feedTurnOn s n b mv else s
  let t := checkPresence (turn (turn s false) true) n
  channelChanged s t n

/-- What a block does in the cycle in which it becomes ENABLED (R150, R194, R313, R328, R387). -/
def enabledNow (s : State) (page : Nat) : State :=
  match blockOf page with
  | some .net => netEnabled s (page - 0x020)
  | some .egs => egressEnabled s (page - 0x038)
  | some .ddr =>
    { s with ddr := s.ddr.modify (page - 0x130) {} fun d => { d with trained := true, selfRefresh := false } }
  | some .spw => channelEnabled s (page - 0x0C1)
  | some .cx | some .cry => dispatchJobs s
  | some .pqe => dispatchPqe s
  | some .rng => { s with rng := { s.rng with running := s.rng.running || (!s.rng.fail && s.boot.romOk) } }
  | _ => s

/-- DDR training fails where the power-up's outcome says so and the DRAM is not in self-refresh (R387, R426). -/
def trainingFails (s : State) (page : Nat) : Bool :=
  blockOf page = some .ddr && !s.boot.ddrOk && !(s.ddr.getD (page - 0x130) {}).selfRefresh

/-- The enable completes (R26, R30): a stored QUIESCE acts, and a stored ENABLE = 0 starts a shutdown. The error code of a
failed training is a free value (log entry 2). -/
def enableEnds (s : State) (page : Nat) : State :=
  let p := getPage s page
  if trainingFails s page then
    let (k, s) := draw (setPage s page { p with enable := false, enabling := false })
    pageFault s page (Config.freeNat k % 2 ^ 16) 0
  else
    let s := setPage s page { p with enabled := true, enabling := false, quiesced := p.quiesce }
    let s := raiseCauses s page (if p.quiesce then 0x18000000#32 else 0x10000000#32)
    let s := enabledNow s page
    if p.enable then s else requestShutdown s 0xFF page

/-- ENABLE_DONE for a page whose enable is under way. -/
def enableDone (s : State) (page : Nat) : State :=
  if (getPage s page).enabling && poweredOn s page then settleSigns s (enableEnds s page) else s

/-- A shutdown ends (R27, R28, R30). -/
def endShutdown (s : State) (page : Nat) : State :=
  let s := shutdownEnds s page
  let p := getPage s page
  let s := setPage s page { p with shutdown := false, quiesce := false, quiesced := false, reenable := false }
  let s := raiseCause s page 29
  if p.reenable then startEnable s page else s

/-- SHUTDOWN_DONE for a page whose shutdown is under way and whose work has ended. -/
def shutdownDone (s : State) (page : Nat) : State :=
  if !(getPage s page).shutdown then s
  else
    let t := shutdownClock s page
    if workEnded t page then settleSigns s (endShutdown t page) else t

/-! ## Soft reset (R33 to R35) -/

/-- The block registers that a soft reset of a page keeps (R34, R382; the ALM counters are RWS). -/
def keptReg (page off : Nat) : Bool :=
  match blockOf page with
  | some .alm => 0x120 ≤ off && off < 0x140
  | some .dma => off = O.DMA_RING_LO || off = O.DMA_RING_HI || off = O.DMA_RING_SIZE || off = O.DMA_TAIL
  | _ => false

/-- A link at reset with its pins as they are: MRST is asserted (R207, MLK_SB_CTRL). -/
def resetLink (s : State) (n : Nat) : State :=
  let s := linkToDown s n true
  let l := linkOf s n
  let t := putLink s n { prsnt := l.prsnt, alert := l.alert, mrstAt := if l.mrst then l.mrstAt else s.time.now }
  if l.mrst then t else emit t (.mrst n true)

/-- A block's own state returns to its after-reset state (R34). What its fields show of other agents' state stays
(log entry 49). -/
def resetBlock (s : State) (page : Nat) : State :=
  match blockOf page with
  | some .net => { s with ports := s.ports.erase (page - 0x020) }
  | some .xpt => { s with engines := s.engines.erase (page - 0x028) }
  | some .time => { s with time := { now := s.time.now, base := s.time.base } }
  | some .swc => { s with switch := {} }
  | some .pol => { s with policers := .empty }
  | some .egs => { s with egress := s.egress.erase (page - 0x038) }
  | some .zsq => { s with reshapeResult := 0 }
  | some .pqe => { s with pqeBytes := s.pqeBytes.erase (page - 0x048) }
  | some .mlx => { s with progGates := s.progGates.erase (page - 0x060) }
  | some .mlk => resetLink s (page - 0x080)
  | some .spc => { s with die := { s.die with claim := 0, totals := [], owner := decide (s.boot.ctrlId % 2 = 0) } }
  | some .spw => setChan s (page - 0x0C1) (resetChannel (page - 0x0C1) (chanOf s (page - 0x0C1)))
  | some .key => { s with vault := {} }
  | some .alm => { s with alarm := { s.alarm with first := 0, firstTick := 0, zeroized := false, partnerAck := false } }
  | some .rng => { s with rng := {} }
  | some .cx => { s with crypto := { s.crypto with cores := s.crypto.cores.erase (page - 0x101) } }
  | some .fab => { s with arbiters := .empty }
  | some .dma => { s with dma := s.dma.modify (page - 0x118) {} fun c => { head := c.head } }
  | some .ddr => { s with ddr := s.ddr.erase (page - 0x130) }
  | some .mrm => { s with mrm := { s.mrm with scrub := 0, bytes := 0 } }
  | some .svp => updateSvp s Service.atReset
  | some .pmt => { s with trace := {} }
  | some .mgt => { s with mgt := { s.mgt with cause := 0, released := false } }
  | _ => s

/-- The header of a page in soft reset (R34, R35). -/
def softHeader (page : Nat) (p : Page) : Page :=
  let r := resetPage page
  { r with
    enabled := false, softReset := true, errReq := p.errReq, errCode := p.errCode, errAddr := p.errAddr
    errCount := p.errCount, pmcOvf := p.pmcOvf, cycBase := p.cycBase, latches := p.latches, lock := p.lock }

/-- A soft reset is accepted (R33 to R35): reads return the after-reset values from now on. -/
def startSoftReset (s : State) (page : Nat) : State :=
  let s := resetBlock s page
  let s := { s with regs := s.regs.filter fun k _ => k / 4096 ≠ page || keptReg page (k % 4096) }
  setPage s page (softHeader page (getPage s page))

/-- The soft reset completes (R34, R35): a block whose ENABLE resets to 1 starts its enable. -/
def softResetDone (s : State) (page : Nat) : State :=
  let p := getPage s page
  if !p.softReset then s
  else setPage s page { p with softReset := false, enabling := p.enable }

/-! ## Writes of PG_CTRL -/

/-- What waits for a block that takes work again (R29). -/
def resumeWork (s : State) (page : Nat) : State :=
  match blockOf page with
  | some .cx | some .cry => dispatchJobs s
  | some .pqe => dispatchPqe s
  | _ => s

/-- The ENABLE field of a write takes effect (R26 to R28, R32). -/
def storeEnable (s : State) (req page : Nat) (on : Bool) : State :=
  let p := getPage s page
  if on then
    if p.fault then
      if p.enable then s else logError s page 0x0009 req (regAddr page 0x008)
    else if p.enabled then s
    else if p.enabling then setPage s page { p with enable := true }
    else if p.shutdown then setPage s page { p with enable := true, reenable := true }
    else startEnable s page
  else if p.enabled then requestShutdown s req page
  else if p.enabling then setPage s page { p with enable := false }
  else if p.shutdown then setPage s page { p with enable := false, reenable := false }
  else s

/-- The QUIESCE field of a write takes effect (R29, R30). -/
def storeQuiesce (s : State) (page : Nat) (on : Bool) : State :=
  let p := getPage s page
  let s := setPage s page { p with quiesce := on, quiesced := p.quiesced && on }
  if p.quiesce && !on then resumeWork s page else s

/-- The LOCK_REQ field of a write takes effect (R42). -/
def storeLockReq (s : State) (page : Nat) (on : Bool) : State :=
  let p := getPage s page
  if on && !p.lock then setPage s page { p with lockReq := true } else s

/-- The fields of an accepted write of PG_CTRL but SOFT_RESET. -/
def ctrlFields (s : State) (req page : Nat) (v : Word) : State :=
  storeLockReq (storeQuiesce (storeEnable s req page (bit v 0)) page (bit v 2)) page (bit v 3)

/-- A write of PG_CTRL that reaches its page (R33, R45). -/
def ctrlStore (s : State) (req page : Nat) (v : Word) : State :=
  let p := getPage s page
  let s := if v &&& ~~~0xF#32 ≠ 0#32 then logError s page 0x0007 req (regAddr page 0x008) else s
  if p.softReset then s
  else if bit v 1 then
    if !p.enabled && !p.shutdown then startSoftReset s page
    else ctrlFields (logError s page 0x0008 req (regAddr page 0x008)) req page v
  else ctrlFields s req page v

/-- A write of PG_CTRL. -/
def writeCtrl (s : State) (req page : Nat) (v : Word) : State :=
  match judgeWrite s req page 0x008 with
  | .stop t => t
  | .go t => settleSigns s (ctrlStore t req page v)

/-- The PG_CTRL word of a page with one field replaced: a write that changes that field alone. -/
def ctrlWith (s : State) (page b : Nat) (on : Bool) : Word := putField (showHeader s page 0x008) b 1 (num on)

/-- ENABLE (R26, R28). -/
def execEnable (req page : Nat) (s : State) : Res := .next (writeCtrl s req page (ctrlWith s page 0 true))

/-- SHUTDOWN (R27). -/
def execShutdown (req page : Nat) (s : State) : Res := .next (writeCtrl s req page (ctrlWith s page 0 false))

/-- SHUTDOWN_DONE (R27, R28). -/
def execShutdownDone (page : Nat) (s : State) : Res := .next (shutdownDone s page)

/-- QUIESCE (R29, R30). -/
def execQuiesce (req page : Nat) (on : Bool) (s : State) : Res := .next (writeCtrl s req page (ctrlWith s page 2 on))

/-- Has a block nothing in flight that a quiesce waits for (R29, R130, R194, R227)? -/
def drained (s : State) (page : Nat) : Bool :=
  match blockOf page with
  | some .svp => !readsOut s
  | some .spw | some .spc | some .swc | some .pol | some .pair => true
  | _ => !workInFlight s page

/-- Nothing remains in flight after a quiesce request (R29); a transport engine has written its cached contexts back
(R130). -/
def quiesceDone (s : State) (page : Nat) : State :=
  let p := getPage s page
  if !(p.enabled && p.quiesce && !p.quiesced) then s
  else
    let s := shutdownClock s page
    if !drained s page then s
    else
      let s := match blockOf page with
        | some .xpt => { s with engines := s.engines.modify (page - 0x028) {} fun e => { e with cache := .empty } }
        | _ => s
      raiseCause (setPage s page { getPage s page with quiesced := true }) page 27

/-- QUIESCE_DONE (R29). -/
def execQuiesceDone (page : Nat) (s : State) : Res := .next (settleVectors (quiesceDone s page))

/-- SOFT_RESET (R33 to R35). -/
def execSoftReset (req page : Nat) (s : State) : Res := .next (writeCtrl s req page (ctrlWith s page 1 true))

/-- SOFT_RESET_DONE (R34, R35). -/
def execSoftResetDone (page : Nat) (s : State) : Res := .next (softResetDone s page)

/-- LOCK_REQ (R42). -/
def execLockReq (req page : Nat) (s : State) : Res := .next (writeCtrl s req page (ctrlWith s page 3 true))

/-- Does the security core grant a lock of a page (R324)? -/
def grantsLock (page : Nat) : Bool :=
  match blockOf page with
  | some .clk | some .pwr | some .fab | some .svp | some .pmt | some .mgt => false
  | _ => true

/-- The security core answers a lock request (R42, R324). -/
def lockAnswer (s : State) (page : Nat) : State :=
  let p := getPage s page
  if !p.lockReq then s
  else
    let s := setPage s page { p with lockReq := false }
    if grantsLock page then lockPage s page else s

/-- LOCK_REQ_ANSWER (R42, R324). -/
def execLockReqAnswer (page : Nat) (s : State) : Res := .next (settleVectors (lockAnswer s page))

/-- A block detects an internal fault (R32): unless it refuses, a shutdown starts. -/
def faultStop (s : State) (page : Nat) : State :=
  let p := getPage s page
  if p.enabled then (if refusesShutdown s page then s else shutdownBegins (pageShutdown s page) page)
  else setPage s page { p with enable := false, reenable := false }

/-- A block of a page that is on detects an internal fault (R32). -/
def internalFault (s : State) (page code addr : Nat) : State :=
  if (blockOf page).isNone || !poweredOn s page then s
  else settleSigns s (faultStop (pageFault s page code addr) page)

end Sys2Proof.Machine
end

