-- ==== Sys2Proof/Machine/Boot.lean ====
section
/-! DEFINITION. Resets, the power-up sequence and the commands of clocks and power domains (R413 to R432). The steps of
Table 16-3 take no time of their own: each is taken as soon as what it waits for has happened (log entry 50). -/
namespace Sys2Proof.Machine

/-- Every defined page. -/
def allPages : List Nat := allBlocks.flatMap fun b => (List.range b.place.2).map (pageOf b ·)

/-! ## The power-up (Table 16-3) -/

/-- The boot is in a step, and the part is not held in reset. -/
def inStage (s : State) (n : Nat) : Bool := s.boot.stage = n && !s.tap.porstLow

/-- The boot goes on to a step. -/
def toStage (s : State) (n : Nat) : State := { s with boot := { s.boot with stage := n, part := 0 } }

/-- The boot stops (R426): FAIL, with the step that failed. -/
def bootFails (s : State) (n : Nat) : State :=
  setCauses { s with boot := { s.boot with stage := 15, failStage := n } } 16

/-- CLOCKS ends as the ramps do. -/
def bootClocks (s : State) : State := if inStage s 2 && s.clk.pllLock && s.clk.atTargets then toStage s 3 else s

/-- SELFCHECK (R43, R333, R339): the checks, the RNG and the alarms, and the locks of five pages. -/
def bootCheck (s : State) : State :=
  if !inStage s 3 then s
  else if !s.boot.checksOk then bootFails s 3
  else
    let mode : SecMode := if !s.sec.pufIntact || s.alarm.zeroized then .zeroized else .ready
    let s := { s with
      boot := { s.boot with romOk := true }
      rng := { s.rng with running := true }
      alarm := { s.alarm with armed := true }
      sec := { s.sec with mode := mode, working := decide (mode = .ready), idHash := Config.idHash } }
    toStage ([keyPage, secPage, almPage, rngPage, bootPage].foldl lockPage s) 4

/-- The bits of PWR_DOM_ON0 and PWR_DOM_ON1 that the ROM sets, and the switching that follows (R421, R423). -/
def switchOn (s : State) (lo hi : Word) : State :=
  serveDomains (setReg (setReg s pwrPage O.PWR_DOM_ON0 (regOf s pwrPage O.PWR_DOM_ON0 ||| lo)) pwrPage O.PWR_DOM_ON1
    (regOf s pwrPage O.PWR_DOM_ON1 ||| hi))

/-- PATCH (R432): the active slot is applied where it passes R429. Then DDR01, DDR23 and PAIR are switched on. -/
def bootPatch (s : State) : State :=
  if !inStage s 4 then s
  else
    let s := match s.boot.activeSet with
      | some p =>
        if p.valid then { s with boot := { s.boot with level := p.level, table := p.table } }
        else alert { s with boot := { s.boot with level := 0, table := [] } } bootPage O.BOOT_ALERT 1
      | none => alert { s with boot := { s.boot with level := 0, table := [] } } bootPage O.BOOT_ALERT 1
    switchOn (toStage s 5) 0#32 0xB#32

/-- The DDR pages. -/
def ddrPages : List Nat := [0x130, 0x131, 0x132, 0x133]

/-- MEMORY and RECOVERY (R226, R360, R387): the channels train, the tables are restored, and heartbeats start. Then every
remaining domain is switched on. -/
def bootMemory (s : State) : State :=
  if !inStage s 5 then s
  else
    let s := if s.boot.part = 0 && [32, 33, 35].all (s.pwr.isOn.contains ·) then
        ddrPages.foldl startEnable { s with boot := { s.boot with part := 1 } }
      else s
    if ddrPages.any fun p => (getPage s p).fault then bootFails s 5
    else if s.boot.part = 1 && ddrPages.all (isEnabled s) then
      let s := toStage { s with boot := { s.boot with mramBad := !s.boot.mramOk } } 7
      let s := startEnable { s with pair := { s.pair with bootAt := some s.time.now } } 0x010
      switchOn s 0xFFFFFFFF#32 0xF#32
    else s

/-- The pages that BRINGUP enables before SVP. A slot power die that cannot be reached is left out (R316). -/
def bringUpPages (s : State) : List Nat := allPages.filter fun p => p ≠ svpPage && (!onDie p || dieReachable s)

/-- The windows that the ROM writes (R427). The manual gives no DRAM address of the staging area: a free value (log entry
2). -/
def bootWindows (s : State) : State :=
  let ring := (regOf s secPage O.SEC_REQ_BASE_LO).toNat + 2 ^ 32 * (regOf s secPage O.SEC_REQ_BASE_HI).toNat
  let (k, s) := draw s
  let stage := Config.freeNat k % (dramSize s / 4096 - 4096) * 4096
  updateSvp s fun p => { p with
    w0 := p.w0.set 0 ⟨pmtPage, 1⟩, w0last := p.w0last.set 0 (pmtPage, 1)
    w2base := (p.w2base.set 0 ring).set 1 stage
    w2 := (p.w2.set 0 { base := ring, size := 64, write := true, valid := true }).set 1
      { base := stage, size := 4096, write := true, valid := true } }

/-- BRINGUP (R50, R296, R427): with all domains on every other block is enabled, the windows are set, and SVP is enabled
last. -/
def bootBringUp (s : State) : State :=
  if !inStage s 7 then s
  else
    let s := if s.boot.part = 0 && (List.range 36).all (s.pwr.isOn.contains ·) then
        (bringUpPages s).foldl startEnable { s with boot := { s.boot with part := 1 } }
      else s
    let s := if s.boot.part = 1 && (bringUpPages s).all (fun p => isEnabled s p || (getPage s p).fault) then
        startEnable (bootWindows { s with boot := { s.boot with part := 2 } }) svpPage
      else s
    if s.boot.part = 2 && (isEnabled s svpPage || (getPage s svpPage).fault) then toStage s 8 else s

/-- The power-up goes as far as it can. -/
def bootProgress (s : State) : State := bootBringUp (bootMemory (bootPatch (bootCheck (bootClocks s))))

/-- What follows a change on which the power-up may wait. -/
def proceed (before after : State) : State := settleSigns before (bootProgress after)

/-- ENABLE_DONE (R26, R30). -/
def execEnableDone (page : Nat) (s : State) : Res := .next (proceed s (enableDone s page))

/-- FAULT (R32). -/
def execFault (page code addr : Nat) (s : State) : Res := .next (proceed s (internalFault s page code addr))

/-! ## Clocks and power domains (R413 to R423) -/

/-- REFCLK counts as present (R414). -/
def refclkPresent (s : State) : State :=
  if s.clk.refclk || s.tap.porstLow then s
  else
    let s := alert { s with clk := { s.clk with refclk := true } } clkPage O.CLK_ALERT 1
    if s.boot.stage = 1 then toStage s 2 else s

/-- REFCLK_PRESENT (R414). -/
def execRefclkPresent (s : State) : Res := .next (proceed s (refclkPresent s))

/-- REFCLK_LOST (R420). -/
def execRefclkLost (s : State) : Res := .next (settleSigns s (refclkLost s))

/-- The root PLL locks, and the ramps begin (R414, R418). -/
def pllLocks (s : State) : State :=
  if !s.clk.refclk || s.clk.pllLock then s
  else rampDown { s with clk := { s.clk with pllLock := true, holdover := false } }

/-- PLL_LOCK (R414). -/
def execPllLock (s : State) : Res := .next (proceed s (pllLocks s))

/-- PLL_UNLOCK (R420). -/
def execPllUnlock (s : State) : Res := .next (settleSigns s (pllUnlocked s))

/-- The clock of a number, in the bit order of CLK_STAT.ON_PLL. -/
def clkOfNumber : Nat → ClkName
  | 0 => .reg | 1 => .time | 2 => .fab | 3 => .cc | _ => .dp

/-- DIVIDER_STEP (R418). -/
def execDividerStep (clock : Nat) (s : State) : Res :=
  onUnit "clock" clock 5 (proceed s (dividerStep s (clkOfNumber clock)))

/-- TRIM_WINDOW (R417). -/
def execTrimWindow (count : Nat) (s : State) : Res := .next (settleVectors (trimWindow s count))

/-- PWR_DOMAIN_WRITE (R421 to R423). -/
def execPwrDomainWrite (req : Nat) (high : Bool) (value : Word) (s : State) : Res :=
  .next (settleSigns s (writeDomains s req high value))

/-- A page whose domain has come on (R422, R47): its reset values, its cycle counter at 0. A DRAM in self-refresh stays so
(R422). -/
def pageComesOn (s : State) (page : Nat) : State :=
  let d := s.ddr.getD (page - 0x130) {}
  let s := resetBlock s page
  let s := { s with regs := s.regs.filter fun k _ => k / 4096 ≠ page }
  let s := setPage s page { resetPage page with cycBase := clockCycles s page }
  if blockOf page = some .ddr && d.selfRefresh then
    { s with ddr := s.ddr.set (page - 0x130) { selfRefresh := true, trained := d.trained } }
  else s

/-- A domain switch ends (R422, R423). -/
def domainDone (s : State) (d : Nat) : State :=
  match s.pwr.switching with
  | some (n, on) =>
    if n ≠ d then s
    else
      let s := { s with pwr := { s.pwr with switching := none } }
      let s := if on then
          (domainPages d).foldl pageComesOn { s with pwr := { s.pwr with
            isOn := (List.range 36).filter fun i => i = d || s.pwr.isOn.contains i } }
        else s
      serveDomains s
  | none => s

/-- DOMAIN_SWITCH_DONE (R422, R423). -/
def execDomainSwitchDone (d : Nat) (s : State) : Res := onUnit "power domain" d 36 (proceed s (domainDone s d))

/-! ## Resets (R424) -/

/-- A clock's cycle counter starts again (R419). -/
def DivClock.restart (c : DivClock) : DivClock := { c with cycles := 0 }

/-- The slot power die's pages as a reset leaves them: their cycle counters count the die's own oscillator. -/
def dieHeaders (now : Tick) : Tab Page := ⟨diePages.map fun p => (p, { resetPage p with cycBase := now / 40 })⟩

/-- A stripe in flight after a reset: what its journal entries say of it (R245, R246). -/
def Fold.afterReset (f : Fold) : Fold := { f with buf := .empty, parity := none, released := false, pagesLeft := [], rows := [] }

/-- A group after a reset: in Winter, with nothing under way (R296). -/
def groupAfterReset (now : Tick) (g : Nat) (x : Group) : Group :=
  { adoptGroup g x with season := .winter, since := now, ramped := 0, idleAt := now, wake := none, wakeWaited := false }

/-- A zone as the tables restore it (R71, R226). -/
def zoneAfterReset (k : Nat) (z : Zone) : Zone := { adoptZone false k z with marks := [], markAll := false, cleared := [] }

/-- A reshape after a reset: it resumes from its last checkpoint (R284). -/
def Reshape.afterReset (r : Reshape) : Reshape :=
  let span := spanSectors r.w r.dual
  { r with bound := r.ckptBound, fresh := r.fresh.filter fun q _ => q * span < r.ckptBound, since := 0, held := false }

/-- A slot link after a reset: its pins, with MRST asserted. -/
def Link.afterReset (now : Tick) (l : Link) : Link := { prsnt := l.prsnt, alert := l.alert, mrstAt := now }

/-- What the security core keeps in MRAM and fuses (R319, R321). -/
def Sec.afterReset (x : Sec) : Sec :=
  { pwk := x.pwk, owner := x.owner, nonce := x.nonce, bound := x.bound, nwk := x.nwk, nsk := x.nsk, tvk := x.tvk
    tvkGen := x.tvkGen, deny := x.deny, ordered := x.ordered, pufIntact := x.pufIntact, log := x.log }

/-- The part as any reset leaves it, but for the always-on domain: MRAM and what is restored from it and from the medium
stay, with the model's own fields; everything else is at reset (R424, log entry 51). -/
def resetAll (s : State) : State :=
  let now := s.time.now
  { pending := s.pending, outs := s.outs, draws := s.draws
    time := { now := now }
    pages := dieHeaders now
    namespaces := s.namespaces.mapVals fun _ n => if n.st = .active then { n with st := .locked } else n
    zones := s.zones.mapVals zoneAfterReset
    stripes := s.stripes
    folds := s.folds.mapVals fun _ f => f.afterReset
    logMap := s.logMap
    cwSeq := s.cwSeq
    modules := s.modules
    history := s.history
    links := s.links.mapVals fun _ l => l.afterReset now
    groups := s.groups.mapVals (groupAfterReset now)
    reshape := s.reshape.map Reshape.afterReset
    losses := s.losses, lossGen := s.lossGen
    journal := s.journal, journalSeq := s.journalSeq
    channels := s.channels.mapVals fun n c => { resetChannel n c with ownSeason := 0, ownWake := false, identified := false }
    die := { linkUp := s.die.linkUp, temp := s.die.temp, uvlo := s.die.uvlo, owner := decide (s.boot.ctrlId % 2 = 0) }
    sec := s.sec.afterReset
    pair := { epoch := s.pair.epoch }
    mram := s.mram
    mrm := { die0 := s.mrm.die0, die1 := s.mrm.die1 }
    svp := s.svp.atReset
    boot := { ctrlId := s.boot.ctrlId, resetAt := now, slotA := s.boot.slotA, slotB := s.boot.slotB, useB := s.boot.useB }
    tap := s.tap }

/-- What a reset command says of the power-up to come. -/
def withOutcomes (s : State) (b : BootInputs) : State :=
  { s with boot := { s.boot with checksOk := b.checksOk, ddrOk := b.ddrOk, mramOk := b.mramOk } }

/-- What the outside sees of a reset: gates that were on turn off, modules go into reset, power-good gone. -/
def resetPins (s t : State) : State :=
  emitAll t ((s.channels.keys.filter fun n => (chanOf s n).gateOn).map (.gate · false) ++
    (s.links.keys.filter fun n => !(linkOf s n).mrst).map (.mrst · true))

/-- Power-on reset (R15, R424): the whole die, the always-on domain included. -/
def powerOnReset (s : State) (b : BootInputs) : State :=
  let id := b.strap % 2
  let t := withOutcomes (resetAll s) b
  let t := { t with
    clk := { fuse := b.trimFuse % 1024, code := b.trimFuse % 1024 }
    alarm := { fuse := b.zeroizeFuse }
    die := { t.die with owner := decide (id = 0) }
    boot := { t.boot with ctrlId := id }
    mgt := { addr := 0x5A + id, tempMain := s.mgt.tempMain }
    tap := { t.tap with porstLow := b.porstLow } }
  let t := setReg t pwrPage O.PWR_RST_CAUSE (oneBit (if b.byPin then 1 else 0))
  notePin s (resetPins s t)

/-- POWER_ON_RESET (R424). -/
def execPowerOnReset (b : BootInputs) (s : State) : Res := .next (powerOnReset s b)

/-- The pages of the always-on domain (Table 16-1). -/
def aonPages : List Nat := [clkPage, pwrPage, almPage, mgtPage]

/-- Device reset (R424): every block outside the always-on domain. The clocks keep their source, and the cycle counters of
the reset blocks and the time base start again (R419). -/
def deviceReset (s : State) (b : BootInputs) : State :=
  let t := withOutcomes (resetAll s) b
  let clk := { s.clk with
    reg := s.clk.reg.restart, time := s.clk.time.restart, fab := s.clk.fab.restart
    cc := s.clk.cc.restart, dp := s.clk.dp.restart }
  let t := { t with
    clk := clk, pwr := s.pwr, mgt := s.mgt, alarm := { s.alarm with armed := false, orderAt := none }
    time := { t.time with base := if clk.time.onPll && clk.time.div = 8 then some 0 else none }
    pages := (s.pages.filter fun p _ => aonPages.contains p).entries.foldl (fun m e => m.set e.1 e.2) t.pages
    regs := s.regs.filter fun k _ => aonPages.contains (k / 4096) }
  let t := setReg t pwrPage O.PWR_RST_CAUSE (oneBit 2)
  let t := if t.clk.refclk then toStage t 2 else t
  proceed s (resetPins s t)

/-- What a write of BOOT_CTRL does: DEVICE_RESET acts from the security core alone (R424, R439). -/
def bootCtrlEffect (req : Nat) (b : BootInputs) (_ after : State) : State :=
  let due := bit (regOf after bootPage O.BOOT_CTRL) 0
  let s := setField after bootPage O.BOOT_CTRL 0 1 0
  if due && req = securityCore then deviceReset s b else s

/-- DEVICE_RESET (R424). -/
def execDeviceReset (req : Nat) (b : BootInputs) (s : State) : Res :=
  .next (writeBlock (bootCtrlEffect req b) s req bootPage O.BOOT_CTRL 1#32)

/-- The outcomes that a device reset ordered by a plain register write takes: those that the last reset named. -/
def lastOutcomes (s : State) : BootInputs :=
  { checksOk := s.boot.checksOk, ddrOk := s.boot.ddrOk, mramOk := s.boot.mramOk }

end Sys2Proof.Machine
end

