-- ==== Sys2Proof/Machine/Registers.lean ====
section
/-! DEFINITION. Register accesses as a requester makes them (R14, R23, R44 to R49), with what a write does in each block, and
the register bus (R375). -/
namespace Sys2Proof.Machine

/-! ## What a write does in its block -/

/-- A write of an MGT register beyond the store (R436, R437). -/
def mgtEffect (off : Nat) (v : Word) (before after : State) : State :=
  if off = O.MGT_SNAP_CTRL then snapEffect v before after
  else if off = O.MGT_SNAP_DATA then snapStore v before after
  else if off = O.MGT_CAUSE then clearCauses after (field v 0 6)
  else if off = O.MGT_CAUSE_SET then causeSetEffect v before after
  else if off = O.MGT_CFG then notePin before after
  else after

/-- A write of a PMT register beyond the store (R444, R446). -/
def pmtEffect (off : Nat) (before after : State) : State :=
  if off = O.PMT_SEED then seedEffect before after
  else if off = O.PMT_RD then { after with trace := { after.trace with full := false } }
  else after

/-- A write of a ZSQ register beyond the store (chapters 09 to 11). -/
def zsqEffect (off : Nat) (before after : State) : State :=
  if off = O.ZSQ_GRP_CMD then grpCmdEffect before after
  else if off = O.ZSQ_SPARE_LO then spareEffect 0 32 before after
  else if off = O.ZSQ_SPARE_HI then spareEffect 32 16 before after
  else if off = O.ZSQ_MBR_CMD then mbrCmdEffect before after
  else if off = O.ZSQ_RSH_CMD then rshCmdEffect before after
  else if off = O.ZSQ_SEASON_CFG || off = O.ZSQ_SEASON_RSV then seasonCfgEffect before after
  else if off = O.ZSQ_SEASON_CMD then seasonCmdEffect before after
  else after

/-- A channel's halt ends (R381). -/
def resumeDma (s : State) (n : Nat) : State :=
  { s with dma := s.dma.modify n {} fun c => { c with halt := false, cause := 0 } }

/-- A write of a DMA register beyond the store: RESUME clears HALT and itself (R381). -/
def dmaEffect (n off : Nat) (_ after : State) : State :=
  if off = O.DMA_CTRL && bit (regOf after (0x118 + n) off) 0 then
    resumeDma (setReg after (0x118 + n) off 0#32) n
  else after

/-- A write of a power domain register beyond the store. -/
def pwrEffect (off : Nat) (before after : State) : State :=
  if off = O.PWR_DOM_ON0 then domainEffect off 0 before after
  else if off = O.PWR_DOM_ON1 then domainEffect off 32 before after
  else after

/-- A write of a KEY register beyond the store (R325, R326). -/
def keyEffect (req off : Nat) (before after : State) : State :=
  if off = O.KEY_LOCK then keyLockEffect before after
  else if off = O.KEY_LOAD then keyLoadEffect req before after
  else after

/-- What a write of a block register does beyond the store, by block. -/
def blockEffect (req page off : Nat) (v : Word) (before after : State) : State :=
  match blockOf page with
  | some .pwr => pwrEffect off before after
  | some .time => timeEffect off before after
  | some .boot => if off = O.BOOT_CTRL then bootCtrlEffect req (lastOutcomes before) before after else after
  | some .key => keyEffect req off before after
  | some .alm => if off = O.ALM_CFG then almCfgEffect before after else after
  | some .pair =>
    if off = O.PAIR_KICK then kickEffect before after
    else if off = O.PAIR_DRILL_CMD then drillCmdEffect before after
    else after
  | some .net => netEffect (page - 0x020) off before after
  | some .xpt => xptEffect (page - 0x028) off before after
  | some .swc => swcEffect off before after
  | some .pol => if off = O.POL_CMD then polCmdEffect before after else after
  | some .egs => egsEffect (page - 0x038) off before after
  | some .zsq => zsqEffect off before after
  | some .mlx => mlxEffect (page - 0x060) off before after
  | some .mlk => if off = O.MLK_SB_CTRL then mrstEffect (page - 0x080) before after else after
  | some .spw => if off = O.SPW_CMD then spwCmdEffect (page - 0x0C1) before after else after
  | some .cry => if off = O.CRY_CFG then dispatchJobs after else after
  | some .fab => fabEffect off v before after
  | some .dma => dmaEffect (page - 0x118) off before after
  | some .svp => svpEffect off v before after
  | some .pmt => pmtEffect off before after
  | some .mgt => mgtEffect off v before after
  | _ => after

/-! ## Accesses -/

/-- A write of a register of a page. -/
def writePage (s : State) (req page off : Nat) (v : Word) : State :=
  if off = 0x008 then writeCtrl s req page v
  else if off < 0x100 then settleSigns s (writeHeader s req page off v)
  else settleSigns s (writeBlock (blockEffect req page off v) s req page off v)

/-- A read of a register of a page: the value goes out as the response. -/
def readPage (s : State) (req page off : Nat) : State :=
  if off < 0x100 then readHeader s req page off
  else match blockOf page with
    | some .time => readTimeReg s req off
    | some .swc => readWith (swcReadEffect off) (fun t => showReg t page off) s req page off
    | some .key =>
      if off = O.KEY_LOCK then readWith (keyLockTaken req) (keyLockValue req) s req page off
      else readWith id (fun t => showReg t page off) s req page off
    | some .rng =>
      if off = O.RNG_OUT then readWith rngTaken rngValue s req page off
      else readWith id (fun t => showReg t page off) s req page off
    | some .mgt =>
      if off = O.MGT_SNAP_DATA then readWith snapAdvance (fun t => showReg t page off) s req page off
      else readWith id (fun t => showReg t page off) s req page off
    | _ => readWith id (fun t => showReg t page off) s req page off

/-- The requester gets an access error from the fabric's decode: no target at the address (R367). -/
def decodeError (s : State) (req addr : Nat) : State :=
  emit (alert (logError s fabPage 0x0100 req addr) fabPage O.FAB_ALERT 2) (.accessError req addr)

/-- The codes of an access that is not one aligned 32-bit access (R44). -/
def shapeCodes (addr size : Nat) : List Nat :=
  (if addr % 4 ≠ 0 then [0x0002] else []) ++ (if size ≠ 4 then [0x0003] else [])

/-- An access that R44 rejects: logged in FAB, answered with an access error, a read with zero. -/
def badAccess (s : State) (req addr size : Nat) (write : Bool) : State :=
  let s := (shapeCodes addr size).foldl (fun s c => fabError s c req addr) s
  let s := emit s (.accessError req addr)
  if write then s else emit s (.readValue req addr 0#32)

/-- A 32-bit register write to an internal address. -/
def busWrite (s : State) (req addr : Nat) (v : Word) : State :=
  match splitAddr addr with
  | none => decodeError s req addr
  | some (page, off) => if off % 4 ≠ 0 then badAccess s req addr 4 true else writePage s req page off v

/-- A 32-bit register read at an internal address. -/
def busRead (s : State) (req addr : Nat) : State :=
  match splitAddr addr with
  | none => emit (decodeError s req addr) (.readValue req addr 0#32)
  | some (page, off) => if off % 4 ≠ 0 then badAccess s req addr 4 false else readPage s req page off

/-- The value of the read that has just been answered. -/
def lastRead (s : State) : Word :=
  match s.outs with
  | .readValue _ _ v :: _ => v
  | _ => 0#32

/-- Does an aligned access to an address get an access-error response (R44, R316)? -/
def accessFails (s : State) (addr : Nat) : Bool :=
  match splitAddr addr with
  | none => true
  | some (page, _) => onDie page && !dieReachable s

/-- REGISTER_WRITE (R45). -/
def execRegisterWrite (req addr : Nat) (v : Word) (s : State) : Res := .next (busWrite s req addr v)

/-- Does an address name a counter that a write of 0 clears (R116 and the like)? -/
def counterAt (addr : Nat) : Bool :=
  match splitAddr addr with
  | none => false
  | some (page, off) =>
    match blockOf page with
    | none => false
    | some b => ((regAt b page off).map (·.1.counter)).getD false

/-- COUNTER_WRITE (R116 and the like): a write of 0 clears a counter, any other value leaves it. -/
def execCounterWrite (req addr : Nat) (v : Word) (s : State) : Res :=
  .next (if counterAt addr then busWrite s req addr v else s)

/-- INVALID_REGISTER_ACCESS (R44). -/
def execInvalidRegisterAccess (req addr size : Nat) (write : Bool) (s : State) : Res :=
  .next (if shapeCodes addr size = [] then s else badAccess s req addr size write)

/-! ## The register bus (R48, R49, R375) -/

/-- The id that an access carries in errors and in the same-cycle order: key path accesses that of the security core
(R370). -/
def carriedId (req : Nat) : Nat := if req = 0x48 then 0x10 else req

/-- Place of a requester in the same-cycle order of Table 2-8. -/
def cycleRank (req : Nat) : Nat :=
  let id := carriedId req
  if id = 0x20 then 0
  else if 0x30 ≤ id && id ≤ 0x3F then id - 0x2F
  else if id = 0x40 then 17
  else if id ≤ 0x0F then 18 + id
  else 34

/-- Accesses in the order of Table 2-8; equal ranks keep their order. -/
def insertRank (a : BusAccess) : List BusAccess → List BusAccess
  | [] => [a]
  | b :: r => if cycleRank a.req < cycleRank b.req then a :: b :: r else b :: insertRank a r

/-- The accesses of one cycle in order. -/
def inCycleOrder (l : List BusAccess) : List BusAccess := l.foldl (fun acc a => insertRank a acc) []

/-- Does a write reach its register? -/
def writeLands (s : State) (a : BusAccess) : Bool :=
  match splitAddr a.addr with
  | none => false
  | some (page, off) =>
    a.addr % 4 = 0 && match judgeWrite s (carriedId a.req) page off with
      | .go _ => true
      | .stop _ => false

/-- Is a register one of those whose last write of a cycle sets the stored value: no W1C, WO or counter (R48)? -/
def lastWins (addr : Nat) : Bool :=
  match splitAddr addr with
  | none => false
  | some (page, off) =>
    if off < 0x100 then off = 0x008 || off = 0x014 || off = 0x048 || (0x050 ≤ off && off ≤ 0x08C) || off = 0x0C0
    else match blockOf page with
      | none => false
      | some b => ((regAt b page off).map fun d =>
          !d.1.counter && d.1.fields.all fun f => decide (f.acc ≠ .w1c ∧ f.acc ≠ .wo)).getD false

/-- A write that a later one of its cycle overwrites: it is judged and logged, and has no effect (R48). -/
def quietWrite (s : State) (a : BusAccess) : State :=
  match splitAddr a.addr with
  | none => s
  | some (page, off) =>
    let req := carriedId a.req
    match judgeWrite s req page off with
    | .stop t => t
    | .go t =>
      if off < 0x100 then
        if headerReserved page off a.value then logError t page 0x0007 req (regAddr page off) else t
      else
        let u := storeBlock t req page off a.value
        { u with regs := t.regs }

/-- The writes of one cycle take effect in order. -/
def cycleWrites : List BusAccess → State → State
  | [], s => s
  | a :: rest, s =>
    let excess := lastWins a.addr && rest.any fun b => b.addr = a.addr && writeLands s b
    cycleWrites rest (if excess then quietWrite s a else busWrite s (carriedId a.req) a.addr a.value)

/-- The accesses granted in one cycle: reads return what stood before the cycle's writes (R49). -/
def cycleAccesses (s : State) (l : List BusAccess) : State :=
  let order := inCycleOrder l
  let s := (order.filter fun a => !a.write).foldl (fun s a => busRead s (carriedId a.req) a.addr) s
  cycleWrites (order.filter fun a => a.write) s

/-- An access is presented at the register bus: accesses of one requester keep their order (R46, R375). -/
def presentAccess (s : State) (a : BusAccess) : State :=
  if !usesArbiter a.req 5 then s
  else
    let r := requesterOf s 5 a.req
    let r' := if r.accesses = [] then r.start 4 (arbiterCycle s 5) else r
    setRequester s 5 a.req { r' with accesses := r.accesses ++ [a] }

/-- Up to n requesters chosen for a cycle, one access each: the privileged ones first, then by class and round robin
(R375). -/
def chooseBus : Nat → State → List Nat → List Nat × State
  | 0, s, _ => ([], s)
  | n + 1, s, cs =>
    let top := topClass s 5 cs
    match winnerOf s 5 top cs with
    | none => ([], s)
    | some w =>
      let a := arbiterOf s 5
      let s := setArbiter s 5 { a with rr := a.rr.set top (w + 1) }
      let (ws, t) := chooseBus n s (cs.filter (· ≠ w))
      (w :: ws, t)

/-- A requester is granted its first access; its next one begins to wait. -/
def grantBus (s : State) (c : Nat) : State :=
  let r := requesterOf s 5 c
  let now := arbiterCycle s 5
  let rest := r.accesses.drop 1
  let r := { r with
    losses := 0, backoff := none, accesses := rest, maxw := min 0xFFFFFFFF (max r.maxw (now - r.since))
    grants := min 0xFFFFFFFF (r.grants + 1) }
  let r := if rest = [] then { r with want := 0 } else r.start 4 now
  pmcEvent (setRequester s 5 c r) fabPage 0x100 1

/-- One REG cycle of the register bus (R375). -/
def busCycle (s : State) (arrivals : List BusAccess) : State :=
  let s := checkAlarms (arrivals.foldl presentAccess s) 5
  let cs := (candidates s 5).filter fun c => (requesterOf s 5 c).accesses ≠ []
  let (ws, s) := chooseBus 4 s cs
  let granted := ws.filterMap fun c => (requesterOf s 5 c).accesses.head?
  let s := (cs.filter fun c => !ws.contains c).foldl (lose 5) s
  cycleAccesses (ws.foldl grantBus s) granted

/-- REGISTER_BUS_ARBITRATION (R48, R49, R375). -/
def execRegisterBusArbitration (arrivals : List BusAccess) (s : State) : Res := .next (busCycle s arrivals)

/-! ## DMA registers -/

/-- DMA_TAIL_WRITE (R376). -/
def execDmaTailWrite (req n : Nat) (v : Word) (s : State) : Res :=
  onUnit "DMA channel" n 16 (writePage s req (0x118 + n) O.DMA_TAIL v)

/-- DMA_RESUME (R381). -/
def execDmaResume (req n : Nat) (s : State) : Res :=
  onUnit "DMA channel" n 16 (writePage s req (0x118 + n) O.DMA_CTRL 1#32)

end Sys2Proof.Machine
end

