-- ==== Sys2Proof/Machine/Dma.lean ====
section
/-! DEFINITION. The memories as requesters reach them (R367, R385, R391), outbound requests of the service port (R403), and
the DMA channels (R376 to R382, R406). -/
namespace Sys2Proof.Machine

/-! ## Memories -/

/-- The targets of Table 14-1, with the address inside the target. -/
inductive Target
  | localMemory
  | control
  | mram (off : Nat)
  | dram (a : Nat)
  | outbound
  | nothing
  deriving DecidableEq, Repr

/-- The target of an internal address (R367, R368). -/
def targetOf (s : State) (a : Nat) : Target :=
  if a < 0x80000000 then .localMemory
  else if a < 0x82000000 then .control
  else if 0xC0000000 ≤ a && a < 0xD0000000 then .mram (a - 0xC0000000)
  else if 0x1000000000 ≤ a && a < 0x1000000000 + dramSize s then .dram (a - 0x1000000000)
  else if 0x800000000000 ≤ a && a < 0x1000000000000 then .outbound
  else .nothing

/-- The first poisoned word that a DRAM range meets. -/
def poisonIn (s : State) (a n : Nat) : Option Nat :=
  s.poison.find? fun w => decide (a < w * 8 + 8 ∧ w * 8 < a + n)

/-- A DRAM read: the bytes, or none where it meets a poisoned word (R385). -/
def dramFetch (s : State) (req a n : Nat) : Option (List Byte) × State :=
  let page := ddrPage (dramChannel a)
  let s := pmcEvent s page 0x100 1
  match poisonIn s a n with
  | some w => (none, alert (bump (logError s page 0x0100 req (w * 8)) page O.DDR_UE_CNT) page O.DDR_ALERT 1)
  | none => (some (readBytes s.dram a n), s)

/-- A DRAM write by a requester. -/
def dramStore (s : State) (a : Nat) (bs : List Byte) : State :=
  dramWrite (pmcEvent s (ddrPage (dramChannel a)) 0x101 1) a bs

/-- MRM refuses an access (R391). -/
def mramRefuses (s : State) (req off : Nat) : State :=
  alert (bump (logError s mrmPage 0x0101 req off) mrmPage O.MRM_PERM_CNT) mrmPage O.MRM_ALERT 2

/-- The key store of MRAM (Table 14-7). -/
def inKeyStore (off n : Nat) : Bool := off < 0xC200000 && 0xC000000 < off + n

/-- Bytes of MRAM from an offset at the k-th draw: a byte that is not listed is a free value (R388, log entry 13). -/
def mramBytes (s : State) (k off n : Nat) : List Byte :=
  (List.range n).map fun i => (findKey (off + i) s.mram).getD (Config.mramByte k (off + i))

/-! ## Outbound requests (R403) -/

/-- The PCIe address of an internal address (R403). -/
def pcieAddr (s : State) (a : Nat) : Nat := regField s svpPage O.SVP_OB_BASE 0 17 * 2 ^ 47 + a % 2 ^ 47

/-- How many outbound reads are outstanding. -/
def readsCount (s : State) : Nat :=
  (s.svp.tags.values.filter fun | .reading .. => true | .quarantine _ => false).length

/-- SVP_CPL_TMO.US in ticks. -/
def cplTicks (s : State) : Nat := regField s svpPage O.SVP_CPL_TMO 0 16 * ticksUs

/-- An outbound write leaves as a TLP (R403). -/
def outboundWrite (s : State) (a : Nat) (data : List Byte) : State :=
  sendTlp (leaveL1 s) (.memWrite (pcieAddr s a) data)

/-- An outbound read leaves under a tag (R403, R404). -/
def outboundRead (s : State) (who : OutReq) (a len tag : Nat) : State :=
  let s := updateSvp s fun p => { p with
    tags := p.tags.set tag (.reading who a len 0 (s.time.now + cplTicks s)), flrTags := p.flrTags.filter (· ≠ tag) }
  sendTlp (leaveL1 s) (.memRead (pcieAddr s a) len tag)

/-- The lowest tag that is free, where another read may be outstanding (Table 15-1). -/
def nextTag (s : State) : Option Nat :=
  if 256 ≤ readsCount s then none else (List.range 1024).find? fun t => !s.svp.tags.has t

/-! ## Reads and writes of a channel (R378, R379) -/

/-- The page and the requester id of a channel. -/
abbrev dmaPage (n : Nat) : Nat := 0x118 + n
abbrev dmaReq (n : Nat) : Nat := 0x30 + n

/-- Beat width of a code. -/
def beatBytes : Nat → Nat
  | 0 => 8 | 1 => 16 | _ => 64

/-- 32-bit register reads: n of them from an address, `stepBy` apart. -/
def dmaRegReads (s : State) (req a stepBy : Nat) : Nat → Option (List Byte) × State
  | 0 => (some [], s)
  | n + 1 =>
    if accessFails s a then (none, busRead s req a)
    else
      let t := busRead s req a
      let v := leBytes 4 (lastRead t).toNat
      let (r, u) := dmaRegReads t req (a + stepBy) stepBy n
      (r.map (v ++ ·), u)

/-- 32-bit register writes of the bytes of a list, `stepBy` apart: false where one got an access error. -/
def dmaRegWrites (req stepBy : Nat) : List (List Byte) → Nat → State → Bool × State
  | [], _, s => (true, s)
  | w :: rest, a, s =>
    if accessFails s a then (false, busWrite s req a (Word.ofNum (leNat w)))
    else dmaRegWrites req stepBy rest (a + stepBy) (busWrite s req a (Word.ofNum (leNat w)))

/-- A byte list cut into parts of a length. -/
def parts (w : Nat) : Nat → List Byte → List (List Byte)
  | 0, _ => []
  | k + 1, bs => if bs = [] then [] else bs.take w :: parts w k (bs.drop w)

/-- One source request: the bytes, or a status of Table 14-6. -/
inductive Fetched
  | bytes (bs : List Byte)
  | bad (status : Nat)
  deriving DecidableEq, Repr

/-- A status as it results from a failed fetch. -/
def fetchedOr (status : Nat) : Option (List Byte) → Fetched
  | some bs => .bytes bs
  | none => .bad status

/-- A source request of n bytes at an address, not outbound: `fixed` is the beat width of a fixed side, 0 for an
incrementing one. A fixed side's beats all read the one address (R378). -/
def dmaFetch (s : State) (chan a n fixed : Nat) : Fetched × State :=
  let req := dmaReq chan
  let one := if fixed = 0 then n else min n fixed
  let spread (bs : List Byte) : List Byte := if fixed = 0 then bs else (List.replicate (n / fixed) bs).flatten
  match targetOf s a with
  | .control =>
    let (r, t) := dmaRegReads s req a (if fixed = 0 then 4 else 0) (n / 4)
    (fetchedOr 0x03 r, t)
  | .dram d =>
    if dramSize s < d + one then (.bad 0x01, decodeError s req a)
    else
      let (r, t) := dramFetch s req d one
      (fetchedOr 0x02 (r.map spread), t)
  | .mram off =>
    if inKeyStore off one then (.bad 0x0A, mramRefuses s req off)
    else
      let (k, t) := draw s
      (.bytes (spread (mramBytes s k off one)), pmcEvent t mrmPage 0x100 1)
  | _ => (.bad 0x01, decodeError s req a)

/-- The status of a write that leaves no error. -/
abbrev dmaOk : Nat := 0

/-- A destination request: a status of Table 14-6. MASTER_DISABLED where an outbound write may not be issued (R381). -/
def dmaStore (s : State) (chan a fixed : Nat) (bs : List Byte) : Nat × State :=
  let req := dmaReq chan
  let last := if fixed = 0 then bs else bs.drop (bs.length - fixed)
  match targetOf s a with
  | .control =>
    let (ok, t) := dmaRegWrites req (if fixed = 0 then 4 else 0) (parts 4 bs.length bs) a s
    (if ok then dmaOk else 0x03, t)
  | .dram d =>
    if dramSize s < d + last.length then (0x01, decodeError s req a) else (dmaOk, dramStore s d last)
  | .mram off => (0x0A, mramRefuses s req off)
  | .outbound =>
    if !portMayIssue s then (0x06, s)
    else if fixed = 0 then (dmaOk, outboundWrite s a bs)
    else (dmaOk, (parts fixed bs.length bs).foldl (fun s b => outboundWrite s a b) s)
  | _ => (0x01, decodeError s req a)

/-! ## Descriptors (R377 to R380) -/

/-- The channel. -/
def dmaOf (s : State) (n : Nat) : DmaChan := s.dma.getD n {}

/-- The state with a channel replaced. -/
def setDma (s : State) (n : Nat) (c : DmaChan) : State := { s with dma := s.dma.set n c }

/-- The state with a channel's descriptor replaced. -/
def setDesc (s : State) (n : Nat) (d : DmaDesc) : State := setDma s n { dmaOf s n with desc := some d }

/-- LENGTH in bytes. -/
def DmaDesc.bytes (d : DmaDesc) : Nat := d.length % 2 ^ 24

/-- Beat width of a fixed source or destination, 0 where it increments. -/
def DmaDesc.srcFixed (d : DmaDesc) : Nat := if bit d.ctrl 4 then beatBytes (field d.ctrl 0 2) else 0
def DmaDesc.dstFixed (d : DmaDesc) : Nat := if bit d.ctrl 5 then beatBytes (field d.ctrl 2 2) else 0

/-- Does a descriptor hold an invalid field (Tables 14-4 and 14-5, R378)? -/
def DmaDesc.badField (d : DmaDesc) : Bool :=
  2 ^ 48 ≤ d.src || 2 ^ 48 ≤ d.dst || 2 ^ 24 ≤ d.length || d.length = 0 ||
  decide (d.ctrl &&& 0x7FFFF800#32 ≠ 0#32) || field d.ctrl 6 2 = 3 || field d.ctrl 0 2 = 3 || field d.ctrl 2 2 = 3 ||
  (!bit d.ctrl 8 && bit d.ctrl 5)

/-- Does one side break an alignment or length rule (R378)? -/
def sideMisaligned (s : State) (a fixed len : Nat) : Bool :=
  (fixed ≠ 0 && (a % fixed ≠ 0 || len % fixed ≠ 0)) || (targetOf s a = .control && (a % 4 ≠ 0 || len % 4 ≠ 0))

/-- The status with which a descriptor is written back before any byte moves (R377). -/
def checkDesc (s : State) (d : DmaDesc) : Option Nat :=
  if !bit d.ctrl 31 then some 0x09
  else if d.badField then some 0x04
  else if sideMisaligned s d.src d.srcFixed d.bytes || sideMisaligned s d.dst d.dstFixed d.bytes then some 0x05
  else none

/-- One bit and one byte of CRC-64/ECMA-182 (R379). -/
def crc64Bit (c : Nat) : Nat := if c.testBit 63 then (c * 2 % 2 ^ 64) ^^^ 0x42F0E1EBA9EA3693 else c * 2
def crc64Byte (c : Nat) (b : Byte) : Nat :=
  crc64Bit (crc64Bit (crc64Bit (crc64Bit (crc64Bit (crc64Bit (crc64Bit (crc64Bit (c ^^^ b.toNat * 2 ^ 56))))))))

/-- CRC-64/ECMA-182 of bytes (R379). -/
def crc64 (bs : List Byte) : Nat := bs.foldl crc64Byte 0

/-- Bytes are written to the destination: they count as moved (Table 17-2, DMA_MIB_CNT). -/
def dmaMoved (s : State) (chan : Nat) (d : DmaDesc) (bs : List Byte) : State :=
  let c := dmaOf s chan
  let b := c.bytes + bs.length
  let s := setDma s chan { c with
    bytes := b % 2 ^ 20
    desc := some { d with moved := d.moved + bs.length, stream := if field d.ctrl 6 2 = 0 then [] else d.stream ++ bs } }
  let s := pmcEvent s (dmaPage chan) 0x101 (b / 64 - c.bytes / 64)
  if 2 ^ 20 ≤ b then bumpBy s (dmaPage chan) O.DMA_MIB_CNT (b / 2 ^ 20) else s

/-- A piece of the block goes to its destination. -/
def dmaDeliver (s : State) (chan : Nat) (d : DmaDesc) (bs : List Byte) : State :=
  let a := if d.dstFixed = 0 then d.dst + d.moved else d.dst
  let (st, t) := dmaStore s chan a d.dstFixed bs
  if st = dmaOk then dmaMoved t chan d bs
  else setDesc t chan { d with status := some st, disabled := d.disabled || st = 0x06 }

/-- The whole block has been moved: the CRC goes where CRC_PLACE says (R379). -/
def dmaFinish (s : State) (chan : Nat) (d : DmaDesc) : State :=
  let kind := field d.ctrl 6 2
  let crc := if kind = 1 then crc32c d.stream else crc64 d.stream
  if kind = 0 then setDesc s chan { d with status := some dmaOk }
  else if bit d.ctrl 8 then setDesc s chan { d with status := some dmaOk, result := crc }
  else
    let (st, t) := dmaStore s chan (d.dst + d.bytes) 0 (leBytes (if kind = 1 then 4 else 8) crc)
    setDesc t chan { d with status := some st, disabled := d.disabled || st = 0x06 }

/-- The pieces of a block whose source is not outbound are moved until the block or the descriptor ends. -/
def dmaPump (chan : Nat) : Nat → State → State
  | 0, s => s
  | k + 1, s =>
    match (dmaOf s chan).desc with
    | none => s
    | some d =>
      if d.status.isSome then s
      else if d.moved = d.bytes then dmaFinish s chan d
      else
        let n := min 128 (d.bytes - d.moved)
        let (r, t) := dmaFetch s chan (if d.srcFixed = 0 then d.src + d.moved else d.src) n d.srcFixed
        match r with
        | .bad st => setDesc t chan { d with status := some st }
        | .bytes bs => dmaPump chan k (dmaDeliver t chan d bs)

/-- A descriptor of an outbound source ends once none of its reads is outstanding (R406). -/
def dmaSettle (s : State) (chan : Nat) : State :=
  match (dmaOf s chan).desc with
  | none => s
  | some d =>
    if !d.reads.isEmpty then s
    else if d.status.isSome then s
    else if d.disabled then setDesc s chan { d with status := some 0x06 }
    else if d.moved = d.bytes then dmaFinish s chan d
    else s

/-- The next outbound read of a descriptor is issued: MASTER_DISABLED where it may not be (R381, R403, R406). -/
def dmaAsk (s : State) (chan : Nat) (d : DmaDesc) : State :=
  if d.asked = d.bytes || d.disabled || d.reads.any (·.failed) then s
  else if !portMayIssue s then dmaSettle (setDesc s chan { d with disabled := true }) chan
  else match nextTag s with
    | none => s
    | some tag =>
      let n := min (if d.srcFixed = 0 then 128 else d.srcFixed) (d.bytes - d.asked)
      let a := if d.srcFixed = 0 then d.src + d.asked else d.src
      outboundRead (setDesc s chan { d with
        asked := d.asked + n, reads := d.reads ++ [{ tag := tag, off := d.asked, len := n }] }) (.dma chan) a n tag

/-- The reads of a descriptor that have ended leave in order: data goes to the destination, and after one that failed
nothing more does. -/
def dmaDrain (chan : Nat) : Nat → State → State
  | 0, s => s
  | k + 1, s =>
    match (dmaOf s chan).desc with
    | none => s
    | some d =>
      match d.reads with
      | [] => dmaSettle s chan
      | r :: rest =>
        match r.data with
        | none => if r.failed then dmaDrain chan k (setDesc s chan { d with reads := rest }) else s
        | some bs =>
          let e := { d with reads := rest }
          dmaDrain chan k (if d.status.isSome then setDesc s chan e else dmaDeliver (setDesc s chan e) chan e bs)

/-- A read of a descriptor has ended: with its data, or with a status. TIMEOUT goes before what else ended the descriptor
(R404, R406). -/
def dmaReadEnds (s : State) (chan tag : Nat) (data : Option (List Byte)) (status : Nat) : State :=
  match (dmaOf s chan).desc with
  | none => s
  | some d =>
    let reads := d.reads.map fun r =>
      if r.tag = tag then { r with data := data.map (r.got ++ ·), failed := data.isNone } else r
    let st := if data.isSome then d.status else if status = 0x07 then some 0x07 else some (d.status.getD status)
    dmaDrain chan (d.reads.length + 1) (setDesc s chan { d with reads := reads, status := st })

/-- A completion brings part of a read's data. -/
def dmaReadPart (s : State) (chan tag : Nat) (data : List Byte) : State :=
  match (dmaOf s chan).desc with
  | none => s
  | some d => setDesc s chan { d with
      reads := d.reads.map fun r => if r.tag = tag then { r with got := r.got ++ data } else r }

/-- The channel halts (R380, R381). -/
def dmaHalt (s : State) (chan cause : Nat) : State :=
  alert (setDma s chan { dmaOf s chan with halt := true, cause := cause }) (dmaPage chan) O.DMA_ALERT 2

/-- A descriptor fetch or write-back fails (R380). -/
def ringFault (s : State) (chan : Nat) : State :=
  let c := dmaOf s chan
  dmaHalt (logError (setDma s chan { c with desc := none }) (dmaPage chan) 0x0101 0xFF c.head) chan 2

/-- DRAM address of descriptor HEAD (R376). -/
def descAddr (s : State) (chan : Nat) : Nat :=
  let p := dmaPage chan
  (regOf s p O.DMA_RING_LO).toNat + 2 ^ 32 * (regOf s p O.DMA_RING_HI).toNat +
    (dmaOf s chan).head % 2 ^ regField s p O.DMA_RING_SIZE 0 5 * 32

/-- A descriptor from its 32 bytes (Table 14-4). -/
def parseDesc (count addr : Nat) (bs : List Byte) : DmaDesc :=
  { count := count, addr := addr, src := leField bs 0 8, dst := leField bs 8 8, length := leField bs 16 4
    ctrl := Word.ofNum (leField bs 20 4) }

/-- Descriptor HEAD is fetched and checked, and its block moved as far as it goes by itself (R376 to R379). -/
def dmaStart (s : State) (chan : Nat) : State :=
  let a := descAddr s chan
  if dramSize s < a + 32 then ringFault (decodeError s (dmaReq chan) (0x1000000000 + a)) chan
  else
    let (r, s) := dramFetch s (dmaReq chan) a 32
    match r with
    | none => ringFault s chan
    | some bs =>
      let d := parseDesc (dmaOf s chan).head a bs
      match checkDesc s d with
      | some st => setDesc s chan { d with status := some st }
      | none =>
        let s := setDesc s chan d
        if targetOf s d.src = .outbound then dmaAsk s chan d else dmaPump chan (d.bytes / 8 + 2) s

/-- A channel works: it fetches descriptor HEAD, or goes on with the one in progress (R376). -/
def dmaWork (s : State) (chan : Nat) : State :=
  let c := dmaOf s chan
  match c.desc with
  | some d =>
    if d.status.isSome || targetOf s d.src ≠ .outbound then s else dmaAsk s chan d
  | none =>
    if !accepting s (dmaPage chan) || c.halt || c.head = (regOf s (dmaPage chan) O.DMA_TAIL).toNat then s
    else dmaStart s chan

/-- DMA_DESCRIPTOR (R376 to R379). -/
def execDmaDescriptor (n : Nat) (s : State) : Res := onUnit "DMA channel" n 16 (dmaWork s n)

/-- RESULT of a descriptor: 0 unless the CRC goes there; of a bad one the manual gives no CRC, and it is free (R380, log
entry 2). -/
def descResult (s : State) (d : DmaDesc) (st : Nat) : Nat × State :=
  if st = dmaOk || !bit d.ctrl 8 || field d.ctrl 6 2 = 0 then (d.result, s)
  else
    let (k, s) := draw s
    (Config.freeNat k % 2 ^ (if field d.ctrl 6 2 = 1 then 32 else 64), s)

/-- Is a descriptor bad: counted, logged and raised (R380)? -/
def noteBad (s : State) (chan : Nat) (d : DmaDesc) (st : Nat) : State :=
  if st = dmaOk then s
  else
    let p := dmaPage chan
    alert (bump (logError s p 0x0100 0xFF (d.count + st * 2 ^ 32)) p O.DMA_BAD_CNT) p O.DMA_ALERT 1

/-- A descriptor that has ended is written back, HEAD advances, and the channel halts where it must (R380, R381). -/
def dmaWriteBack (s : State) (chan : Nat) (ok : Bool) : State :=
  match (dmaOf s chan).desc with
  | none => s
  | some d =>
    match d.status with
    | none => s
    | some st =>
      if !d.reads.isEmpty then s
      else if !ok || dramSize s < d.addr + 32 then ringFault s chan
      else
        let p := dmaPage chan
        let (res, s) := descResult s d st
        let ctrl := putField (putField d.ctrl 31 1 0) 16 8 st
        let s := dramStore s (d.addr + 16) (leBytes 4 d.length ++ leBytes 4 ctrl.toNat ++ leBytes 8 res)
        let c := dmaOf s chan
        let s := setDma s chan { c with desc := none, last := st, head := (c.head + 1) % 2 ^ 32 }
        let s := pmcEvent (bump s p O.DMA_DESC_CNT) p 0x100 1
        let s := noteBad s chan d st
        let s := if bit d.ctrl 9 then alert s p O.DMA_ALERT 0 else s
        if d.disabled then dmaHalt s chan 1 else if bit d.ctrl 10 then dmaHalt s chan 3 else s

/-- DMA_WRITEBACK (R380). -/
def execDmaWriteback (n : Nat) (ok : Bool) (s : State) : Res := onUnit "DMA channel" n 16 (dmaWriteBack s n ok)

end Sys2Proof.Machine
end

