-- ==== Sys2Proof/Machine/Svp.lean ====
section
/-! DEFINITION. The requests and completions that the service port receives, and the outbound requests of control cores
(R395 to R405). -/
namespace Sys2Proof.Machine

/-- May the port take a TLP: its domain on and its data link up? -/
def hears (s : State) : Bool := poweredOn s svpPage && s.svp.up

/-- May the port take a request (R29, R408)? -/
def takesRequests (s : State) : Bool := hears s && accepting s svpPage

/-- A TLP arrives: the link leaves L1 (R409), and it is counted (Table 17-2). -/
def tlpIn (s : State) : State := pmcEvent (leaveL1 s) svpPage 0x100 1

/-! ## Configuration space (R396, R397; PRESUMED layouts of the PCI Express specification, log entry 48) -/

/-- The dwords that software may write, with their writable bits; those with an effect of their own are not among them. -/
def configMask : Nat → Word
  | 0x00C => 0xFF#32
  | 0x010 => 0xFE000000#32
  | 0x018 => 0xF0000000#32
  | 0x01C => 0xFFFFFFFF#32
  | 0x020 => 0xFFFFC000#32
  | 0x03C => 0xFF#32
  | 0x078 => 0x79FF#32
  | 0x080 => 0xFCB#32
  | 0x098 => 0x1000#32
  | 0x0A0 => 0xF#32
  | 0x108 => 0x17F010#32
  | 0x10C => 0x17F010#32
  | 0x1F8 => 0x8#32
  | _ => 0#32

/-- The writable bits' defaults. -/
def configReset : Nat → Word
  | 0x078 => 0x2810#32
  | 0x0A0 => 0x5#32
  | 0x10C => 0x62010#32
  | _ => 0#32

/-- What software has written to a dword, or its default. -/
def configOf (s : State) (off : Nat) : Word := s.svp.config.getD off (configReset off)

/-- The dwords whose fixed bits this manual gives, or that hold none. -/
def configFixed (s : State) (off : Nat) : Option Word :=
  if off = 0x000 then some (packWord [(16, 0x4896), (0, Config.pciVendor.toNat)])
  else if off = 0x004 then some (packWord [(20, 1), (2, num s.svp.bme), (1, num s.svp.mse)] ||| configOf s off)
  else if off = 0x008 then some (packWord [(8, 0x088000), (0, Config.pciRevision.toNat)])
  else if off = 0x00C || off = 0x010 || off = 0x01C || off = 0x020 || off = 0x03C then some 0#32
  else if off = 0x018 then some 0xC#32
  else if off = 0x014 || off = 0x024 || off = 0x030 then some 0#32
  else if off = 0x02C then some (regOf s svpPage O.SVP_SUBSYS)
  else if off = 0x034 then some 0x40#32
  else if off = 0x040 then some 0x00035001#32
  else if off = 0x044 then some (packWord [(3, 1), (0, if s.svp.d3 then 3 else 0)])
  else if off = 0x050 then
    some (packWord [(31, num s.svp.msixEn), (30, num s.svp.msixMask), (16, 63), (8, 0x70), (0, 0x11)])
  else if off = 0x054 then some 0x4#32
  else if off = 0x058 then some 0x2004#32
  else if off = 0x070 then some 0x00020010#32
  else if off = 0x078 || off = 0x0A0 || off = 0x108 || off = 0x10C || off = 0x1F8 then some 0#32
  else if off = 0x080 then some (packWord [(20, s.svp.width), (16, s.svp.speed)])
  else if off = 0x104 then some s.svp.aer
  else if off = 0x124 then some (Word.ofNum s.svp.aerHdr)
  else if off = 0x14C then some (Word.ofNum Config.pciSerial)
  else if off = 0x150 then some (Word.ofNum (Config.pciSerial / 2 ^ 32))
  else none

/-- The dword that a configuration read returns. A dword whose value only the PCI Express specification gives is a constant
of the implementation (R396). -/
def configRead (s : State) (off : Nat) : Word :=
  ((configFixed s off).getD (Config.pciDefault off &&& ~~~ configMask off)) ||| (configOf s off &&& configMask off)

/-- A write of the Command register: Bus Master Enable cleared (R406), or set so that pending messages go. -/
def writeCommand (s : State) (v : Word) : State :=
  let s := updateSvp s fun p => { p with mse := bit v 1, config := p.config.set 0x004 (v &&& 0x540#32) }
  if bit v 2 then settleVectors (updateSvp s fun p => { p with bme := true }) else clearBme s

/-- A configuration write. -/
def configWrite (s : State) (off : Nat) (v : Word) : State :=
  if off = 0x004 then writeCommand s v
  else if off = 0x044 then
    settleVectors (if field v 0 2 = 3 || field v 0 2 = 0 then updateSvp s fun p => { p with d3 := decide (field v 0 2 = 3) }
      else s)
  else if off = 0x050 then settleVectors (updateSvp s fun p => { p with msixEn := bit v 31, msixMask := bit v 30 })
  else if off = 0x104 then updateSvp s fun p => { p with aer := p.aer &&& ~~~ v }
  else
    let s := if configMask off = 0#32 then s
      else updateSvp s fun p => { p with config := p.config.set off (v &&& configMask off) }
    if off = 0x078 && bit v 15 then beginFlr s else s

/-- A configuration request (R396, R407). -/
def configRequest (s : State) (write : Bool) (offset : Nat) (v : Word) : State :=
  if !takesRequests s then s
  else
    let s := tlpIn s
    let off := offset % 4096 / 4 * 4
    if s.svp.flr then sendTlp s .cplRetry
    else if write then configWrite (sendTlp s .cplOk) off v
    else sendTlp s (.cplData [configRead s off])

/-- CONFIG_REQUEST (R396). -/
def execConfigRequest (write : Bool) (offset : Nat) (v : Word) (s : State) : Res :=
  .next (configRequest s write offset v)

/-- UNSUPPORTED_REQUEST (R402): answered with UR. -/
def execUnsupportedRequest (_kind : TlpKind) (s : State) : Res :=
  .next (if takesRequests s then unsupported (tlpIn s) true 0 else s)

/-! ## BAR0 and BAR4 (R397 to R400) -/

/-- Are memory requests answered with UR whatever they name (R397, R402): in D3hot, during an FLR, or with Memory Space
Enable clear? -/
def memoryClosed (s : State) : Bool := s.svp.d3 || s.svp.flr || !s.svp.mse

/-- Reads of consecutive registers for BAR0: the values, or none where one got an access error. -/
def barReads (s : State) (a : Nat) : Nat → Option (List Word) × State
  | 0 => (some [], s)
  | n + 1 =>
    let bad := accessFails s a
    let t := busRead s 0x20 a
    let v := lastRead t
    let (r, u) := barReads t (a + 4) n
    (if bad then none else r.map (v :: ·), u)

/-- Writes of consecutive registers for BAR0. -/
def barWrites : List Word → Nat → State → State
  | [], _, s => s
  | v :: rest, a, s => barWrites rest (a + 4) (busWrite s 0x20 a v)

/-- The control page that a BAR0 offset reaches (R398). -/
def windowPage (s : State) (o : Nat) : Option Nat :=
  match s.svp.w0.get (o / 0x80000 % 64) with
  | some e => if o / 4096 % 128 < e.pages then some (e.base + o / 4096 % 128) else none
  | none => none

/-- The 64 PBA bits (R410). -/
def pbaBits (s : State) : Nat := ((s.svp.vectors.filter fun _ v => v.pending).keys.map (2 ^ ·)).sum

/-- A dword of BAR4: the MSI-X table and the PBA (R397, R410). -/
def bar4Read (s : State) (o : Nat) : Word :=
  if o < 0x400 then
    let v := vectorOf s (o / 16)
    match o / 4 % 4 with
    | 0 => Word.ofNum v.addr
    | 1 => Word.ofNum (v.addr / 2 ^ 32)
    | 2 => v.data
    | _ => Word.ofNum (num v.masked)
  else if o = 0x2000 then Word.ofNum (pbaBits s)
  else if o = 0x2004 then Word.ofNum (pbaBits s / 2 ^ 32)
  else 0#32

/-- A write of a dword of BAR4: the PBA is read-only. -/
def bar4Write (s : State) (o : Nat) (w : Word) : State :=
  if 0x400 ≤ o then s
  else
    let i := o / 16
    let v := vectorOf s i
    settleVector (setVector s i (match o / 4 % 4 with
      | 0 => { v with addr := v.addr / 2 ^ 32 * 2 ^ 32 + w.toNat / 4 * 4 }
      | 1 => { v with addr := v.addr % 2 ^ 32 + w.toNat * 2 ^ 32 }
      | 2 => { v with data := w }
      | _ => { v with masked := bit w 0 })) i

/-- Consecutive dwords written to BAR4. -/
def bar4Writes : List Word → Nat → State → State
  | [], _, s => s
  | v :: rest, o, s => bar4Writes rest (o + 4) (bar4Write s o v)

/-- Size of BAR0. An offset from there on names BAR4, which has no row of its own (log entry 48). -/
abbrev bar0Size : Nat := 0x2000000

/-- A memory request to BAR4. -/
def bar4Request (s : State) (write : Bool) (o : Nat) (values : List Word) : State :=
  if write then bar4Writes values o s
  else sendTlp s (.cplData ((List.range values.length).map fun i => bar4Read s (o + 4 * i)))

/-- A memory request to BAR0 (R398, R399, R402). Of a read, `values` gives the length alone. -/
def bar0Request (s : State) (write : Bool) (o : Nat) (values : List Word) (allBe ep : Bool) : State :=
  if !takesRequests s then s
  else
    let s := tlpIn s
    if write && ep then poisonedTlp s o
    else if memoryClosed s then unsupported s (!write) o
    else if bar0Size ≤ o then bar4Request s write ((o - bar0Size) % 0x4000 / 4 * 4) values
    else if !allBe || o % 4 ≠ 0 || values = [] || 16 < values.length || 4096 < o % 4096 + 4 * values.length then
      unsupported s (!write) o
    else match windowPage s o with
      | none => unsupported s (!write) o
      | some page =>
        let a := regAddr page (o % 4096)
        if write then barWrites values a s
        else match barReads s a values.length with
          | (some vs, t) => sendTlp t (.cplData vs)
          | (none, t) => unsupported t true o

/-- BAR0_REQUEST (R399). -/
def execBar0Request (write : Bool) (offset : Nat) (values : List Word) (allBe ep : Bool) (s : State) : Res :=
  .next (bar0Request s write offset values allBe ep)

/-! ## BAR2 (R401) -/

/-- The DRAM address that a BAR2 request reaches. -/
def windowAddr (s : State) (write : Bool) (o len : Nat) : Option Nat :=
  let e := s.svp.w2.getD (o / 2 ^ 24 % 16) {}
  if e.valid && o % 2 ^ 24 + len ≤ e.size * 4096 && (!write || e.write) then some (e.base + o % 2 ^ 24) else none

/-- A memory request to BAR2 (R401, R402). -/
def bar2Request (s : State) (write : Bool) (o len : Nat) (data : List Byte) (ep : Bool) : State :=
  if !takesRequests s then s
  else
    let s := tlpIn s
    if write && ep then poisonedTlp s o
    else if memoryClosed s then unsupported s (!write) o
    else match windowAddr s write o len with
      | none => unsupported s (!write) o
      | some a =>
        if write then dramStore s a (padTo len data)
        else match dramFetch s 0x20 a len with
          | (some bs, t) => sendTlp t (.cplBytes bs)
          | (none, t) => aborted t o

/-- BAR2_REQUEST (R401). -/
def execBar2Request (write : Bool) (offset length : Nat) (data : List Byte) (ep : Bool) (s : State) : Res :=
  .next (bar2Request s write offset length data ep)

/-! ## Outbound requests of a control core (R403, R406) -/

/-- Largest size of a payload and of a read request, from Device Control. -/
def maxPayload (s : State) : Nat := min 512 (128 * 2 ^ field (configOf s 0x078) 5 3)
def maxRead (s : State) : Nat := min 4096 (128 * 2 ^ field (configOf s 0x078) 12 3)

/-- A request cut at a size and at 4 KiB boundaries (R369, R403): addresses and lengths. -/
def pieces (size : Nat) : Nat → Nat → Nat → List (Nat × Nat)
  | 0, _, _ => []
  | k + 1, a, n =>
    if n = 0 then []
    else
      let m := min n (min size (4096 - a % 4096))
      (a, m) :: pieces size k (a + m) (n - m)

/-- Are there as many tags as pieces, all free, different and allowed to be outstanding? -/
def tagsFit (s : State) (tags : List Nat) (n : Nat) : Bool :=
  tags.length = n && tags.eraseDups.length = n && tags.all (fun t => t < 1024 && !s.svp.tags.has t) &&
    readsCount s + n ≤ 256

/-- A control core's request fails: an access error, and a read returns zero. -/
def coreFails (s : State) (core a len : Nat) (write : Bool) : State :=
  let s := emit s (.accessError core a)
  if write then s else emit s (.toCore core (zeros len))

/-- A control core's outbound request (R403, R406). It waits, with no effect, where no tags are free for it. -/
def outboundRequest (s : State) (core a len : Nat) (write : Bool) (data : List Byte) (tags : List Nat) : State :=
  if 0x0F < core || targetOf s a ≠ .outbound || len = 0 then s
  else if !portMayIssue s then coreFails s core a len write
  else if write then
    (pieces (maxPayload s) (len + 1) a len).foldl
      (fun s p => outboundWrite s p.1 (slice (padTo len data) (p.1 - a) p.2)) s
  else
    let ps := pieces (maxRead s) (len + 1) a len
    if !tagsFit s tags ps.length then s
    else (ps.zip tags).foldl (fun s p => outboundRead s (.core core) p.1.1 p.1.2 p.2) s

/-- OUTBOUND_REQUEST (R403). -/
def execOutboundRequest (core a len : Nat) (write : Bool) (data : List Byte) (tags : List Nat) (s : State) : Res :=
  .next (outboundRequest s core a len write data tags)

/-! ## Completions (R404, R405) -/

/-- A read of a requester has failed (R404): a control core reads zero with an access error, a DMA descriptor takes a status
of Table 14-6. -/
def readFails (s : State) (who : OutReq) (a len tag status : Nat) : State :=
  match who with
  | .core c => coreFails s c a len false
  | .dma ch => dmaReadEnds s ch tag none status

/-- Data of a read arrives: the last of it frees the tag. -/
def dataArrives (s : State) (tag : Nat) (who : OutReq) (a len got : Nat) (deadline : Tick) (data : List Byte) : State :=
  let data := data.take (len - got)
  let n := got + data.length
  if n < len then
    let s := updateSvp s fun p => { p with tags := p.tags.set tag (.reading who a len n deadline) }
    match who with
    | .core c => emit s (.toCore c data)
    | .dma ch => dmaReadPart s ch tag data
  else
    let s := updateSvp s fun p => { p with tags := p.tags.erase tag }
    match who with
    | .core c => emit s (.toCore c data)
    | .dma ch => dmaReadEnds s ch tag (some data) 0

/-- A completion that matches no outstanding read: late, freed by an FLR, or unexpected (R405, R407). -/
def strayCompletion (s : State) (tag : Nat) : State :=
  if s.svp.tags.has tag then alert (bump s svpPage O.SVP_LATE_CPL) svpPage O.SVP_ALERT 4
  else
    let t := bump s svpPage O.SVP_UNEXP_CPL_CNT
    if s.svp.flrTags.contains tag then t else aerReport t 16 0

/-- A completion arrives (R403 to R405). -/
def completion (s : State) (tag : Nat) (status : CplStatus) (data : List Byte) : State :=
  if !hears s then s
  else
    let s := tlpIn s
    match s.svp.tags.get tag with
    | some (.reading who a len got deadline) =>
      if status = .sc then dataArrives s tag who a len got deadline data
      else readFails (updateSvp s fun p => { p with tags := p.tags.erase tag }) who a len tag 0x08
    | _ => strayCompletion s tag

/-- COMPLETION_TLP (R405). -/
def execCompletionTlp (tag : Nat) (status : CplStatus) (data : List Byte) (s : State) : Res :=
  onUnit "tag" tag 1024 (completion s tag status data)

/-- A read times out (R404): its tag waits out its quarantine. -/
def readTimeout (s : State) (tag : Nat) : State :=
  match s.svp.tags.get tag with
  | some (.reading who a len _ deadline) =>
    let s := clockTo s deadline
    let s := updateSvp s fun p => { p with tags := p.tags.set tag (.quarantine (s.time.now + 2 * cplTicks s)) }
    let s := alert (blockError (bump s svpPage O.SVP_CPL_TMO_CNT) svpPage 0x0101 a) svpPage O.SVP_ALERT 3
    readFails (aerReport s 14 a) who a len tag 0x07
  | _ => s

/-- COMPLETION_TIMEOUT (R404). -/
def execCompletionTimeout (tag : Nat) (s : State) : Res := onUnit "tag" tag 1024 (readTimeout s tag)

end Sys2Proof.Machine
end

