-- ==== Sys2Proof/Machine/TestPort.lean ====
section
/-! DEFINITION. The test access port (R463): IDCODE, BYPASS, SAMPLE/PRELOAD, EXTEST, CLAMP and HIGHZ. -/
namespace Sys2Proof.Machine

/-- The TAP with an instruction in effect and the outputs no longer held by an earlier one. -/
def tapSelect (s : State) (i : TapInstr) (driving floating : Bool) : State :=
  { s with tap := { s.tap with instr := i, driving := driving, floating := floating } }

/-- The identification register, as it shifts out: 0x1489_654B, least significant bit first. -/
def idcodeBits : List Bool := (List.range 32).map fun i => (0x1489654B#32).getLsbD i

/-- IDCODE (R463). -/
def execIdcode (s : State) : Res := .next (emit (tapSelect s .idcode false false) (.tdo idcodeBits))

/-- The TAP selects the one-bit bypass register, which captures 0. -/
def tapBypass (s : State) : State := emit (tapSelect s .bypass false false) (.tdo [false])

/-- BYPASS (R463). -/
def execBypass (s : State) : Res := .next (tapBypass s)

/-- SAMPLE_PRELOAD (R463): the boundary register is loaded; the pins go on under their owners. -/
def execSamplePreload (preload : List Bool) (s : State) : Res :=
  .next { tapSelect s .samplePreload false false with tap := { s.tap with
    instr := .samplePreload, driving := false, floating := false, boundary := preload } }

/-- EXTEST (R463): drives the boundary register while PORST_N is low, and acts as BYPASS otherwise. -/
def execExtest (s : State) : Res :=
  .next (if s.tap.porstLow then emit (tapSelect s .extest true false) (.pinsDriven s.tap.boundary) else tapBypass s)

/-- CLAMP (R463). -/
def execClamp (s : State) : Res :=
  .next (if s.tap.porstLow then
    emit (emit (tapSelect s .clamp true false) (.pinsDriven s.tap.boundary)) (.tdo [false]) else tapBypass s)

/-- HIGHZ (R463). -/
def execHighz (s : State) : Res :=
  .next (if s.tap.porstLow then emit (emit (tapSelect s .highz false true) .pinsFloat) (.tdo [false])
    else tapBypass s)

end Sys2Proof.Machine
end

