-- ==== Sys2Proof/Machine/Dispatch.lean ====
section
/-! DEFINITION. One arm per command: a direct call of its meaning. -/
namespace Sys2Proof.Machine

/-- The effect of a command on everything but the queue. -/
def exec (i : Instr) (s : State) : Host.Outcome State Fault Refusal :=
  match i with
  | .registerWrite req addr value => Sys2Proof.Machine.execRegisterWrite req addr value s
  | .invalidRegisterAccess req addr size write => Sys2Proof.Machine.execInvalidRegisterAccess req addr size write s
  | .counterWrite req addr value => Sys2Proof.Machine.execCounterWrite req addr value s
  | .enable req page => Sys2Proof.Machine.execEnable req page s
  | .enableDone page => Sys2Proof.Machine.execEnableDone page s
  | .shutdown req page => Sys2Proof.Machine.execShutdown req page s
  | .shutdownDone page => Sys2Proof.Machine.execShutdownDone page s
  | .quiesce req page on => Sys2Proof.Machine.execQuiesce req page on s
  | .quiesceDone page => Sys2Proof.Machine.execQuiesceDone page s
  | .softReset req page => Sys2Proof.Machine.execSoftReset req page s
  | .softResetDone page => Sys2Proof.Machine.execSoftResetDone page s
  | .lockReq req page => Sys2Proof.Machine.execLockReq req page s
  | .lockReqAnswer page => Sys2Proof.Machine.execLockReqAnswer page s
  | .pgLockWrite req page value => Sys2Proof.Machine.execPgLockWrite req page value s
  | .fault page code addr => Sys2Proof.Machine.execFault page code addr s
  | .intSet req page value => Sys2Proof.Machine.execIntSet req page value s
  | .errCountWrite req page value => Sys2Proof.Machine.execErrCountWrite req page value s
  | .cycLoRead req page => Sys2Proof.Machine.execCycLoRead req page s
  | .nsZoneRelease ns => Sys2Proof.Machine.execNsZoneRelease ns s
  | .ringTrigger conn slot capsule => Sys2Proof.Machine.execRingTrigger conn slot capsule s
  | .cqHeadUpdate conn value => Sys2Proof.Machine.execCqHeadUpdate conn value s
  | .read conn => Sys2Proof.Machine.execRead conn s
  | .write conn => Sys2Proof.Machine.execWrite conn s
  | .append conn => Sys2Proof.Machine.execAppend conn s
  | .dataDone conn => Sys2Proof.Machine.execDataDone conn s
  | .dataDoneDrained conn cid => Sys2Proof.Machine.execDataDoneDrained conn cid s
  | .flush conn => Sys2Proof.Machine.execFlush conn s
  | .zoneOpen conn => Sys2Proof.Machine.execZoneOpen conn s
  | .zoneClose conn => Sys2Proof.Machine.execZoneClose conn s
  | .zoneFinish conn => Sys2Proof.Machine.execZoneFinish conn s
  | .zoneReset conn => Sys2Proof.Machine.execZoneReset conn s
  | .zoneMgmtComplete conn cid => Sys2Proof.Machine.execZoneMgmtComplete conn cid s
  | .zoneReport conn => Sys2Proof.Machine.execZoneReport conn s
  | .identifyController conn => Sys2Proof.Machine.execIdentifyController conn s
  | .identifyNamespace conn => Sys2Proof.Machine.execIdentifyNamespace conn s
  | .identifyNsList conn => Sys2Proof.Machine.execIdentifyNsList conn s
  | .getLogError conn => Sys2Proof.Machine.execGetLogError conn s
  | .getLogHealth conn => Sys2Proof.Machine.execGetLogHealth conn s
  | .getLogLoss conn => Sys2Proof.Machine.execGetLogLoss conn s
  | .tokenAttach conn => Sys2Proof.Machine.execTokenAttach conn s
  | .tokenDetach conn => Sys2Proof.Machine.execTokenDetach conn s
  | .queueReset conn => Sys2Proof.Machine.execQueueReset conn s
  | .windowAllocate keys => Sys2Proof.Machine.execWindowAllocate keys s
  | .dataTimeout conn cid => Sys2Proof.Machine.execDataTimeout conn cid s
  | .writePlace conn cid => Sys2Proof.Machine.execWritePlace conn cid s
  | .patchHoldTimeout => Sys2Proof.Machine.execPatchHoldTimeout s
  | .holdOverrun conn => Sys2Proof.Machine.execHoldOverrun conn s
  | .wakeLimitExpiry conn cid => Sys2Proof.Machine.execWakeLimitExpiry conn cid s
  | .req r => Sys2Proof.Machine.execReq r s
  | .rtu conn => Sys2Proof.Machine.execRtu conn s
  | .cmIgnored kind => Sys2Proof.Machine.execCmIgnored kind s
  | .setupTimeout conn => Sys2Proof.Machine.execSetupTimeout conn s
  | .dreq conn => Sys2Proof.Machine.execDreq conn s
  | .drep conn => Sys2Proof.Machine.execDrep conn s
  | .drepTimeout conn => Sys2Proof.Machine.execDrepTimeout conn s
  | .connNumberReuse conn => Sys2Proof.Machine.execConnNumberReuse conn s
  | .rdmaWrite p data => Sys2Proof.Machine.execRdmaWrite p data s
  | .rdmaRead p length => Sys2Proof.Machine.execRdmaRead p length s
  | .rdmaFlush p length whole persist => Sys2Proof.Machine.execRdmaFlush p length whole persist s
  | .unsupportedPacket qpn opcode psn => Sys2Proof.Machine.execUnsupportedPacket qpn opcode psn s
  | .rdmaAck conn psn => Sys2Proof.Machine.execRdmaAck conn psn s
  | .rdmaNak conn psn sequence => Sys2Proof.Machine.execRdmaNak conn psn sequence s
  | .rdmaReadResponse conn cid data tagOk => Sys2Proof.Machine.execRdmaReadResponse conn cid data tagOk s
  | .rdmaFlushResponse conn cid => Sys2Proof.Machine.execRdmaFlushResponse conn cid s
  | .rdmaWriteDone conn cid => Sys2Proof.Machine.execRdmaWriteDone conn cid s
  | .cnp conn at0 => Sys2Proof.Machine.execCnp conn at0 s
  | .contextFetchDone conn eccBad => Sys2Proof.Machine.execContextFetchDone conn eccBad s
  | .ackTimer conn => Sys2Proof.Machine.execAckTimer conn s
  | .retxTimeout conn => Sys2Proof.Machine.execRetxTimeout conn s
  | .rateRise conn => Sys2Proof.Machine.execRateRise conn s
  | .rtRegister req engine => Sys2Proof.Machine.execRtRegister req engine s
  | .rtRevoke req engine => Sys2Proof.Machine.execRtRevoke req engine s
  | .rtQuery req engine => Sys2Proof.Machine.execRtQuery req engine s
  | .revokeDone index => Sys2Proof.Machine.execRevokeDone index s
  | .frameReceive f at0 => Sys2Proof.Machine.execFrameReceive f at0 s
  | .pauseFrame port sub quanta at0 => Sys2Proof.Machine.execPauseFrame port sub quanta at0 s
  | .pfcFrame port sub enable quanta at0 => Sys2Proof.Machine.execPfcFrame port sub enable quanta at0 s
  | .pauseExpiry port sub prio => Sys2Proof.Machine.execPauseExpiry port sub prio s
  | .pauseRefresh port sub cls => Sys2Proof.Machine.execPauseRefresh port sub cls s
  | .linkUp port sub => Sys2Proof.Machine.execLinkUp port sub s
  | .linkDown port sub => Sys2Proof.Machine.execLinkDown port sub s
  | .timeStep req => Sys2Proof.Machine.execTimeStep req s
  | .timeLoad req => Sys2Proof.Machine.execTimeLoad req s
  | .timeFreqWrite req value => Sys2Proof.Machine.execTimeFreqWrite req value s
  | .timeNsRead req => Sys2Proof.Machine.execTimeNsRead req s
  | .ppsInEdge at0 => Sys2Proof.Machine.execPpsInEdge at0 s
  | .ppsCapture stayedHigh => Sys2Proof.Machine.execPpsCapture stayedHigh s
  | .ppsNsRead req => Sys2Proof.Machine.execPpsNsRead req s
  | .ppsOutPulse => Sys2Proof.Machine.execPpsOutPulse s
  | .ppsOutEnd => Sys2Proof.Machine.execPpsOutEnd s
  | .txtsRead req => Sys2Proof.Machine.execTxtsRead req s
  | .polRead req => Sys2Proof.Machine.execPolRead req s
  | .polWrite req => Sys2Proof.Machine.execPolWrite req s
  | .polClear req => Sys2Proof.Machine.execPolClear req s
  | .wredRead req => Sys2Proof.Machine.execWredRead req s
  | .wredWrite req => Sys2Proof.Machine.execWredWrite req s
  | .qprofWrite req value => Sys2Proof.Machine.execQprofWrite req value s
  | .egressSelect port sub at0 => Sys2Proof.Machine.execEgressSelect port sub at0 s
  | .gateEntryBoundary page => Sys2Proof.Machine.execGateEntryBoundary page s
  | .gclSwap req page => Sys2Proof.Machine.execGclSwap req page s
  | .swapDone page => Sys2Proof.Machine.execSwapDone page s
  | .gclRead req page => Sys2Proof.Machine.execGclRead req page s
  | .gclWrite req page => Sys2Proof.Machine.execGclWrite req page s
  | .shaperRefill port => Sys2Proof.Machine.execShaperRefill port s
  | .histSample port => Sys2Proof.Machine.execHistSample port s
  | .histSnap req port => Sys2Proof.Machine.execHistSnap req port s
  | .histSnapClear req port => Sys2Proof.Machine.execHistSnapClear req port s
  | .histClearAll req port => Sys2Proof.Machine.execHistClearAll req port s
  | .trainingStart slot => Sys2Proof.Machine.execTrainingStart slot s
  | .trainTimeout slot => Sys2Proof.Machine.execTrainTimeout slot s
  | .linkParam slot p => Sys2Proof.Machine.execLinkParam slot p s
  | .readData slot h data => Sys2Proof.Machine.execReadData slot h data s
  | .status slot h code payload => Sys2Proof.Machine.execStatus slot h code payload s
  | .linkAck slot seq claim => Sys2Proof.Machine.execLinkAck slot seq claim s
  | .linkNak slot seq claim => Sys2Proof.Machine.execLinkNak slot seq claim s
  | .credit slot cmd data sts claim => Sys2Proof.Machine.execCredit slot cmd data sts claim s
  | .linkAckTimer slot => Sys2Proof.Machine.execLinkAckTimer slot s
  | .replayTimer slot => Sys2Proof.Machine.execReplayTimer slot s
  | .retrainResult slot pass => Sys2Proof.Machine.execRetrainResult slot pass s
  | .prsntChange slot asserted => Sys2Proof.Machine.execPrsntChange slot asserted s
  | .moduleAlert slot => Sys2Proof.Machine.execModuleAlert slot s
  | .mrstWrite req slot assert => Sys2Proof.Machine.execMrstWrite req slot assert s
  | .mrstRelease slot => Sys2Proof.Machine.execMrstRelease slot s
  | .readPage slot tag a level => Sys2Proof.Machine.execReadPage slot tag a level s
  | .readSoft slot tag a level => Sys2Proof.Machine.execReadSoft slot tag a level s
  | .programPage slot tag a slc => Sys2Proof.Machine.execProgramPage slot tag a slc s
  | .eraseBlock slot tag a slc => Sys2Proof.Machine.execEraseBlock slot tag a slc s
  | .readStatus slot tag a => Sys2Proof.Machine.execReadStatus slot tag a s
  | .setReadLevels slot tag a set offsets => Sys2Proof.Machine.execSetReadLevels slot tag a set offsets s
  | .dieReset slot tag a => Sys2Proof.Machine.execDieReset slot tag a s
  | .telemetry slot tag page => Sys2Proof.Machine.execTelemetry slot tag page s
  | .moduleCmdTimeout slot tag => Sys2Proof.Machine.execModuleCmdTimeout slot tag s
  | .codewordDecode slot tag index r => Sys2Proof.Machine.execCodewordDecode slot tag index r s
  | .heatUpdate slot temp => Sys2Proof.Machine.execHeatUpdate slot temp s
  | .patrolVisit group member block rberPpm unreadable => Sys2Proof.Machine.execPatrolVisit group member block rberPpm unreadable s
  | .blockRefresh group member block newBlock pass => Sys2Proof.Machine.execBlockRefresh group member block newBlock pass s
  | .wearLevel group member => Sys2Proof.Machine.execWearLevel group member s
  | .checkpoint group memberA memberB passA passB => Sys2Proof.Machine.execCheckpoint group memberA memberB passA passB s
  | .groupDefine req => Sys2Proof.Machine.execGroupDefine req s
  | .groupRetire req => Sys2Proof.Machine.execGroupRetire req s
  | .groupQuery req => Sys2Proof.Machine.execGroupQuery req s
  | .groupSetlock req => Sys2Proof.Machine.execGroupSetlock req s
  | .spareMaskWrite req high value => Sys2Proof.Machine.execSpareMaskWrite req high value s
  | .logPageFlush group member => Sys2Proof.Machine.execLogPageFlush group member s
  | .journalPageFlush group => Sys2Proof.Machine.execJournalPageFlush group s
  | .logReclaim group member pass => Sys2Proof.Machine.execLogReclaim group member pass s
  | .lockstepRelease group stripe row at0 => Sys2Proof.Machine.execLockstepRelease group stripe row at0 s
  | .lockTimeout group stripe member => Sys2Proof.Machine.execLockTimeout group stripe member s
  | .pqeJobDone inst r => Sys2Proof.Machine.execPqeJobDone inst r s
  | .outTimeout group member => Sys2Proof.Machine.execOutTimeout group member s
  | .memberQuery req => Sys2Proof.Machine.execMemberQuery req s
  | .memberFail req force => Sys2Proof.Machine.execMemberFail req force s
  | .rebuildStripe group pass unreadable => Sys2Proof.Machine.execRebuildStripe group pass unreadable s
  | .reshapeStart req => Sys2Proof.Machine.execReshapeStart req s
  | .reshapeQuery req => Sys2Proof.Machine.execReshapeQuery req s
  | .reshapeStripe pass unreadable => Sys2Proof.Machine.execReshapeStripe pass unreadable s
  | .wakeAdmit => Sys2Proof.Machine.execWakeAdmit s
  | .springStagger group => Sys2Proof.Machine.execSpringStagger group s
  | .springEnd group => Sys2Proof.Machine.execSpringEnd group s
  | .idleTimeout group => Sys2Proof.Machine.execIdleTimeout group s
  | .autumnChoice => Sys2Proof.Machine.execAutumnChoice s
  | .autumnEnd group => Sys2Proof.Machine.execAutumnEnd group s
  | .seasonWake req group => Sys2Proof.Machine.execSeasonWake req group s
  | .seasonSleep req group => Sys2Proof.Machine.execSeasonSleep req group s
  | .spwOn slot claim => Sys2Proof.Machine.execSpwOn slot claim s
  | .spwOff slot claim => Sys2Proof.Machine.execSpwOff slot claim s
  | .spwClear slot claim => Sys2Proof.Machine.execSpwClear slot claim s
  | .presenceAssert slot => Sys2Proof.Machine.execPresenceAssert slot s
  | .presenceLoss slot => Sys2Proof.Machine.execPresenceLoss slot s
  | .insertDelayEnd slot => Sys2Proof.Machine.execInsertDelayEnd slot s
  | .feedWindowChange slot feedB mv => Sys2Proof.Machine.execFeedWindowChange slot feedB mv s
  | .reverseCurrent slot feedB mv => Sys2Proof.Machine.execReverseCurrent slot feedB mv s
  | .feedLossTimeout slot => Sys2Proof.Machine.execFeedLossTimeout slot s
  | .rampEnd slot outMv senseUv => Sys2Proof.Machine.execRampEnd slot outMv senseUv s
  | .rampTimeout slot => Sys2Proof.Machine.execRampTimeout slot s
  | .fastTrip slot senseUv => Sys2Proof.Machine.execFastTrip slot senseUv s
  | .breakerCrossing slot senseUv at0 => Sys2Proof.Machine.execBreakerCrossing slot senseUv at0 s
  | .faultTimerExpiry slot => Sys2Proof.Machine.execFaultTimerExpiry slot s
  | .faultTimerReset slot => Sys2Proof.Machine.execFaultTimerReset slot s
  | .retryTimerEnd slot => Sys2Proof.Machine.execRetryTimerEnd slot s
  | .otCool slot temp => Sys2Proof.Machine.execOtCool slot temp s
  | .retryCountReset slot => Sys2Proof.Machine.execRetryCountReset slot s
  | .overTemperature slot temp => Sys2Proof.Machine.execOverTemperature slot temp s
  | .pwarnDeassert slot => Sys2Proof.Machine.execPwarnDeassert slot s
  | .d2dLinkDown => Sys2Proof.Machine.execD2dLinkDown s
  | .linkRestored => Sys2Proof.Machine.execLinkRestored s
  | .measurementSample slot m => Sys2Proof.Machine.execMeasurementSample slot m s
  | .spUvlo vcc vin => Sys2Proof.Machine.execSpUvlo vcc vin s
  | .spUvloRecover vcc vin => Sys2Proof.Machine.execSpUvloRecover vcc vin s
  | .identity r => Sys2Proof.Machine.execIdentity r s
  | .bindOwner r key => Sys2Proof.Machine.execBindOwner r key s
  | .pairBind r b => Sys2Proof.Machine.execPairBind r b s
  | .nsCreate r a => Sys2Proof.Machine.execNsCreate r a s
  | .nsSet r a => Sys2Proof.Machine.execNsSet r a s
  | .nsUnlock r ns => Sys2Proof.Machine.execNsUnlock r ns s
  | .nsRetire r ns => Sys2Proof.Machine.execNsRetire r ns s
  | .tvkSet r k key => Sys2Proof.Machine.execTvkSet r k key s
  | .tvkRemove r k => Sys2Proof.Machine.execTvkRemove r k s
  | .denyAdd r serial => Sys2Proof.Machine.execDenyAdd r serial s
  | .denyRemove r serial => Sys2Proof.Machine.execDenyRemove r serial s
  | .orderedAdd r hostId => Sys2Proof.Machine.execOrderedAdd r hostId s
  | .orderedRemove r hostId => Sys2Proof.Machine.execOrderedRemove r hostId s
  | .recover r => Sys2Proof.Machine.execRecover r s
  | .pageUnlock r page => Sys2Proof.Machine.execPageUnlock r page s
  | .patchStage r p => Sys2Proof.Machine.execPatchStage r p s
  | .patchActivate r level => Sys2Proof.Machine.execPatchActivate r level s
  | .patchApply => Sys2Proof.Machine.execPatchApply s
  | .keyLockAcquire req => Sys2Proof.Machine.execKeyLockAcquire req s
  | .keyLockRelease req value => Sys2Proof.Machine.execKeyLockRelease req value s
  | .keyLoad req bank index token => Sys2Proof.Machine.execKeyLoad req bank index token s
  | .keyZero req bank index token => Sys2Proof.Machine.execKeyZero req bank index token s
  | .keyZeroAll req bank token => Sys2Proof.Machine.execKeyZeroAll req bank token s
  | .cryptoJobDone core tagOk => Sys2Proof.Machine.execCryptoJobDone core tagOk s
  | .alarmErase sources => Sys2Proof.Machine.execAlarmErase sources s
  | .alarmZeroize sources => Sys2Proof.Machine.execAlarmZeroize sources s
  | .zeroizeRepeat => Sys2Proof.Machine.execZeroizeRepeat s
  | .zeroize wire => Sys2Proof.Machine.execZeroize wire s
  | .zack wire => Sys2Proof.Machine.execZack wire s
  | .rngHealthFail adaptive => Sys2Proof.Machine.execRngHealthFail adaptive s
  | .rngRestart => Sys2Proof.Machine.execRngRestart s
  | .rngOutRead req => Sys2Proof.Machine.execRngOutRead req s
  | .heartbeatSend => Sys2Proof.Machine.execHeartbeatSend s
  | .heartbeat h => Sys2Proof.Machine.execHeartbeat h s
  | .heartbeatWord word => Sys2Proof.Machine.execHeartbeatWord word s
  | .heartbeatBoundary => Sys2Proof.Machine.execHeartbeatBoundary s
  | .pairKick req value => Sys2Proof.Machine.execPairKick req value s
  | .watchdogExpiry => Sys2Proof.Machine.execWatchdogExpiry s
  | .record claim first records => Sys2Proof.Machine.execRecord claim first records s
  | .mirrorAck claim seq => Sys2Proof.Machine.execMirrorAck claim seq s
  | .sync claim seq last image => Sys2Proof.Machine.execSync claim seq last image s
  | .handover claim seq => Sys2Proof.Machine.execHandover claim seq s
  | .secure claim pwk sigOk => Sys2Proof.Machine.execSecure claim pwk sigOk s
  | .fenceProbe spcClaim bridges => Sys2Proof.Machine.execFenceProbe spcClaim bridges s
  | .spxStateRecord claim channels => Sys2Proof.Machine.execSpxStateRecord claim channels s
  | .driveRelease => Sys2Proof.Machine.execDriveRelease s
  | .bootWaitExpiry => Sys2Proof.Machine.execBootWaitExpiry s
  | .drill req => Sys2Proof.Machine.execDrill req s
  | .takeoverCommand req => Sys2Proof.Machine.execTakeoverCommand req s
  | .drillDrainTimeout => Sys2Proof.Machine.execDrillDrainTimeout s
  | .drillDwellEnd => Sys2Proof.Machine.execDrillDwellEnd s
  | .drillDay => Sys2Proof.Machine.execDrillDay s
  | .arbiterDecision arb arrivals => Sys2Proof.Machine.execArbiterDecision arb arrivals s
  | .backoffExpiry arb requester => Sys2Proof.Machine.execBackoffExpiry arb requester s
  | .privilegedPreempt arb requester length => Sys2Proof.Machine.execPrivilegedPreempt arb requester length s
  | .registerBusArbitration arrivals => Sys2Proof.Machine.execRegisterBusArbitration arrivals s
  | .dmaTailWrite req chan value => Sys2Proof.Machine.execDmaTailWrite req chan value s
  | .dmaDescriptor chan => Sys2Proof.Machine.execDmaDescriptor chan s
  | .dmaWriteback chan ok => Sys2Proof.Machine.execDmaWriteback chan ok s
  | .dmaResume req chan => Sys2Proof.Machine.execDmaResume req chan s
  | .ddrScrub chan w raced => Sys2Proof.Machine.execDdrScrub chan w raced s
  | .mramScrub w raced => Sys2Proof.Machine.execMramScrub w raced s
  | .mramDieFail die => Sys2Proof.Machine.execMramDieFail die s
  | .configRequest write offset value => Sys2Proof.Machine.execConfigRequest write offset value s
  | .bar0Request write offset values allBe ep => Sys2Proof.Machine.execBar0Request write offset values allBe ep s
  | .bar2Request write offset length data ep => Sys2Proof.Machine.execBar2Request write offset length data ep s
  | .unsupportedRequest kind => Sys2Proof.Machine.execUnsupportedRequest kind s
  | .bar0EntryWrite req value => Sys2Proof.Machine.execBar0EntryWrite req value s
  | .bar2EntryWrite req value => Sys2Proof.Machine.execBar2EntryWrite req value s
  | .outboundRequest req addr length write data tags => Sys2Proof.Machine.execOutboundRequest req addr length write data tags s
  | .completionTlp tag status data => Sys2Proof.Machine.execCompletionTlp tag status data s
  | .completionTimeout tag => Sys2Proof.Machine.execCompletionTimeout tag s
  | .tagQuarantineEnd tag => Sys2Proof.Machine.execTagQuarantineEnd tag s
  | .bmeClear => Sys2Proof.Machine.execBmeClear s
  | .flr => Sys2Proof.Machine.execFlr s
  | .flrDone => Sys2Proof.Machine.execFlrDone s
  | .perstAssert hot => Sys2Proof.Machine.execPerstAssert hot s
  | .perstDeassert => Sys2Proof.Machine.execPerstDeassert s
  | .l1Entry => Sys2Proof.Machine.execL1Entry s
  | .l1Exit => Sys2Proof.Machine.execL1Exit s
  | .msixCauseEdge vector => Sys2Proof.Machine.execMsixCauseEdge vector s
  | .svpEoi req value => Sys2Proof.Machine.execSvpEoi req value s
  | .svpSwi req value => Sys2Proof.Machine.execSvpSwi req value s
  | .powerOnReset b => Sys2Proof.Machine.execPowerOnReset b s
  | .deviceReset req b => Sys2Proof.Machine.execDeviceReset req b s
  | .refclkPresent => Sys2Proof.Machine.execRefclkPresent s
  | .refclkLost => Sys2Proof.Machine.execRefclkLost s
  | .pllLock => Sys2Proof.Machine.execPllLock s
  | .pllUnlock => Sys2Proof.Machine.execPllUnlock s
  | .dividerStep clock => Sys2Proof.Machine.execDividerStep clock s
  | .trimWindow count => Sys2Proof.Machine.execTrimWindow count s
  | .pwrDomainWrite req high value => Sys2Proof.Machine.execPwrDomainWrite req high value s
  | .domainSwitchDone domain => Sys2Proof.Machine.execDomainSwitchDone domain s
  | .smbStatus a => Sys2Proof.Machine.execSmbStatus a s
  | .smbTempMain a => Sys2Proof.Machine.execSmbTempMain a s
  | .smbTempSp a => Sys2Proof.Machine.execSmbTempSp a s
  | .smbSlotPower a => Sys2Proof.Machine.execSmbSlotPower a s
  | .smbBoot a => Sys2Proof.Machine.execSmbBoot a s
  | .smbCause a => Sys2Proof.Machine.execSmbCause a s
  | .smbIdentity a => Sys2Proof.Machine.execSmbIdentity a s
  | .smbPair a => Sys2Proof.Machine.execSmbPair a s
  | .smbGroup a group => Sys2Proof.Machine.execSmbGroup a group s
  | .smbSlot a slot => Sys2Proof.Machine.execSmbSlot a slot s
  | .smbReceiveByte a => Sys2Proof.Machine.execSmbReceiveByte a s
  | .smbUnknownCommand a code => Sys2Proof.Machine.execSmbUnknownCommand a code s
  | .smbWrite a code => Sys2Proof.Machine.execSmbWrite a code s
  | .alertResponse win => Sys2Proof.Machine.execAlertResponse win s
  | .smbTimeout => Sys2Proof.Machine.execSmbTimeout s
  | .snapCommit req => Sys2Proof.Machine.execSnapCommit req s
  | .snapDataAccess req write value => Sys2Proof.Machine.execSnapDataAccess req write value s
  | .snapStale => Sys2Proof.Machine.execSnapStale s
  | .causeSet req value => Sys2Proof.Machine.execCauseSet req value s
  | .pmcClear req page => Sys2Proof.Machine.execPmcClear req page s
  | .pmcChainRead req page pair => Sys2Proof.Machine.execPmcChainRead req page pair s
  | .pmtSeed req value => Sys2Proof.Machine.execPmtSeed req value s
  | .pmtGlobal req value => Sys2Proof.Machine.execPmtGlobal req value s
  | .idcode => Sys2Proof.Machine.execIdcode s
  | .bypass => Sys2Proof.Machine.execBypass s
  | .samplePreload preload => Sys2Proof.Machine.execSamplePreload preload s
  | .extest => Sys2Proof.Machine.execExtest s
  | .clamp => Sys2Proof.Machine.execClamp s
  | .highz => Sys2Proof.Machine.execHighz s
  | .feedFetTurnOn slot feedB mv => Sys2Proof.Machine.execFeedFetTurnOn slot feedB mv s
  | .feedWarning slot mv fall => Sys2Proof.Machine.execFeedWarning slot mv fall s
  | .breakerRelease slot senseUv at0 => Sys2Proof.Machine.execBreakerRelease slot senseUv at0 s
  | .dieOt temp => Sys2Proof.Machine.execDieOt temp s
  | .statusHotRise tempMain => Sys2Proof.Machine.execStatusHotRise tempMain s
  | .bootLinkWaitExpiry => Sys2Proof.Machine.execBootLinkWaitExpiry s
  | .claimConfirmTimeout slots spx => Sys2Proof.Machine.execClaimConfirmTimeout slots spx s
  | .rngReady => Sys2Proof.Machine.execRngReady s
  | .dataLinkUp speed width => Sys2Proof.Machine.execDataLinkUp speed width s
  | .dataLinkDown => Sys2Proof.Machine.execDataLinkDown s
  | .badCrcFrame slot pair => Sys2Proof.Machine.execBadCrcFrame slot pair s
  | .invalidOpcodeCapsule conn => Sys2Proof.Machine.execInvalidOpcodeCapsule conn s

end Sys2Proof.Machine
end

