-- ==== Sys2Proof/Machine/Step.lean ====
section
/-! DEFINITION. One step of the block: the command at the front of the queue takes effect. -/
namespace Sys2Proof.Machine

/-- The state with its front command taken off the queue. -/
def State.tail (s : State) : State := { s with pending := s.pending.drop 1 }

/-- What step does on an empty queue: one period of 1.25 ns passes and nothing else happens (DESIGN CHOICE, log
entry 1). -/
def idle (s : State) : State := elapse s 1

/-- One step: exec of the command at the front of the queue on the state with the queue's rest; with no command waiting
the block idles. -/
def step (s : State) : Host.Outcome State Fault Refusal :=
  match s.pending with
  | [] => .next (idle s)
  | c :: _ => exec c s.tail

/-- The state with the command that a word spells put at the front of its queue; unchanged where the word spells none. -/
def State.withFetchWord (s : State) (nbits w : Nat) : State :=
  match decodeTableWord nbits w with
  | none => s
  | some c => { s with pending := c :: s.pending }

end Sys2Proof.Machine
end

