-- ==== Sys2Proof/Safety.lean ====
section
/-! DEFINITION. The terms in which the statements speak: when a register access reaches its register, which units a
command leaves alone, and the invariant that every step keeps. -/
namespace Sys2Proof.Machine

/-- A write by a requester reaches the register at an offset of a page: the page answers, and no rule of Table 2-6 drops
the write (R23, R24, R35, R41, R316). -/
def writeReaches (s : State) (req page off : Nat) : Bool :=
  (!onDie page || dieReachable s) && !reservedPage s page && (dropCodes s req page off).isEmpty

/-- A read of an offset of a page reaches a register: the page answers and the offset is assigned (R23, R24, R316). -/
def readReaches (s : State) (page off : Nat) : Bool :=
  (!onDie page || dieReachable s) && !reservedPage s page && knownOffset page off

/-- A header without what events, causes and errors move: its mode, lock, masks and counter set-up. -/
def Page.ctl (p : Page) : Page :=
  { p with intRaw := 0#32, errReq := 0, errCode := 0, errAddr := 0, errCount := 0, pmcCnt := .empty, pmcOvf := 0 }

/-- From state `a` to state `b` nothing has happened to the command queue, MRAM, the key vault, the random number generator,
the DMA channels, the DDR channels, the power domains, the boot block, the test access port, or the mode of any page;
every interrupt cause raised stays raised, and DRAM keeps its canonical form. -/
structure Quiet (a b : State) : Prop where
  pending : b.pending = a.pending
  mram : b.mram = a.mram
  tap : b.tap = a.tap
  vault : b.vault = a.vault
  rng : b.rng = a.rng
  dma : b.dma = a.dma
  ddr : b.ddr = a.ddr
  pwr : b.pwr = a.pwr
  boot : b.boot = a.boot
  ctl : ∀ p, (getPage b p).ctl = (getPage a p).ctl
  causes : ∀ p i, bit (getPage a p).intRaw i = true → bit (getPage b p).intRaw i = true
  dram : memoryWf a.dram = true → memoryWf b.dram = true

/-- Every command keeps these: the queue, and the canonical form of the two memories. -/
structure Keep (a b : State) : Prop where
  pending : b.pending = a.pending
  dram : memoryWf a.dram = true → memoryWf b.dram = true
  mram : memoryWf a.mram = true → memoryWf b.mram = true

/-- From state `a` to state `b` slot n's power channel has had an event: the rest of the block is quiet, and no other slot's
channel has changed. -/
structure ChannelEvent (a b : State) (n : Nat) : Prop where
  quiet : Quiet a b
  others : ∀ k, k ≠ n → chanOf b k = chanOf a k

/-- From state `a` to state `b` slot n's power channel has turned its gate off and entered FAULT for a cause (R311). -/
structure ChannelFault (a b : State) (n : Nat) (cause : FaultCause) : Prop where
  event : ChannelEvent a b n
  st : (chanOf b n).st = .fault
  pg : (chanOf b n).pg = false
  retries : (chanOf b n).retries = min 15 ((chanOf a n).retries + 1)
  ot : (chanOf b n).otCause = decide (cause = .ot)
  raised : bit (getPage b (spwPage n)).intRaw 2 = true
  /-- where power-good had not asserted, nothing but the channel and its page has changed -/
  gate : (chanOf a n).pg = false →
    .gate n false ∈ b.outs ∧ bit (regOf b (spwPage n) O.SPW_FAULT) cause.index = true ∧
    (regOf b (spwPage n) O.SPW_FAULT_CNT).toNat = min 0xFFFFFFFF ((regOf a (spwPage n) O.SPW_FAULT_CNT).toNat + 1) ∧
    b = { a with channels := b.channels, pages := b.pages, regs := b.regs, outs := b.outs, mgt := b.mgt
                 clk := b.clk, time := b.time }

/-- The security core serves the next entry of its ring at once: no entry waits before it (R321). -/
def ringTakes (s : State) : Bool := s.secWait.isEmpty && ringServed s

/-- A signed request that passes the checks every signed request meets: an owner is bound, the nonce is above the last one
accepted, the signature and the layout are good, and no ZEROIZE has happened (R321, R337). -/
def signedOk (s : State) (r : SecReq) : Bool :=
  ringTakes s && !s.alarm.zeroized && s.sec.mode ≠ .zeroized && s.sec.owner.isSome && decide (s.sec.nonce < r.nonce) &&
  r.sigOk && r.bodyOk

/-- From state `a` to state `b` a request of the ring has ended with status 0 (R321): its answer is out, the head has moved
on, the request stands in the security log, and the command queue, MRAM, TAP, the power domains and the device memories'
form are as they were. -/
structure Granted (a b : State) (op : Nat) (response : List Nat) : Prop where
  keep : Keep a b
  answer : .secStatus 0 response ∈ b.outs
  head : b.sec.head = a.sec.head + 1
  log : b.sec.log = op :: a.sec.log
  wait : b.secWait = []
  mram : b.mram = a.mram
  tap : b.tap = a.tap
  pwr : b.pwr = a.pwr

/-- The next capsule of a connection is `k`, and nothing keeps it from being parsed: the connection is READY, its trigger has
fired, CMD takes work, and no hold is in force (R79, R110, R112, R330). -/
structure Arrives (s : State) (n : Nat) (k : Capsule) : Prop where
  unit : n < 4096
  ready : (connOf s n).st = .ready
  takes : accepting s cmdPage = true
  held : (connOf s n).heldCaps = []
  fired : (connOf s n).slots.has (connOf s n).parse = true
  bytes : parseCapsule (readBytes (connOf s n).ringBytes ((connOf s n).parse * 64) 64) = k
  count : (connOf s n).sealed = true → (connOf s n).sqHead ≠ 2 ^ 32 - 1
  free : waitsAtIntake s n k = false

/-- A capsule passes the checks of R88 that come before those of its own opcode. -/
def capsulePasses (s : State) (n : Nat) (k : Capsule) : Bool :=
  k.op ≠ 0x04 && (intakeStatus s n k).isNone && (!servesLittle s || k.op = 0x10 || k.op = 0x18 || k.op = 0x1F) &&
  tokenOk s n k && (nsStatus s k).isNone

/-- A capsule of connection n has been taken from its ring slot (R79); nothing outside the units that commands reach has
changed. -/
structure Taken (s t : State) (n : Nat) : Prop where
  parse : (connOf t n).parse = ((connOf s n).parse + 1) % 1024
  head : (connOf t n).sqHead = (connOf s n).sqHead + 1
  slot : (connOf t n).slots = (connOf s n).slots.erase (connOf s n).parse
  quiet : Quiet s t

/-- A completion entry with a status and a RESULT stands for connection n: it waits for ring space, or it has been handed to
the engine (R81, R89). -/
def Posted (t : State) (n cid status result : Nat) : Prop :=
  (∃ e ∈ (connOf t n).waiting, e.cid = cid ∧ e.status = status ∧ e.result = result ∧ e.typ = 1) ∨
  (∃ k typ head grant, .entry n k cid status typ head grant result ∈ t.outs)

/-- What waited on a link has been sent as far as data credits and the 64 places of the replay buffer allow (R203, R206):
from link `l`, whose replay buffer holds `held` once an acknowledgement has been taken, to link `l'`. -/
structure FramesSent (l l' : Link) (held : List HeldFrame) (credits : Nat) : Prop where
  sent : ∃ k, k = min l.dataQueue.length (min credits (64 - held.length)) ∧ l'.dataQueue = l.dataQueue.drop k ∧
    l'.credData = credits - k ∧ l'.held.take held.length = held ∧ l'.held.length = held.length + k ∧
    l'.txSeq % 4096 = (l.txSeq + k) % 4096
  rest : l'.st = l.st ∧ l'.tags = l.tags ∧ l'.waiting = l.waiting ∧ l'.rxSeq = l.rxSeq ∧ l'.serial = l.serial

/-- The link on which a module command has gone out under a tag (R206, R208): a command credit is used, the tag holds the
command, its frame is held for replay, and the other tags are as they were. -/
structure CommandSent (l l' : Link) (tag now : Nat) (c : LinkCmd) : Prop where
  held : l'.tags.get tag = some { c with issued := now, frames := 0 }
  others : ∀ u, u ≠ tag → l'.tags.get u = l.tags.get u
  credit : l'.credCmd + 1 = l.credCmd
  frame : ∃ f ∈ l'.held, f.seq = l.txSeq ∧ f.tag = tag ∧ f.op = c.op ∧ f.replays = 0
  kept : ∀ f ∈ l.held, f ∈ l'.held
  st : l'.st = l.st ∧ l'.rxSeq = l.rxSeq ∧ l'.serial = l.serial

/-- A packet meets nothing on its way to the receive pipeline of connection n's engine (R118, R130, R132, Table 5-5): its QPN
is the connection's, the connection is READY, its context is cached and no fetch or parked packet is before it. -/
structure Pipeline (s : State) (n : Nat) (p : Packet) : Prop where
  unit : n < 4096
  qpn : p.qpn = 65536 + (connOf s n).engine * 4096 + n
  engine : (connOf s n).engine < 4
  enabled : isEnabled s (xptPage (connOf s n).engine) = true
  open_ : (getPage s (xptPage (connOf s n).engine)).quiesce = false
  ready : (connOf s n).st = .ready
  cached : contextCached s n = true
  idle : (connOf s n).fetching = false ∧ s.parked.getD n [] = []
  unmarked : p.ce = false

/-- A packet has been taken on connection n, and nothing outside its connection, its engine and the switch has changed but the
units that the statement names. -/
structure PacketTaken (s t : State) (n : Nat) : Prop where
  quiet : Quiet s t
  others : ∀ m, m ≠ n → connOf t m = connOf s m
  rest : t.commands = s.commands ∧ t.zones = s.zones ∧ t.groups = s.groups ∧ t.links = s.links ∧ t.namespaces = s.namespaces ∧
    t.journal = s.journal ∧ t.sec = s.sec ∧ t.egress = s.egress

/-- Connection n has left READY for ERROR, and the controller has sent its DREQ (R103, R125). -/
structure ConnFailed (s t : State) (n : Nat) : Prop where
  quiet : Quiet s t
  st : (connOf t n).st = .closing
  own : (connOf t n).ownDreq = true
  due : (connOf t n).deadline = some (t.time.now + 8000000)
  waiting : (connOf t n).waiting = []
  dreq : .dreq n ∈ t.outs
  raised : bit (getPage t (xptPage (connOf s n).engine)).intRaw 2 = true

/-- Connection n is FREE from state `a` to state `b`: its credits and its seal bank entry are gone, its ring region is being
revoked, and its number rests for 10 ms (R125). -/
structure ConnFreed (s t : State) (n : Nat) : Prop where
  keep : Keep s t
  conn : connOf t n = { st := .free, deadline := some (t.time.now + 8000000) }
  ring : (regionOf s (connOf s n).ringRegion).st = .valid → (regionOf t (connOf s n).ringRegion).st = .revoking
  tags : ∀ i, (connOf s n).ctagRegion = some i → (regionOf s i).st = .valid → (regionOf t i).st = .revoking
  credit : ∀ c ∈ t.commands.values, c.conn = n → c.credit = false
  seal_ : t.vault.seals.get n = none

/-- The controller has demoted itself (R355): it is STANDBY, holds nothing, has ended every command and dropped every entry
that waited, and enters SYNCING where a partner is bound. -/
structure Demoted (s t : State) : Prop where
  keep : Keep s t
  role : t.pair.role = .standby
  mirror : t.pair.mirror = if s.sec.bound then .syncing else .none
  holding : t.pair.holding = false
  commands : ∀ q, t.commands.get q = none
  waiting : ∀ n, (connOf t n).waiting = []
  folds : t.folds = .empty
  raised : bit (getPage t pairPage).intRaw 3 = true

/-- The controller raises its claim above its own epoch and the last one heard of the partner (R351). -/
def raisedEpoch (s : State) (peer : Nat) : Nat := (max s.pair.epoch peer + 1) % 2 ^ 31

/-- The commands that may reach MRAM, the key vault, the random number generator, the DMA and DDR channels, the power domains,
the boot block, the test access port or the mode of a page. -/
def reachesUnits (i : Instr) : Bool :=
  match i with
  | .registerWrite .. | .counterWrite .. | .enable .. | .enableDone .. | .shutdown .. | .shutdownDone ..
  | .quiesce .. | .quiesceDone .. | .softReset .. | .softResetDone .. | .lockReq .. | .lockReqAnswer ..
  | .pgLockWrite .. | .fault .. | .intSet .. | .errCountWrite .. | .cycLoRead .. | .patchHoldTimeout | .req ..
  | .setupTimeout .. | .dreq .. | .drep .. | .drepTimeout .. | .status .. | .spUvlo .. | .identity .. | .bindOwner ..
  | .pairBind .. | .nsCreate .. | .nsSet .. | .nsUnlock .. | .nsRetire .. | .tvkSet .. | .tvkRemove .. | .denyAdd ..
  | .denyRemove .. | .orderedAdd .. | .orderedRemove .. | .recover .. | .pageUnlock .. | .patchStage ..
  | .patchActivate .. | .patchApply | .keyLockAcquire .. | .keyLockRelease .. | .keyLoad .. | .keyZero ..
  | .keyZeroAll .. | .alarmErase .. | .alarmZeroize .. | .zeroize .. | .rngHealthFail .. | .rngRestart
  | .rngOutRead .. | .heartbeat .. | .heartbeatWord .. | .heartbeatBoundary | .handover .. | .secure ..
  | .spxStateRecord .. | .bootWaitExpiry | .drill .. | .takeoverCommand .. | .registerBusArbitration ..
  | .dmaTailWrite .. | .dmaDescriptor .. | .dmaWriteback .. | .dmaResume .. | .ddrScrub .. | .mramDieFail ..
  | .configRequest .. | .bar0Request .. | .completionTlp .. | .completionTimeout .. | .flr | .perstAssert ..
  | .powerOnReset .. | .deviceReset .. | .refclkPresent | .pllLock | .dividerStep .. | .pwrDomainWrite ..
  | .domainSwitchDone .. | .pmcClear .. | .pmcChainRead .. | .idcode | .bypass | .samplePreload .. | .extest | .clamp
  | .highz | .bootLinkWaitExpiry | .claimConfirmTimeout .. | .rngReady => true
  | _ => false

/-- The invariant: both byte memories are in their canonical form. -/
structure Inv (s : State) : Prop where
  dram : memoryWf s.dram = true
  mram : memoryWf s.mram = true

end Sys2Proof.Machine
end

