-- ==== Sys2Proof/Certificates/Slice0/Obligations.lean ====
section
/-! DEFINITION. The statements for the provers. Each says what commands do where they complete, and what they leave alone, by
the numbered rules that its docstring names. -/
open Sys2Proof Sys2Proof.Machine

/-- A step takes the command at the front of the queue and runs it on the state with the queue's rest; on an empty queue, as the
model chooses (log entry 1), one tick of 1.25 ns passes and nothing else happens (R4). -/
def Obligations.StepRunsFrontCommand : Prop :=
  ∀ (c : Instr) (s : State),
    step { s with pending := c :: s.pending } = exec c s ∧
    (s.pending = [] →
      ∃ t, step s = .next t ∧ t.time.now = s.time.now + 1 ∧ t = { s with time := t.time, clk := t.clk, pages := t.pages })

/-- What reset leaves (R50 with Table 2-7, R53, R140, R161, R201, R296, R345, R360, R363, R421, R433): ENABLE of every page as
Table 2-7 gives it and the other fields of PG_CTRL 0, no lock, cause or error; every switched power domain off; every namespace
UNUSED, every zone EMPTY, no group, no connection, every region FREE at generation 1, every slot link DOWN and every slot's power
off; the role BOOT, no mirror, DAYS 0xFFFF; a time base that is not set; the SMBus address of controller 0, the id that the model
takes for its strap (log entry 7); and no command waiting. -/
def Obligations.ResetState : Prop :=
  (∀ p, (getPage State.reset p).enable = decide (blockOf p ∈ [some .clk, some .pwr, some .time, some .boot, some .sec, some .alm,
      some .fab, some .mrm, some .mgt]) ∧
    (getPage State.reset p).enabled = (getPage State.reset p).enable ∧ (getPage State.reset p).quiesce = false ∧
    (getPage State.reset p).softReset = false ∧ (getPage State.reset p).lockReq = false ∧ (getPage State.reset p).lock = false ∧
    (getPage State.reset p).fault = false ∧ (getPage State.reset p).intRaw = 0#32 ∧ (getPage State.reset p).intEn = 0#32 ∧
    (getPage State.reset p).errCount = 0) ∧
  (∀ d, State.reset.pwr.isOn.contains d = false) ∧ State.reset.boot.stage = 1 ∧
  (∀ n, (nsOf State.reset n).st = .unused ∧ (connOf State.reset n).st = .free ∧ groupOf State.reset n = none ∧
    (regionOf State.reset n).st = .free ∧ (regionOf State.reset n).gen = 1 ∧ (linkOf State.reset n).st = .down ∧
    (chanOf State.reset n).st = .off ∧ (chanOf State.reset n).pg = false) ∧
  (∀ n z, (zoneOf State.reset n z).st = .empty) ∧
  State.reset.pair.role = .boot ∧ State.reset.pair.mirror = .none ∧ State.reset.pair.drillDays = 0xFFFF ∧
  State.reset.time.isSet = false ∧ State.reset.time.sec = 0 ∧ State.reset.time.ns = 0 ∧
  regField State.reset mgtPage O.MGT_CFG 0 7 = 0x5A ∧ State.reset.pending = []

/-- The invariant holds at reset, where DRAM and MRAM list nothing and, as the model chooses (log entry 3), every byte that is not
listed reads 0; what is written reads back, and the bytes beside it read as before. -/
def Obligations.InvariantHoldsAtReset : Prop :=
  Inv State.reset ∧ (∀ a, readByte State.reset.dram a = 0#8) ∧
  (∀ (m : List Host.Cell) (a b : Nat) (bs : List Byte),
    readBytes (writeBytes m a bs) a bs.length = bs ∧
    (b < a ∨ a + bs.length ≤ b → readByte (writeBytes m a bs) b = readByte m b) ∧
    (memoryWf m = true → memoryWf (writeBytes m a bs) = true))

/-- Every step from a state that meets the invariant answers one that meets it, with one command fewer in the queue. That a
byte of DRAM or MRAM which is not listed stands for one value is the model's choice (log entries 3, 13). -/
def Obligations.StepsKeepInvariant : Prop :=
  ∀ s t : State, Inv s → step s = .next t → Inv t ∧ t.pending = s.pending.drop 1

/-- No command but those that `reachesUnits` names changes MRAM, the key vault, the random number generator, the DMA or DDR
channels, the power domains, the boot block, the test access port, the mode, lock or masks of a page, or the command queue, and
none of the others clears an interrupt cause (R36, R41, R325, R339, R376, R421). -/
def Obligations.QuietCommandsFrame : Prop :=
  ∀ (i : Instr) (s t : State), reachesUnits i = false → exec i s = .next t → Quiet s t

/-- The writes of PG_CTRL's four fields complete where the write reaches its page (R26, R27, R29, R33, R42), each with the
field it changes; other pages keep their modes where the block has no work to stop, and the units that no page mode
touches stay. -/
def Obligations.PageControlWrites : Prop :=
  ∀ (s : State) (req page : Nat) (on : Bool), writeReaches s req page 0x008 = true → (getPage s page).softReset = false →
    (atRest s page = true → (getPage s page).fault = false →
      ∃ t, exec (.enable req page) s = .next t ∧
        (getPage t page).enable = true ∧ (getPage t page).enabling = true ∧ (getPage t page).enabled = false ∧
        (∀ q, q ≠ page → (getPage t q).ctl = (getPage s q).ctl) ∧
        t = { s with pages := t.pages, outs := t.outs, mgt := t.mgt, svp := t.svp, regs := t.regs }) ∧
    ((getPage s page).enabled = true → refusesShutdown s page = false →
      ∃ t, exec (.shutdown req page) s = .next t ∧
        (getPage t page).enable = false ∧ (getPage t page).enabled = false ∧ (getPage t page).shutdown = true ∧
        t.pending = s.pending ∧ t.mram = s.mram ∧ t.tap = s.tap ∧ t.boot = s.boot ∧ t.pwr = s.pwr ∧ t.dma = s.dma ∧
        t.ddr = s.ddr) ∧
    (∃ t, exec (.quiesce req page on) s = .next t ∧
      (getPage t page).quiesce = on ∧ (on = false → (getPage t page).quiesced = false) ∧
      (∀ q, q ≠ page → (getPage t q).ctl = (getPage s q).ctl) ∧
      t.pending = s.pending ∧ t.mram = s.mram ∧ t.tap = s.tap ∧ t.boot = s.boot ∧ t.pwr = s.pwr ∧ t.vault = s.vault) ∧
    ((getPage s page).enabled = false → (getPage s page).shutdown = false →
      ∃ t, exec (.softReset req page) s = .next t ∧
        (getPage t page).softReset = true ∧ (getPage t page).enabled = false ∧ (getPage t page).fault = false ∧
        (∀ q, q ≠ page → (getPage t q).ctl = (getPage s q).ctl) ∧
        t.pending = s.pending ∧ t.mram = s.mram ∧ t.dram = s.dram ∧ t.tap = s.tap ∧ t.boot = s.boot ∧ t.pwr = s.pwr) ∧
    ((getPage s page).lock = false →
      ∃ t, exec (.lockReq req page) s = .next t ∧
        (getPage t page).lockReq = true ∧ (getPage t page).lock = false ∧
        (∀ q, q ≠ page → (getPage t q).ctl = (getPage s q).ctl) ∧
        t = { s with pages := t.pages, outs := t.outs, mgt := t.mgt, svp := t.svp, regs := t.regs })

/-- The events that end an enable, a shutdown, a quiesce, a soft reset and a lock request complete, with the mode they leave
and the cause they raise (R26 to R30, R35, R42), and an internal fault sets FAULT and stops the block (R32). -/
def Obligations.PageModeEvents : Prop :=
  ∀ (s : State) (page code addr : Nat),
    ((getPage s page).enabling = true → (getPage s page).enable = true → poweredOn s page = true →
        trainingFails s page = false →
      ∃ t, exec (.enableDone page) s = .next t ∧
        (getPage t page).enabled = true ∧ (getPage t page).enabling = false ∧ bit (getPage t page).intRaw 28 = true ∧
        t.pending = s.pending ∧ t.mram = s.mram ∧ t.tap = s.tap) ∧
    ((getPage s page).shutdown = true → (getPage s page).reenable = false → workEnded (shutdownClock s page) page = true →
      ∃ t, exec (.shutdownDone page) s = .next t ∧
        (getPage t page).shutdown = false ∧ (getPage t page).quiesce = false ∧ bit (getPage t page).intRaw 29 = true ∧
        (getPage t page).enabling = (getPage s page).enabling ∧
        t.pending = s.pending ∧ t.mram = s.mram ∧ t.boot = s.boot ∧ t.pwr = s.pwr ∧ t.vault = s.vault) ∧
    ((getPage s page).enabled = true → (getPage s page).quiesce = true → (getPage s page).quiesced = false →
        drained (shutdownClock s page) page = true →
      ∃ t, exec (.quiesceDone page) s = .next t ∧
        (getPage t page).quiesced = true ∧ bit (getPage t page).intRaw 27 = true ∧
        (∀ q, q ≠ page → (getPage t q).ctl = (getPage s q).ctl) ∧
        t.pending = s.pending ∧ t.mram = s.mram ∧ t.dram = s.dram ∧ t.conns = s.conns ∧ t.zones = s.zones) ∧
    ((getPage s page).softReset = true →
      ∃ t, exec (.softResetDone page) s = .next t ∧
        getPage t page = { getPage s page with softReset := false, enabling := (getPage s page).enable } ∧
        (∀ q, q ≠ page → getPage t q = getPage s q) ∧ t = { s with pages := t.pages }) ∧
    ((getPage s page).lockReq = true → (getPage s page).lock = false →
      ∃ t, exec (.lockReqAnswer page) s = .next t ∧
        (getPage t page).lockReq = false ∧ (getPage t page).lock = grantsLock page ∧
        (∀ q, q ≠ page → (getPage t q).ctl = (getPage s q).ctl) ∧
        t = { s with pages := t.pages, outs := t.outs, svp := t.svp, regs := t.regs }) ∧
    ((blockOf page).isSome = true → poweredOn s page = true → refusesShutdown s page = false →
      ∃ t, exec (.fault page code addr) s = .next t ∧
        (getPage t page).fault = true ∧ (getPage t page).enabled = false ∧ (getPage t page).enable = false ∧
        ((getPage s page).fault = false → bit (getPage t page).intRaw 26 = true) ∧
        ((getPage s page).errCount = 0 → (getPage t page).errCode = code ∧ (getPage t page).errAddr = addr ∧
          (getPage t page).errCount ≠ 0) ∧
        t.pending = s.pending ∧ t.mram = s.mram ∧ t.tap = s.tap)

/-- Header registers (R38, R40, R41, R47, R441, R442): INT_SET raises the written causes that the page has, a write of 0 to
ERR_COUNT clears the error registers together, the security core's write of PG_LOCK sets the lock and anyone else's is
dropped and logged, PMC_CTRL.CLEAR zeroes the eight counters, and the read of a low half returns it and latches the high
half for the reader. Nothing but page headers, the response and the windows that a lock invalidates changes. -/
def Obligations.HeaderRegisters : Prop :=
  ∀ (s : State) (req page : Nat) (v : Word),
    (writeReaches s req page 0x01C = true →
      ∃ t, exec (.intSet req page v) s = .next t ∧
        (∀ i, bit v i = true → bit (0xFC000000#32 ||| ((blockOf page).map blockCauses).getD 0#32) i = true →
          bit (getPage t page).intRaw i = true) ∧
        (∀ q, (getPage t q).ctl = (getPage s q).ctl) ∧ (∀ q, q ≠ page → getPage t q = getPage s q) ∧
        t = { s with pages := t.pages }) ∧
    (writeReaches s req page 0x024 = true →
      ∃ t, exec (.errCountWrite req page 0#32) s = .next t ∧
        (getPage t page).errCount = 0 ∧ (getPage t page).errCode = 0 ∧ (getPage t page).errReq = 0 ∧
        (getPage t page).errAddr = 0 ∧
        (∀ q, (getPage t q).ctl = (getPage s q).ctl) ∧ (∀ q, q ≠ page → getPage t q = getPage s q) ∧
        t = { s with pages := t.pages }) ∧
    (writeReaches s 0x10 page 0x0C0 = true →
      ∃ t, exec (.pgLockWrite 0x10 page v) s = .next t ∧ (getPage t page).lock = bit v 0 ∧
        (∀ q, q ≠ page → (getPage t q).ctl = (getPage s q).ctl) ∧
        t = { s with pages := t.pages, svp := t.svp, regs := t.regs }) ∧
    (req ≠ 0x10 → (!onDie page || dieReachable s) = true → reservedPage s page = false →
      ∃ t, exec (.pgLockWrite req page v) s = .next t ∧ (getPage t page).ctl = (getPage s page).ctl ∧
        ((getPage s page).errCount < (getPage t page).errCount ∨ 0xFFFFFFFF ≤ (getPage s page).errCount)) ∧
    (writeReaches s req page 0x048 = true →
      ∃ t, exec (.pmcClear req page) s = .next t ∧ (∀ i, (getPage t page).pmcCnt.getD i 0 = 0) ∧
        (getPage t page).pmcCtrl = (getPage s page).pmcCtrl &&& 0x030F00FF#32 ∧ (∀ q, q ≠ page → getPage t q = getPage s q) ∧
        t = { s with pages := t.pages }) ∧
    (readReaches s page 0x040 = true →
      ∃ t, exec (.cycLoRead req page) s = .next t ∧
        t.outs = .readValue req (regAddr page 0x040) (showHeader s page 0x040) :: s.outs ∧
        (latchOf t page req).cyc = some (showHeader s page 0x044) ∧ t = { s with outs := t.outs, pages := t.pages }) ∧
    (∀ pair, pair < 4 → readReaches s page (0x070 + 8 * pair) = true → bit (getPage s page).pmcCtrl (16 + pair) = true →
      ∃ t, exec (.pmcChainRead req page pair) s = .next t ∧
        (latchOf t page req).pmc.get pair = some (Word.ofNum ((getPage (pmcEvent s page 0x006 1) page).pmcCnt.getD (2 * pair + 1) 0)) ∧
        t = { s with outs := t.outs, pages := t.pages })

/-- Register accesses (R44 to R46, R48, R375, R376, R381, R440, R444): a write stores the value that the register's fields
store; a write of 0 clears a counter and any other value leaves it; an access that is not one aligned 32-bit access is
answered with an access error and logged; an access granted on an idle register bus is performed and answered; DMA_TAIL,
DMA_CTRL.RESUME, PMT_SEED and PMT_GLOBAL.RUN take effect. -/
def Obligations.RegisterAccesses : Prop :=
  ∀ (s : State) (req addr page off : Nat) (v : Word),
    (splitAddr addr = some (page, off) → off % 4 = 0 → 0x100 ≤ off → writeReaches s req page off = true →
        ∀ b d i, blockOf page = some b → b ∈ [.clk, .sec, .rng, .cmd, .stg, .pqe, .ecc, .spc, .cx, .ddr, .mrm] →
        regAt b page off = some (d, i) → d.fields ≠ [] →
      ∃ t, exec (.registerWrite req addr v) s = .next t ∧
        regOf t page off = (storedValue (pmcEvent s page 0x006 1) page off b d v).1 ∧
        (∀ q o, regKey q o ≠ regKey page off → q ≠ svpPage → regOf t q o = regOf s q o) ∧
        (∀ q, (getPage t q).ctl = (getPage s q).ctl) ∧
        t = { s with regs := t.regs, pages := t.pages, outs := t.outs, mgt := t.mgt, svp := t.svp }) ∧
    (splitAddr addr = some (page, off) → off % 4 = 0 → 0x100 ≤ off → writeReaches s req page off = true →
        counterAt addr = true → s.svp.msixEn = false ∨ page ≠ svpPage →
      ∃ t, exec (.counterWrite req addr v) s = .next t ∧
        showReg t page off = (if v = 0#32 then 0#32 else showReg s page off) ∧
        t.pending = s.pending ∧ t.dram = s.dram ∧ t.conns = s.conns ∧ t.zones = s.zones ∧ t.vault = s.vault) ∧
    (∀ size write, addr % 4 ≠ 0 ∨ size ≠ 4 →
      ∃ t, exec (.invalidRegisterAccess req addr size write) s = .next t ∧
        t.outs = (if write then [] else [.readValue req addr 0#32]) ++ .accessError req addr :: s.outs ∧
        bit (getPage t fabPage).intRaw 1 = true ∧
        ((getPage s fabPage).errCount = 0 →
          (getPage t fabPage).errCode = (if addr % 4 ≠ 0 then 0x0002 else 0x0003) ∧ (getPage t fabPage).errReq = req) ∧
        (∀ q, (getPage t q).ctl = (getPage s q).ctl) ∧
        t = { s with outs := t.outs, pages := t.pages, regs := t.regs }) ∧
    ((arbiterOf s 5).reqs = .empty → usesArbiter req 5 = true → readReaches s page 0x000 = true → page < 0x2000 →
      ∃ t, exec (.registerBusArbitration [⟨req, regAddr page 0x000, false, v⟩]) s = .next t ∧
        t.outs = .readValue (carriedId req) (regAddr page 0x000)
          (packWord [(16, ((blockOf page).map (·.place.1)).getD 0), (8, page - ((blockOf page).map (·.place.1)).getD 0), (0, 1)])
          :: s.outs ∧
        (requesterOf t 5 req).accesses = [] ∧ (requesterOf t 5 req).grants = 1 ∧
        t = { s with outs := t.outs, pages := t.pages, arbiters := t.arbiters, regs := t.regs }) ∧
    (∀ n, n < 16 → writeReaches s req (0x118 + n) O.DMA_TAIL = true →
      ∃ t, exec (.dmaTailWrite req n v) s = .next t ∧ regOf t (0x118 + n) O.DMA_TAIL = v ∧
        t = { s with regs := t.regs, pages := t.pages, outs := t.outs, mgt := t.mgt, svp := t.svp }) ∧
    (∀ n, n < 16 → writeReaches s req (0x118 + n) O.DMA_CTRL = true →
      ∃ t, exec (.dmaResume req n) s = .next t ∧ (t.dma.getD n {}).halt = false ∧ (t.dma.getD n {}).cause = 0 ∧
        bit (regOf t (0x118 + n) O.DMA_CTRL) 0 = false ∧
        (∀ m, m ≠ n → t.dma.getD m {} = s.dma.getD m {}) ∧
        t = { s with dma := t.dma, regs := t.regs, pages := t.pages, outs := t.outs, mgt := t.mgt, svp := t.svp }) ∧
    (writeReaches s req pmtPage O.PMT_SEED = true →
      ∃ t, exec (.pmtSeed req v) s = .next t ∧ t.trace.lfsr = (if v = 0#32 then 1 else v.toNat) ∧
        t.trace.live = s.trace.live ∧ t = { s with trace := t.trace, regs := t.regs, pages := t.pages }) ∧
    (writeReaches s req pmtPage O.PMT_GLOBAL = true →
      ∃ t, exec (.pmtGlobal req v) s = .next t ∧ globalRun t = bit v 0 ∧ t = { s with regs := t.regs, pages := t.pages })

/-- The clock tree (R414, R417, R418, R420): the reference and the lock come and go, the dividers step, and the oscillator
trim moves. Each event completes where its condition holds; what a clock event does not touch stays. How an acquisition tries
its bits is the model's reading (log entry 8). -/
def Obligations.ClockEvents : Prop :=
  ∀ (s : State),
    (s.clk.refclk = false → s.tap.porstLow = false → s.clk.pllLock = false →
      ∃ t, exec .refclkPresent s = .next t ∧ t.clk = { s.clk with refclk := true } ∧
        bit (getPage t clkPage).intRaw 1 = true ∧ (s.boot.stage = 1 → t.boot.stage = 2) ∧
        t.pending = s.pending ∧ t.dram = s.dram ∧ t.conns = s.conns ∧ t.zones = s.zones ∧ t.vault = s.vault) ∧
    (s.clk.refclk = true →
      ∃ t, exec .refclkLost s = .next t ∧ t.clk.refclk = false ∧ t.clk.pllLock = false ∧ t.clk.down = false ∧
        (s.clk.pllLock = true → t.clk.holdover = true) ∧ bit (getPage t clkPage).intRaw 0 = true ∧
        t.alarm.present = s.alarm.present ||| 2 ∧ Quiet s t) ∧
    (s.clk.refclk = true → s.clk.pllLock = false →
      ∃ t, exec .pllLock s = .next t ∧ t.clk.pllLock = true ∧ t.clk.holdover = false ∧ t.clk.down = true ∧
        (∀ n ∈ pllClocks, (t.clk.get n).onPll = true ∧ (t.clk.get n).div = (s.clk.get n).div) ∧
        t.pending = s.pending ∧ t.dram = s.dram ∧ t.conns = s.conns ∧ t.zones = s.zones ∧ t.vault = s.vault) ∧
    (s.clk.pllLock = true →
      ∃ t, exec .pllUnlock s = .next t ∧ t.clk.pllLock = false ∧ t.clk.holdover = true ∧ t.clk.refclk = s.clk.refclk ∧
        bit (getPage t clkPage).intRaw 2 = true ∧ t.alarm.present = s.alarm.present ||| 2 ∧ Quiet s t) ∧
    (∀ n, n < 5 → (s.clk.get (clkOfNumber n)).ramping = true →
      ∃ t, exec (.dividerStep n) s = .next t ∧
        (t.clk.get (clkOfNumber n)).div =
          (if s.clk.down then (s.clk.get (clkOfNumber n)).div - 1 else (s.clk.get (clkOfNumber n)).div + 1) ∧
        s.time.now ≤ t.time.now ∧
        t.pending = s.pending ∧ t.dram = s.dram ∧ t.conns = s.conns ∧ t.zones = s.zones ∧ t.vault = s.vault) ∧
    (∀ count, trimSource s = 1 → s.clk.source = 1 →
      ∃ t, exec (.trimWindow count) s = .next t ∧ t.clk.ppm = ((count : Int) - 262144) * 1000000 / 262144 ∧
        (s.clk.locked = false → s.clk.acqBit ≠ 0 → t.clk.acqBit = s.clk.acqBit - 1 ∧ t.clk.locked = false) ∧
        (s.clk.locked = false → s.clk.acqBit = 0 → t.clk.locked = true) ∧
        (s.clk.locked = true → 262144 < count → 150 * 262144 < (count - 262144) * 1000000 → s.clk.code ≠ 0 →
          t.clk.code = s.clk.code - 1) ∧
        (s.clk.locked = true → count < 262144 → 150 * 262144 < (262144 - count) * 1000000 → s.clk.code ≠ 1023 →
          t.clk.code = s.clk.code + 1) ∧
        (s.clk.locked = true → (count - 262144) * 1000000 ≤ 150 * 262144 → (262144 - count) * 1000000 ≤ 150 * 262144 →
          t.clk.code = s.clk.code) ∧
        t = { s with clk := t.clk, regs := t.regs, pages := t.pages, outs := t.outs, svp := t.svp })

/-- Power domains and resets (R421 to R424): a write of PWR_DOM_ON requests domains and the lowest one that differs starts to
switch; a domain that has come on shows its pages disabled and without fault; a power-on reset starts the power-up with DRAM,
connections, commands, regions and keys gone and MRAM kept; DEVICE_RESET does the same outside the always-on domain for the
security core, and nothing for anyone else. What a reset keeps and loses is the model's reading (log entry 51). -/
def Obligations.PowerAndResets : Prop :=
  ∀ (s : State) (req : Nat) (v : Word) (b : BootInputs),
    (writeReaches s req pwrPage O.PWR_DOM_ON0 = true →
        (∀ i, bit (regOf s pwrPage O.PWR_DOM_ON0) i = true → bit v i = true) →
      ∃ t, exec (.pwrDomainWrite req false v) s = .next t ∧ regOf t pwrPage O.PWR_DOM_ON0 = v ∧
        (s.pwr.switching.isSome = true → t.pwr = s.pwr) ∧
        (s.pwr.switching = none → ∀ d, d < 32 → (∀ e, e < d → bit v e = s.pwr.isOn.contains e) → bit v d = true →
          s.pwr.isOn.contains d = false → t.pwr.switching = some (d, true)) ∧
        t = { s with pwr := t.pwr, regs := t.regs, pages := t.pages, outs := t.outs, mgt := t.mgt, svp := t.svp }) ∧
    (writeReaches s req pwrPage O.PWR_DOM_ON1 = true →
        (∀ i, i < 4 → bit (regOf s pwrPage O.PWR_DOM_ON1) i = true → bit v i = true) →
      ∃ t, exec (.pwrDomainWrite req true v) s = .next t ∧
        field (regOf t pwrPage O.PWR_DOM_ON1) 0 4 = field v 0 4 ∧ (s.pwr.switching.isSome = true → t.pwr = s.pwr) ∧
        t = { s with pwr := t.pwr, regs := t.regs, pages := t.pages, outs := t.outs, mgt := t.mgt, svp := t.svp }) ∧
    (∀ d, d < 36 → s.pwr.switching = some (d, true) →
      ∃ t, exec (.domainSwitchDone d) s = .next t ∧ t.pwr.isOn.contains d = true ∧
        (∀ page, domainOf page = some d → (getPage t page).enabled = false ∧ (getPage t page).fault = false) ∧
        t.pending = s.pending ∧ t.mram = s.mram ∧ t.dram = s.dram ∧ t.conns = s.conns ∧ t.tap = s.tap) ∧
    (∀ d, d < 36 → s.pwr.switching = some (d, false) → s.pwr.isOn.contains d = false →
      ∃ t, exec (.domainSwitchDone d) s = .next t ∧ t.pwr.isOn.contains d = false ∧
        t.pending = s.pending ∧ t.mram = s.mram ∧ t.dram = s.dram ∧ t.conns = s.conns ∧ t.tap = s.tap) ∧
    (∃ t, exec (.powerOnReset b) s = .next t ∧ t.boot.stage = 1 ∧ t.boot.ctrlId = b.strap % 2 ∧
      regOf t pwrPage O.PWR_RST_CAUSE = oneBit (if b.byPin then 1 else 0) ∧ t.pwr = {} ∧ t.dram = [] ∧ t.conns = .empty ∧
      t.commands = .empty ∧ t.regions = .empty ∧ t.vault = {} ∧ t.rng = {} ∧ t.crypto = {} ∧ t.dma = .empty ∧
      t.mram = s.mram ∧ t.journal = s.journal ∧ t.sec.nsk = s.sec.nsk ∧ t.pending = s.pending ∧ t.draws = s.draws ∧
      t.time.now = s.time.now) ∧
    (writeReaches s 0x10 bootPage O.BOOT_CTRL = true →
      ∃ t, exec (.deviceReset 0x10 b) s = .next t ∧ regOf t pwrPage O.PWR_RST_CAUSE = oneBit 2 ∧ t.dram = [] ∧
        t.conns = .empty ∧ t.commands = .empty ∧ t.regions = .empty ∧ t.vault = {} ∧ t.crypto = {} ∧ t.dma = .empty ∧
        t.clk.refclk = s.clk.refclk ∧ t.clk.pllLock = s.clk.pllLock ∧ t.mram = s.mram ∧ t.journal = s.journal ∧
        t.sec.nsk = s.sec.nsk ∧ t.pending = s.pending) ∧
    (req ≠ 0x10 → writeReaches s req bootPage O.BOOT_CTRL = true →
      ∃ t, exec (.deviceReset req b) s = .next t ∧ bit (regOf t bootPage O.BOOT_CTRL) 0 = false ∧
        t = { s with regs := t.regs, pages := t.pages })

/-- The memory arbiters (R371 to R374): of two requesters that present at an idle arbiter the one of the higher class is
granted and the other backs off for 2 cycles; a back-off ends; a privileged transfer of at most 256 bytes takes the port
from an owner of another class, whose transfer starts again from its first byte. -/
def Obligations.MemoryArbitration : Prop :=
  ∀ (s : State) (arb a b la lb : Nat),
    (arb < 5 → arbiterOf s arb = {} → usesArbiter a arb = true → usesArbiter b arb = true → resetClass b < resetClass a →
        0 < la → la ≤ 4096 → 0 < lb → lb ≤ 4096 → ∀ arrivals, arrivals = [⟨a, la⟩, ⟨b, lb⟩] ∨ arrivals = [⟨b, lb⟩, ⟨a, la⟩] →
      ∃ t, exec (.arbiterDecision arb arrivals) s = .next t ∧
        (arbiterOf t arb).owner = some a ∧ (arbiterOf t arb).left = la ∧
        requesterOf t arb a = { whole := la, since := arbiterCycle s arb, grants := 1 } ∧
        requesterOf t arb b = { want := lb, whole := lb, since := arbiterCycle s arb, losses := 1,
                                backoff := some (arbiterCycle s arb + 2) } ∧
        (∀ q, q ≠ fabPage → getPage t q = getPage s q) ∧ (∀ q, (getPage t q).ctl = (getPage s q).ctl) ∧
        (∀ x, x ≠ arb → arbiterOf t x = arbiterOf s x) ∧
        t = { s with arbiters := t.arbiters, pages := t.pages }) ∧
    (∀ c, arb < 6 → (requesterOf s arb a).backoff = some c →
      ∃ t, exec (.backoffExpiry arb a) s = .next t ∧ (requesterOf t arb a).backoff = none ∧
        (requesterOf t arb a).want = (requesterOf s arb a).want ∧ (requesterOf t arb a).losses = (requesterOf s arb a).losses ∧
        s.time.now ≤ t.time.now ∧ (∀ q, q ≠ a → requesterOf t arb q = requesterOf s arb q) ∧
        (∀ x, x ≠ arb → arbiterOf t x = arbiterOf s x) ∧ Quiet s t ∧
        t = { s with arbiters := t.arbiters, pages := t.pages, clk := t.clk, time := t.time, regs := t.regs }) ∧
    (∀ o, arb < 5 → resetClass a = 4 → usesArbiter a arb = true → 0 < la → la ≤ 256 → (arbiterOf s arb).owner = some o →
        (arbiterOf s arb).left ≠ 0 → classOf s arb o < 4 → requesterOf s arb a = {} →
      ∃ t, exec (.privilegedPreempt arb a la) s = .next t ∧
        (arbiterOf t arb).owner = some a ∧ (arbiterOf t arb).left = la ∧ (requesterOf t arb a).grants = 1 ∧
        (requesterOf t arb o).want = (requesterOf s arb o).whole ∧ (requesterOf t arb o).since = arbiterCycle s arb ∧
        (requesterOf t arb o).preempts = min 0xFFFFFFFF ((requesterOf s arb o).preempts + 1) ∧
        (∀ q, q ≠ a → q ≠ o → requesterOf t arb q = requesterOf s arb q) ∧
        (∀ q, (getPage t q).ctl = (getPage s q).ctl) ∧
        t = { s with arbiters := t.arbiters, pages := t.pages })

/-- The memory scrubs and the MRAM dies (R386, R392, R393): the next word of a channel's scrub, good, corrected or beyond
correction, and of the MRAM's; a die that stops responding raises FAULT and shuts the page down. What code the failure of a
die logs is left free (log entry 2). -/
def Obligations.MemoryScrubs : Prop :=
  ∀ (s : State) (n : Nat) (raced : Bool),
    (n < 4 → isEnabled s (ddrPage n) = true → bit (regOf s (ddrPage n) O.DDR_SCRUB) 31 = true →
        let a := dramAddress n (s.ddr.getD n {}).scrub
        (s.ddr.getD n {}).scrub + 8 < dramSize s / 4 →
      (s.poison.contains (a / 8) = false →
        ∃ t, exec (.ddrScrub n .corrected raced) s = .next t ∧
          (regOf t (ddrPage n) O.DDR_CE_CNT).toNat = min 0xFFFFFFFF ((regOf s (ddrPage n) O.DDR_CE_CNT).toNat + 1) ∧
          (regOf t (ddrPage n) O.DDR_SCRUB_FIX_CNT).toNat = min 0xFFFFFFFF
            ((regOf s (ddrPage n) O.DDR_SCRUB_FIX_CNT).toNat + (if raced then 0 else 1)) ∧
          bit (getPage t (ddrPage n)).intRaw 0 = true ∧
          (t.ddr.getD n {}).scrub = (s.ddr.getD n {}).scrub + 8 ∧ (∀ m, m ≠ n → t.ddr.getD m {} = s.ddr.getD m {}) ∧
          t = { s with ddr := t.ddr, regs := t.regs, pages := t.pages }) ∧
      (∃ t, exec (.ddrScrub n .uncorrectable raced) s = .next t ∧ t.poison.contains (a / 8) = true ∧
          (∀ w, w ≠ a / 8 → t.poison.contains w = s.poison.contains w) ∧
          (regOf t (ddrPage n) O.DDR_UE_CNT).toNat = min 0xFFFFFFFF ((regOf s (ddrPage n) O.DDR_UE_CNT).toNat + 1) ∧
          bit (getPage t (ddrPage n)).intRaw 1 = true ∧
          ((getPage s (ddrPage n)).errCount = 0 → (getPage t (ddrPage n)).errCode = 0x0101 ∧
            (getPage t (ddrPage n)).errAddr = a) ∧
          t = { s with ddr := t.ddr, regs := t.regs, pages := t.pages, poison := t.poison })) ∧
    (isEnabled s mrmPage = true → bit (regOf s mrmPage O.MRM_CFG) 31 = true →
      (∃ t, exec (.mramScrub .corrected raced) s = .next t ∧ t.mrm.scrub = (s.mrm.scrub + 8) % 2 ^ 28 ∧
        (regOf t mrmPage O.MRM_CE_CNT).toNat = min 0xFFFFFFFF ((regOf s mrmPage O.MRM_CE_CNT).toNat + 1) ∧
        bit (getPage t mrmPage).intRaw 0 = true ∧
        t = { s with mrm := { s.mrm with scrub := t.mrm.scrub }, regs := t.regs, pages := t.pages }) ∧
      (∃ t, exec (.mramScrub .uncorrectable raced) s = .next t ∧ t.mrm.scrub = (s.mrm.scrub + 8) % 2 ^ 28 ∧
        (regOf t mrmPage O.MRM_UE_CNT).toNat = min 0xFFFFFFFF ((regOf s mrmPage O.MRM_UE_CNT).toNat + 1) ∧
        bit (getPage t mrmPage).intRaw 1 = true ∧
        ((getPage s mrmPage).errCount = 0 → (getPage t mrmPage).errAddr = s.mrm.scrub) ∧
        t = { s with mrm := { s.mrm with scrub := t.mrm.scrub }, regs := t.regs, pages := t.pages })) ∧
    (s.mrm.die1 = true → (getPage s mrmPage).enabled = true → (getPage s mrmPage).fault = false →
      ∃ t, exec (.mramDieFail 1) s = .next t ∧ t.mrm = { s.mrm with die1 := false } ∧ mramUsable t = false ∧
        (getPage t mrmPage).fault = true ∧ (getPage t mrmPage).enabled = false ∧ (getPage t mrmPage).shutdown = true ∧
        bit (getPage t mrmPage).intRaw 26 = true ∧ (∀ q, q ≠ mrmPage → getPage t q = getPage s q) ∧
        t.draws = s.draws + 1 ∧ t = { s with mrm := t.mrm, pages := t.pages, draws := t.draws }) ∧
    (s.mrm.die0 = true → (getPage s mrmPage).enabled = true →
      ∃ t, exec (.mramDieFail 0) s = .next t ∧ t.mrm = { s.mrm with die0 := false } ∧ mramUsable t = false ∧
        (getPage t mrmPage).fault = true ∧ (getPage t mrmPage).enabled = false ∧
        t = { s with mrm := t.mrm, pages := t.pages, draws := s.draws + 1 })

/-- The test access port (R463): IDCODE shifts out 0x1489_654B, least significant bit first; BYPASS one bit of 0;
SAMPLE/PRELOAD loads the boundary register and leaves the pins to their owners; EXTEST, CLAMP and HIGHZ take the pins while
PORST_N is low, and act as BYPASS otherwise. -/
def Obligations.TestAccessPort : Prop :=
  ∀ (s : State) (preload : List Bool),
    (∃ t, exec .idcode s = .next t ∧ t.tap = { s.tap with instr := .idcode, driving := false, floating := false } ∧
      (∃ bits, t.outs = .tdo bits :: s.outs ∧ bits.length = 32 ∧
        ∀ i, i < 32 → bits.getD i false = Nat.testBit 0x1489654B i) ∧
      t = { s with outs := t.outs, tap := t.tap }) ∧
    (∃ t, exec .bypass s = .next t ∧ t.tap = { s.tap with instr := .bypass, driving := false, floating := false } ∧
      t.outs = .tdo [false] :: s.outs ∧ t = { s with outs := t.outs, tap := t.tap }) ∧
    (∃ t, exec (.samplePreload preload) s = .next t ∧ t.tap.boundary = preload ∧ t.tap.driving = false ∧
      t.tap.floating = false ∧ t.tap.instr = .samplePreload ∧ t.tap.porstLow = s.tap.porstLow ∧ t = { s with tap := t.tap }) ∧
    (∃ t, exec .extest s = .next t ∧
      t.tap = { s.tap with instr := if s.tap.porstLow then .extest else .bypass, driving := s.tap.porstLow, floating := false } ∧
      t.outs = (if s.tap.porstLow then .pinsDriven s.tap.boundary else .tdo [false]) :: s.outs ∧
      t = { s with outs := t.outs, tap := t.tap }) ∧
    (∃ t, exec .clamp s = .next t ∧
      t.tap = { s.tap with instr := if s.tap.porstLow then .clamp else .bypass, driving := s.tap.porstLow, floating := false } ∧
      t.outs = .tdo [false] :: (if s.tap.porstLow then [.pinsDriven s.tap.boundary] else []) ++ s.outs ∧
      t = { s with outs := t.outs, tap := t.tap }) ∧
    (∃ t, exec .highz s = .next t ∧
      t.tap = { s.tap with instr := if s.tap.porstLow then .highz else .bypass, driving := false, floating := s.tap.porstLow } ∧
      t.outs = .tdo [false] :: (if s.tap.porstLow then [.pinsFloat] else []) ++ s.outs ∧
      t = { s with outs := t.outs, tap := t.tap })

/-- SMBus reads (R434 to R436): MGT, addressed, answers a word command with the two bytes of its word, low byte first, a
block command with the byte count and the bytes of the current snapshot, and a receive byte with the low byte of STATUS; the
host takes as many bytes as it asks for, then the CRC-8 over all bytes of the transaction. Each counts in MGT_XFER_CNT. The
snapshot buffers (R436): a write of MGT_SNAP_DATA goes into the buffer that is not current and moves the index on, a read
returns the word and moves the index on; COMMIT makes that buffer current; 1 s after the last commit the snapshot is stale.
How SLOT_POWER is averaged is the model's reading (log entry 11). -/
def Obligations.SidebandReadsAndSnapshots : Prop :=
  (∀ (s : State) (a : SmbXfer) (g n : Nat), mgtAnswers s a = true → g < 12 → n < 48 →
    ∀ (c : Instr) (sent data : List Byte) (count : Nat),
      (c, sent, data, count) ∈
        ([(.smbStatus a, smbHead a 0x00, leBytes 2 (statusWord s), a.count),
          (.smbTempMain a, smbHead a 0x01, leBytes 2 (unsignedOf 16 s.mgt.tempMain), a.count),
          (.smbTempSp a, smbHead a 0x02, leBytes 2 (if dieReachable s then unsignedOf 16 s.die.temp else 0x8000), a.count),
          (.smbSlotPower a, smbHead a 0x03, leBytes 2 (slotPowerWord s), a.count),
          (.smbBoot a, smbHead a 0x04, leBytes 2 (s.boot.stage + 16 * s.boot.failStage), a.count),
          (.smbIdentity a, smbHead a 0x10, 32#8 :: snapBytes s 0x000 32, a.count + 1),
          (.smbPair a, smbHead a 0x11, 32#8 :: snapBytes s 0x020 32, a.count + 1),
          (.smbGroup a g, smbHead a (0x20 + g), 32#8 :: snapBytes s (0x040 + 32 * g) 32, a.count + 1),
          (.smbSlot a n, smbHead a (0x40 + n), 16#8 :: snapBytes s (0x1C0 + 16 * n) 16, a.count + 1),
          (.smbReceiveByte a, [BitVec.ofNat 8 (2 * a.address + 1)], [BitVec.ofNat 8 (statusWord s)], a.count)] :
          List (Instr × List Byte × List Byte × Nat)) →
      ∃ t, exec c s = .next t ∧
        t.outs = .smb (data.take count) (if a.pec then some (BitVec.ofNat 8 (crc8 0 (sent ++ data.take count))) else none)
          :: s.outs ∧
        (regOf t mgtPage O.MGT_XFER_CNT).toNat = min 0xFFFFFFFF ((regOf s mgtPage O.MGT_XFER_CNT).toNat + 1) ∧
        (∀ page off, regKey page off ≠ regKey mgtPage O.MGT_XFER_CNT → regOf t page off = regOf s page off) ∧
        t.mgt = { s.mgt with addr := regField s mgtPage O.MGT_CFG 0 7 } ∧
        t = { s with outs := t.outs, regs := t.regs, mgt := t.mgt }) ∧
  (∀ (s : State) (req : Nat) (v : Word),
    (writeReaches s req mgtPage O.MGT_SNAP_DATA = true →
      let i := regField s mgtPage O.MGT_SNAP_IDX 0 9
      ∃ t, exec (.snapDataAccess req true v) s = .next t ∧
        (if s.mgt.curB then t.mgt = { s.mgt with bufA := t.mgt.bufA } ∧ t.mgt.bufA.getD i 0#32 = v ∧
            (∀ j, j ≠ i → t.mgt.bufA.getD j 0#32 = s.mgt.bufA.getD j 0#32)
          else t.mgt = { s.mgt with bufB := t.mgt.bufB } ∧ t.mgt.bufB.getD i 0#32 = v ∧
            (∀ j, j ≠ i → t.mgt.bufB.getD j 0#32 = s.mgt.bufB.getD j 0#32)) ∧
        regField t mgtPage O.MGT_SNAP_IDX 0 9 = (i + 1) % 512 ∧ snapBytes t = snapBytes s ∧
        t = { s with regs := t.regs, mgt := t.mgt, pages := t.pages }) ∧
    (readReaches s mgtPage O.MGT_SNAP_DATA = true →
      let i := regField s mgtPage O.MGT_SNAP_IDX 0 9
      ∃ t, exec (.snapDataAccess req false v) s = .next t ∧
        t.outs = .readValue req (regAddr mgtPage O.MGT_SNAP_DATA) (showReg s mgtPage O.MGT_SNAP_DATA) :: s.outs ∧
        regField t mgtPage O.MGT_SNAP_IDX 0 9 = (i + 1) % 512 ∧
        t = { s with outs := t.outs, regs := t.regs, pages := t.pages }) ∧
    (writeReaches s req mgtPage O.MGT_SNAP_CTRL = true →
      ∃ t, exec (.snapCommit req) s = .next t ∧
        t.mgt = { s.mgt with curB := !s.mgt.curB, commitAt := some s.time.now, fresh := true } ∧
        bit (regOf t mgtPage O.MGT_SNAP_CTRL) 31 = false ∧
        t = { s with regs := t.regs, mgt := t.mgt, pages := t.pages }) ∧
    (∀ c, s.mgt.commitAt = some c → s.mgt.fresh = true →
      ∃ t, exec .snapStale s = .next t ∧ t.mgt.cause = s.mgt.cause ||| 2 ∧ t.mgt.fresh = false ∧
        c + 800000000 ≤ t.time.now ∧ s.time.now ≤ t.time.now ∧ t.mgt.curB = s.mgt.curB ∧
        t.mgt.bufA = s.mgt.bufA ∧ t.mgt.bufB = s.mgt.bufB ∧
        t = { s with outs := t.outs, mgt := t.mgt, clk := t.clk, time := t.time, pages := t.pages }))

/-- The alerts and refusals of the sideband (R433, R434, R437): SMB_CAUSE clears what it returns and releases the pin; an
unlisted command and every write are not acknowledged and counted; an alert response releases the pin; the bus timeout
counts; a write of MGT_CAUSE_SET sets causes; a hot main die sets HOT and STATUS_CHANGE. -/
def Obligations.SidebandAlerts : Prop :=
  ∀ (s : State) (a : SmbXfer) (req code : Nat) (v : Word),
    (mgtAnswers s a = true →
      (∃ t, exec (.smbCause a) s = .next t ∧ t.mgt.cause = 0 ∧
        t.outs = (if alertAsserted s then [.alertPin false] else []) ++
          .smb ((leBytes 2 s.mgt.cause).take a.count)
            (if a.pec then some (BitVec.ofNat 8 (crc8 0 (smbHead a 0x05 ++ (leBytes 2 s.mgt.cause).take a.count))) else none)
          :: s.outs ∧
        t = { s with outs := t.outs, regs := t.regs, mgt := t.mgt }) ∧
      (smbListed code = false →
        ∃ t, exec (.smbUnknownCommand a code) s = .next t ∧ t.outs = .smbNack :: s.outs ∧
          (regOf t mgtPage O.MGT_NACK_CNT).toNat = min 0xFFFFFFFF ((regOf s mgtPage O.MGT_NACK_CNT).toNat + 1) ∧
          bit (getPage t mgtPage).intRaw 0 = true ∧
          t = { s with outs := t.outs, regs := t.regs, mgt := t.mgt, pages := t.pages }) ∧
      (∃ t, exec (.smbWrite a code) s = .next t ∧ t.outs = .smbNack :: s.outs ∧
        (regOf t mgtPage O.MGT_NACK_CNT).toNat = min 0xFFFFFFFF ((regOf s mgtPage O.MGT_NACK_CNT).toNat + 1) ∧
        (smbListed code = false → bit (getPage t mgtPage).intRaw 0 = true) ∧
        t = { s with outs := t.outs, regs := t.regs, mgt := t.mgt, pages := t.pages })) ∧
    ((getPage s mgtPage).enabled = true → alertAsserted s = true →
      (∃ t, exec (.alertResponse true) s = .next t ∧
        t.outs = .alertPin false :: .smb [BitVec.ofNat 8 (2 * s.mgt.addr)] none :: s.outs ∧
        t.mgt.cause = s.mgt.cause ∧ t.mgt.released = true ∧
        (regOf t mgtPage O.MGT_ARA_CNT).toNat = min 0xFFFFFFFF ((regOf s mgtPage O.MGT_ARA_CNT).toNat + 1) ∧
        t = { s with outs := t.outs, regs := t.regs, mgt := t.mgt }) ∧
      exec (.alertResponse false) s = .next s) ∧
    ((getPage s mgtPage).enabled = true →
      ∃ t, exec .smbTimeout s = .next t ∧
        (regOf t mgtPage O.MGT_TMO_CNT).toNat = min 0xFFFFFFFF ((regOf s mgtPage O.MGT_TMO_CNT).toNat + 1) ∧
        bit (getPage t mgtPage).intRaw 1 = true ∧ t = { s with regs := t.regs, mgt := t.mgt, pages := t.pages }) ∧
    (writeReaches s req mgtPage O.MGT_CAUSE_SET = true →
      ∃ t, exec (.causeSet req v) s = .next t ∧ t.mgt.cause = s.mgt.cause ||| (v.toNat % 64) ∧
        (s.mgt.cause &&& (v.toNat % 64) ≠ v.toNat % 64 → s.mgt.cause < 64 → t.mgt.released = false) ∧
        t = { s with outs := t.outs, regs := t.regs, mgt := t.mgt, pages := t.pages }) ∧
    (∀ temp : Int, 1000 ≤ temp → hotNow s = false →
      ∃ t, exec (.statusHotRise temp) s = .next t ∧ t.mgt.tempMain = temp ∧ t.mgt.cause = s.mgt.cause ||| 5 ∧
        Nat.testBit (statusWord t) 7 = true ∧ t = { s with outs := t.outs, mgt := t.mgt })

/-- The windows, the master enable and the resets of the service port (R400, R401, R404, R406 to R408): what a write of a
window entry leaves in it, and how a tag's quarantine, Bus Master Enable, an FLR and SVP_PERST_N go. -/
def Obligations.ServicePortWindows : Prop :=
  ∀ (s : State) (req tag : Nat) (v : Word),
    (writeReaches s req svpPage O.SVP_W0_ENTRY = true →
      let i := regField s svpPage O.SVP_W0_IDX 0 6
      let pages := field v 16 7 + 1
      ∃ t, exec (.bar0EntryWrite req v) s = .next t ∧
        (bit v 31 = false → t.svp.w0.get i = none) ∧
        (bit v 31 = true → (∀ k, k < pages → unmappable s (field v 0 13 + k) = false) →
          t.svp.w0.get i = some ⟨field v 0 13, pages⟩) ∧
        (bit v 31 = true → ∀ k, k < pages → unmappable s (field v 0 13 + k) = true →
          t.svp.w0.get i = none ∧ bit (getPage t svpPage).intRaw 7 = true) ∧
        (∀ j, j ≠ i → t.svp.w0.get j = s.svp.w0.get j) ∧
        t = { s with regs := t.regs, pages := t.pages, svp := { s.svp with w0 := t.svp.w0, w0last := t.svp.w0last } }) ∧
    (writeReaches s req svpPage O.SVP_W2_CTRL = true →
      let j := regField s svpPage O.SVP_W2_IDX 0 4
      ∃ t, exec (.bar2EntryWrite req v) s = .next t ∧
        (let r := regOf t svpPage O.SVP_W2_CTRL
         let base := s.svp.w2base.getD j 0
         let fits := decide (base + field r 12 13 * 4096 ≤ dramSize s)
         t.svp.w2.getD j {} = { base := base, size := field r 12 13, write := bit r 30, valid := bit r 31 && fits } ∧
         (bit r 31 = true → fits = false → bit (getPage t svpPage).intRaw 7 = true)) ∧
        (∀ k, k ≠ j → t.svp.w2.getD k {} = s.svp.w2.getD k {}) ∧
        t = { s with regs := t.regs, pages := t.pages, svp := { s.svp with w2 := t.svp.w2 } }) ∧
    (∀ d, tag < 1024 → s.svp.tags.get tag = some (.quarantine d) →
      ∃ t, exec (.tagQuarantineEnd tag) s = .next t ∧ t.svp.tags.get tag = none ∧
        (∀ k, k ≠ tag → t.svp.tags.get k = s.svp.tags.get k) ∧ d ≤ t.time.now ∧ s.time.now ≤ t.time.now ∧
        t = { s with svp := { s.svp with tags := t.svp.tags }, clk := t.clk, time := t.time, pages := t.pages }) ∧
    (s.svp.bme = true →
      ∃ t, exec .bmeClear s = .next t ∧ t.svp = { s.svp with bme := false } ∧ bit (getPage t svpPage).intRaw 6 = true ∧
        t = { s with svp := t.svp, regs := t.regs, pages := t.pages }) ∧
    (isEnabled s svpPage = true →
      (∃ t, exec .flr s = .next t ∧ t.svp.flr = true ∧ t.svp.bme = false ∧ t.svp.mse = false ∧ t.svp.d3 = false ∧
        t.svp.msixEn = false ∧ t.svp.msixMask = false ∧ t.svp.tags = .empty ∧ t.svp.config = .empty ∧ t.svp.l1 = false ∧
        (∀ k w a l g d, s.svp.tags.get k = some (.reading w a l g d) → t.svp.flrTags.contains k = true) ∧
        t.svp.w0 = s.svp.w0 ∧ t.svp.w2 = s.svp.w2 ∧ t.svp.imap = s.svp.imap ∧ t.svp.aer = s.svp.aer ∧
        t.svp.up = s.svp.up ∧ bit (getPage t svpPage).intRaw 5 = true ∧
        t = { s with svp := t.svp, regs := t.regs, pages := t.pages, outs := t.outs, dma := t.dma }) ∧
      (s.svp.perst = false →
        ∃ t, exec (.perstAssert false) s = .next t ∧ t.svp.perst = true ∧ t.svp.up = false ∧ t.svp.flr = true ∧
          t.svp.bme = false ∧ t.svp.tags = .empty ∧ t.svp.w0 = s.svp.w0 ∧ t.svp.w2 = s.svp.w2 ∧
          t = { s with svp := t.svp, regs := t.regs, pages := t.pages, outs := t.outs, dma := t.dma })) ∧
    (∃ t, exec .flrDone s = .next t ∧ t.svp.flr = false ∧ t = { s with svp := { s.svp with flr := false } }) ∧
    (∃ t, exec .perstDeassert s = .next t ∧ t.svp.perst = false ∧ t = { s with svp := { s.svp with perst := false } })

/-- The link and the interrupt vectors of the service port (R408 to R411): the data link comes up and goes down, L1 is
entered and left, and a rising edge of a vector's cause, SVP_EOI with the cause still at 1, and SVP_SWI send the vector's
message, or an edge sets its PBA bit where it may not be sent. Bit numbers of configuration space, and when an edge is seen,
are the model's (log entries 48, 53). -/
def Obligations.ServicePortLink : Prop :=
  ∀ (s : State) (req : Nat) (value : Word),
    (∀ speed width, s.svp.up = false → s.svp.perst = false → isEnabled s svpPage = true → 1 ≤ speed → speed ≤ 5 →
        width ∈ [1, 2, 4] →
      ∃ t, exec (.dataLinkUp speed width) s = .next t ∧
        t.svp = { s.svp with up := true, speed := speed, width := width } ∧ bit (getPage t svpPage).intRaw 1 = true ∧
        t = { s with svp := t.svp, regs := t.regs, pages := t.pages }) ∧
    (s.svp.up = true →
      ∃ t, exec .dataLinkDown s = .next t ∧ t.svp.up = false ∧ t.svp.speed = 0 ∧ t.svp.width = 0 ∧ t.svp.l1 = false ∧
        t.svp.tags = s.svp.tags ∧ t.svp.bme = s.svp.bme ∧ bit (getPage t svpPage).intRaw 0 = true ∧
        t = { s with svp := t.svp, regs := t.regs, pages := t.pages, outs := t.outs }) ∧
    (s.svp.l1 = false → s.svp.up = true → isEnabled s svpPage = true → readsOut s = false →
        bit (s.svp.config.getD linkControl 0#32) 1 = true →
      let deep := bit (s.svp.config.getD l1Control 0#32) 3
      ∃ t, exec .l1Entry s = .next t ∧ t.svp = { s.svp with l1 := true, clkreq := !deep } ∧
        t.outs = (if deep then [.clkreq false] else []) ++ s.outs ∧
        (regOf t svpPage O.SVP_L1_CNT).toNat = min 0xFFFFFFFF ((regOf s svpPage O.SVP_L1_CNT).toNat + 1) ∧
        t = { s with svp := t.svp, regs := t.regs, outs := t.outs }) ∧
    (s.svp.l1 = true →
      ∃ t, exec .l1Exit s = .next t ∧ t.svp = { s.svp with l1 := false, clkreq := true } ∧
        t.outs = (if s.svp.clkreq then [] else [.clkreq true]) ++ s.outs ∧ t = { s with svp := t.svp, outs := t.outs }) ∧
    (∀ v, v < 64 → vectorLevel s v = true → vectorOf s v = { vectorOf s v with cause := false, pending := false } →
      ∃ t, exec (.msixCauseEdge v) s = .next t ∧
        (vectorOpen s v = true → t.outs.head? = some (.msix v) ∧
          vectorOf t v = { vectorOf s v with cause := true } ∧
          (regOf t svpPage O.SVP_MSIX_CNT).toNat = min 0xFFFFFFFF ((regOf s svpPage O.SVP_MSIX_CNT).toNat + 1)) ∧
        (vectorOpen s v = false → t.outs = s.outs ∧ vectorOf t v = { vectorOf s v with cause := true, pending := true }) ∧
        (∀ w, w ≠ v → vectorOf t w = vectorOf s w) ∧
        t = { s with svp := t.svp, regs := t.regs, pages := t.pages, outs := t.outs }) ∧
    (writeReaches s req svpPage O.SVP_EOI = true → vectorLevel s (field value 0 6) = true →
        (vectorOf s (field value 0 6)).pending = false →
      ∃ t, exec (.svpEoi req value) s = .next t ∧
        (vectorOpen s (field value 0 6) = true → t.outs.head? = some (.msix (field value 0 6))) ∧
        (vectorOpen s (field value 0 6) = false → t.outs = s.outs ∧ (vectorOf t (field value 0 6)).pending = true) ∧
        (vectorOf t (field value 0 6)).cause = true ∧
        t = { s with svp := t.svp, regs := t.regs, pages := t.pages, outs := t.outs }) ∧
    (writeReaches s req svpPage O.SVP_SWI = true →
        (∀ e ∈ s.svp.imap.entries, field e.2 0 6 = field value 0 6 → bit e.2 31 = false) →
        (vectorOf s (field value 0 6)).cause = false → (vectorOf s (field value 0 6)).pending = false →
      ∃ t, exec (.svpSwi req value) s = .next t ∧
        (vectorOpen s (field value 0 6) = true → t.outs.head? = some (.msix (field value 0 6))) ∧
        (vectorOpen s (field value 0 6) = false → t.outs = s.outs) ∧
        vectorOf t (field value 0 6) = vectorOf s (field value 0 6) ∧
        t = { s with svp := t.svp, regs := t.regs, pages := t.pages, outs := t.outs })

/-- Requests that the service port receives (R396 to R402): a configuration read returns the dword, and the first dword holds
device id 0x4896; a write of the Command register sets the enables; during an FLR the request is retried; a BAR0 read of a
page's first register returns its type and instance, and a BAR0 write of INT_EN reaches the page; an offset that no entry
maps gets UR; a BAR2 write goes to DRAM through its window; an unsupported request gets UR. Offsets and bit numbers of
configuration space and AER are the model's (log entry 48). -/
def Obligations.ServicePortRequests : Prop :=
  ∀ (s : State) (offset : Nat) (v : Word), takesRequests s = true →
    (∃ t, exec (.configRequest false offset v) s = .next t ∧
      (s.svp.flr = true → t.outs.head? = some .cplRetry) ∧
      (s.svp.flr = false → t.outs.head? = some (.cplData [configRead s (offset % 4096 / 4 * 4)])) ∧
      (s.svp.flr = false → offset = 0 → ∃ w, t.outs.head? = some (.cplData [w]) ∧ field w 16 16 = 0x4896) ∧
      t = { s with svp := t.svp, pages := t.pages, outs := t.outs }) ∧
    (s.svp.flr = false →
      ∃ t, exec (.configRequest true 4 v) s = .next t ∧ t.svp.mse = bit v 1 ∧ t.svp.bme = bit v 2 ∧ .cplOk ∈ t.outs ∧
        t.svp.d3 = s.svp.d3 ∧ t.svp.tags = s.svp.tags ∧
        t = { s with svp := t.svp, regs := t.regs, pages := t.pages, outs := t.outs }) ∧
    (∀ kind, ∃ t, exec (.unsupportedRequest kind) s = .next t ∧ t.outs.head? = some .cplUr ∧
      (regOf t svpPage O.SVP_UR_CNT).toNat = min 0xFFFFFFFF ((regOf s svpPage O.SVP_UR_CNT).toNat + 1) ∧
      bit t.svp.aer 20 = true ∧ bit (getPage t svpPage).intRaw 2 = true ∧
      t = { s with svp := t.svp, regs := t.regs, pages := t.pages, outs := t.outs }) ∧
    (memoryClosed s = false → offset < 0x2000000 →
      (∀ page, windowPage s offset = some page → offset % 4096 = 0x000 → readReaches s page 0x000 = true →
        ∃ t, exec (.bar0Request false offset [v] true false) s = .next t ∧
          t.outs.head? = some (.cplData [packWord [(16, ((blockOf page).map (·.place.1)).getD 0),
            (8, page - ((blockOf page).map (·.place.1)).getD 0), (0, 1)]]) ∧
          t = { s with svp := t.svp, pages := t.pages, outs := t.outs }) ∧
      (∀ page, windowPage s offset = some page → offset % 4096 = 0x014 → writeReaches s 0x20 page 0x014 = true →
        ∃ t, exec (.bar0Request true offset [v] true false) s = .next t ∧
          (getPage t page).intEn = v &&& (0xFC000000#32 ||| ((blockOf page).map blockCauses).getD 0#32) ∧
          (∀ q, q ≠ page → (getPage t q).ctl = (getPage s q).ctl) ∧
          t.dram = s.dram ∧ t.pending = s.pending ∧ t.vault = s.vault ∧ t.conns = s.conns ∧ t.zones = s.zones) ∧
      (windowPage s offset = none → offset % 4 = 0 →
        ∃ t, exec (.bar0Request false offset [v] true false) s = .next t ∧ t.outs.head? = some .cplUr ∧
          t = { s with svp := t.svp, regs := t.regs, pages := t.pages, outs := t.outs })) ∧
    (memoryClosed s = false → ∀ data a, windowAddr s true offset data.length = some a →
      ∃ t, exec (.bar2Request true offset data.length data false) s = .next t ∧
        readBytes t.dram a data.length = data ∧ (∀ x, x < a ∨ a + data.length ≤ x → readByte t.dram x = readByte s.dram x) ∧
        t.svp.tags = s.svp.tags ∧
        t = { s with svp := t.svp, pages := t.pages, outs := t.outs, dram := t.dram, poison := t.poison })

/-- Outbound requests of control cores (R403 to R406): a write leaves as a TLP, a read leaves under its tag; where SVP may
not issue, the core gets an access error, and a read zeros; a completion with data goes to the core and frees the tag; one
with an error status, and a timeout, give the core an access error and zeros, and a timeout quarantines the tag. Bit numbers
of AER are the model's, and the tag is picked by the command (log entries 14, 48). -/
def Obligations.OutboundRequests : Prop :=
  ∀ (s : State) (core a len tag : Nat) (data : List Byte), core ≤ 0x0F → tag < 1024 → 0 < len →
    (targetOf s a = .outbound → portMayIssue s = false →
      (∃ t, exec (.outboundRequest core a len false data [tag]) s = .next t ∧
        t = { s with outs := .toCore core (zeros len) :: .accessError core a :: s.outs }) ∧
      (∃ t, exec (.outboundRequest core a len true data []) s = .next t ∧
        t = { s with outs := .accessError core a :: s.outs })) ∧
    (targetOf s a = .outbound → portMayIssue s = true → len ≤ 128 → a % 4096 + len ≤ 4096 → 
      (∃ t, exec (.outboundRequest core a len true data []) s = .next t ∧
        t.outs.head? = some (.memWrite (pcieAddr s a) (padTo len data)) ∧ t.svp.tags = s.svp.tags ∧
        t = { s with svp := t.svp, pages := t.pages, outs := t.outs }) ∧
      (s.svp.tags.has tag = false → readsCount s < 256 →
        ∃ t, exec (.outboundRequest core a len false data [tag]) s = .next t ∧
          t.outs.head? = some (.memRead (pcieAddr s a) len tag) ∧
          t.svp.tags.get tag = some (.reading (.core core) a len 0 (s.time.now + cplTicks s)) ∧
          (∀ k, k ≠ tag → t.svp.tags.get k = s.svp.tags.get k) ∧
          t = { s with svp := t.svp, pages := t.pages, outs := t.outs })) ∧
    (∀ got d, s.svp.tags.get tag = some (.reading (.core core) a len got d) →
      (hears s = true → got + data.length = len →
        ∃ t, exec (.completionTlp tag .sc data) s = .next t ∧ t.outs.head? = some (.toCore core data) ∧
          t.svp.tags.get tag = none ∧ (∀ k, k ≠ tag → t.svp.tags.get k = s.svp.tags.get k) ∧
          t = { s with svp := t.svp, pages := t.pages, outs := t.outs }) ∧
      (∀ status, hears s = true → status ≠ .sc →
        ∃ t, exec (.completionTlp tag status data) s = .next t ∧
          t.outs.take 2 = [.toCore core (zeros len), .accessError core a] ∧ t.svp.tags.get tag = none ∧
          t = { s with svp := t.svp, pages := t.pages, outs := t.outs }) ∧
      (∃ t, exec (.completionTimeout tag) s = .next t ∧
        t.outs.take 2 = [.toCore core (zeros len), .accessError core a] ∧ d ≤ t.time.now ∧
        t.svp.tags.get tag = some (.quarantine (t.time.now + 2 * cplTicks s)) ∧ bit t.svp.aer 14 = true ∧
        (regOf t svpPage O.SVP_CPL_TMO_CNT).toNat = min 0xFFFFFFFF ((regOf s svpPage O.SVP_CPL_TMO_CNT).toNat + 1) ∧
        bit (getPage t svpPage).intRaw 3 = true ∧
        t = { s with svp := t.svp, regs := t.regs, pages := t.pages, outs := t.outs, clk := t.clk, time := t.time }))

/-- DMA (R376 to R381): a channel that takes work fetches the descriptor at its head; one without VALID ends with status 0x09
before any byte moves; one that copies at most 128 bytes of DRAM to DRAM without a CRC moves exactly those bytes; its write-
back clears VALID, moves the head on by one and counts; a write-back that fails halts the channel. That one command moves at
most 128 bytes is the model's (log entry 66). -/
def Obligations.DmaDescriptors : Prop :=
  ∀ (s : State) (n : Nat), n < 16 →
    (accepting s (dmaPage n) = true → (dmaOf s n).desc = none → (dmaOf s n).halt = false →
        (dmaOf s n).head ≠ (regOf s (dmaPage n) O.DMA_TAIL).toNat → descAddr s n + 32 ≤ dramSize s →
        poisonIn s (descAddr s n) 32 = none →
      let d := parseDesc (dmaOf s n).head (descAddr s n) (readBytes s.dram (descAddr s n) 32)
      (bit d.ctrl 31 = false →
        ∃ t, exec (.dmaDescriptor n) s = .next t ∧ dmaOf t n = { dmaOf s n with desc := some { d with status := some 0x09 } } ∧
          (∀ m, m ≠ n → dmaOf t m = dmaOf s m) ∧ t = { s with dma := t.dma, pages := t.pages }) ∧
      (∀ a b, d.ctrl = 0x80000000#32 → d.src < 2 ^ 48 → d.dst < 2 ^ 48 → 0 < d.length → d.length ≤ 128 →
          targetOf s d.src = .dram a → targetOf s d.dst = .dram b → a + d.length ≤ dramSize s → b + d.length ≤ dramSize s →
          poisonIn s a d.length = none →
        ∃ t, exec (.dmaDescriptor n) s = .next t ∧
          readBytes t.dram b d.length = readBytes s.dram a d.length ∧
          (∀ x, x < b ∨ b + d.length ≤ x → readByte t.dram x = readByte s.dram x) ∧
          (dmaOf t n).desc = some { d with moved := d.length, status := some 0 } ∧ (dmaOf t n).head = (dmaOf s n).head ∧
          (∀ m, m ≠ n → dmaOf t m = dmaOf s m) ∧
          t = { s with dma := t.dma, pages := t.pages, regs := t.regs, dram := t.dram, poison := t.poison })) ∧
    (∀ d, (dmaOf s n).desc = some d → d.status = some 0 → d.reads = [] →
      (d.addr + 32 ≤ dramSize s → d.disabled = false → bit d.ctrl 10 = false →
        ∃ t, exec (.dmaWriteback n true) s = .next t ∧ (dmaOf t n).desc = none ∧ (dmaOf t n).last = 0 ∧
          (dmaOf t n).head = ((dmaOf s n).head + 1) % 2 ^ 32 ∧ (dmaOf t n).halt = (dmaOf s n).halt ∧
          readBytes t.dram (d.addr + 16) 16 =
            leBytes 4 d.length ++ leBytes 4 (putField (putField d.ctrl 31 1 0) 16 8 0).toNat ++ leBytes 8 d.result ∧
          (∀ x, x < d.addr + 16 ∨ d.addr + 32 ≤ x → readByte t.dram x = readByte s.dram x) ∧
          (regOf t (dmaPage n) O.DMA_DESC_CNT).toNat = min 0xFFFFFFFF ((regOf s (dmaPage n) O.DMA_DESC_CNT).toNat + 1) ∧
          (bit d.ctrl 9 = true → bit (getPage t (dmaPage n)).intRaw 0 = true) ∧
          t = { s with dma := t.dma, pages := t.pages, regs := t.regs, dram := t.dram, poison := t.poison }) ∧
      (∃ t, exec (.dmaWriteback n false) s = .next t ∧ (dmaOf t n).halt = true ∧ (dmaOf t n).cause = 2 ∧
        (dmaOf t n).desc = none ∧ (dmaOf t n).head = (dmaOf s n).head ∧ bit (getPage t (dmaPage n)).intRaw 2 = true ∧
        ((getPage s (dmaPage n)).errCount = 0 → (getPage t (dmaPage n)).errCode = 0x0101) ∧
        t = { s with dma := t.dma, pages := t.pages, regs := t.regs }))

/-- Orders to a slot's power channel (R308, R315, Table 11-4): with a claim at or above the die's, on an enabled channel of
the drive owner, ON in READY ramps, in OFF and LATCHED fails, OFF takes the standing order back, CLEAR leaves the other
states; a lower claim gets RESULT 1, a disabled channel RESULT 4. 
The slot power die as a whole (R316, R353, R455): its link goes down and comes back while the channels hold their
state; a supply below its threshold puts it in reset, with every channel OFF, and a supply above the recovery threshold
ends that; the die temperature rising through 125 degrees is raised; a former drive owner lets go. -/
def Obligations.ChannelOrdersAndDie : Prop :=
  (∀ (s : State) (n claim : Nat), n < 48 → dieReachable s = true →
    (s.die.claim ≤ claim → claim % 2 = s.boot.ctrlId → s.die.owner = true → isEnabled s (spwPage n) = true →
      (∃ t, exec (.spwOn n claim) s = .next t ∧ ChannelEvent s t n ∧ t.die = { s.die with claim := claim } ∧
        ((chanOf s n).st = .ready → (chanOf t n).st = .ramp ∧ (chanOf t n).onReq = true ∧ (chanOf t n).result = 0 ∧
          (chanOf t n).rampAt = s.time.now ∧ .gate n true ∈ t.outs) ∧
        ((chanOf s n).st = .off → (chanOf t n).result = 2 ∧ (chanOf t n).st = .off) ∧
        ((chanOf s n).st = .latched → (chanOf t n).result = 3 ∧ (chanOf t n).st = .latched) ∧
        ((chanOf s n).st ∈ [.insert, .fault, .ramp, .on] → (chanOf t n).onReq = true ∧ (chanOf t n).result = 0 ∧
          (chanOf t n).st = (chanOf s n).st) ∧
        t = { s with die := t.die, channels := t.channels, regs := t.regs, pages := t.pages, outs := t.outs, mgt := t.mgt }) ∧
      (∃ t, exec (.spwOff n claim) s = .next t ∧ Quiet s t ∧
        ((chanOf s n).st ∈ [.off, .insert, .ready, .fault] →
          (chanOf t n).onReq = false ∧ (chanOf t n).st = (chanOf s n).st ∧ (chanOf t n).result = 0) ∧
        ((chanOf s n).st = .ramp → (chanOf s n).pg = false → s.rules = false →
          (chanOf t n).st = .ready ∧ (chanOf t n).onReq = false ∧ .gate n false ∈ t.outs) ∧
        ((chanOf s n).st = .latched → (chanOf t n).st = .latched ∧ (chanOf t n).result = 0)) ∧
      (∃ t, exec (.spwClear n claim) s = .next t ∧ Quiet s t ∧
        ((chanOf s n).st = .latched → s.rules = false → (chanOf t n).st = .ready ∧ (chanOf t n).retries = 0) ∧
        ((chanOf s n).st ∈ [.off, .insert, .ready, .ramp, .on] → chanOf t n = { chanOf s n with result := 0 }))) ∧
    (claim < s.die.claim → claim % 2 ≠ s.boot.ctrlId →
      ∃ t, exec (.spwOn n claim) s = .next t ∧ chanOf t n = { chanOf s n with result := 1 } ∧
        t = { s with channels := t.channels, outs := t.outs, mgt := t.mgt }) ∧
    (claim = s.die.claim → s.die.owner = true → isEnabled s (spwPage n) = false →
      ∃ t, exec (.spwOn n claim) s = .next t ∧ chanOf t n = { chanOf s n with result := 4 } ∧
        t = { s with channels := t.channels, outs := t.outs, mgt := t.mgt })) ∧
  (∀ (s : State) (vcc vin : Nat) (temp : Int),
    (∃ t, exec .d2dLinkDown s = .next t ∧ t.die = { s.die with linkUp := false } ∧ t.channels = s.channels ∧
      dieReachable t = false ∧ t = { s with die := t.die, outs := t.outs, mgt := t.mgt }) ∧
    (s.die.linkUp = false →
      ∃ t, exec .linkRestored s = .next t ∧ t.die = { s.die with linkUp := true } ∧ bit (getPage t spcPage).intRaw 2 = true ∧
        t = { s with die := t.die, outs := t.outs, mgt := t.mgt, regs := t.regs, pages := t.pages }) ∧
    (s.die.uvlo = false → vcc < 2900 ∨ vin < 9000 →
      ∃ t, exec (.spUvlo vcc vin) s = .next t ∧ t.die.uvlo = true ∧ t.die.claim = 0 ∧ dieReachable t = false ∧
        (∀ k, (chanOf t k).st = .off ∧ (chanOf t k).pg = false ∧ (chanOf t k).present = (chanOf s k).present) ∧
        t.pending = s.pending ∧ t.mram = s.mram ∧ t.tap = s.tap ∧ t.boot = s.boot ∧ t.vault = s.vault ∧ t.pwr = s.pwr) ∧
    (s.die.uvlo = true → 3000 ≤ vcc → 9500 ≤ vin →
      ∃ t, exec (.spUvloRecover vcc vin) s = .next t ∧ t.die = { s.die with uvlo := false } ∧
        bit (getPage t spcPage).intRaw 2 = true ∧
        t = { s with die := t.die, outs := t.outs, mgt := t.mgt, regs := t.regs, pages := t.pages }) ∧
    (s.die.uvlo = false → s.die.temp < 1250 → 1250 ≤ temp →
      ∃ t, exec (.dieOt temp) s = .next t ∧ t.die = { s.die with temp := temp } ∧ bit (getPage t spcPage).intRaw 1 = true ∧
        t = { s with die := t.die, outs := t.outs, mgt := t.mgt, regs := t.regs, pages := t.pages }) ∧
    (∀ x, s.pair.releaseAt = some x →
      ∃ t, exec .driveRelease s = .next t ∧ t.pair = { s.pair with releaseAt := none } ∧ x ≤ t.time.now ∧
        t.outs = .gatesFloat :: s.outs ∧
        t = { s with pair := t.pair, outs := t.outs, clk := t.clk, time := t.time, pages := t.pages }))

/-- Presence and feeds of a slot (R304 to R307, R314, R467): insertion starts the delay, removal takes the orders and the
retry count back and turns the gate off, the delay ends in READY or, with a standing order, in RAMP; the feed windows with
their hysteresis, the feed FETs, the warning and its end; a measurement sample replaces the last one. Voltages and
temperatures are operands in the model's units (log entry 58). -/
def Obligations.ChannelSupply : Prop :=
  ∀ (s : State) (n mv fall : Nat) (b : Bool) (m : Measurement), n < 48 → s.die.uvlo = false →
    ((chanOf s n).present = false →
      ∃ t, exec (.presenceAssert n) s = .next t ∧ ChannelEvent s t n ∧ (chanOf t n).present = true ∧
        bit (getPage t (spwPage n)).intRaw 7 = true ∧
        (chanActs s n = true → (chanOf s n).st = .off → (chanOf s n).fed = true →
          (chanOf t n).st = .insert ∧ (chanOf t n).insAt = s.time.now)) ∧
    ((chanOf s n).present = true →
      ∃ t, exec (.presenceLoss n) s = .next t ∧ ChannelEvent s t n ∧ (chanOf t n).present = false ∧
        (chanOf t n).onReq = false ∧ (chanOf t n).retries = 0 ∧ (chanOf t n).identified = false ∧
        (chanOf t n).st = (if (chanOf s n).st = .fault then .fault else .off) ∧
        ((chanOf s n).gateOn = true → (chanOf t n).pg = false) ∧
        ((chanOf s n).st = .on → (chanOf t n).pwarn = true) ∧ bit (getPage t (spwPage n)).intRaw 7 = true) ∧
    ((chanOf s n).st = .insert → chanActs s n = true →
      ∃ t, exec (.insertDelayEnd n) s = .next t ∧ Quiet s t ∧
        (chanOf s n).insAt + regField s (spwPage n) O.SPW_INS 0 10 * 800000 ≤ t.time.now ∧
        ((chanOf s n).onReq = true → (chanOf t n).st = .ramp ∧ .gate n true ∈ t.outs) ∧
        ((chanOf s n).onReq = false → s.rules = false → (chanOf t n).st = .ready)) ∧
    (∃ t, exec (.feedWindowChange n b mv) s = .next t ∧ ChannelEvent s t n ∧
      (b = true → (chanOf t n).mvB = mv ∧ (chanOf t n).feedA = (chanOf s n).feedA ∧
        ((chanOf s n).feedB = false → (chanOf s n).ovB = false → (chanOf t n).feedB = (decide (10200 ≤ mv) && decide (mv < 13800))) ∧
        ((chanOf s n).feedB = true → (chanOf s n).ovB = false → (chanOf t n).feedB = (decide (9600 ≤ mv) && decide (mv < 13800)))) ∧
      (b = false → (chanOf t n).mvA = mv ∧ (chanOf t n).feedB = (chanOf s n).feedB ∧
        ((chanOf s n).feedA = false → (chanOf s n).ovA = false → (chanOf t n).feedA = (decide (10200 ≤ mv) && decide (mv < 13800))) ∧
        ((chanOf s n).ovA = true → (chanOf t n).feedA = (decide (9600 ≤ mv) && decide (mv ≤ 13500))))) ∧
    ((chanOf s n).fetB = true →
      ∃ t, exec (.reverseCurrent n true mv) s = .next t ∧ ChannelEvent s t n ∧ (chanOf t n).fetB = false ∧
        (chanOf t n).fetA = (chanOf s n).fetA ∧ .feedFet n true false ∈ t.outs ∧ bit (getPage t (spwPage n)).intRaw 5 = true ∧
        (regOf t (spwPage n) O.SPW_REV_CNT).toNat = min 0xFFFFFFFF ((regOf s (spwPage n) O.SPW_REV_CNT).toNat + 1)) ∧
    ((chanOf s n).feedA = true → (chanOf s n).fetA = false → chanActs s n = true →
      ∃ t, exec (.feedFetTurnOn n false mv) s = .next t ∧ ChannelEvent s t n ∧ (chanOf t n).fetA = true ∧
        (chanOf t n).mvA = mv ∧ .feedFet n false true ∈ t.outs) ∧
    (chanActs s n = true → mv < warnMv s n → (chanOf s n).gateOn = true →
      ∃ t, exec (.feedWarning n mv fall) s = .next t ∧ ChannelEvent s t n ∧ (chanOf t n).pwarn = true ∧
        ((chanOf s n).pwarn = false → .pwarn n true ∈ t.outs ∧ bit (getPage t (spwPage n)).intRaw 4 = true ∧
          (chanOf t n).pwarnAt = s.time.now ∧
          (regOf t (spwPage n) O.SPW_PWARN_CNT).toNat = min 0xFFFFFFFF ((regOf s (spwPage n) O.SPW_PWARN_CNT).toNat + 1))) ∧
    ((chanOf s n).pwarn = true → (chanOf s n).warnGate = false → (chanOf s n).gateOn = false →
      ∃ t, exec (.pwarnDeassert n) s = .next t ∧ ChannelEvent s t n ∧ (chanOf t n).pwarn = false ∧
        .pwarn n false ∈ t.outs ∧ (chanOf s n).warnOff + 800000 ≤ t.time.now) ∧
    (isEnabled s (spwPage n) = true →
      ∃ t, exec (.measurementSample n m) s = .next t ∧ ChannelEvent s t n ∧ (chanOf t n).mvA = m.feedA ∧
        (chanOf t n).mvB = m.feedB ∧ (chanOf t n).outMv = m.out ∧ (chanOf t n).cur = m.cur ∧ (chanOf t n).power = m.power ∧
        (bit (regOf s (spwPage n) O.SPW_TEMP) 31 = true → (chanOf t n).fetTemp = m.diode) ∧
        (chanOf t n).st = (chanOf s n).st ∧ (chanOf t n).pg = (chanOf s n).pg)

/-- Ramps, the electronic breaker and faults of a slot (R306, R309 to R311, R313): the end of a ramp asserts power-good
unless the breaker has acted; each fault turns the gate off and enters FAULT; the fault timer runs, keeps its count and
clears; the end of the retry timer latches, or ramps again; 10 s of power-good clear the retry count. Voltages and
temperatures are operands in the model's units (log entry 58). -/
def Obligations.ChannelFaults : Prop :=
  ∀ (s : State) (n mv uv at_ : Nat) (temp : Int), n < 48 → s.die.uvlo = false →
    (∀ x, (chanOf s n).feedLost = some x → (chanOf s n).gateOn = true → (chanOf s n).fed = false →
      ∃ t, exec (.feedLossTimeout n) s = .next t ∧
        ChannelFault s t n (if (chanOf s n).ovA || (chanOf s n).ovB then .ov else .uv) ∧ x + 16000 ≤ t.time.now) ∧
    ((chanOf s n).st = .ramp → (chanOf s n).activeMv ≤ mv + 300 →
      ((chanOf s n).rampTimer = false → uv < brkUv s n →
        ∃ t, exec (.rampEnd n mv uv) s = .next t ∧ ChannelEvent s t n ∧ (chanOf t n).st = .on ∧ (chanOf t n).pg = true ∧
          (chanOf t n).outMv = mv ∧ ((chanOf s n).pg = false → (chanOf t n).pgAt = s.time.now ∧
            bit (getPage t (spwPage n)).intRaw 0 = true)) ∧
      ((chanOf s n).rampTimer = true ∨ brkUv s n ≤ uv →
        ∃ t, exec (.rampEnd n mv uv) s = .next t ∧ ChannelFault s t n .rampLimit)) ∧
    ((chanOf s n).st = .ramp →
      ∃ t, exec (.rampTimeout n) s = .next t ∧ ChannelFault s t n .rampTmo ∧
        (chanOf s n).rampAt + regField s (spwPage n) O.SPW_RAMP 16 8 * 800000 ≤ t.time.now) ∧
    ((chanOf s n).gateOn = true → fastUv s n ≤ uv →
      ∃ t, exec (.fastTrip n uv) s = .next t ∧ ChannelFault s t n .fast ∧ t.time.now = s.time.now) ∧
    ((chanOf s n).gateOn = true → brkUv s n ≤ uv → (chanOf s n).ftRun = none →
      ∃ t, exec (.breakerCrossing n uv at_) s = .next t ∧ ChannelEvent s t n ∧ (chanOf t n).ftRun = some t.time.now ∧
        (chanOf t n).ftBelow = none ∧ (chanOf t n).st = (chanOf s n).st ∧ at_ ≤ t.time.now ∧
        ((chanOf s n).st = .ramp → (chanOf t n).rampTimer = true) ∧
        ((chanOf s n).st = .on → (chanOf s n).ftCount = 0 → bit (getPage t (spwPage n)).intRaw 3 = true ∧
          (regOf t (spwPage n) O.SPW_EARLY_CNT).toNat = min 0xFFFFFFFF ((regOf s (spwPage n) O.SPW_EARLY_CNT).toNat + 1))) ∧
    (∀ r, (chanOf s n).ftRun = some r → uv < brkUv s n →
      ∃ t, exec (.breakerRelease n uv at_) s = .next t ∧ ChannelEvent s t n ∧ (chanOf t n).ftRun = none ∧
        (chanOf t n).ftBelow = some t.time.now ∧ (chanOf t n).ftCount = (chanOf s n).ftCount + (t.time.now - r)) ∧
    (∀ r, (chanOf s n).ftRun = some r → (chanOf s n).gateOn = true →
      ∃ t, exec (.faultTimerExpiry n) s = .next t ∧ ChannelFault s t n .breaker ∧
        r + (ftTicks s n - (chanOf s n).ftCount) ≤ t.time.now) ∧
    (∀ x, (chanOf s n).ftBelow = some x →
      ∃ t, exec (.faultTimerReset n) s = .next t ∧ ChannelEvent s t n ∧ (chanOf t n).ftCount = 0 ∧
        (chanOf t n).ftBelow = none ∧ x + 800000 ≤ t.time.now) ∧
    ((chanOf s n).st = .fault → (chanOf s n).otHold = false → chanActs s n = true →
      let r := regOf s (spwPage n) O.SPW_RETRY
      ∃ t, exec (.retryTimerEnd n) s = .next t ∧ Quiet s t ∧ (chanOf s n).retryAt ≤ t.time.now ∧
        (bit r 8 = false → (chanOf t n).st = .latched ∧ (chanOf t n).onReq = false) ∧
        (bit r 8 = true → field r 12 4 ≠ 0 → field r 12 4 ≤ (chanOf s n).retries → (chanOf t n).st = .latched) ∧
        (bit r 8 = true → field r 12 4 = 0 → (chanOf s n).present = false → (chanOf t n).st = .off) ∧
        (bit r 8 = true → field r 12 4 = 0 → (chanOf s n).lostSince = true → (chanOf s n).present = true →
          (chanOf s n).fed = true → (chanOf t n).st = .insert) ∧
        (bit r 8 = true → field r 12 4 = 0 → (chanOf s n).lostSince = false → (chanOf s n).present = true →
          (chanOf s n).otCause = false → (chanOf s n).onReq = true → (chanOf s n).fed = true →
          (chanOf t n).st = .ramp ∧ .gate n true ∈ t.outs)) ∧
    ((chanOf s n).st = .fault → (chanOf s n).otHold = true → temp < otLimit s n - 100 → (chanOf s n).onReq = true →
        (chanOf s n).fed = true →
      ∃ t, exec (.otCool n temp) s = .next t ∧ ChannelEvent s t n ∧ (chanOf t n).st = .ramp ∧ (chanOf t n).otHold = false ∧
        (chanOf t n).fetTemp = temp) ∧
    ((chanOf s n).pg = true →
      ∃ t, exec (.retryCountReset n) s = .next t ∧ chanOf t n = { chanOf s n with retries := 0 } ∧ ChannelEvent s t n ∧
        (chanOf s n).pgAt + 8000000000 ≤ t.time.now) ∧
    ((chanOf s n).gateOn = true → otLimit s n ≤ temp →
      ∃ t, exec (.overTemperature n temp) s = .next t ∧ ChannelFault s t n .ot ∧ (chanOf t n).fetTemp = temp)

/-- Security requests that bind, create and unlock (R319 to R323, R338): IDENTITY answers the identity point and the serial;
BIND_OWNER installs the key with nonce 0 and a PWK; PAIR_BIND starts the exchange; NS_CREATE makes the namespace with fresh
keys, loaded where its policy is AUTO; NS_SET changes attributes; NS_UNLOCK loads the key; NS_RETIRE destroys it; each
accepted nonce is the last one. Keys stand unwrapped, and requests are served one at a time (log entries 12, 39). -/
def Obligations.NamespaceRequests : Prop :=
  ∀ (s : State) (r : SecReq),
    (ringTakes s = true → r.bodyOk = true →
      ∃ t, exec (.identity r) s = .next t ∧ Granted s t 0x01 [Config.idPoint, Config.serial] ∧
        t = { s with outs := t.outs, sec := t.sec, errorLog := t.errorLog } ∧ t.sec.owner = s.sec.owner ∧
        t.sec.nonce = s.sec.nonce) ∧
    (∀ key, ringTakes s = true → s.alarm.zeroized = false → s.sec.mode ≠ .zeroized → r.bodyOk = true →
        (s.sec.owner = none ∨ (s.sec.nonce < r.nonce ∧ r.sigOk = true)) → (s.sec.pwk.isSome = true ∨ s.rng.ready = true) →
      ∃ t, exec (.bindOwner r key) s = .next t ∧ Granted s t 0x02 [] ∧ t.sec.owner = some key ∧ t.sec.nonce = 0 ∧
        t.sec.pwk.isSome = true ∧ (s.sec.pwk.isSome = true → t.sec.pwk = s.sec.pwk) ∧ t.vault = s.vault ∧
        t.namespaces = s.namespaces) ∧
    (signedOk s r = true →
      (∀ b : PairBind, s.crypto.halted = false → b.ownPoint = Config.idPoint → s.pair.link.ok = true →
          (holdsNamespace s && b.peerHolds) = false → s.rng.ready = true →
        ∃ t, exec (.pairBind r b) s = .next t ∧ t.outs = .secure (claimOf s) :: s.outs ∧
          t.sec = { s.sec with binding := some b, heldNonce := r.nonce } ∧ t = { s with outs := t.outs, sec := t.sec }) ∧
      (∀ a : NsAttr, s.crypto.halted = false → a.ns < 1024 → 32 ≤ a.shift → a.shift ≤ 36 → 0 < a.zoneCount →
          a.zoneCount ≤ 2 ^ 20 → 0 < a.groupSet → a.groupSet < 4096 → 1 ≤ a.wakeLimit → a.wakeLimit ≤ 60 →
          (nsOf s a.ns).st = .unused → zoneSum s + a.zoneCount ≤ 4194304 → s.rng.ready = true →
        ∃ t, exec (.nsCreate r a) s = .next t ∧ Granted s t 0x10 [] ∧ t.sec.nonce = r.nonce ∧
          (∃ k, t.sec.nsk.get a.ns = some k ∧ (t.vault.slots.get a.ns = some k ∨ t.vault = s.vault)) ∧
          (t.sec.nwk.get a.ns).isSome = true ∧
          nsOf t a.ns = ⟨if a.autoUnlock && s.sec.pwk.isSome && s.sec.pufIntact then .active else .locked, a.shift,
            a.zoneCount, a.groupSet, a.cls, a.wakeLimit, a.autoUnlock⟩ ∧
          (∀ m, m ≠ a.ns → nsOf t m = nsOf s m) ∧ t.zones = s.zones ∧ t.conns = s.conns ∧ t.groups = s.groups) ∧
      (∀ ns g w : Nat, ns < 1024 → (nsOf s ns).st = .active ∨ (nsOf s ns).st = .locked → 0 < g → g < 4096 → 1 ≤ w → w ≤ 60 →
        ∃ t, exec (.nsSet r ⟨ns, some g, none, some w⟩) s = .next t ∧ Granted s t 0x11 [] ∧ t.sec.nonce = r.nonce ∧
          nsOf t ns = { nsOf s ns with groupSet := g, wakeLimit := w } ∧ (∀ m, m ≠ ns → nsOf t m = nsOf s m) ∧
          t.zones = s.zones ∧ t.vault = s.vault ∧ t.conns = s.conns) ∧
      (∀ ns key, s.crypto.halted = false → ns < 1024 → (nsOf s ns).st = .locked → unwrapKey s ns = some key →
        ∃ t, exec (.nsUnlock r ns) s = .next t ∧ Granted s t 0x12 [] ∧ nsOf t ns = { nsOf s ns with st := .active } ∧
          t.vault.slots.get ns = some key ∧ t.vault.kcv = Config.kcv key ∧ (∀ m, m ≠ ns → nsOf t m = nsOf s m) ∧
          (∀ m, m ≠ ns → t.vault.slots.get m = s.vault.slots.get m) ∧ t.zones = s.zones ∧ t.conns = s.conns) ∧
      (∀ ns, ns < 1024 → (nsOf s ns).st = .active ∨ (nsOf s ns).st = .locked →
        ∃ t, exec (.nsRetire r ns) s = .next t ∧ Granted s t 0x13 [] ∧ t.sec.nonce = r.nonce ∧
          nsOf t ns = { nsOf s ns with st := .retiring } ∧ t.vault.slots.get ns = none ∧ t.sec.nwk.get ns = none ∧
          (∀ m, m ≠ ns → nsOf t m = nsOf s m ∧ t.vault.slots.get m = s.vault.slots.get m)))

/-- Security requests on keys, lists, locks, recovery and patches (R42, R76, R101, R321, R336, R430, R431): each leaves what
it sets, and an accepted nonce is the last one; the end of an activation's hold applies the set, or abandons it. Keys stand
unwrapped, the lists are not mirrored, and open statuses are the model's (log entries 12, 40, 64). -/
def Obligations.KeyAndPatchRequests : Prop :=
  ∀ (s : State) (r : SecReq),
    (signedOk s r = true →
      (∀ k key, s.crypto.halted = false → k < 8 →
        ∃ t, exec (.tvkSet r k key) s = .next t ∧ Granted s t 0x20 [] ∧ t.sec.nonce = r.nonce ∧
          t.sec.tvk.get k = some (key, s.sec.tvkGen + 1) ∧ (∀ j, j ≠ k → t.sec.tvk.get j = s.sec.tvk.get j)) ∧
      (∀ k, k < 8 → ∃ t, exec (.tvkRemove r k) s = .next t ∧ Granted s t 0x21 [] ∧ t.sec.tvk.get k = none ∧
        (∀ j, j ≠ k → t.sec.tvk.get j = s.sec.tvk.get j)) ∧
      (∀ x, s.sec.deny.length < 256 → ∃ t, exec (.denyAdd r x) s = .next t ∧ Granted s t 0x22 [] ∧ t.sec.deny.contains x = true ∧
        (∀ y, y ≠ x → t.sec.deny.contains y = s.sec.deny.contains y) ∧ t.sec.ordered = s.sec.ordered) ∧
      (∀ x, ∃ t, exec (.denyRemove r x) s = .next t ∧ Granted s t 0x23 [] ∧ t.sec.deny.contains x = false ∧
        (∀ y, y ≠ x → t.sec.deny.contains y = s.sec.deny.contains y)) ∧
      (∀ x, s.sec.ordered.length < 256 → ∃ t, exec (.orderedAdd r x) s = .next t ∧ Granted s t 0x24 [] ∧
        t.sec.ordered.contains x = true ∧ (∀ y, y ≠ x → t.sec.ordered.contains y = s.sec.ordered.contains y) ∧
        t.sec.deny = s.sec.deny) ∧
      (∀ x, ∃ t, exec (.orderedRemove r x) s = .next t ∧ Granted s t 0x25 [] ∧ t.sec.ordered.contains x = false ∧
        (∀ y, y ≠ x → t.sec.ordered.contains y = s.sec.ordered.contains y)) ∧
      (s.alarm.present = 0 → s.crypto.halted = true →
        ∃ t, exec (.recover r) s = .next t ∧ Granted s t 0x30 [] ∧ t.crypto.halted = false ∧ t.sec.mode = .ready ∧
          t.sec.wasActive = [] ∧ t.sec.working = true ∧ t.alarm = { s.alarm with first := 0, firstTick := 0 } ∧
          (∀ n key, s.sec.wasActive.contains n = true → (nsOf s n).st = .locked → unwrapKey s n = some key →
            (nsOf t n).st = .active ∧ t.vault.slots.get n = some key)) ∧
      (∀ page, (blockOf page).isSome = true →
        ∃ t, exec (.pageUnlock r page) s = .next t ∧ Granted s t 0x31 [] ∧ (getPage t page).lock = false ∧
          (∀ q, q ≠ page → (getPage t q).ctl = (getPage s q).ctl)) ∧
      (∀ p : PatchSet, p.valid = true → s.boot.level < p.level →
        ∃ t, exec (.patchStage r p) s = .next t ∧ Granted s t 0x40 [] ∧
          t.boot = (if s.boot.useB then { s.boot with slotA := some p } else { s.boot with slotB := some p })) ∧
      (∀ p, s.crypto.halted = false → s.boot.staged = some p → p.valid = true →
          s.pair.role = .active ∨ s.pair.role = .standby → s.pair.drill = .none →
        ∃ t, exec (.patchActivate r p.level) s = .next t ∧
          t.boot = { s.boot with act := .draining, actAt := s.time.now } ∧ t.sec = { s.sec with heldNonce := r.nonce } ∧
          t = { s with boot := t.boot, sec := t.sec })) ∧
    (s.boot.act = .draining → s.secWait = [] →
      (∀ p, holdDrained s = true → s.boot.staged = some p →
        ∃ t, exec .patchApply s = .next t ∧ Granted s t 0x41 [] ∧ t.boot.act = .none ∧ t.boot.abandoned = false ∧
          t.boot.useB = !s.boot.useB ∧ t.boot.level = p.level ∧ t.boot.table = p.table ∧ t.sec.nonce = s.sec.heldNonce ∧
          bit (getPage t bootPage).intRaw 2 = true) ∧
      (holdDrained s = false →
        ∃ t, exec .patchHoldTimeout s = .next t ∧ t.outs.head? = some (.secStatus 5 []) ∧ t.boot.act = .none ∧
          t.boot.abandoned = true ∧ t.boot.useB = s.boot.useB ∧ t.boot.level = s.boot.level ∧
          s.boot.actAt + 160000000 ≤ t.time.now ∧ t.boot.holdMs = (t.time.now - s.boot.actAt) / 800000 ∧
          t.sec.nonce = s.sec.nonce ∧ bit (getPage t bootPage).intRaw 3 = true ∧ Keep s t))

/-- A signed request that does not pass its checks ends with the status that R321, R336 and R337 give, in their order: 5
after a ZEROIZE, 3 without an owner, 2 for an old nonce, 1 for a bad signature, 6 in a halt for a request that needs a key, 4
for a bad body. Nothing but the answer, the count, the alert and the head changes. When the ring is served is the model's
reading (log entry 39). -/
def Obligations.RequestRefusals : Prop :=
  ∀ (s : State) (r : SecReq), ringTakes s = true → ∀ (c : Instr) (op : Nat) (needsKey : Bool) (k key page : Nat) (b : PairBind)
      (a : NsAttr) (d : NsChange) (p : PatchSet),
    (c, op, needsKey) ∈
      ([(.pairBind r b, 0x03, true), (.nsCreate r a, 0x10, true), (.nsSet r d, 0x11, false), (.nsUnlock r k, 0x12, true),
        (.nsRetire r k, 0x13, false), (.tvkSet r k key, 0x20, true), (.tvkRemove r k, 0x21, false),
        (.denyAdd r k, 0x22, false), (.denyRemove r k, 0x23, false), (.orderedAdd r k, 0x24, false),
        (.orderedRemove r k, 0x25, false), (.pageUnlock r page, 0x31, false), (.patchStage r p, 0x40, false),
        (.patchActivate r k, 0x41, true)] : List (Instr × Nat × Bool)) →
    ∀ status, (if s.alarm.zeroized || s.sec.mode = .zeroized then some 5
        else if s.sec.owner.isNone then some 3
        else if r.nonce ≤ s.sec.nonce then some 2
        else if !r.sigOk then some 1
        else if needsKey && s.crypto.halted then some 6
        else if !r.bodyOk then some 4
        else none) = some status →
      ∃ t, exec c s = .next t ∧ t.outs = .secStatus status [] :: s.outs ∧ t.sec = { s.sec with head := s.sec.head + 1 } ∧
        (regOf t secPage O.SEC_REQ_FAIL_CNT).toNat = min 0xFFFFFFFF ((regOf s secPage O.SEC_REQ_FAIL_CNT).toNat + 1) ∧
        bit (getPage t secPage).intRaw 0 = true ∧
        t = { s with outs := t.outs, sec := t.sec, regs := t.regs, pages := t.pages }

/-- The key vault (R325 to R327): a read of KEY_LOCK by the security core takes a free lock with the next token, and returns
0 to anyone else or while it is held; the holder's token frees it; with the lock, LOAD stores KEY_DATA in the entry and
clears it, ZERO and ZERO_ALL empty entries; a halted vault answers RESULT 3 and a wrong token RESULT 1. The error address of
a bad token is left free, and a halt comes before the lock (log entries 2, 64). -/
def Obligations.KeyVault : Prop :=
  ∀ (s : State) (req index token : Nat) (v : Word), token < 65536 → index < 1024 →
    (readReaches s keyPage O.KEY_LOCK = true →
      (s.vault.holder = none →
        ∃ t n, exec (.keyLockAcquire 0x10) s = .next t ∧ 1 ≤ n ∧ n ≤ 0xFFFF ∧
          (s.vault.lastToken < 0xFFFF → n = s.vault.lastToken + 1) ∧
          t.vault = { s.vault with holder := some n, lastToken := n } ∧
          t.outs = .readValue 0x10 (regAddr keyPage O.KEY_LOCK) (Word.ofNum n) :: s.outs ∧
          t = { s with vault := t.vault, outs := t.outs, pages := t.pages }) ∧
      (req ≠ 0x10 ∨ s.vault.holder.isSome = true →
        ∃ t, exec (.keyLockAcquire req) s = .next t ∧ t.outs = .readValue req (regAddr keyPage O.KEY_LOCK) 0#32 :: s.outs ∧
          t = { s with outs := t.outs, pages := t.pages })) ∧
    (writeReaches s req keyPage O.KEY_LOCK = true →
      (s.vault.holder = some (field v 0 16) →
        ∃ t, exec (.keyLockRelease req v) s = .next t ∧ t.vault = { s.vault with holder := none } ∧
          t = { s with vault := t.vault, regs := t.regs, pages := t.pages }) ∧
      (s.vault.holder ≠ some (field v 0 16) →
        ∃ t, exec (.keyLockRelease req v) s = .next t ∧ t.vault = s.vault ∧ t.draws = s.draws + 1 ∧
          (getPage t keyPage).errCount ≠ 0 ∧ t = { s with draws := t.draws, regs := t.regs, pages := t.pages })) ∧
    (writeReaches s 0x10 keyPage O.KEY_LOAD = true →
      (s.crypto.halted = false → s.vault.holder = some token →
        (∃ t, exec (.keyLoad 0x10 false index token) s = .next t ∧ Keep s t ∧
          t.vault.slots.get index = some (keyData s false) ∧ t.vault.kcv = Config.kcv (keyData s false) ∧ t.vault.result = 0 ∧
          (∀ m, m ≠ index → t.vault.slots.get m = s.vault.slots.get m) ∧ t.vault.seals = s.vault.seals ∧
          (∀ i, i < 16 → regOf t keyPage (O.KEY_DATA + 4 * i) = 0#32) ∧ t.conns = s.conns ∧ t.zones = s.zones) ∧
        (∃ t, exec (.keyLoad 0x10 true index token) s = .next t ∧ t.vault.seals.get index = some (keyData s true) ∧
          t.vault.slots = s.vault.slots ∧ t.vault.result = 0 ∧
          t = { s with vault := t.vault, regs := t.regs, pages := t.pages }) ∧
        (∃ t, exec (.keyZero 0x10 false index token) s = .next t ∧ Keep s t ∧ t.vault.slots.get index = none ∧
          (∀ m, m ≠ index → t.vault.slots.get m = s.vault.slots.get m) ∧ t.vault.seals = s.vault.seals ∧
          t.vault.holder = s.vault.holder ∧ t.vault.result = 0) ∧
        (∃ t, exec (.keyZeroAll 0x10 false token) s = .next t ∧ Keep s t ∧ t.vault.slots = .empty ∧
          t.vault.seals = s.vault.seals ∧ t.vault.result = 0) ∧
        (∃ t, exec (.keyZeroAll 0x10 true token) s = .next t ∧ Keep s t ∧ t.vault.seals = .empty ∧
          t.vault.slots = s.vault.slots)) ∧
      (s.crypto.halted = true →
        ∃ t, exec (.keyLoad 0x10 false index token) s = .next t ∧ t.vault = { s.vault with result := 3 } ∧
          t = { s with vault := t.vault, regs := t.regs, pages := t.pages }) ∧
      (s.crypto.halted = false → s.vault.holder ≠ some token →
        ∃ t, exec (.keyLoad 0x10 false index token) s = .next t ∧ t.vault = { s.vault with result := 1 } ∧
          bit (getPage t keyPage).intRaw 0 = true ∧ t = { s with vault := t.vault, regs := t.regs, pages := t.pages }))

/-- The random number generator (R339): a health failure stops it and counts, it restarts after 64 ms, it is READY after its
samples, and a read returns fresh bits, or 0 while it is not READY. The bits are free values, one draw each (log entry 2). -/
def Obligations.RandomNumbers : Prop :=
  ∀ (s : State) (req : Nat) (adaptive : Bool),
    (s.rng.running = true →
      ∃ t, exec (.rngHealthFail adaptive) s = .next t ∧
        t.rng = { s.rng with ready := false, fail := true, running := false, restartAt := some (s.time.now + 51200000) } ∧
        (let off := if adaptive then O.RNG_APT_CNT else O.RNG_RCT_CNT
         (regOf t rngPage off).toNat = min 0xFFFFFFFF ((regOf s rngPage off).toNat + 1)) ∧
        bit (getPage t rngPage).intRaw 0 = true ∧ t = { s with rng := t.rng, regs := t.regs, pages := t.pages }) ∧
    (∀ x, s.rng.restartAt = some x →
      ∃ t, exec .rngRestart s = .next t ∧ t.rng = { s.rng with running := true, fail := false, restartAt := none } ∧
        x ≤ t.time.now ∧ t = { s with rng := t.rng, clk := t.clk, time := t.time, pages := t.pages }) ∧
    (s.rng.running = true → s.rng.ready = false →
      ∃ t, exec .rngReady s = .next t ∧ t.rng = { s.rng with ready := true } ∧ Keep s t ∧
        (s.reqWait = [] → s.secWait = [] → t = { s with rng := t.rng })) ∧
    (readReaches s rngPage O.RNG_OUT = true →
      (s.rng.ready = true →
        ∃ t, exec (.rngOutRead req) s = .next t ∧ t.draws = s.draws + 1 ∧
          t.outs = .readValue req (regAddr rngPage O.RNG_OUT) (Word.ofNum (Config.random s.draws)) :: s.outs ∧
          t.rng = { s.rng with requests := t.rng.requests } ∧
          t = { s with draws := t.draws, rng := t.rng, outs := t.outs, pages := t.pages }) ∧
      (s.rng.ready = false →
        ∃ t, exec (.rngOutRead req) s = .next t ∧ t.outs = .readValue req (regAddr rngPage O.RNG_OUT) 0#32 :: s.outs ∧
          t = { s with outs := t.outs, pages := t.pages }))

/-- Alarms and the zeroize order (R333 to R337, R364): an armed source that begins to hold erases the keys of both banks and
halts the scheduler, and the namespaces that were ACTIVE are LOCKED and remembered; where MESH is set to ZEROIZE by fuse and
register, the PUF helper data goes too and the order is sent on both paths, again every 50 us until 1 s has passed; who
receives it destroys the wrapping keys and acknowledges; the acknowledgement ends it. The command carries the mask of the
sources that hold, as the model chooses (log entry 14). -/
def Obligations.AlarmsAndZeroize : Prop :=
  ∀ (s : State) (sources : Nat),
    (s.alarm.armed = true → s.alarm.present = 0 → sources % 32 ≠ 0 → s.alarm.fuse = false → s.crypto.halted = false →
        s.sec.binding = none →
      ∃ t, exec (.alarmErase sources) s = .next t ∧ Keep s t ∧ t.crypto.halted = true ∧ t.vault.slots = .empty ∧
        t.vault.seals = .empty ∧ t.vault.holder = none ∧ t.sec.mode = .halted ∧ t.sec.wasActive = nsIn s .active ∧
        t.sec.nwk = s.sec.nwk ∧ t.sec.pwk = s.sec.pwk ∧ t.alarm.present = sources % 32 ∧ t.alarm.zeroized = s.alarm.zeroized ∧
        (s.alarm.first = 0 → t.alarm.first = sources % 32) ∧ (s.alarm.first ≠ 0 → t.alarm.first = s.alarm.first) ∧
        (∀ n, (nsOf s n).st = .active → (nsOf t n).st = .locked) ∧ (∀ n, (nsOf s n).st ≠ .active → nsOf t n = nsOf s n) ∧
        bit (getPage t almPage).intRaw 0 = true ∧ bit (getPage t keyPage).intRaw 1 = true ∧
        (∀ i, i < 16 → regOf t keyPage (O.KEY_DATA + 4 * i) = 0#32)) ∧
    (s.alarm.armed = true → s.alarm.present = 0 → sources.testBit 3 = true → zeroizes s 3 = true → s.sec.binding = none →
      ∃ t, exec (.alarmZeroize sources) s = .next t ∧ Keep s t ∧ t.crypto.halted = true ∧ t.alarm.zeroized = true ∧
        t.sec.pufIntact = false ∧ .pairZeroize false ∈ t.outs ∧ .pairZeroize true ∈ t.outs ∧
        t.alarm.orderAt = some (t.time.now + 40000, t.time.now + 800000000) ∧ bit (getPage t almPage).intRaw 1 = true) ∧
    (∀ at_ stop, s.alarm.orderAt = some (at_, stop) →
      ∃ t, exec .zeroizeRepeat s = .next t ∧ at_ ≤ t.time.now ∧
        (stop ≤ at_ → t.alarm.orderAt = none ∧ t.outs = s.outs) ∧
        (at_ < stop → t.alarm.orderAt = some (at_ + 40000, stop) ∧ t.outs = .pairZeroize true :: .pairZeroize false :: s.outs) ∧
        t = { s with alarm := { s.alarm with orderAt := t.alarm.orderAt }, outs := t.outs, clk := t.clk, time := t.time
                     pages := t.pages }) ∧
    (∃ t, exec (.zeroize true) s = .next t ∧ Keep s t ∧ t.sec.pwk = none ∧ t.sec.nwk = .empty ∧
      .pairZack false ∈ t.outs ∧ .pairZack true ∈ t.outs ∧ bit (getPage t pairPage).intRaw 7 = true ∧
      (s.rules = false → t.pair = { s.pair with barred := true } ∧ t.namespaces = s.namespaces ∧
        t = { s with sec := t.sec, pair := t.pair, outs := t.outs, regs := t.regs, pages := t.pages }) ∧
      (s.rules = true → ∀ n, (nsOf s n).st = .active ∨ (nsOf s n).st = .locked → (nsOf t n).st = .retiring)) ∧
    (s.alarm.zeroized = true →
      ∃ t, exec (.zack true) s = .next t ∧ t = { s with alarm := { s.alarm with orderAt := none, partnerAck := true } })

/-- Ports (R151 to R157, R166 to R173): a received frame is counted or dropped by the tests of its sub-port, and one steered
to an engine joins that engine's queue of its class; received pauses stop a sub-port or a priority and run out; a sent pause
is repeated or ended; a link comes up, and goes down with the frames that waited on it. That the frame counters wrap, and the
corners of flow control, are the model's (log entries 24, 45, 62). -/
def Obligations.PortsAndFlowControl : Prop :=
  ∀ (s : State) (n k at_ : Nat), n < 2 → k < 4 →
    (∀ f : Frame, f.port = n → f.sub = k → accepting s (netPage n) = true → subUp s n k = true → f.fecBad = false →
        64 ≤ f.len → f.len ≤ regField s (netPage n) O.NET_MAX_FRAME 0 14 →
      let count (t : State) (off : Nat) := (subOf t n k).counts.getD off 0
      (f.fcsOk = false →
        ∃ t, exec (.frameReceive f at_) s = .next t ∧ count t O.NET_RX_BAD = (count s O.NET_RX_BAD + 1) % 2 ^ 32 ∧
          at_ ≤ t.time.now ∧ t = { s with ports := t.ports, clk := t.clk, time := t.time, pages := t.pages }) ∧
      (f.fcsOk = true → acceptsMac (portOf s n) k f.dmac = false →
        ∃ t, exec (.frameReceive f at_) s = .next t ∧ count t O.NET_RX_FILTERED = (count s O.NET_RX_FILTERED + 1) % 2 ^ 32 ∧
          t = { s with ports := t.ports, clk := t.clk, time := t.time, pages := t.pages }) ∧
      (f.fcsOk = true → acceptsMac (portOf s n) k f.dmac = true → accepting s swcPage = true →
        (f.etherType = 0x8808 →
          ∃ t, exec (.frameReceive f at_) s = .next t ∧ count t O.NET_RX_FRAMES = (count s O.NET_RX_FRAMES + 1) % 2 ^ 32 ∧
            t = { s with ports := t.ports, clk := t.clk, time := t.time, pages := t.pages }) ∧
        (∀ e conn, steer f = .engine e conn → e < 4 → f.etherType ≠ 0x8808 → isEnabled s (xptPage e) = true →
            let cls := frameClass s f
            let q := 8 * e + cls
            policerOn s conn = false → policerOn s (4096 + 8 * (4 * n + k) + cls) = false → lossless s (4 * n + k) cls = false →
            bit (regOf s swcPage O.SWC_PUSHOUT) 31 = false → (wredSet s q .green).en = false →
            framesCells (queueOf s q).frames + cellsOf f.len ≤ 8 * (queueOf s q).limit → usedCells s + cellsOf f.len < 131072 →
          ∃ t, exec (.frameReceive f at_) s = .next t ∧
            (queueOf t q).frames = (queueOf s q).frames ++
              [{ len := f.len, cls := cls, src := some (4 * n + k), qpn := f.qpn, enqNs := devNs t }] ∧
            (∀ p, p ≠ q → queueOf t p = queueOf s p) ∧ t.outs = s.outs ∧
            t = { s with ports := t.ports, switch := t.switch, clk := t.clk, time := t.time, pages := t.pages }))) ∧
    (∀ quanta, subUp s n k = true →
      (flowControl s n = 1 →
        ∃ t, exec (.pauseFrame n k quanta at_) s = .next t ∧ at_ ≤ t.time.now ∧
          (subOf t n k).pausedTill = (if quanta = 0 then none else some (t.time.now + bitTicks s n (quanta * 512))) ∧
          (∀ m j, (m, j) ≠ (n, k) → subOf t m j = subOf s m j) ∧
          t = { s with ports := t.ports, clk := t.clk, time := t.time, pages := t.pages }) ∧
      (flowControl s n = 2 →
        ∃ t, exec (.pauseFrame n k quanta at_) s = .next t ∧ (subOf t n k).pausedTill = (subOf s n k).pausedTill ∧
          (subOf t n k).counts.getD O.NET_FC_IGNORED 0 = ((subOf s n k).counts.getD O.NET_FC_IGNORED 0 + 1) % 2 ^ 32 ∧
          t = { s with ports := t.ports, clk := t.clk, time := t.time, pages := t.pages })) ∧
    (∀ enable (quanta : List Nat), subUp s n k = true → flowControl s n = 2 →
      ∃ t, exec (.pfcFrame n k enable quanta at_) s = .next t ∧
        (∀ p, p < 8 → (subOf t n k).prioTill.get p =
          (if enable.testBit p && pfcEnabled s n p then
            (if quanta.getD p 0 = 0 then none else some (t.time.now + bitTicks s n (quanta.getD p 0 * 512)))
          else (subOf s n k).prioTill.get p)) ∧
        (subOf t n k).pausedTill = (subOf s n k).pausedTill ∧
        t = { s with ports := t.ports, clk := t.clk, time := t.time, pages := t.pages }) ∧
    (∀ prio x, (prio < 8 → (subOf s n k).prioTill.get prio = some x) → (8 ≤ prio → (subOf s n k).pausedTill = some x) →
      ∃ t, exec (.pauseExpiry n k prio) s = .next t ∧ x ≤ t.time.now ∧
        (prio < 8 → (subOf t n k).prioTill.get prio = none ∧ (subOf t n k).pausedTill = (subOf s n k).pausedTill) ∧
        (8 ≤ prio → (subOf t n k).pausedTill = none ∧ (subOf t n k).prioTill = (subOf s n k).prioTill) ∧
        t = { s with ports := t.ports, clk := t.clk, time := t.time, pages := t.pages }) ∧
    (∀ cls x, (subOf s n k).xoff.get cls = some x →
      ∃ t, exec (.pauseRefresh n k cls) s = .next t ∧ x ≤ t.time.now ∧
        (xonCells s cls < heldCells s (4 * n + k) cls →
          (subOf t n k).xoff.get cls = some (t.time.now + regField s (netPage n) O.NET_PAUSE 16 16 * 800)) ∧
        (heldCells s (4 * n + k) cls ≤ xonCells s cls → (subOf t n k).xoff.get cls = none) ∧
        t = { s with ports := t.ports, outs := t.outs, clk := t.clk, time := t.time, pages := t.pages }) ∧
    (isEnabled s (netPage n) = true → k < subCount s n → (subOf s n k).up = false →
      ∃ t, exec (.linkUp n k) s = .next t ∧
        subOf t n k = { subOf s n k with up := true, aligned := true, anDone := (portOf s n).autoneg } ∧
        bit (getPage t (netPage n)).intRaw 1 = true ∧ t = { s with ports := t.ports, regs := t.regs, pages := t.pages }) ∧
    ((subOf s n k).up = true →
      ∃ t, exec (.linkDown n k) s = .next t ∧ (subOf t n k).up = false ∧ (subOf t n k).tx = none ∧
        (∀ i, i < queuesPerSub s n → (queueOf t (swcQueue n (k * queuesPerSub s n + i))).frames = []) ∧
        bit (getPage t (netPage n)).intRaw 0 = true ∧
        t = { s with ports := t.ports, switch := t.switch, outs := t.outs, regs := t.regs, pages := t.pages })

/-- The device time (R158 to R165): LOAD sets it, STEP moves it, and a step below 0 is dropped; TIME_FREQ takes effect with
its write; a read of TIME_NS latches the other halves for its requester; an edge on the 1PPS input is captured 100 ns later
if the input stayed high; the 1PPS output pulses; a read of TIME_TXTS_INFO pops the oldest timestamp. That STEP and LOAD act
with the next tick, and the rounding of a tick, are the model's (log entries 20, 62). -/
def Obligations.DeviceTime : Prop :=
  ∀ (s : State) (req at_ : Nat) (v : Word),
    (writeReaches s req timePage O.TIME_CMD = true →
      (∃ t, exec (.timeLoad req) s = .next t ∧ t.time.now = s.time.now + 1 ∧ t.time.isSet = true ∧ t.time.frac = 0 ∧
        devNs t = (adjSeconds s * 1000000000 + adjNs s) % (2 ^ 48 * 1000000000) ∧ t.time.freq = s.time.freq ∧
        regOf t timePage O.TIME_CMD = 0#32 ∧ bit (getPage t timePage).intRaw 2 = true ∧ Quiet s t) ∧
      (let sum : Int := (devNs (elapse s 1) : Int) + signedOf 48 (adjSeconds s) * 1000000000 + (adjNs s : Int)
       ∃ t, exec (.timeStep req) s = .next t ∧ t.time.now = s.time.now + 1 ∧
        (0 ≤ sum → (devNs t : Int) = sum % (2 ^ 48 * 1000000000) ∧ t.time.isSet = true ∧
          bit (getPage t timePage).intRaw 2 = true) ∧
        (sum < 0 → t.time = (elapse s 1).time ∧ (getPage t timePage).errCount ≠ 0) ∧
        regOf t timePage O.TIME_CMD = 0#32 ∧ Quiet s t)) ∧
    (writeReaches s req timePage O.TIME_FREQ = true →
      ∃ t, exec (.timeFreqWrite req v) s = .next t ∧ (v.toNat ≤ 65536000 → t.time.freq = v.toNat) ∧
        t.time = { s.time with freq := t.time.freq } ∧ -65536000 ≤ t.time.freq ∧ t.time.freq ≤ 65536000 ∧
        t = { s with time := t.time, regs := t.regs, pages := t.pages }) ∧
    (readReaches s timePage O.TIME_NS = true →
      ∃ t, exec (.timeNsRead req) s = .next t ∧
        t.outs = .readValue req (regAddr timePage O.TIME_NS) (showReg s timePage O.TIME_NS) :: s.outs ∧
        t.time.latches.get req = some ⟨showReg s timePage O.TIME_S_LO, showReg s timePage O.TIME_S_HI,
          showReg s timePage O.TIME_TICK_LO, showReg s timePage O.TIME_TICK_HI⟩ ∧
        (∀ r, r ≠ req → t.time.latches.get r = s.time.latches.get r) ∧
        t = { s with time := { s.time with latches := t.time.latches }, outs := t.outs, pages := t.pages }) ∧
    (∃ t, exec (.ppsInEdge at_) s = .next t ∧ at_ ≤ t.time.now ∧ t.time.ppsEdge = some (t.time.sec, t.time.ns, t.time.now) ∧
      t = { s with time := t.time, clk := t.clk, pages := t.pages }) ∧
    (∀ sec ns x, s.time.ppsEdge = some (sec, ns, x) →
      (isEnabled s timePage = true →
        ∃ t, exec (.ppsCapture true) s = .next t ∧ x + 80 ≤ t.time.now ∧ t.time.ppsValid = true ∧ t.time.ppsSec = sec ∧
          t.time.ppsNs = ns ∧ t.time.ppsOverrun = (s.time.ppsOverrun || s.time.ppsValid) ∧ t.time.ppsEdge = none ∧
          bit (getPage t timePage).intRaw 0 = true ∧
          t = { s with time := t.time, clk := t.clk, regs := t.regs, pages := t.pages }) ∧
      (∃ t, exec (.ppsCapture false) s = .next t ∧ t.time.ppsEdge = none ∧ t.time.ppsValid = s.time.ppsValid ∧
        t.time.ppsSec = s.time.ppsSec ∧ t = { s with time := t.time, clk := t.clk, pages := t.pages })) ∧
    (readReaches s timePage O.TIME_PPS_NS = true →
      ∃ t, exec (.ppsNsRead req) s = .next t ∧
        t.outs = .readValue req (regAddr timePage O.TIME_PPS_NS) (showReg s timePage O.TIME_PPS_NS) :: s.outs ∧
        t.time = { s.time with ppsValid := false, ppsOverrun := false } ∧
        t = { s with time := t.time, outs := t.outs, pages := t.pages }) ∧
    (bit (regOf s timePage O.TIME_PPS_OUT_CFG) 31 = true → s.time.isSet = true → isEnabled s timePage = true →
      ∃ t, exec .ppsOutPulse s = .next t ∧ t.outs = .ppsOut true :: s.outs ∧ s.time.now ≤ t.time.now ∧
        t.time.ppsOut = some (t.time.now + regField s timePage O.TIME_PPS_OUT_CFG 0 19 * 800) ∧
        t = { s with time := t.time, clk := t.clk, outs := t.outs, pages := t.pages }) ∧
    (∀ x, s.time.ppsOut = some x →
      ∃ t, exec .ppsOutEnd s = .next t ∧ t.outs = .ppsOut false :: s.outs ∧ t.time.ppsOut = none ∧ x ≤ t.time.now ∧
        t = { s with time := t.time, clk := t.clk, outs := t.outs, pages := t.pages }) ∧
    (∀ e r, s.time.txts = e :: r → readReaches s timePage O.TIME_TXTS_INFO = true →
      ∃ t, exec (.txtsRead req) s = .next t ∧ t.time = { s.time with txts := r, popped := e } ∧
        t.outs = .readValue req (regAddr timePage O.TIME_TXTS_INFO) (showReg s timePage O.TIME_TXTS_INFO) :: s.outs ∧
        t = { s with time := t.time, outs := t.outs, pages := t.pages })

/-- The indexed tables of POL and SWC (R169, R171, R172, R174): READ brings an entry to the data registers, WRITE takes it
from them, CLEAR zeroes a policer's counts; an index beyond the last policer, and a reserved queue, are logged. -/
def Obligations.IngressTables : Prop :=
  ∀ (s : State) (req : Nat) (v : Word),
    (writeReaches s req polPage O.POL_CMD = true →
      let i := regField s polPage O.POL_IDX 0 13
      (i ≤ 4159 →
        (∃ t, exec (.polRead req) s = .next t ∧ regOf t polPage O.POL_CIR = Word.ofNum (policerOf s i).cir ∧
          regOf t polPage O.POL_CBS = Word.ofNum (policerOf s i).cbs ∧ regOf t polPage O.POL_PIR = Word.ofNum (policerOf s i).pir ∧
          regOf t polPage O.POL_PBS = Word.ofNum (policerOf s i).pbs ∧ regOf t polPage O.POL_GREEN = Word.ofNum (policerOf s i).green ∧
          regOf t polPage O.POL_YELLOW = Word.ofNum (policerOf s i).yellow ∧
          regOf t polPage O.POL_RED = Word.ofNum (policerOf s i).redCount ∧
          bit (regOf t polPage O.POL_MODE) 0 = (policerOf s i).en ∧ bit (regOf t polPage O.POL_MODE) 2 = (policerOf s i).rfc4115 ∧
          t = { s with regs := t.regs, pages := t.pages }) ∧
        (∃ t, exec (.polWrite req) s = .next t ∧
          (policerOf t i).en = bit (regOf s polPage O.POL_MODE) 0 ∧ (policerOf t i).aware = bit (regOf s polPage O.POL_MODE) 1 ∧
          (policerOf t i).cir = regField s polPage O.POL_CIR 0 19 ∧ (policerOf t i).cbs = regField s polPage O.POL_CBS 0 24 ∧
          (policerOf t i).pbs = regField s polPage O.POL_PBS 0 24 ∧ (policerOf t i).green = (policerOf s i).green ∧
          (policerOf t i).redCount = (policerOf s i).redCount ∧ (policerOf t i).cTok ≤ (policerOf t i).cbs * 6400 ∧
          ((policerOf s i).en = false → bit (regOf s polPage O.POL_MODE) 0 = true →
            (policerOf t i).cTok = (policerOf t i).cbs * 6400 ∧ (policerOf t i).pTok = (policerOf t i).pbs * 6400) ∧
          (∀ j, j ≠ i → policerOf t j = policerOf s j) ∧
          t = { s with policers := t.policers, regs := t.regs, pages := t.pages }) ∧
        (∃ t, exec (.polClear req) s = .next t ∧
          policerOf t i = { policerOf s i with green := 0, yellow := 0, redCount := 0 } ∧
          (∀ j, j ≠ i → policerOf t j = policerOf s j) ∧
          t = { s with policers := t.policers, regs := t.regs, pages := t.pages })) ∧
      (4159 < i → ∃ t, exec (.polWrite req) s = .next t ∧ (getPage t polPage).errCount ≠ 0 ∧
        t = { s with regs := t.regs, pages := t.pages })) ∧
    (writeReaches s req swcPage O.SWC_WRED_CMD = true →
      let w := s.switch.wred.getD (wredKey s) {}
      (∃ t, exec (.wredRead req) s = .next t ∧ regOf t swcPage O.SWC_WRED_MIN = Word.ofNum w.min ∧
        regOf t swcPage O.SWC_WRED_MAX = Word.ofNum w.max ∧ (w.wexp < 16 → w.maxp < 256 → bit (regOf t swcPage O.SWC_WRED_PRM) 31 = w.en) ∧
        t = { s with regs := t.regs, pages := t.pages }) ∧
      (∃ t, exec (.wredWrite req) s = .next t ∧
        (let lo := regField s swcPage O.SWC_WRED_MIN 0 17
         let hi := regField s swcPage O.SWC_WRED_MAX 0 17
         let prm := regOf s swcPage O.SWC_WRED_PRM
         t.switch.wred.getD (wredKey s) {} = ⟨bit prm 31, lo, if hi ≤ lo then lo + 1 else hi, field prm 8 4, field prm 0 8⟩) ∧
        (∀ j, j ≠ wredKey s → t.switch.wred.getD j {} = s.switch.wred.getD j {}) ∧ t.switch.queues = s.switch.queues ∧
        t = { s with switch := t.switch, regs := t.regs, pages := t.pages })) ∧
    (writeReaches s req swcPage O.SWC_QPROF = true →
      let q := regField s swcPage O.SWC_QPROF_IDX 0 8
      (reservedQueue q = false →
        ∃ t, exec (.qprofWrite req v) s = .next t ∧
          queueOf t q = { queueOf s q with profile := field v 0 4, limit := field v 16 16 } ∧
          (∀ p, p ≠ q → queueOf t p = queueOf s p) ∧ t = { s with switch := t.switch, pages := t.pages }) ∧
      (reservedQueue q = true →
        ∃ t, exec (.qprofWrite req v) s = .next t ∧ (getPage t swcPage).errCount ≠ 0 ∧ t = { s with pages := t.pages }))

/-- Egress (R156, R157, R177 to R183): at a frame boundary pauses that wait go out first; else, of queues that hold a head
frame and have sent nothing yet, with no gate, pause or shaper in the way and equal weights, the one with the shortest head
frame sends it and the sub-port is busy for its time on the wire; a refill brings every shaper to the boundary reached.
Histograms of a scheduler (R192, R193): a sample adds 1 to one depth bin of every queue, a snapshot copies the selected
histogram, with or without zeroing it, and CLEAR_ALL zeroes all of them. The rounding of a refill and the order of
connections are the model's (log entries 44, 45). -/
def Obligations.EgressAndHistograms : Prop :=
  (∀ (s : State) (n k at_ : Nat), n < 2 →
    (subUp s n k = true → sending s n k = false → at_ ≤ s.time.now →
      ((subOf s n k).pauseOut ≠ [] →
        ∃ t, exec (.egressSelect n k at_) s = .next t ∧
          t.outs = ((subOf s n k).pauseOut.map fun x => Out.pause n k x.1 x.2).reverse ++ s.outs ∧
          (subOf t n k).pauseOut = [] ∧
          (subOf t n k).tx = some ⟨64, s.time.now + bitTicks s n ((subOf s n k).pauseOut.length * wireBits 64), false⟩ ∧
          t = { s with ports := t.ports, outs := t.outs }) ∧
      ((subOf s n k).pauseOut = [] → s.conns = .empty → accepting s (egsPage n) = true → s.egress = .empty →
          gatesOn s n = false → (subOf s n k).pausedTill = none → (subOf s n k).prioTill = .empty →
          ∀ q f, q ∈ queuesOfSub s n k → headFrame s n q = some f → f.src = none → f.len < 2 ^ 32 →
          (∀ p g, p ∈ queuesOfSub s n k → p ≠ q → headFrame s n p = some g → f.len < g.len ∧ g.len < 2 ^ 32) →
        ∃ t, exec (.egressSelect n k at_) s = .next t ∧ .frame n k q f.len ∈ t.outs ∧
          (queueOf t (swcQueue n q)).frames = (queueOf s (swcQueue n q)).frames.drop 1 ∧
          (∀ p, p ≠ swcQueue n q → (queueOf t p).frames = (queueOf s p).frames) ∧
          (subOf t n k).tx = some { queue := q, endTick := s.time.now + bitTicks s n (wireBits f.len) } ∧
          ((egressOf t n).vtime.getD k 0) = f.len * 65536 ∧ ((egressOf t n).queue q).fLast = f.len * 65536 ∧ Quiet s t)) ∧
    (isEnabled s (egsPage n) = true →
      ∃ t, exec (.shaperRefill n) s = .next t ∧ s.time.now ≤ t.time.now ∧
        (egressOf t n).refilled = max (egressOf s n).refilled (refillBoundary t) ∧
        (∀ q, ((egressOf t n).queue q).shaper =
          ((egressOf s n).queue q).shaper.advance (refillBoundary t - (egressOf s n).refilled)) ∧
        ((egressOf s n).refilled < refillBoundary s → t.time = s.time) ∧
        t = { s with egress := t.egress, clk := t.clk, time := t.time, pages := t.pages })) ∧
  (∀ (s : State) (req n : Nat), n < 2 →
    (bit (regOf s (egsPage n) O.EGS_HIST_CFG) 31 = true → isEnabled s (egsPage n) = true →
      ∃ t, exec (.histSample n) s = .next t ∧ (egressOf t n).sampledAt = some (tickCount t) ∧ s.time.now ≤ t.time.now ∧
        (∀ q b, q < 64 → b < 16 → (egressOf t n).depth.getD (q * 16 + b) 0 =
          (if b = histBin (queueCells s (swcQueue n q)) (regField s (egsPage n) O.EGS_HIST_CFG 16 4)
            then min 0xFFFFFFFF ((egressOf s n).depth.getD (q * 16 + b) 0 + 1)
            else (egressOf s n).depth.getD (q * 16 + b) 0)) ∧
        (egressOf t n).snap = (egressOf s n).snap ∧
        t = { s with egress := t.egress, clk := t.clk, time := t.time, pages := t.pages }) ∧
    (writeReaches s req (egsPage n) O.EGS_HIST_CMD = true →
      let sel := regOf s (egsPage n) O.EGS_HIST_SEL
      let chosen (x : State) := if bit sel 8 then (egressOf x n).sojourn else (egressOf x n).depth
      (∃ t, exec (.histSnap req n) s = .next t ∧
        (∀ b, b < 16 → (egressOf t n).snap.getD b 0 = (chosen s).getD (field sel 0 6 * 16 + b) 0) ∧
        (egressOf t n).depth = (egressOf s n).depth ∧ (egressOf t n).sojourn = (egressOf s n).sojourn ∧
        t = { s with egress := t.egress, regs := t.regs, pages := t.pages }) ∧
      (∃ t, exec (.histSnapClear req n) s = .next t ∧
        (∀ b, b < 16 → (egressOf t n).snap.getD b 0 = (chosen s).getD (field sel 0 6 * 16 + b) 0 ∧
          (chosen t).getD (field sel 0 6 * 16 + b) 0 = 0) ∧
        (∀ i, i / 16 ≠ field sel 0 6 → (chosen t).getD i 0 = (chosen s).getD i 0) ∧
        t = { s with egress := t.egress, regs := t.regs, pages := t.pages }) ∧
      (∃ t, exec (.histClearAll req n) s = .next t ∧ (egressOf t n).depth = .empty ∧ (egressOf t n).sojourn = .empty ∧
        (egressOf t n).snap = (egressOf s n).snap ∧ t = { s with egress := t.egress, regs := t.regs, pages := t.pages })))

/-- Gate lists (R184 to R188, R229): a swap request waits for the first cycle boundary, and is refused while the device time
is not set; at that moment the pending list runs; the running entry is the one that holds the device time; READ copies an
entry, WRITE stores one of the pending list, and a WRITE to the active list is logged. Which base time a list that has
swapped in shows is the model's reading (log entry 62). -/
def Obligations.GateLists : Prop :=
  ∀ (s : State) (req page : Nat), page ∈ gatePages →
    (writeReaches s req page (gateBase page) = true → (gateOf s page).swapPending = false →
      (s.time.isSet = true →
        ∃ t, exec (.gclSwap req page) s = .next t ∧ (gateOf t page).swapPending = true ∧
          (gateOf t page).swapAt = swapTime (gateOf s page) (devNs s) ∧ devNs s ≤ (gateOf t page).swapAt ∧
          (gateOf t page).active = (gateOf s page).active ∧ (gateOf t page).pending = (gateOf s page).pending ∧ Quiet s t) ∧
      (s.time.isSet = false →
        ∃ t, exec (.gclSwap req page) s = .next t ∧ (gateOf t page).swapPending = false ∧ (getPage t page).errCount ≠ 0 ∧
          Quiet s t)) ∧
    ((gateOf s page).swapPending = true → (gateOf s page).swapAt ≤ devNs s → (blockOf page = some .egs → isEnabled s page = true) →
      ∃ t, exec (.swapDone page) s = .next t ∧ (gateOf t page).isActive = true ∧ (gateOf t page).swapPending = false ∧
        (gateOf t page).active = { (gateOf s page).pending with
          baseS := (gateOf s page).swapAt / 1000000000, baseNs := (gateOf s page).swapAt % 1000000000 } ∧
        (gateOf t page).pending = (gateOf s page).active ∧ (gateOf t page).series = (gateOf s page).swapAt ∧
        (blockOf page = some .egs → bit (getPage t page).intRaw 0 = true) ∧ Quiet s t) ∧
    ((blockOf page = some .egs → isEnabled s page = true) →
      ∃ t, exec (.gateEntryBoundary page) s = .next t ∧ s.time.now ≤ t.time.now ∧
        (gateOf t page).entry = (gateOf t page).entryAt (devNs t) ∧ Quiet s t) ∧
    (writeReaches s req page (gateBase page + 0x18) = true → (gateOf s page).swapPending = false →
      let b := gateBase page
      let i := regField s page (b + 0x08) 0 8
      let active := bit (regOf s page (b + 0x08)) 8
      (∃ t, exec (.gclRead req page) s = .next t ∧
        (let e := (if active then (gateOf s page).active else (gateOf s page).pending).entries.getD i {}
         regOf t page (b + 0x0C) = Word.ofNum e.mask ∧ regOf t page (b + 0x14) = Word.ofNum e.dur) ∧
        (gateOf t page).pending = (gateOf s page).pending ∧ Quiet s t) ∧
      (active = false →
        ∃ t, exec (.gclWrite req page) s = .next t ∧
          (gateOf t page).pending.entries.get i = some ⟨((regOf s page (b + 0x0C)).toNat +
            2 ^ 32 * (regOf s page (b + 0x10)).toNat) % 2 ^ gateCount page, regField s page (b + 0x14) 0 30⟩ ∧
          (∀ j, j ≠ i → (gateOf t page).pending.entries.get j = (gateOf s page).pending.entries.get j) ∧
          (gateOf t page).active = (gateOf s page).active ∧ Quiet s t) ∧
      (active = true →
        ∃ t, exec (.gclWrite req page) s = .next t ∧ (getPage t page).errCount ≠ 0 ∧
          (gateOf t page).pending = (gateOf s page).pending ∧ (gateOf t page).active = (gateOf s page).active ∧ Quiet s t))

/-- A slot link comes up (R201, R205 to R207, Table 8-3): training starts from DOWN once MLK is enabled, power is good and
MRST_N is released; it fails after 400 ms; LINK_PARAM completes it with the bridge's credits and serial; the presence pin and
the alert pin of the module; a write of MRST asserts the reset, which brings the link down and ends its commands, or releases
it, at once or 100 us after the assertion. A damaged frame of the slot counts, one of the pair link does not (R202, R342). -/
def Obligations.LinkTraining : Prop :=
  ∀ (s : State) (n req : Nat) (p : LinkParam) (v : Bool), n < 48 →
    ((linkOf s n).st = .down → (linkOf s n).mrst = false → isEnabled s (mlkPage n) = true → (chanOf s n).pg = true →
      ∃ t, exec (.trainingStart n) s = .next t ∧ linkOf t n = { linkOf s n with st := .train, trainAt := some t.time.now } ∧
        (linkOf s n).mrstOff + 8000000 ≤ t.time.now ∧ (linkOf s n).retryAt ≤ t.time.now ∧ .linkTrain n ∈ t.outs ∧
        (∀ k, k ≠ n → linkOf t k = linkOf s k) ∧ Quiet s t) ∧
    (∀ x, (linkOf s n).st = .train → (linkOf s n).trainAt = some x →
      ∃ t, exec (.trainTimeout n) s = .next t ∧ (linkOf t n).st = .down ∧ x + 320000000 ≤ t.time.now ∧
        (linkOf t n).retryAt = t.time.now + 8000000 ∧ (linkOf t n).serial = (linkOf s n).serial ∧
        (regOf t (mlkPage n) O.MLK_TRAIN_FAIL_CNT).toNat = min 0xFFFFFFFF ((regOf s (mlkPage n) O.MLK_TRAIN_FAIL_CNT).toNat + 1) ∧
        (∀ k, k ≠ n → linkOf t k = linkOf s k) ∧ Quiet s t) ∧
    ((linkOf s n).st = .train → s.rules = false ∨ (∀ e y, memberAt s n = some e → (groupOf s e.1).bind (·.member e.2) = some y →
          y.serial.isEmpty = true ∨ y.serial = padTo 16 p.serial ∨ y.st = .failed ∨ y.st = .spared) →
      ∃ t, exec (.linkParam n p) s = .next t ∧ (linkOf t n).st = .active ∧ (linkOf t n).lock = 15 ∧
        (linkOf t n).serial = padTo 16 p.serial ∧ (linkOf t n).credCmd = p.cmd ∧ (linkOf t n).credData = p.data ∧
        (linkOf t n).held = [] ∧ (linkOf t n).txSeq = 0 ∧ (linkOf t n).rxSeq = 0 ∧ .linkParam n ∈ t.outs ∧
        bit (getPage t (mlkPage n)).intRaw 0 = true ∧
        (s.rules = true → ∃ c ∈ (linkOf t n).waiting, c.op = 0x08 ∧ c.why = .identify) ∧
        (∀ k, k ≠ n → linkOf t k = linkOf s k) ∧ Quiet s t ∧ t.groups = s.groups ∧ t.commands = s.commands) ∧
    ((linkOf s n).st = .active →
      ∃ t, exec (.linkParam n p) s = .next t ∧ t = s) ∧
    ((linkOf s n).prsnt ≠ v →
      ∃ t, exec (.prsntChange n v) s = .next t ∧ linkOf t n = { linkOf s n with prsnt := v } ∧
        bit (getPage t (mlkPage n)).intRaw 3 = true ∧ (∀ k, k ≠ n → linkOf t k = linkOf s k) ∧
        t = { s with links := t.links, pages := t.pages, regs := t.regs }) ∧
    (linkActive s n = true →
      ∃ t, exec (.moduleAlert n) s = .next t ∧ (linkOf t n).alert = true ∧ bit (getPage t (mlkPage n)).intRaw 4 = true ∧
        (linkOf t n).waiting = (linkOf s n).waiting ++ (if s.rules then [{ op := 0x08, arg := 1 }] else []) ∧
        (linkOf t n).st = .active ∧ (∀ k, k ≠ n → linkOf t k = linkOf s k) ∧
        t = { s with links := t.links, pages := t.pages, regs := t.regs }) ∧
    (writeReaches s req (mlkPage n) O.MLK_SB_CTRL = true →
      ((linkOf s n).mrst = false →
        ∃ t, exec (.mrstWrite req n true) s = .next t ∧ (linkOf t n).mrst = true ∧ (linkOf t n).mrstDue = false ∧
          ((linkOf s n).st = .down ∨ ((linkOf t n).st = .down ∧ (linkOf t n).tags = .empty ∧ (linkOf t n).waiting = [] ∧
            (linkOf t n).held = [] ∧ (linkOf t n).credCmd = 0)) ∧ .mrst n true ∈ t.outs ∧ Quiet s t) ∧
      ((linkOf s n).mrst = true → (linkOf s n).mrstAt + 80000 ≤ s.time.now →
        ∃ t, exec (.mrstWrite req n false) s = .next t ∧ (linkOf t n).mrst = false ∧ (linkOf t n).mrstOff = s.time.now ∧
          .mrst n false ∈ t.outs ∧ bit (regOf t (mlkPage n) O.MLK_SB_CTRL) 0 = false ∧
          (linkOf t n).st = (linkOf s n).st ∧ (∀ k, k ≠ n → linkOf t k = linkOf s k) ∧ Quiet s t) ∧
      ((linkOf s n).mrst = true → s.time.now < (linkOf s n).mrstAt + 80000 →
        ∃ t, exec (.mrstWrite req n false) s = .next t ∧ linkOf t n = { linkOf s n with mrstDue := true } ∧
          bit (regOf t (mlkPage n) O.MLK_SB_CTRL) 0 = false ∧ (∀ k, k ≠ n → linkOf t k = linkOf s k) ∧ Quiet s t)) ∧
    ((linkOf s n).mrst = true → (linkOf s n).mrstDue = true →
      ∃ t, exec (.mrstRelease n) s = .next t ∧ linkOf t n = { linkOf s n with mrst := false, mrstDue := false, mrstOff := t.time.now } ∧
        (linkOf s n).mrstAt + 80000 ≤ t.time.now ∧ .mrst n false ∈ t.outs ∧ (∀ k, k ≠ n → linkOf t k = linkOf s k) ∧ Quiet s t) ∧
    ((linkOf s n).st ≠ .down → (linkOf s n).st ≠ .failed →
      ∃ t, exec (.badCrcFrame n false) s = .next t ∧
        (regOf t (mlkPage n) O.MLK_CRC_ERR_CNT).toNat = min 0xFFFFFFFF ((regOf s (mlkPage n) O.MLK_CRC_ERR_CNT).toNat + 1) ∧
        (∀ page off, regKey page off ≠ regKey (mlkPage n) O.MLK_CRC_ERR_CNT → regOf t page off = regOf s page off) ∧
        t = { s with regs := t.regs }) ∧
    exec (.badCrcFrame n true) s = .next s

/-- Frames on an ACTIVE slot link, with a claim not above the controller's own (R203, R205, R206): an acknowledgement frees
the held frames up to the one that it names; credits return by cumulative count; a data frame in sequence is counted and
acknowledged, one seen before is acknowledged again, one after a gap draws one NAK; a NAK or the replay timer replays what is
held, and after the third replay the link is retrained; retraining that passes replays, and the second failure makes the link
FAILED. That the frame counters wrap, and when CREDIT is sent, are the model's (log entries 24, 26). -/
def Obligations.LinkFrames : Prop :=
  ∀ (s : State) (n seq claim cmd data sts : Nat) (h : LinkHdr) (bytes : List Byte), n < 48 → claim ≤ claimOf s →
    h.claim = claim → h.ack = none →
    (linkActive s n = true →
      (∃ t, exec (.linkAck n seq claim) s = .next t ∧
        FramesSent (linkOf s n) (linkOf t n) (afterSeq seq (linkOf s n).held) (linkOf s n).credData ∧
        (linkOf t n).credCmd = (linkOf s n).credCmd ∧ (∀ k, k ≠ n → linkOf t k = linkOf s k) ∧
        t = { s with links := t.links, pages := t.pages, regs := t.regs }) ∧
      (∃ t, exec (.credit n cmd data sts claim) s = .next t ∧
        FramesSent (linkOf s n) (linkOf t n) (linkOf s n).held ((linkOf s n).credData + wrapGap 16 (linkOf s n).cumData data) ∧
        (linkOf t n).credCmd = (linkOf s n).credCmd + wrapGap 16 (linkOf s n).cumCmd cmd ∧
        (linkOf t n).cumCmd = cmd % 65536 ∧ (linkOf t n).cumData = data % 65536 ∧
        (∀ k, k ≠ n → linkOf t k = linkOf s k) ∧ t = { s with links := t.links, pages := t.pages, regs := t.regs }) ∧
      (h.seq = (linkOf s n).rxSeq →
        ∃ t, exec (.readData n h bytes) s = .next t ∧ (linkOf t n).rxSeq = ((linkOf s n).rxSeq + 1) % 4096 ∧
          (linkOf t n).outData = (linkOf s n).outData + 1 ∧ (linkOf t n).nakSent = false ∧ (linkOf t n).held = (linkOf s n).held ∧
          (regOf t (mlkPage n) O.MLK_RX_FRAMES).toNat = ((regOf s (mlkPage n) O.MLK_RX_FRAMES).toNat + 1) % 4294967296 ∧
          (regField s (mlkPage n) O.MLK_CFG 0 8 ≤ (linkOf s n).ackDue + 1 →
            .linkAck n ((((linkOf s n).rxSeq + 1) % 4096 + 4095) % 4096) ∈ t.outs ∧
            (linkOf t n).ackDue = 0 ∧ (linkOf t n).ackAt = none) ∧
          (∀ tag c, (linkOf s n).tags.get tag = some c →
            (linkOf t n).tags.get tag = some { c with frames := c.frames + if tag = h.tag then 1 else 0 }) ∧
          (∀ k, k ≠ n → linkOf t k = linkOf s k) ∧
          t = { s with links := t.links, pages := t.pages, regs := t.regs, outs := t.outs }) ∧
      (h.seq ≠ (linkOf s n).rxSeq → wrapGap 12 h.seq (linkOf s n).rxSeq ≤ 2048 →
        ∃ t, exec (.readData n h bytes) s = .next t ∧ (∃ a, t.outs = .linkAck n a :: s.outs) ∧ t = { s with outs := t.outs, links := t.links } ∧
          linkOf t n = linkOf s n) ∧
      (h.seq ≠ (linkOf s n).rxSeq → 2048 < wrapGap 12 h.seq (linkOf s n).rxSeq → (linkOf s n).nakSent = false →
        ∃ t, exec (.readData n h bytes) s = .next t ∧ (∃ a, t.outs = .linkNak n a :: s.outs) ∧
          linkOf t n = { linkOf s n with nakSent := true } ∧ t = { s with outs := t.outs, links := t.links }) ∧
      ((∀ x ∈ afterSeq seq (linkOf s n).held, x.replays < 3) →
        ∃ t, exec (.linkNak n seq claim) s = .next t ∧
          (linkOf t n).held = (afterSeq seq (linkOf s n).held).map (fun x => { x with replays := x.replays + 1, sentAt := s.time.now }) ∧
          (∀ x ∈ afterSeq seq (linkOf s n).held, .linkReplay n x.seq ∈ t.outs) ∧ (linkOf t n).st = .active ∧
          (∀ k, k ≠ n → linkOf t k = linkOf s k) ∧
          t = { s with links := t.links, pages := t.pages, regs := t.regs, outs := t.outs }) ∧
      (∀ x ∈ (linkOf s n).held, 3 ≤ x.replays →
        ∃ t, exec (.replayTimer n) s = .next t ∧ bit (getPage t (mlkPage n)).intRaw 1 = true ∧ Quiet s t ∧
          (memberAt s n = none → (linkOf t n).st = .retrain ∧ .linkTrain n ∈ t.outs)) ∧
      (∀ x rest, (linkOf s n).held = x :: rest → (∀ y ∈ (linkOf s n).held, y.replays < 3) →
        ∃ t, exec (.replayTimer n) s = .next t ∧ x.sentAt + regField s (mlkPage n) O.MLK_CFG 8 8 * 800 ≤ t.time.now ∧
          (linkOf t n).held = (linkOf s n).held.map (fun y => { y with replays := y.replays + 1, sentAt := t.time.now }) ∧
          (linkOf t n).st = .active ∧ (∀ k, k ≠ n → linkOf t k = linkOf s k) ∧ Quiet s t)) ∧
    (∀ x, (linkOf s n).ackAt = some x →
      ∃ t, exec (.linkAckTimer n) s = .next t ∧ x ≤ t.time.now ∧ linkOf t n = { linkOf s n with ackDue := 0, ackAt := none } ∧
        .linkAck n (((linkOf s n).rxSeq + 4095) % 4096) ∈ t.outs ∧
        .linkCredit n ((linkOf s n).outData % 65536) ((linkOf s n).outSts % 65536) ∈ t.outs ∧
        (∀ k, k ≠ n → linkOf t k = linkOf s k) ∧ Quiet s t) ∧
    ((linkOf s n).st = .retrain → 
      (∃ t, exec (.retrainResult n true) s = .next t ∧ (linkOf t n).st = .active ∧ (linkOf t n).retrainFails = 0 ∧
        (∀ x ∈ (linkOf s n).held, .linkReplay n x.seq ∈ t.outs) ∧ bit (getPage t (mlkPage n)).intRaw 0 = true ∧
        (∀ k, k ≠ n → linkOf t k = linkOf s k) ∧ Quiet s t) ∧
      ((linkOf s n).retrainFails = 0 →
        ∃ t, exec (.retrainResult n false) s = .next t ∧ linkOf t n = { linkOf s n with retrainFails := 1 } ∧ .linkTrain n ∈ t.outs ∧
          (regOf t (mlkPage n) O.MLK_RETRAIN_CNT).toNat = min 0xFFFFFFFF ((regOf s (mlkPage n) O.MLK_RETRAIN_CNT).toNat + 1) ∧
          (∀ k, k ≠ n → linkOf t k = linkOf s k) ∧ Quiet s t) ∧
      (1 ≤ (linkOf s n).retrainFails →
        ∃ t, exec (.retrainResult n false) s = .next t ∧ bit (getPage t (mlkPage n)).intRaw 2 = true ∧ Quiet s t ∧
          (s.rules = false → (linkOf s n).tags = .empty → (linkOf s n).waiting = [] → s.climbs = [] → s.decodes = [] →
            (linkOf t n).st = .failed ∧ (linkOf t n).lock = 0)))

/-- Module commands (R206, R208, R209, R211, R212, R229): one that may be issued takes its tag, a command credit and a place
in the replay buffer, and goes out with the controller's claim: the first waiting command of that kind and place, or, where
none waits and the ROM may read of itself, one of its own. Programs and erases go out only as they wait. Nothing else of
the link, and no other link, changes. 
A module command times out (R210): its tag is freed, it is counted, logged and alerted; a controller that runs the shelf
resets the die, issues a read once more, and retires the block of an erase. -/
def Obligations.ModuleCommandsAndTimeouts : Prop :=
  (∀ (s : State) (n tag level set page : Nat) (a : FlashAddr) (slc : Bool) (offsets : List Int), n < 48 →
    ∀ (i : Instr) (op : Nat) (at_ : FlashAddr) (arg : Nat) (own : Bool),
      (i, op, at_, arg, own) ∈
        ([(.readPage n tag a level, 0x01, a, level, true), (.readSoft n tag a level, 0x02, a, level, true),
          (.programPage n tag a slc, 0x03, a, if slc then 1 else 0, false), (.eraseBlock n tag a slc, 0x04, a, if slc then 1 else 0, false),
          (.readStatus n tag a, 0x05, a, 0, true), (.setReadLevels n tag a set offsets, 0x06, a, set, true),
          (.dieReset n tag a, 0x07, a, 0, true), (.telemetry n tag page, 0x08, {}, page, true)] :
          List (Instr × Nat × FlashAddr × Nat × Bool)) →
      level ≤ 8 → 1 ≤ set → set ≤ 8 → page ≤ 2 → mayIssue s n tag op at_ = true →
      (∀ before c after, (linkOf s n).waiting = before ++ c :: after → c.op = op → c.addr = at_ → c.arg = arg →
          (∀ b ∈ before, ¬ (b.op = op ∧ b.addr = at_ ∧ b.arg = arg)) →
        ∃ t, exec i s = .next t ∧ CommandSent (linkOf s n) (linkOf t n) tag s.time.now c ∧
          (linkOf t n).waiting = before ++ after ∧ .linkCmd n tag op at_ arg (claimOf s) ∈ t.outs ∧
          (∀ k, k ≠ n → linkOf t k = linkOf s k) ∧ Quiet s t ∧
          t = { s with links := t.links, outs := t.outs, regs := t.regs, pages := t.pages, trace := t.trace,
                       modules := t.modules, journal := t.journal, journalSeq := t.journalSeq, mrm := t.mrm, pair := t.pair } ∧
          (op ≠ 0x03 → t.modules = s.modules ∧ t.journal = s.journal) ∧
          (op = 0x03 → ∀ m, s.modules.get n = some m → (m.block (m.linear at_)).progHours = 0 →
            ∃ m', t.modules.get n = some m' ∧ (m'.block (m.linear at_)).progHours = s.time.sec / 3600 % 16777216)) ∧
      (own = true → (∀ b ∈ (linkOf s n).waiting, ¬ (b.op = op ∧ b.addr = at_ ∧ b.arg = arg)) →
        ∃ t, exec i s = .next t ∧ CommandSent (linkOf s n) (linkOf t n) tag s.time.now { op := op, addr := at_, arg := arg } ∧
          (linkOf t n).waiting = (linkOf s n).waiting ∧ .linkCmd n tag op at_ arg (claimOf s) ∈ t.outs ∧
          (∀ k, k ≠ n → linkOf t k = linkOf s k) ∧
          t = { s with links := t.links, outs := t.outs, regs := t.regs, pages := t.pages })) ∧
  (∀ (s : State) (n tag : Nat) (c : LinkCmd), n < 48 → (linkOf s n).tags.get tag = some c →
    ∃ t, exec (.moduleCmdTimeout n tag) s = .next t ∧ Quiet s t ∧ bit (getPage t (mlkPage n)).intRaw 5 = true ∧
      (c.issued + (if c.op = 0x04 then regField s (mlkPage n) O.MLK_TMO 24 8 * 800000
        else if c.op = 0x03 then regField s (mlkPage n) O.MLK_TMO 16 8 * 800000
        else regField s (mlkPage n) O.MLK_TMO 0 16 * 800) ≤ t.time.now) ∧
      (s.rules = false ∨ (c.op ≠ 0x03 ∧ c.op ≠ 0x04 ∧ (c.reads = true → c.reissued = false)) →
        (linkOf t n).tags = (linkOf s n).tags.erase tag ∧ (linkOf t n).credCmd = (linkOf s n).credCmd ∧
        (linkOf t n).waiting = (linkOf s n).waiting ++
          (if s.rules = false then [] else
            (if c.op = 0x07 then [] else [{ op := 0x07, addr := { chan := c.addr.chan, die := c.addr.die } }]) ++
            (if c.reads then [{ c with reissued := true, frames := 0 }] else [])) ∧
        (regOf t (mlkPage n) O.MLK_CMD_TMO_CNT).toNat = min 0xFFFFFFFF ((regOf s (mlkPage n) O.MLK_CMD_TMO_CNT).toNat + 1) ∧
        (∀ k, k ≠ n → linkOf t k = linkOf s k) ∧ t.modules = s.modules ∧ t.groups = s.groups ∧ t.commands = s.commands) ∧
      (s.rules = true → c.op = 0x04 → ((linkOf s n).waiting.filter fun w => w.programs c.addr) = [] →
        ∀ m, s.modules.get n = some m →
          ∃ m', t.modules.get n = some m' ∧ (m'.block (m.linear c.addr)).st = .retired))

/-- Placement and its timed releases (R64, R233, R238, R240, R245): a write whose turn it is is placed: the placed pointer
covers it, its zone stripes have numbers, its sectors join the crypto queue in order, and the sectors beyond the last full
stripe wait for two log copies each; an open log page is released after FLUSH_US as one SLC program on a member that
qualifies; an open journal page is released after BATCH_US. -/
def Obligations.PlacementAndFlushes : Prop :=
  ∀ (s : State) (n cid q g mk : Nat) (c : Command),
    (n < 4096 → findCmd s n cid = some (q, c) → placeable s c = true → s.crypto.halted = false →
      ∃ t, exec (.writePlace n cid) s = .next t ∧ Quiet s t ∧
        (∃ d, t.commands.get q = some d ∧ d.phase = .placed ∧ d.jobsLeft = c.len ∧ d.offset = c.offset ∧ d.len = c.len ∧
          d.conn = c.conn ∧ d.cid = c.cid ∧ d.op = c.op ∧ d.windows = c.windows ∧
          (∀ i, max c.offset ((c.offset + c.len) / spanSectors (zoneOf s c.ns c.zone).w (zoneOf s c.ns c.zone).dual *
              spanSectors (zoneOf s c.ns c.zone).w (zoneOf s c.ns c.zone).dual) ≤ i → i < c.offset + c.len →
            d.logLeft.get i = some 2)) ∧
        (t.crypto.queue <:+ s.crypto.queue ++ (List.range c.len).map fun i => ⟨.xtsEncrypt, c.ns, q, c.offset + i⟩) ∧
        (∀ k, k ≠ q → t.commands.get k = s.commands.get k) ∧ t.conns = s.conns ∧ t.regions = s.regions ∧
        ((c.offset + c.len) / spanSectors (zoneOf s c.ns c.zone).w (zoneOf s c.ns c.zone).dual =
            c.offset / spanSectors (zoneOf s c.ns c.zone).w (zoneOf s c.ns c.zone).dual →
          (zoneOf t c.ns c.zone).placed = c.offset + c.len ∧ (zoneOf t c.ns c.zone).written = (zoneOf s c.ns c.zone).written ∧
          (zoneOf t c.ns c.zone).accepted = (zoneOf s c.ns c.zone).accepted ∧ t.folds = s.folds ∧
          (0 < c.len → 0 < spanSectors (zoneOf s c.ns c.zone).w (zoneOf s c.ns c.zone).dual → ∀ x y, (zoneOf s c.ns c.zone).group = some x → groupOf s x = some y →
            (zoneOf t c.ns c.zone).extents.has
              (c.offset / spanSectors (zoneOf s c.ns c.zone).w (zoneOf s c.ns c.zone).dual) = true))) ∧
    (∀ x y p, g < 12 → groupOf s g = some x → x.member mk = some y → y.log = some p →
      ∃ t, exec (.logPageFlush g mk) s = .next t ∧ Quiet s t ∧
        p.firstAt + regField s zsqPage O.ZSQ_LOG_CFG 0 16 * 800 ≤ t.time.now ∧ t.commands = s.commands ∧
        (∀ slot a u, p.firstAt + regField s zsqPage O.ZSQ_LOG_CFG 0 16 * 800 ≤ s.time.now →
            logTarget s g (x.members.values.map (·.slot)) ((x.members.keys.findIdx? (· = mk)).getD 0) p.cws = some slot →
            (slotMember s g slot).isSome = true → takePages s slot g .log true false 1 = some (a, u) →
          (∃ x' y', groupOf t g = some x' ∧ x'.member mk = some y' ∧ y'.log = none) ∧
          ∃ w ∈ (t.links.getD slot {}).waiting, w.op = 0x03 ∧ w.addr = a ∧ w.arg = 1 ∧ p.cws.length ≤ w.out.length)) ∧
    (∀ x, g < 12 → groupOf s g = some x → x.jrnlPage ≠ [] →
      ∃ t, exec (.journalPageFlush g) s = .next t ∧ Quiet s t ∧
        x.jrnlAt + regField s zsqPage O.ZSQ_JRNL_CFG 0 7 * 800 ≤ t.time.now ∧
        (∃ x', groupOf t g = some x' ∧ x'.jrnlPage = [] ∧ x'.jrnlNum = x.jrnlNum + 1) ∧ t.conns = s.conns ∧
        t.regions = s.regions)

/-- A codeword's decode ends (R199, R211, R212, R215, R216): a nominal decode with a good checksum gives its sector to the
read that wants it, which queues the decryption; a nominal failure counts and starts the ladder at step 1 with the first
read-level set; a soft failure alerts and makes the block SUSPECT; a wrong checksum counts as a miscorrection. Which engine
takes the codeword is the model's reading (log entry 55). -/
def Obligations.CodewordDecodes : Prop :=
  ∀ (s : State) (n tag index e : Nat) (j : DecodeJob) (data : List Byte) (bits checks : Nat), n < 48 →
    (s.decodes.find? fun d => d.slot = n && d.tag = tag && d.index = index) = some j → eccFor s (n / 8) = some e →
    (∀ q sector c, j.need = .host q sector → j.step = 0 → s.commands.get q = some c → c.fetching = true →
        c.want.contains sector = true → s.crypto.halted = false → climbOf s n j.addr = none →
      ∃ t, exec (.codewordDecode n tag index (.good data true bits)) s = .next t ∧ Quiet s t ∧
        t.commands.get q = some { c with
          want := c.want.filter (· ≠ sector), got := c.got.set sector (some (padTo 4096 data)), jobsLeft := c.jobsLeft + 1 } ∧
        (∀ k, k ≠ q → t.commands.get k = s.commands.get k) ∧ t.decodes = s.decodes.erase j ∧
        (t.crypto.queue <:+ s.crypto.queue ++ [⟨.xtsDecrypt, c.ns, q, sector⟩]) ∧
        (regOf t (eccPage e) O.ECC_CW_CNT).toNat = min 0xFFFFFFFF ((regOf s (eccPage e) O.ECC_CW_CNT).toNat + 1) ∧
        (regOf t (eccPage e) O.ECC_BITS_CNT).toNat = min 0xFFFFFFFF ((regOf s (eccPage e) O.ECC_BITS_CNT).toNat + bits) ∧
        t.links = s.links ∧ t.modules = s.modules ∧ t.zones = s.zones ∧ t.conns = s.conns) ∧
    (j.step = 0 → climbOf s n j.addr = none → 1 ≤ regField s (mlxPage (n / 8)) O.MLX_LADDER 0 4 →
      ∃ t, exec (.codewordDecode n tag index (.bad checks)) s = .next t ∧ Quiet s t ∧
        climbOf t n j.addr = some ⟨n, j.addr, 1, [(j.index, j.need, some (checks, 0))]⟩ ∧
        (∃ w ∈ (t.links.getD n {}).waiting, w.op = 0x01 ∧ w.arg = 1 ∧ w.addr = j.addr ∧ (j.index, j.need) ∈ w.cws) ∧
        (regOf t (eccPage e) O.ECC_HARD_FAIL_CNT).toNat = min 0xFFFFFFFF ((regOf s (eccPage e) O.ECC_HARD_FAIL_CNT).toNat + 1) ∧
        t.decodes = s.decodes.erase j ∧ t.commands = s.commands ∧ t.modules = s.modules ∧
        (∀ k, k ≠ n → t.links.getD k {} = s.links.getD k {})) ∧
    (j.step = 9 →
      ∃ t, exec (.codewordDecode n tag index (.bad checks)) s = .next t ∧ Quiet s t ∧
        bit (getPage t (eccPage e)).intRaw 0 = true) ∧
    (∃ t, exec (.codewordDecode n tag index (.good data false bits)) s = .next t ∧ Quiet s t ∧
      bit (getPage t (eccPage e)).intRaw 1 = true)

/-- A PQE instance ends its job (R234 to R237): parity goes to the stripe in flight; a reconstructed sector goes to the read
that wants it; a job that failed in DRAM logs the address, and a reconstruction reads its inputs again once. The next job
that waits starts. -/
def Obligations.ParityJobs : Prop :=
  ∀ (s : State) (i key k addr : Nat) (f : Fold) (r : RowJob), i < 4 →
    (s.pqeRun.get i = some (.parity key) → foldOf s key = some f → groupOf s (keyGroup key) = none ∨ durable s f.recNo = false →
      ∃ t, exec (.pqeJobDone i .done) s = .next t ∧
        foldOf t key = some { f with parity := some (stripeParity f.buf (dataStrips (zoneOf s f.ns f.zone).w (zoneOf s f.ns f.zone).dual)
          (zoneOf s f.ns f.zone).dual) } ∧ (∀ m, m ≠ key → foldOf t m = foldOf s m) ∧
        (regOf t (pqePage i) O.PQE_GEN_CNT).toNat = min 0xFFFFFFFF ((regOf s (pqePage i) O.PQE_GEN_CNT).toNat + 1) ∧
        (s.pqeQueue = [] → t.pqeRun.get i = none) ∧ (t.pqeQueue <:+ s.pqeQueue) ∧
        t = { s with folds := t.folds, pqeRun := t.pqeRun, pqeQueue := t.pqeQueue, pqeBytes := t.pqeBytes, regs := t.regs, pages := t.pages }) ∧
    (∀ q sector c data, s.pqeRun.get i = some (.reconstruct k) → s.rowJobs.get k = some r → r.need = .host q sector →
        (rowParts r).recover (dataStrips r.map.w r.map.dual) (roleOf r.map.w r.map.dual (keyStripe r.stripe) r.target) = some data →
        s.commands.get q = some c → c.fetching = true → c.want.contains sector = true → s.crypto.halted = false →
      ∃ t, exec (.pqeJobDone i .done) s = .next t ∧ Quiet s t ∧ t.rowJobs = s.rowJobs.erase k ∧
        t.commands.get q = some { c with
          want := c.want.filter (· ≠ sector), got := c.got.set sector (some data), jobsLeft := c.jobsLeft + 1 } ∧
        (t.crypto.queue <:+ s.crypto.queue ++ [⟨.xtsDecrypt, c.ns, q, sector⟩]) ∧
        (regOf t (pqePage i) O.PQE_RECON_CNT).toNat = min 0xFFFFFFFF ((regOf s (pqePage i) O.PQE_RECON_CNT).toNat + 1) ∧
        (regOf t zsqPage O.ZSQ_DEGR_READ_CNT).toNat = min 0xFFFFFFFF ((regOf s zsqPage O.ZSQ_DEGR_READ_CNT).toNat + 1) ∧
        t.links = s.links ∧ t.modules = s.modules ∧ t.zones = s.zones ∧ t.conns = s.conns) ∧
    (s.pqeRun.get i = some (.reconstruct k) → s.rowJobs.get k = some r → r.again = true → (∀ q x, r.need ≠ .host q x) →
      ∃ t, exec (.pqeJobDone i (.eccError addr)) s = .next t ∧ t.rowJobs = s.rowJobs.erase k ∧
        ((getPage s (pqePage i)).errCount = 0 → (getPage t (pqePage i)).errCount = 1 ∧ (getPage t (pqePage i)).errCode = 0x0100 ∧
          (getPage t (pqePage i)).errAddr = addr % 2 ^ 48) ∧
        t = { s with rowJobs := t.rowJobs, pqeRun := t.pqeRun, pqeQueue := t.pqeQueue, pages := t.pages }) ∧
    (∀ job, s.pqeRun.get i = some job → ∃ t, exec (.pqeJobDone i (.eccError addr)) s = .next t ∧ Quiet s t)

/-- A crypto core ends its job (R13, R97, R102, R327, R328): a decrypted sector of a READ, an encrypted sector of a write in
its stripe buffer, a chunk of a sealed write that checks, or a sealed chunk with its tag; the last decrypted sector of an
unsealed read sends the data to the host. The core is idle, or takes the oldest job. The ciphers are opaque functions (log
entry 15). -/
def Obligations.CryptoJobs : Prop :=
  ∀ (s : State) (i key q : Nat) (c : Command) (ok : Bool), i < 8 → s.commands.get q = some c →
    (∀ sector b, (coreOf s i).job = some (⟨.xtsDecrypt, c.ns, q, sector⟩, key) → c.fetching = true → c.got.get sector = some (some b) →
      (c.want ≠ [] ∨ 1 < c.jobsLeft →
        ∃ t, exec (.cryptoJobDone i ok) s = .next t ∧ Quiet s t ∧
          t.commands.get q = some { c with
            got := c.got.set sector (some (Config.xtsDecrypt key (xtsTweak s c sector) b)), jobsLeft := c.jobsLeft - 1 } ∧
          (∀ k, k ≠ q → t.commands.get k = s.commands.get k) ∧
          (regOf t (cxPage i) O.CX_JOB_CNT).toNat = min 0xFFFFFFFF ((regOf s (cxPage i) O.CX_JOB_CNT).toNat + 1) ∧
          (s.crypto.queue = [] → (coreOf t i).job = none) ∧ (t.crypto.queue <:+ s.crypto.queue) ∧
          t = { s with commands := t.commands, crypto := t.crypto, regs := t.regs, pages := t.pages, trace := t.trace }) ∧
      (c.want = [] → c.jobsLeft = 1 → (connOf s c.conn).sealed = false →
        ∃ t, exec (.cryptoJobDone i ok) s = .next t ∧ Quiet s t ∧
          (∃ d, t.commands.get q = some d ∧ d.phase = .delivering ∧ d.payload.length = 4096 * c.len ∧ d.conn = c.conn ∧ d.cid = c.cid ∧
            .rdmaWrite c.conn c.cid c.bufKey.toNat c.bufAddr d.payload ∈ t.outs) ∧
          (∀ k, k ≠ q → t.commands.get k = s.commands.get k) ∧ t.zones = s.zones)) ∧
    (∀ sector, (coreOf s i).job = some (⟨.xtsEncrypt, c.ns, q, sector⟩, key) → c.op ≠ 0x08 → 1 < c.jobsLeft →
        stripeOf s c.ns c.zone (sector / spanSectors (zoneOf s c.ns c.zone).w (zoneOf s c.ns c.zone).dual) = none →
        (bufOf s c.ns c.zone).q = sector / spanSectors (zoneOf s c.ns c.zone).w (zoneOf s c.ns c.zone).dual →
      ∃ t, exec (.cryptoJobDone i ok) s = .next t ∧ t.commands.get q = some { c with jobsLeft := c.jobsLeft - 1 } ∧
        (bufOf t c.ns c.zone).sectors.get (sector % spanSectors (zoneOf s c.ns c.zone).w (zoneOf s c.ns c.zone).dual) =
          some (Config.xtsEncrypt key (xtsTweak s c sector) (windowSector s c (sector - c.offset))) ∧
        (∀ k, k ≠ q → t.commands.get k = s.commands.get k) ∧
        t = { s with commands := t.commands, buffers := t.buffers, crypto := t.crypto, regs := t.regs, pages := t.pages }) ∧
    (∀ k, (coreOf s i).job = some (⟨.gcmOpen, c.conn, q, k⟩, key) → c.phase = .sealCheck →
        ∃ t, exec (.cryptoJobDone i true) s = .next t ∧
          t.commands.get q = some { c with jobsLeft := c.jobsLeft - 1, phase := if c.jobsLeft ≤ 1 then .valid else .sealCheck } ∧
          (∀ m, m ≠ q → t.commands.get m = s.commands.get m) ∧
          (∀ w, c.windows[k / 16]? = some w → regionOf t w = { regionOf s w with
            bytes := writeBytes (regionOf s w).bytes (k % 16 * 65536) (Config.gcmCrypt key (gcmIv c 0 k)
              (readBytes (regionOf s w).bytes (k % 16 * 65536) (min 65536 (c.len * 4096 - k * 65536)))) }) ∧
          t = { s with commands := t.commands, regions := t.regions, crypto := t.crypto, regs := t.regs, pages := t.pages }) ∧
    (∀ k, (coreOf s i).job = some (⟨.gcmSeal, c.conn, q, k⟩, key) → c.phase = .sealing → 1 < c.jobsLeft →
        ∃ t, exec (.cryptoJobDone i ok) s = .next t ∧
          (∃ text, text = Config.gcmCrypt key (gcmIv c 1 k) (slice c.payload (k * 65536) 65536) ∧
            t.commands.get q = some { c with
              payload := c.payload.take (k * 65536) ++ text ++ c.payload.drop (k * 65536 + 65536)
              tags := c.tags.set k (padTo 16 (Config.gcmTag key (gcmIv c 1 k) (gcmAad c text.length) text))
              jobsLeft := c.jobsLeft - 1 }) ∧
          (∀ m, m ≠ q → t.commands.get m = s.commands.get m) ∧
          t = { s with commands := t.commands, crypto := t.crypto, regs := t.regs, pages := t.pages })

/-- Group commands of ZSQ (R231, R247, R248, R251, R252): DEFINE makes the group that the registers describe, with its
members ONLINE in Winter; RETIRE removes a group without zones; QUERY fills the registers; SETLOCK sets the lock-step mode;
each leaves RESULT, and a failure is logged. A spare mask takes the bits whose slots serve no group. What QUERY of an
undefined group leaves is the model's (log entry 60). -/
def Obligations.GroupCommands : Prop :=
  ∀ (s : State) (req : Nat) (v : Word),
    (writeReaches s req zsqPage O.ZSQ_GRP_CMD = true →
      (defineResult s (grpSel s) = 0 →
        ∃ t, exec (.groupDefine req) s = .next t ∧ regField t zsqPage O.ZSQ_GRP_STAT 24 4 = 0 ∧
          (∃ x, groupOf t (grpSel s) = some x ∧ x.w = regField s zsqPage O.ZSQ_GRP_CFG 24 5 ∧
            x.dual = decide (regField s zsqPage O.ZSQ_GRP_CFG 20 2 = 2) ∧ x.spare.code = regField s zsqPage O.ZSQ_GRP_CFG 16 2 ∧
            x.lock = bit (regOf s zsqPage O.ZSQ_GRP_CFG) 12 ∧ x.lockTmo = regField s zsqPage O.ZSQ_GRP_CFG 14 2 ∧
            x.jmem0 = regField s zsqPage O.ZSQ_GRP_CFG 0 5 ∧ x.jmem1 = regField s zsqPage O.ZSQ_GRP_CFG 5 5 ∧
            x.next = 0 ∧ x.season = .winter ∧ x.lost = false ∧ x.wake = none ∧
            (∀ m, m < x.w → ∃ y, x.member m = some y ∧ y.slot = slotArg s m ∧ y.st = .online)) ∧
          (∀ g, g ≠ grpSel s → groupOf t g = groupOf s g) ∧ Quiet s t ∧
          t = { s with groups := t.groups, regs := t.regs, pages := t.pages, journal := t.journal, journalSeq := t.journalSeq,
                       mrm := t.mrm, pair := t.pair, outs := t.outs }) ∧
      (defineResult s (grpSel s) ≠ 0 →
        ∃ t, exec (.groupDefine req) s = .next t ∧ regField t zsqPage O.ZSQ_GRP_STAT 24 4 = defineResult s (grpSel s) ∧
          ((getPage s zsqPage).errCount = 0 → (getPage t zsqPage).errCount = 1 ∧ (getPage t zsqPage).errCode = 0x0100) ∧
          t = { s with regs := t.regs, pages := t.pages }) ∧
      (∀ x, groupOf s (grpSel s) = some x → (zonesOn s (grpSel s)) = [] →
          (∀ y ∈ x.members.values, (chanOf s y.slot).gateOn = false) →
        ∃ t, exec (.groupRetire req) s = .next t ∧ groupOf t (grpSel s) = none ∧ regField t zsqPage O.ZSQ_GRP_STAT 24 4 = 0 ∧
          (∀ g, g ≠ grpSel s → groupOf t g = groupOf s g) ∧ Quiet s t ∧ t.zones = s.zones ∧ t.stripes = s.stripes) ∧
      (groupOf s (grpSel s) = none ∨ zonesOn s (grpSel s) ≠ [] →
        ∃ t, exec (.groupRetire req) s = .next t ∧
          regField t zsqPage O.ZSQ_GRP_STAT 24 4 = (if (groupOf s (grpSel s)).isSome then 2 else 5) ∧
          t = { s with regs := t.regs, pages := t.pages }) ∧
      (∃ t, exec (.groupQuery req) s = .next t ∧ regField t zsqPage O.ZSQ_GRP_STAT 24 4 = 0 ∧
        (∀ x, groupOf s (grpSel s) = some x → x.w < 32 → x.jmem0 < 32 → x.jmem1 < 32 → x.lockTmo < 4 →
          bit (regOf t zsqPage O.ZSQ_GRP_CFG) 31 = true ∧ regField t zsqPage O.ZSQ_GRP_CFG 24 5 = x.w ∧
          regField t zsqPage O.ZSQ_GRP_CFG 20 2 = (if x.dual then 2 else 1) ∧ regField t zsqPage O.ZSQ_GRP_CFG 16 2 = x.spare.code ∧
          regField t zsqPage O.ZSQ_GRP_CFG 0 5 = x.jmem0 ∧ regField t zsqPage O.ZSQ_GRP_CFG 5 5 = x.jmem1 ∧
          regField t zsqPage O.ZSQ_GRP_CFG 14 2 = x.lockTmo ∧ bit (regOf t zsqPage O.ZSQ_GRP_CFG) 12 = x.lock ∧
          regOf t zsqPage O.ZSQ_GRP_STRIPES = Word.ofNum x.next) ∧
        (groupOf s (grpSel s) = none → bit (regOf t zsqPage O.ZSQ_GRP_CFG) 31 = false ∧ regField t zsqPage O.ZSQ_GRP_CFG 0 5 = 0 ∧
          regField t zsqPage O.ZSQ_GRP_CFG 5 5 = regField s zsqPage O.ZSQ_GRP_CFG 24 5 / 2) ∧
        t = { s with regs := t.regs, pages := t.pages }) ∧
      (∀ x, groupOf s (grpSel s) = some x →
        ∃ t, exec (.groupSetlock req) s = .next t ∧ regField t zsqPage O.ZSQ_GRP_STAT 24 4 = 0 ∧
          groupOf t (grpSel s) = some { x with
            lock := bit (regOf s zsqPage O.ZSQ_GRP_CFG) 12, lockTmo := regField s zsqPage O.ZSQ_GRP_CFG 14 2 } ∧
          (∀ g, g ≠ grpSel s → groupOf t g = groupOf s g) ∧ Quiet s t ∧ t.zones = s.zones)) ∧
    (writeReaches s req zsqPage O.ZSQ_SPARE_LO = true →
      ∃ t, exec (.spareMaskWrite req false v) s = .next t ∧
        (∀ i, i < 32 → bit (regOf t zsqPage O.ZSQ_SPARE_LO) i = (bit v i && (memberAt s i).isNone)) ∧
        regOf t zsqPage O.ZSQ_SPARE_HI = regOf s zsqPage O.ZSQ_SPARE_HI ∧ t = { s with regs := t.regs, pages := t.pages }) ∧
    (writeReaches s req zsqPage O.ZSQ_SPARE_HI = true →
      ∃ t, exec (.spareMaskWrite req true v) s = .next t ∧
        (∀ i, i < 16 → bit (regOf t zsqPage O.ZSQ_SPARE_HI) i = (bit v i && (memberAt s (32 + i)).isNone)) ∧
        regOf t zsqPage O.ZSQ_SPARE_LO = regOf s zsqPage O.ZSQ_SPARE_LO ∧ t = { s with regs := t.regs, pages := t.pages })

/-- Lock-stepped rows (R250, R251): the programs of a row go out together at a tick at least 2 us ahead, where every targeted
slot meets the conditions; where one does not, nothing is released; a member inhibited for LOCK_TMO_MS leaves the row and
programs its page alone. -/
def Obligations.LockSteppedRows : Prop :=
  ∀ (s : State) (g n row at_ m : Nat) (f : Fold), g < 12 → foldOf s (stripeKey g n) = some f → f.released = true → f.locked = true →
    f.rows.head? = some row →
    (s.time.now + 1600 ≤ at_ →
      ((rowTargets s (stripeKey g n) f row).all (fun e => rowReady s f e.2 e.1 row) = true →
        ∃ t, exec (.lockstepRelease g n row at_) s = .next t ∧ Quiet s t ∧ at_ ≤ t.time.now ∧
          foldOf t (stripeKey g n) = some { f with rows := f.rows.drop 1 } ∧
          (∀ e ∈ rowTargets s (stripeKey g n) f row, ∃ tag,
            .linkCmd e.2.slot tag 0x03 { e.2.addr with page := e.2.addr.page + row } 0 (claimOf s) ∈ t.outs) ∧
          t.commands = s.commands ∧ t.zones = s.zones ∧ t.groups = s.groups) ∧
      ((rowTargets s (stripeKey g n) f row).all (fun e => rowReady s f e.2 e.1 row) = false →
        exec (.lockstepRelease g n row at_) s = .next s)) ∧
    (∀ x p, groupOf s g = some x → f.places.get m = some p → (chanOf s p.slot).pwarn = true →
        (rowTargets s (stripeKey g n) f row).any (fun e => e.1 = m) = true →
      ∃ t, exec (.lockTimeout g n m) s = .next t ∧
        (chanOf s p.slot).pwarnAt + (match x.lockTmo with | 0 => 10 | 1 => 20 | 2 => 50 | _ => 100) * 800000 ≤ t.time.now ∧
        (∃ c, (linkOf t p.slot).waiting = (linkOf s p.slot).waiting ++ [c] ∧ c.op = 0x03 ∧ c.why = .strip (stripeKey g n) m row ∧
          c.addr = { p.addr with page := p.addr.page + row }) ∧
        (∀ k, k ≠ p.slot → linkOf t k = linkOf s k) ∧
        t = { s with links := t.links, clk := t.clk, pages := t.pages, time := t.time })

/-- Upkeep of blocks in the background (R219 to R222, R225, R243): the daily ageing of a module's programmed blocks, patrol
visits, the refresh or relocation of a block into the FREE block that R219 names, wear levelling, the reclamation of a log
block, and the checkpoint, which releases the older records of its group once both copies have passed. Each of these is one
step with its outcome as an operand, and the rounding of the ageing is left free (log entries 19, 27). -/
def Obligations.BlockUpkeep : Prop :=
  ∀ (s : State) (slot g mk l : Nat) (temp : Int) (m : Module),
    (slot < 48 → s.modules.get slot = some m → m.table.wf = true →
      ∃ t m' d, exec (.heatUpdate slot temp) s = .next t ∧ t.modules.get slot = some m' ∧
        (((memberAt s slot).bind fun e => (groupOf s e.1).map (·.season)) = some .winter ∨ memberAt s slot = none →
          m'.winterDays = m.winterDays + 1 ∧ m'.temp = m.temp ∧ heatFactor m.autumnTemp / 1000000000000 ≤ d ∧
          d ≤ heatFactor m.autumnTemp / 1000000000000 + 1) ∧
        (∀ x e, memberAt s slot = some e → groupOf s e.1 = some x → x.season ≠ .winter →
          m'.winterDays = 0 ∧ m'.temp = temp ∧ heatFactor temp / 1000000000000 ≤ d) ∧
        (∀ b, (m'.block b).heat = if (m.block b).nextPage = 0 then (m.block b).heat else min 4095 ((m.block b).heat + d)) ∧
        (∀ b, { m'.block b with heat := (m.block b).heat } = m.block b) ∧
        (∀ k, k ≠ slot → t.modules.get k = s.modules.get k) ∧ t.draws = s.draws + 1 ∧
        t = { s with modules := t.modules, draws := t.draws, journal := t.journal, journalSeq := t.journalSeq,
                     mrm := t.mrm, pair := t.pair, outs := t.outs, regs := t.regs, pages := t.pages }) ∧
    (∀ y, g < 12 → worksBehind s = true → (groupOf s g).bind (·.member mk) = some y → s.modules.get y.slot = some m →
      (∀ rber bad, (m.block l).nextPage ≠ 0 →
        ∃ t, exec (.patrolVisit g mk l rber bad) s = .next t ∧ Quiet s t ∧
          (inSummer s g = true → bad = [] →
            (∃ m', t.modules.get y.slot = some m' ∧ m'.block l = { m.block l with
              visitAt := s.time.now
              refreshDue := (m.block l).refreshDue || decide (regField s (mlxPage 0) O.MLX_REFRESH_CFG 16 16 < rber) }) ∧
            t.links = s.links ∧ t.zones = s.zones ∧ t.groups = s.groups ∧ t.commands = s.commands) ∧
          (∀ x, groupOf s g = some x → x.season = .winter → x.lost = false → x.wake = none →
            (∃ x', groupOf t g = some x' ∧ x'.wake = some (.patrol, s.wakeSeq)) ∧ t.modules = s.modules ∧ t.zones = s.zones)) ∧
      (∀ fresh, (m.block l).refreshDue = true ∨ (m.block l).st = .suspect → m.pickFree = some fresh → inSummer s g = true →
          ((slotMember s g y.slot).any fun e => e.2.st.inactive) = false → l ≠ fresh →
        ∃ t m', exec (.blockRefresh g mk l fresh true) s = .next t ∧ t.modules.get y.slot = some m' ∧ Quiet s t ∧
          ((m.block l).st = .retired ∨ (m.block l).st = .suspect → (m'.block l).st = .retired ∧ (m'.block l).refreshDue = false) ∧
          ((m.block l).st ≠ .retired → (m.block l).st ≠ .suspect → m'.block l = { pe := (m.block l).pe, dirty := true }) ∧
          (∀ e ∈ stripsIn s y.slot (m.place l 0), ∃ st p, t.stripes.get e.1 = some st ∧ st.strips.get e.2 = some p ∧
            p.slot = y.slot ∧ p.addr.sameBlock (m.place fresh 0) = true) ∧
          t.commands = s.commands ∧ t.zones = s.zones ∧ t.links = s.links) ∧
      (∀ fresh, (m.block l).refreshDue = true → m.pickFree = some fresh → inSummer s g = true →
        ∃ t, exec (.blockRefresh g mk l fresh false) s = .next t ∧ Quiet s t) ∧
      (∀ f lo hi fulls frees, fulls = ((m.table.entries.filter fun e => decide (e.2.st = .full)).map fun e => (e.1, e.2.pe)) →
          frees = (if firstGap 0 m.table.entries < m.total then [(firstGap 0 m.table.entries, 0)] else []) ++
            ((m.table.entries.filter fun e => decide (e.2.st = .free)).map fun e => (e.1, e.2.pe)) →
          (extremeBlock true fulls).map (·.1) = some l → (extremeBlock false frees).map (·.1) = some f →
          (extremeBlock true (fulls ++ frees)).map (·.2) = some lo → (extremeBlock false (fulls ++ frees)).map (·.2) = some hi →
          10 * regField s (mlxPage 0) O.MLX_REFRESH_CFG 0 8 < hi - lo → inSummer s g = true → y.st.inactive = false → m.table.wf = true →
        ∃ t m', exec (.wearLevel g mk) s = .next t ∧ t.modules.get y.slot = some m' ∧ Quiet s t ∧
          m'.block l = { pe := (m.block l).pe, dirty := true } ∧
          (∀ e ∈ stripsIn s y.slot (m.place l 0), ∃ st p, t.stripes.get e.1 = some st ∧ st.strips.get e.2 = some p ∧
            p.slot = y.slot ∧ p.addr.sameBlock (m.place f 0) = true) ∧ t.commands = s.commands ∧ t.zones = s.zones) ∧
      (∀ b a u, oldestLog m g = some (l, b) → inSummer s g = true → m.pages true ≤ b.nextPage →
          regField s zsqPage O.ZSQ_LOG_CFG 24 8 * (b.nextPage * m.pageCws) ≤ b.obsolete * 100 →
          takePages s y.slot g .log true false (ceilDiv (logKeysIn s y.slot (m.place l 0)).length m.pageCws) = some (a, u) →
        (∃ t m', exec (.logReclaim g mk true) s = .next t ∧ t.modules.get y.slot = some m' ∧ Quiet s t ∧
          m'.block l = { pe := b.pe, dirty := true } ∧ t.stripes = s.stripes ∧ t.commands = s.commands) ∧
        (∃ t, exec (.logReclaim g mk false) s = .next t ∧ Quiet s t))) ∧
    (∀ x a b ya yb, g < 12 → worksBehind s = true → groupOf s g = some x → x.member a = some ya → x.member b = some yb → a ≠ b →
        x.season = .summer → ya.st.inactive = false → yb.st.inactive = false →
      (∃ t x', exec (.checkpoint g a b true true) s = .next t ∧ groupOf t g = some x' ∧ x'.ckptSeq = s.journalSeq ∧ Quiet s t ∧
        (∀ r ∈ t.journal, recordGroup t r.body = some g → s.journalSeq < r.seq) ∧ t.commands = s.commands ∧ t.stripes = s.stripes) ∧
      (∃ t, exec (.checkpoint g a b true false) s = .next t ∧ bit (getPage t (mlxPage 0)).intRaw 2 = true ∧ Quiet s t ∧
        t.commands = s.commands ∧ t.stripes = s.stripes))

/-- Members of a group that fail, and the member commands (R263, R264, R287): an OUT member fails after OUT_TMO_S; QUERY
shows a member; FAIL makes it FAILED, or REBUILDING where a slot spare takes it, unless the group, the index or its state
forbids it, or, without force, the group would go beyond its parity. RESULT tells; a failure is logged. One stripe of a
rebuild (R265 to R267): log copies are restored first; a stripe at the cursor that the map does not carry is passed over; one
whose rows can be read is programmed at the index, the map names the new strip, it counts, and the cursor moves on; a program
that fails moves nothing. A stripe is rebuilt in one step with its outcome as an operand (log entry 19). -/
def Obligations.MembersAndRebuilds : Prop :=
  (∀ (s : State) (g m req : Nat) (force : Bool) (y : Member),
    (g < 12 → (groupOf s g).bind (·.member m) = some y → y.st = .out →
      ∃ t y', exec (.outTimeout g m) s = .next t ∧ Quiet s t ∧ bit (getPage t zsqPage).intRaw 9 = true ∧
        y.outAt + regField s zsqPage O.ZSQ_RBD_CFG 16 8 * 800000000 ≤ t.time.now ∧
        (groupOf t g).bind (·.member m) = some y' ∧ (y'.st = .failed ∨ y'.st = .rebuilding)) ∧
    (writeReaches s req zsqPage O.ZSQ_MBR_CMD = true → g = regField s zsqPage O.ZSQ_MBR_SEL 0 4 →
        m = regField s zsqPage O.ZSQ_MBR_SEL 8 5 →
      (∀ x, groupOf s g = some x → m < x.w → x.member m = some y → y.slot < 64 →
        (∃ t, exec (.memberQuery req) s = .next t ∧ regField t zsqPage O.ZSQ_MBR_CMD 24 4 = 0 ∧
          regField t zsqPage O.ZSQ_MBR_STAT 28 4 = y.st.code ∧
          regField t zsqPage O.ZSQ_MBR_STAT 16 6 = (if y.st = .spared then 63 else y.slot) ∧
          bit (regOf t zsqPage O.ZSQ_MBR_STAT) 1 = (y.sweeping || y.st = .resync) ∧
          (x.seeding = [] → bit (regOf t zsqPage O.ZSQ_MBR_STAT) 0 = (decide (x.jmem0 = m) || decide (x.jmem1 = m))) ∧
          t = { s with regs := t.regs, pages := t.pages }) ∧
        (y.st = .failed ∨ y.st = .spared →
          ∃ t, exec (.memberFail req force) s = .next t ∧ regField t zsqPage O.ZSQ_MBR_CMD 24 4 = 3 ∧
            t = { s with regs := t.regs, pages := t.pages }) ∧
        (y.st ≠ .failed → y.st ≠ .spared → (x.setMember m { y with st := .failed }).beyond = true →
          ∃ t, exec (.memberFail req false) s = .next t ∧ regField t zsqPage O.ZSQ_MBR_CMD 24 4 = 4 ∧
            t = { s with regs := t.regs, pages := t.pages }) ∧
        (y.st ≠ .failed → y.st ≠ .spared → force = true ∨ (x.setMember m { y with st := .failed }).beyond = false →
          ∃ t y', exec (.memberFail req force) s = .next t ∧ Quiet s t ∧ bit (getPage t zsqPage).intRaw 9 = true ∧
            (groupOf t g).bind (·.member m) = some y' ∧ (y'.st = .failed ∨ y'.st = .rebuilding))) ∧
      (groupOf s g = none →
        (∃ t, exec (.memberQuery req) s = .next t ∧ regField t zsqPage O.ZSQ_MBR_CMD 24 4 = 1 ∧
          t = { s with regs := t.regs, pages := t.pages }) ∧
        (∃ t, exec (.memberFail req force) s = .next t ∧ regField t zsqPage O.ZSQ_MBR_CMD 24 4 = 1 ∧
          t = { s with regs := t.regs, pages := t.pages })) ∧
      (∀ x, groupOf s g = some x → x.w ≤ m →
        (∃ t, exec (.memberQuery req) s = .next t ∧ regField t zsqPage O.ZSQ_MBR_CMD 24 4 = 2 ∧
          t = { s with regs := t.regs, pages := t.pages }) ∧
        (∃ t, exec (.memberFail req force) s = .next t ∧ regField t zsqPage O.ZSQ_MBR_CMD 24 4 = 2 ∧
          t = { s with regs := t.regs, pages := t.pages })))) ∧
  (∀ (s : State) (g m : Nat) (x : Group) (y : Member), g < 12 → worksBehind s = true → groupOf s g = some x →
    x.season = .summer → x.lost = false →
    ((sweepers x).any (fun e => e.2.logRestore) = true →
      ∃ t, exec (.rebuildStripe g true []) s = .next t ∧ Quiet s t ∧
        (∀ e ∈ sweepers x, ∃ y', (groupOf t g).bind (·.member e.1) = some y' ∧ y'.logRestore = false ∧ y'.cursor = e.2.cursor) ∧
        t.stripes = s.stripes) ∧
    (sweepers x = [(m, y)] → x.member m = some y → y.logRestore = false → y.wrapped = false → y.cursor + 1 < y.stop →
      (s.stripes.get (stripeKey g y.cursor) = none → y.dirty.contains y.cursor = false →
        ∃ t, exec (.rebuildStripe g true []) s = .next t ∧ Quiet s t ∧
          (groupOf t g).bind (·.member m) = some { y with cursor := y.cursor + 1 } ∧ t.stripes = s.stripes ∧ t.modules = s.modules) ∧
      (∀ st p u, s.stripes.get (stripeKey g y.cursor) = some st → m < st.w → stripValid y st m = false →
          (stripeRows.all fun r => rowNow s g (stripeKey g y.cursor) st m r []) = true →
          placeStrip s g (zoneSlots s st.ns st.zone) m y.cursor = (some p, u) →
        (∃ t st' y', exec (.rebuildStripe g true []) s = .next t ∧ Quiet s t ∧
          t.stripes.get (stripeKey g y.cursor) = some st' ∧ st' = { st with strips := st.strips.set m p } ∧
          (∀ k, k ≠ stripeKey g y.cursor → t.stripes.get k = s.stripes.get k) ∧
          (groupOf t g).bind (·.member m) = some y' ∧ y'.cursor = y.cursor + 1 ∧
          (regOf t zsqPage O.ZSQ_RBD_STRIPE_CNT).toNat = min 0xFFFFFFFF ((regOf s zsqPage O.ZSQ_RBD_STRIPE_CNT).toNat + 1)) ∧
        (∃ t y', exec (.rebuildStripe g false []) s = .next t ∧ Quiet s t ∧
          (groupOf t g).bind (·.member m) = some y' ∧ y'.cursor = y.cursor ∧ y'.st = y.st))))



/-- Reshape commands (R279 to R281, R285, R287): START with a result of 0 makes the reshape that the registers describe, with
the group's zones in their order, else leaves RESULT and logs it; QUERY leaves RESULT 0; a step writes one new stripe and
moves the boundary, passes over a zone that is empty, suspends, or ends the reshape with the new geometry. A stripe is
reshaped in one step, and the order of the tests of START is the model's (log entries 19, 60). -/
def Obligations.ReshapeSteps : Prop :=
  ∀ (s : State) (req : Nat) (r : Reshape) (x : Group),
    (writeReaches s req zsqPage O.ZSQ_RSH_CMD = true →
      (∀ g w layout slots, g = regField s zsqPage O.ZSQ_RSH_CFG 0 4 → w = regField s zsqPage O.ZSQ_RSH_CFG 24 5 →
          layout = regField s zsqPage O.ZSQ_RSH_CFG 20 2 → slots = (List.range w).map (slotArg s) →
        (groupOf s g = some x → reshapeResult s g w layout slots = 0 →
          ∃ t rs, exec (.reshapeStart req) s = .next t ∧ t.reshape = some rs ∧ rs.group = g ∧ rs.w = w ∧
            rs.dual = decide (layout = 2) ∧ rs.slots = slots ∧ rs.zones = reshapeOrder s g ∧ rs.bound = 0 ∧ t.reshapeResult = 0 ∧
            (∃ x', groupOf t g = some x' ∧ x'.w = x.w ∧ x'.next = x.next ∧
              (∀ m y, x.member m = some y → slots.contains y.slot = false → m < 32 →
                ∃ y', x'.member m = some y' ∧ y'.st = .leaving ∧ y'.slot = y.slot)) ∧
            (∀ k, k ≠ g → groupOf t k = groupOf s k) ∧ Quiet s t ∧ t.zones = s.zones ∧ t.stripes = s.stripes) ∧
        (reshapeResult s g w layout slots ≠ 0 →
          ∃ t, exec (.reshapeStart req) s = .next t ∧ t.reshapeResult = reshapeResult s g w layout slots ∧
            t.reshape = s.reshape ∧ ((getPage s zsqPage).errCount = 0 → (getPage t zsqPage).errCode = 0x0104) ∧
            t = { s with reshapeResult := t.reshapeResult, regs := t.regs, pages := t.pages })) ∧
      (∃ t, exec (.reshapeQuery req) s = .next t ∧ t.reshapeResult = 0 ∧ t.reshape = s.reshape ∧
        t = { s with reshapeResult := t.reshapeResult, regs := t.regs, pages := t.pages })) ∧
    (worksBehind s = true → s.reshape = some r → groupOf s r.group = some x →
      (reshapeRuns s r = false → r.suspended = false → r.zones = [] →
        ∃ t, exec (.reshapeStripe true []) s = .next t ∧ Quiet s t ∧ bit (getPage t zsqPage).intRaw 15 = true ∧
          t.reshape = some { r with suspended := true, ckptBound := r.bound, since := 0 }) ∧
      (reshapeRuns s r = true →
        (r.zones = [] →
          ∃ t, exec (.reshapeStripe true []) s = .next t ∧ Quiet s t ∧ bit (getPage t zsqPage).intRaw 14 = true ∧ t.reshape = none ∧
            (∃ x', groupOf t r.group = some x' ∧ x'.w = r.w ∧ x'.dual = r.dual)) ∧
        (∀ k rest, r.zones = k :: rest →
            ((zoneOf s (keyNs k) (keyZone k)).group ≠ some r.group ∨ (zoneOf s (keyNs k) (keyZone k)).st = .empty) → rest = [] →
          ∃ t, exec (.reshapeStripe true []) s = .next t ∧ Quiet s t ∧
            t.reshape = some { r with suspended := false, zones := rest, done := r.done + 1, bound := 0, fresh := .empty,
                                      held := false, ckptBound := 0, since := 0 }) ∧
        (∀ k rest q, r.zones = k :: rest → (zoneOf s (keyNs k) (keyZone k)).group = some r.group →
            (zoneOf s (keyNs k) (keyZone k)).st ≠ .empty → q = r.bound / max 1 (spanSectors r.w r.dual) →
            q < newStripes (zoneOf s (keyNs k) (keyZone k)) (spanSectors r.w r.dual) → r.since < 63 →
          ∃ t, exec (.reshapeStripe true []) s = .next t ∧ Quiet s t ∧
            t.reshape = some { r with suspended := false, fresh := r.fresh.set q (keyStripe (stripeKey r.group x.next)),
                                      bound := (q + 1) * spanSectors r.w r.dual, since := r.since + 1 } ∧
            (∃ st, t.stripes.get (stripeKey r.group x.next) = some st ∧ st.ns = keyNs k ∧ st.zone = keyZone k ∧ st.q = q ∧
              st.w = r.w ∧ st.dual = r.dual) ∧
            (regOf t zsqPage O.ZSQ_RSH_STRIPE_CNT).toNat = min 0xFFFFFFFF ((regOf s zsqPage O.ZSQ_RSH_STRIPE_CNT).toNat + 1) ∧
            (∃ x', groupOf t r.group = some x' ∧ x'.next = x.next + 1))))

/-- Season changes (R288 to R292, R298, R299): an admitted wake starts a Spring, whose members are ordered ON one after
another; a Spring ends in Summer; a group that may leave Summer enters Autumn after its idle time, by choice where room is
wanted, or by SLEEP; a quiet Autumn ends in Winter. WAKE and SLEEP leave RESULT. Journalling, the order of single slots, one
Autumn at a time and SLEEP outside Summer are the model's (log entries 35 to 38). -/
def Obligations.SeasonChanges : Prop :=
  ∀ (s : State) (g req : Nat) (x : Group), groupOf s g = some x →
    (s.rules = true → firstFit s (wakeOrder s) = .group g →
      ∃ t x', exec .wakeAdmit s = .next t ∧ Quiet s t ∧ groupOf t g = some x' ∧ x'.season = .spring ∧ x'.wake = none ∧ x'.w = x.w ∧
        x.since + regField s zsqPage O.ZSQ_SEASON_TMG 8 8 * 800000 ≤ t.time.now) ∧
    (∀ n, s.rules = true → firstFit s (wakeOrder s) = .slot n → (chanOf s n).st ≠ .ready →
      ∃ t, exec .wakeAdmit s = .next t ∧ chanOf t n = { chanOf s n with ownSeason := 1, ownWake := false } ∧
        (regOf t zsqPage O.ZSQ_SPRING_CNT).toNat = min 0xFFFFFFFF ((regOf s zsqPage O.ZSQ_SPRING_CNT).toNat + 1) ∧
        (∀ k, k ≠ n → chanOf t k = chanOf s k) ∧ t = { s with channels := t.channels, regs := t.regs }) ∧
    (∀ n, g < 12 → s.rules = true → x.season = .spring → (springSlots x)[x.ramped]? = some n →
      ∃ t x', exec (.springStagger g) s = .next t ∧ Quiet s t ∧ groupOf t g = some x' ∧ x'.ramped = x.ramped + 1 ∧ x'.season = .spring ∧
        x.since + x.ramped * (regField s zsqPage O.ZSQ_SEASON_TMG 0 8 * 800000) ≤ t.time.now) ∧
    (g < 12 → s.rules = true → x.season = .spring → x.lost = false →
      ∃ t x', exec (.springEnd g) s = .next t ∧ Quiet s t ∧ groupOf t g = some x' ∧ x'.season = .summer ∧
        ((springSlots x).all (memberUp s) = false →
          x.since + regField s zsqPage O.ZSQ_SEASON_TMG 16 16 * 800000 ≤ t.time.now)) ∧
    (g < 12 → s.rules = true → mayAutumn s g x = true →
      ∃ t x', exec (.idleTimeout g) s = .next t ∧ Quiet s t ∧ groupOf t g = some x' ∧ x'.season = .autumn ∧ t.commands = s.commands ∧
        x.idleAt + regField s zsqPage O.ZSQ_SEASON_CFG 0 12 * 800000000 ≤ t.time.now ∧
        (regOf t zsqPage O.ZSQ_AUTUMN_CNT).toNat = min 0xFFFFFFFF ((regOf s zsqPage O.ZSQ_AUTUMN_CNT).toNat + 1)) ∧
    (s.rules = true → roomWanted s = true → autumnCandidates s ≠ [] →
      ∃ t c x', exec .autumnChoice s = .next t ∧ Quiet s t ∧ c ∈ autumnCandidates s ∧
        (∀ e ∈ autumnCandidates s, chosenBefore s e c = false) ∧ groupOf t c.1 = some x' ∧ x'.season = .autumn ∧
        t.commands = s.commands) ∧
    (g < 12 → s.rules = true → x.season = .autumn → x.lost = false →
      (autumnQuiet s g x = true →
        ∃ t x', exec (.autumnEnd g) s = .next t ∧ Quiet s t ∧ groupOf t g = some x' ∧ x'.season = .winter) ∧
      (autumnQuiet s g x = false →
        ∃ t x', exec (.autumnEnd g) s = .next t ∧ Quiet s t ∧ groupOf t g = some x' ∧ x'.season = .autumn ∧ x'.jrnlPage = [])) ∧
    (g < 12 → writeReaches s req zsqPage O.ZSQ_SEASON_CMD = true →
      (x.lost = false → x.season = .winter ∨ x.season = .autumn →
        ∃ t x', exec (.seasonWake req g) s = .next t ∧ groupOf t g = some x' ∧ x'.wake.isSome = true ∧ x'.season = x.season ∧
          (regField t zsqPage O.ZSQ_SEASON_CMD 24 4 = 0 ∨ regField t zsqPage O.ZSQ_SEASON_CMD 24 4 = 3) ∧
          t = { s with groups := t.groups, wakeSeq := t.wakeSeq, regs := t.regs, pages := t.pages }) ∧
      (x.lost = false → x.season = .spring ∨ x.season = .summer →
        ∃ t, exec (.seasonWake req g) s = .next t ∧ regField t zsqPage O.ZSQ_SEASON_CMD 24 4 = 0 ∧
          t = { s with regs := t.regs, pages := t.pages }) ∧
      (x.lost = true →
        ∃ t, exec (.seasonWake req g) s = .next t ∧ regField t zsqPage O.ZSQ_SEASON_CMD 24 4 = 2 ∧
          t = { s with regs := t.regs, pages := t.pages }) ∧
      (mayAutumn s g x = true →
        ∃ t x', exec (.seasonSleep req g) s = .next t ∧ Quiet s t ∧ groupOf t g = some x' ∧ x'.season = .autumn ∧
          regField t zsqPage O.ZSQ_SEASON_CMD 24 4 = 0) ∧
      (mayAutumn s g x = false →
        ∃ t, exec (.seasonSleep req g) s = .next t ∧ regField t zsqPage O.ZSQ_SEASON_CMD 24 4 = 2 ∧
          t = { s with regs := t.regs, pages := t.pages }))

/-- READ (R20, R66 to R68, R92, R100, R102): an accepted read of an OFFLINE zone fails; sectors without data go to the host
as zeros at once, or to sealing on a sealed connection; sectors on the medium are looked up and their page reads wait at the
slot links; a group that is not in Summer is woken, and the read waits, or fails for a Patrol-only namespace. That ZSQ has to
accept is the model's reading (log entry 29). -/
def Obligations.HostReads : Prop :=
  ∀ (s : State) (n : Nat) (k : Capsule) (z : Zone), Arrives s n k → capsulePasses s n k = true → k.op = 0x01 → zsqTakes s = true →
    z = zoneOf s k.ns k.zone →
    (z.st = .offline → ∃ t, exec (.read n) s = .next t ∧ Taken s t n ∧ Posted t n k.cid 0x05 0 ∧ t.zones = s.zones) ∧
    (z.st ≠ .offline → (∀ g, z.group = some g → inSummer s g = true) →
      ((∀ i, i < k.len → sectorCase z (k.offset + i) = .zeros) →
        ((connOf s n).sealed = false →
          ∃ t, exec (.read n) s = .next t ∧ Taken s t n ∧
            .rdmaWrite n k.cid k.bufKey k.bufAddr (zeros (4096 * k.len)) ∈ t.outs ∧
            (∃ d, t.commands.get s.accepted = some d ∧ d.phase = .delivering ∧ d.conn = n ∧ d.cid = k.cid ∧
              d.zeroed = decide (0 < k.len)) ∧ t.zones = s.zones ∧ t.links = s.links) ∧
        ((connOf s n).sealed = true →
          ∃ t, exec (.read n) s = .next t ∧ Taken s t n ∧
            (∃ d, t.commands.get s.accepted = some d ∧ d.phase = .sealing ∧ d.payload = zeros (4096 * k.len) ∧
              d.jobsLeft = ceilDiv (4096 * k.len) 65536) ∧
            (t.crypto.queue <:+ s.crypto.queue ++ (List.range (ceilDiv (4096 * k.len) 65536)).map fun i =>
              ⟨.gcmSeal, n, s.accepted, i⟩) ∧ t.zones = s.zones)) ∧
      (0 < k.len → (∀ g i, z.group = some g → i < k.len → sectorCase z (k.offset + i) = .data ∧
          s.logMap.get (logKey k.ns k.zone (k.offset + i)) = none ∧
          ∃ key at_ st p, sectorStripe s k.ns k.zone (k.offset + i) = some (key, at_) ∧ s.stripes.get key = some st ∧
            st.strips.get (dataMember st.w st.dual (keyStripe key) (at_ / 64)) = some p ∧ slotServes s g p.slot = true) →
        z.group.isSome = true →
        ∃ t, exec (.read n) s = .next t ∧ Taken s t n ∧
          (∃ d, t.commands.get s.accepted = some d ∧ d.phase = .reading ∧ d.offset = k.offset ∧ d.len = k.len ∧ d.ns = k.ns ∧
            d.zone = k.zone ∧ (∀ i, i < k.len → d.want.contains (k.offset + i) = true)) ∧
          (∀ i, i < k.len → ∃ slot w cw, w ∈ (t.links.getD slot {}).waiting ∧ w.op = 0x01 ∧ w.arg = 0 ∧
            (cw, .host s.accepted (k.offset + i)) ∈ w.cws) ∧ t.zones = s.zones)) ∧
    (∀ g x, z.st ≠ .offline → z.group = some g → groupOf s g = some x → x.season = .winter → x.lost = false →
      ((nsOf s k.ns).cls ≠ .patrol →
        ∃ t, exec (.read n) s = .next t ∧ Taken s t n ∧
          (∃ d, t.commands.get s.accepted = some d ∧ d.phase = .summerWait ∧ d.born = s.time.now) ∧
          (∃ x', groupOf t g = some x' ∧ x'.wake.isSome = true) ∧ t.zones = s.zones) ∧
      ((nsOf s k.ns).cls = .patrol →
        ∃ t, exec (.read n) s = .next t ∧ Taken s t n ∧ Posted t n k.cid 0x0A 0 ∧
          (∃ x', groupOf t g = some x' ∧ x'.wake.isSome = true) ∧ t.zones = s.zones))

/-- What hosts ask for (R69, R106 to R108, R276, R286): ZONE_REPORT, IDENTIFY and GET_LOG send their bytes to the host's
buffer by RDMA WRITE: the descriptors of the zones, whose marks they clear for the connection, the controller's and the
namespace's data, the list of namespaces, and a log from a sector on, with zeros beyond its end. What an unsettled role
serves, the bytes of an UNUSED namespace and the ends of the logs are the model's (log entries 28, 32, 68). -/
def Obligations.HostReports : Prop :=
  ∀ (s : State) (n : Nat) (k : Capsule), Arrives s n k → capsulePasses s n k = true →
    (k.op = 0x09 → zsqTakes s = true →
      ∃ t data, exec (.zoneReport n) s = .next t ∧ Taken s t n ∧ .rdmaWrite n k.cid k.bufKey k.bufAddr data ∈ t.outs ∧
        data.length = 32 * k.len ∧
        (∀ i, i < k.len → slice data (32 * i) 32 = zoneDescriptor s n k.ns (k.zone + i)) ∧
        (∀ i, i < k.len → (zoneOf t k.ns (k.zone + i)).marked n = false ∧
          (zoneOf t k.ns (k.zone + i)).st = (zoneOf s k.ns (k.zone + i)).st ∧
          (zoneOf t k.ns (k.zone + i)).accepted = (zoneOf s k.ns (k.zone + i)).accepted)) ∧
    (k.op = 0x10 →
      (k.arg = 0 →
        ∃ t data, exec (.identifyController n) s = .next t ∧ Taken s t n ∧ .rdmaWrite n k.cid k.bufKey k.bufAddr data ∈ t.outs ∧
          data.length = 4096 ∧ leField data 0 2 = 0x5E1A ∧ leField data 2 2 = 0x4896 ∧ leField data 4 1 = s.boot.ctrlId % 256 ∧
          leField data 5 1 = (if servesLittle s then 0 else 1) ∧ leField data 8 4 = claimOf s % 2 ^ 32 ∧
          leField data 20 2 = 4096 ∧ leField data 22 2 = (connOf s n).grant % 65536 ∧ t.zones = s.zones) ∧
      (k.arg = 1 → (nsOf s k.ns).st ≠ .unused →
        ∃ t data, exec (.identifyNamespace n) s = .next t ∧ Taken s t n ∧ .rdmaWrite n k.cid k.bufKey k.bufAddr data ∈ t.outs ∧
          data.length = 4096 ∧ leField data 0 2 = k.ns ∧ leField data 2 1 = (nsOf s k.ns).st.code ∧
          leField data 3 1 = (nsOf s k.ns).cls.code ∧ leField data 4 1 = (nsOf s k.ns).shift % 256 ∧
          leField data 6 2 = (nsOf s k.ns).groupSet % 65536 ∧ leField data 8 4 = (nsOf s k.ns).zoneCount % 2 ^ 32 ∧
          t.draws = s.draws ∧ t.zones = s.zones) ∧
      (k.arg = 1 → (nsOf s k.ns).st = .unused →
        ∃ t data, exec (.identifyNamespace n) s = .next t ∧ Taken s t n ∧ .rdmaWrite n k.cid k.bufKey k.bufAddr data ∈ t.outs ∧
          data.length = 4096 ∧ leField data 0 2 = k.ns ∧ leField data 2 1 = 0 ∧ t.zones = s.zones) ∧
      (k.arg = 2 →
        ∃ t data, exec (.identifyNsList n) s = .next t ∧ Taken s t n ∧ .rdmaWrite n k.cid k.bufKey k.bufAddr data ∈ t.outs ∧
          data.length = 4096 ∧
          leField data 0 2 = (s.namespaces.entries.filter fun e => decide (e.2.st ≠ .unused)).length % 65536 ∧ t.zones = s.zones)) ∧
    (k.op = 0x11 →
      (∀ (i : Instr) (arg : Nat) (log : List Byte),
        (i, arg, log) ∈ ([(.getLogError n, 1, errorLogBytes s), (.getLogHealth n, 2, healthLogBytes s),
          (.getLogLoss n, 3, lossLogBytes s k.ns)] : List (Instr × Nat × List Byte)) → k.arg = arg →
        ∃ t data, exec i s = .next t ∧ Taken s t n ∧ .rdmaWrite n k.cid k.bufKey k.bufAddr data ∈ t.outs ∧
          data.length = 4096 * k.len ∧ (∀ j, j < 4096 * k.len → data[j]? = some ((log[4096 * k.offset + j]?).getD 0#8)) ∧
          (∃ d, t.commands.get s.accepted = some d ∧ d.phase = .delivering ∧
            d.zeroed = decide (ceilDiv log.length 4096 < k.offset + k.len)) ∧ t.zones = s.zones ∧ t.losses = s.losses))

/-- WRITE and APPEND (R58, R63, R68, R77, R92, R93): ZSQ's checks give a status, or accept the write: an EMPTY or CLOSED zone
opens, the accepted pointer advances by the length, an APPEND is given the old one as its offset, and the write waits for
windows, or for its group's Summer. Windows go to the first write in acceptance order that can take them, and an XRDY with
their keys is posted. That ZSQ has to accept, and that the command picks the free entries, are the model's (log entries 14,
29). -/
def Obligations.HostWrites : Prop :=
  ∀ (s : State) (n : Nat) (k : Capsule) (z : Zone), z = zoneOf s k.ns k.zone →
    (∀ (i : Instr), Arrives s n k → capsulePasses s n k = true → zsqTakes s = true →
      (i, k.op) ∈ ([(.write n, 0x02), (.append n, 0x03)] : List (Instr × Nat)) →
      (∀ st, checkWrite s n k.ns k.zone (decide (k.op = 0x03)) k.offset k.len = .status st →
        ∃ t, exec i s = .next t ∧ Taken s t n ∧ Posted t n k.cid st 0 ∧ t.zones = s.zones ∧
          (st = 0x0B → bit (getPage t zsqPage).intRaw 0 = true)) ∧
      (checkWrite s n k.ns k.zone (decide (k.op = 0x03)) k.offset k.len = .accept none → z.st = .opened →
        ∃ t d, exec i s = .next t ∧ Taken s t n ∧ t.commands.get s.accepted = some d ∧ d.op = k.op ∧ d.conn = n ∧ d.cid = k.cid ∧
          d.offset = z.accepted ∧ d.len = k.len ∧ d.seq = s.accepted ∧ d.credit = true ∧
          ((∀ g, z.group = some g → inSummer s g = true) → d.phase = .windowWait) ∧
          (∀ g, z.group = some g → inSummer s g = false → d.phase = .summerWait) ∧
          zoneOf t k.ns k.zone = { z with accepted := z.accepted + k.len } ∧
          (∀ ns zi, zoneKey ns zi ≠ zoneKey k.ns k.zone → zoneOf t ns zi = zoneOf s ns zi) ∧ t.accepted = s.accepted + 1 ∧
          t.regions = s.regions) ∧
      (∀ g x, checkWrite s n k.ns k.zone (decide (k.op = 0x03)) k.offset k.len = .accept (some g) → groupOf s g = some x →
          x.noRedundancy = false → x.lost = false → inSummer s g = true → s.buffers.get (zoneKey k.ns k.zone) = none →
        ∃ t d, exec i s = .next t ∧ Taken s t n ∧ t.commands.get s.accepted = some d ∧ d.phase = .windowWait ∧ d.offset = 0 ∧ d.len = k.len ∧
          (zoneOf t k.ns k.zone).st = .opened ∧ (zoneOf t k.ns k.zone).group = some g ∧
          (zoneOf t k.ns k.zone).accepted = k.len ∧ (zoneOf t k.ns k.zone).written = 0 ∧
          (zoneOf t k.ns k.zone).capacity =
            capacityFor (nsOf s k.ns).shift (dataStrips (placingGeometry s g).1 (placingGeometry s g).2)) ∧
      (checkWrite s n k.ns k.zone (decide (k.op = 0x03)) k.offset k.len = .accept none → z.st = .closed → z.group = none →
        ∃ t d, exec i s = .next t ∧ Taken s t n ∧ t.commands.get s.accepted = some d ∧ d.phase = .windowWait ∧ d.offset = z.accepted ∧
          (zoneOf t k.ns k.zone).st = .opened ∧ (zoneOf t k.ns k.zone).accepted = z.accepted + k.len)) ∧
    (∀ q c ks, nextForWindows s = some (q, c) → accepting s stgPage = true → ks.length = c.windowCount →
        windowsUsed s + ks.length ≤ 16384 → keysFree s ks = true → (connOf s c.conn).st = .ready → (connOf s c.conn).waiting = [] →
        s.pair.role ≠ .isolated →
      (∃ t d, exec (.windowAllocate ks) s = .next t ∧ Quiet s t ∧ t.commands.get q = some d ∧ d.windows = ks ∧
        d.cid = c.cid ∧ d.len = c.len ∧
        (∀ i key, ks[i]? = some key → (regionOf t key).st = .valid ∧ (regionOf t key).kind = .window ∧
          (regionOf t key).owner = c.conn ∧ (regionOf t key).len = min 1048576 (c.len * 4096 - i * 1048576) ∧
          (regionOf t key).gen = (regionOf s key).gen ∧ (regionOf t key).canWrite = true ∧ (regionOf t key).placed = 0) ∧
        (∀ key, key ∉ ks → regionOf t key = regionOf s key) ∧ t.zones = s.zones ∧
        ((connOf s c.conn).nextEntry + 1 + ks.length ≤ (connOf s c.conn).cqHead + 2 ^ (connOf s c.conn).cqShift →
          d.phase = .dataWait ∧ d.deadline = some (s.time.now + regField s cmdPage O.CMD_DATA_TMO 0 16 * 800000) ∧
          (∃ typ head grant, .entry c.conn (connOf s c.conn).nextEntry c.cid 0 typ head grant ks.length ∈ t.outs) ∧
          (∀ i key, ks[i]? = some key → ∃ typ, .windowEntry c.conn ((connOf s c.conn).nextEntry + 1 + i) c.cid i typ
            (key * 256 + (regionOf s key).gen) (min 1048576 (c.len * 4096 - i * 1048576)) ∈ t.outs)) ∧
        ((connOf s c.conn).cqHead + 2 ^ (connOf s c.conn).cqShift < (connOf s c.conn).nextEntry + 1 + ks.length → 
          d.phase = .xrdyWait)))

/-- What is turned away at intake and acceptance (R53, R76, R85 to R88, R113): every capsule row answers a capsule that fails
the checks of its fields, its CID or its credit with a REJECTED entry, without a credit; a standby, a missing right and the
namespace's state give their status. A capsule with an unlisted opcode is INVALID_OPCODE. Which row takes a capsule, and what
an unsettled role serves, are the model's (log entries 25, 28, 29). -/
def Obligations.CapsuleRefusals : Prop :=
  ∀ (s : State) (n : Nat) (k : Capsule), Arrives s n k → zsqTakes s = true →
    ∀ (i : Instr) (op : Nat) (args : List Nat),
      (i, op, args) ∈ ([(.read n, 0x01, [0]), (.write n, 0x02, [0]), (.append n, 0x03, [0]), (.dataDone n, 0x04, [0]),
        (.flush n, 0x05, [0]), (.zoneOpen n, 0x08, [0]), (.zoneClose n, 0x08, [1]), (.zoneFinish n, 0x08, [2]),
        (.zoneReset n, 0x08, [3]), (.zoneReport n, 0x09, [0]), (.identifyController n, 0x10, [0]),
        (.identifyNamespace n, 0x10, [1]), (.identifyNsList n, 0x10, [2]), (.getLogError n, 0x11, [1]),
        (.getLogHealth n, 0x11, [2]), (.getLogLoss n, 0x11, [3]), (.tokenAttach n, 0x18, [1, 16]),
        (.tokenDetach n, 0x18, [257, 272]), (.queueReset n, 0x1F, [0])] : List (Instr × Nat × List Nat)) →
      (k.op = op → k.arg ∈ args → 
        (∀ st, intakeStatus s n k = some st →
          ∃ t, exec i s = .next t ∧ Taken s t n ∧ Posted t n k.cid st (2 ^ 63 + op) ∧ t.accepted = s.accepted ∧
            t.zones = s.zones ∧ t.groups = s.groups) ∧
        (op ≠ 0x04 → intakeStatus s n k = none →
          (servesLittle s = true → op ≠ 0x10 → op ≠ 0x18 → op ≠ 0x1F →
            ∃ t, exec i s = .next t ∧ Taken s t n ∧ Posted t n k.cid 0x0A 0 ∧ t.zones = s.zones ∧ t.groups = s.groups) ∧
          (servesLittle s = false →
            (tokenOk s n k = false →
              ∃ t, exec i s = .next t ∧ Taken s t n ∧ Posted t n k.cid 0x06 0 ∧ t.zones = s.zones ∧ t.groups = s.groups) ∧
            (∀ st, tokenOk s n k = true → nsStatus s k = some st →
              ∃ t, exec i s = .next t ∧ Taken s t n ∧ Posted t n k.cid st 0 ∧ t.zones = s.zones ∧ t.groups = s.groups)))) ∧
      (k.known = false →
        ∃ t, exec (.invalidOpcodeCapsule n) s = .next t ∧ Taken s t n ∧ Posted t n k.cid 0x01 (2 ^ 63 + k.op) ∧
          t.accepted = s.accepted ∧ t.zones = s.zones ∧
          (regOf t cmdPage O.CMD_REJECT_CNT).toNat = min 0xFFFFFFFF ((regOf s cmdPage O.CMD_REJECT_CNT).toNat + 1))

/-- A write after its XRDY, and commands that wait (R64, R68, R96 to R99, R104, R110 to R112): DATA_DONE ends the data
timeout; drained windows that hold every byte make the write valid, or send its chunks to be checked, others fail it with
DATA_LENGTH; a data timeout and a wake limit fail it; FLUSH completes once the writes it covers have; QUEUE_RESET aborts what
is queued; a capsule held for 250 ms is answered RETRY_LATER. A write that fails before placement takes the accepted pointer
back. What a QUEUE_RESET leaves alone is the model's reading (log entry 61). -/
def Obligations.DataPhases : Prop :=
  ∀ (s : State) (n cid q : Nat) (c : Command), n < 4096 →
    (∀ k, Arrives s n k → k.op = 0x04 → intakeStatus s n k = none → findCmd s n k.cid = some (q, c) →
      ∃ t, exec (.dataDone n) s = .next t ∧ t.commands.get q = some { c with phase := .draining, deadline := none } ∧
        (∀ m, m ≠ q → t.commands.get m = s.commands.get m) ∧ Taken s t n ∧ t.zones = s.zones ∧ t.accepted = s.accepted) ∧
    (findCmd s n cid = some (q, c) → c.phase = .draining → (∀ i ∈ c.windows, (regionOf s i).inflight = 0) →
      (windowsFull s c = true → (connOf s n).sealed = false →
        ∃ t, exec (.dataDoneDrained n cid) s = .next t ∧ t = { s with commands := s.commands.set q { c with phase := .valid } }) ∧
      (windowsFull s c = true → (connOf s n).sealed = true →
        ∃ t, exec (.dataDoneDrained n cid) s = .next t ∧
          t.commands = s.commands.set q { c with phase := .sealCheck, jobsLeft := ceilDiv c.len 16 } ∧
          (t.crypto.queue <:+ s.crypto.queue ++ (List.range (ceilDiv c.len 16)).map fun i => ⟨.gcmOpen, n, q, i⟩) ∧
          t = { s with commands := t.commands, crypto := t.crypto, regs := t.regs, pages := t.pages }) ∧
      (windowsFull s c = false → c.op = 0x02 ∨ c.op = 0x03 → s.commands.get q = some c → c.conn = n → c.aborted = false →
          (connOf s n).st = .ready →
        ∃ t, exec (.dataDoneDrained n cid) s = .next t ∧ Quiet s t ∧ Posted t n cid 0x0D 0 ∧
          (zoneOf t c.ns c.zone).accepted = c.offset ∧
          (∀ i ∈ c.windows, (regionOf s i).st = .valid → (regionOf t i).st = .revoking))) ∧
    (findCmd s n cid = some (q, c) → s.commands.get q = some c → c.op = 0x02 ∨ c.op = 0x03 → c.aborted = false →
        (connOf s n).st = .ready →
      (∀ d, c.phase = .dataWait → c.deadline = some d →
        ∃ t, exec (.dataTimeout n cid) s = .next t ∧ Quiet s t ∧ Posted t n cid 0x0C 0 ∧ d ≤ t.time.now ∧
          (zoneOf t c.ns c.zone).accepted = c.offset ∧ bit (getPage t cmdPage).intRaw 1 = true ∧
          (regOf t cmdPage O.CMD_TMO_CNT).toNat = min 0xFFFFFFFF ((regOf s cmdPage O.CMD_TMO_CNT).toNat + 1)) ∧
      (c.phase = .summerWait →
        ∃ t, exec (.wakeLimitExpiry n cid) s = .next t ∧ Quiet s t ∧ Posted t n cid 0x0A 0 ∧
          c.born + (nsOf s c.ns).wakeLimit * 800000000 ≤ t.time.now ∧ (zoneOf t c.ns c.zone).accepted = c.offset)) ∧
    (findCmd s n cid = some (q, c) → s.commands.get q = some c → c.op = 0x01 → c.aborted = false → (connOf s n).st = .ready →
        c.phase = .summerWait ∨ c.phase = .memberWait →
      ∃ t, exec (.wakeLimitExpiry n cid) s = .next t ∧ Quiet s t ∧ Posted t n cid 0x0A 0 ∧ t.zones = s.zones) ∧
    (∀ k, Arrives s n k → capsulePasses s n k = true →
      (k.op = 0x05 →
        ((cmdsWhere s fun d => d.conn = n && !d.orphan && (d.op = 0x02 || d.op = 0x03)) = [] →
          ∃ t, exec (.flush n) s = .next t ∧ Taken s t n ∧ Posted t n k.cid 0 0 ∧ t.zones = s.zones) ∧
        ((cmdsWhere s fun d => d.conn = n && !d.orphan && (d.op = 0x02 || d.op = 0x03)) ≠ [] → s.commands.get s.accepted = none →
          ∃ t d, exec (.flush n) s = .next t ∧ Taken s t n ∧ t.commands.get s.accepted = some d ∧ d.phase = .barrier ∧
            d.awaits = (cmdsWhere s fun d => d.conn = n && !d.orphan && (d.op = 0x02 || d.op = 0x03)) ∧ t.zones = s.zones)) ∧
      (k.op = 0x1F → (∀ e ∈ s.commands.values, e.conn ≠ n) →
        ∃ t, exec (.queueReset n) s = .next t ∧ Taken s t n ∧ Posted t n k.cid 0 0 ∧ (connOf t n).resetting = false ∧
          t.zones = s.zones) ∧
      (k.op = 0x1F →
        ∃ t, exec (.queueReset n) s = .next t ∧ Quiet s t ∧ t.accepted = s.accepted + 1 ∧
          (∀ r d, s.commands.get r = some d → r < s.accepted → d.conn = n → d.orphan = false → d.seq < s.accepted → d.op = 0x01 →
            d.phase = .summerWait → Posted t n d.cid 0x09 0))) ∧
    (∀ b at_ number rest, (connOf s n).heldCaps = (b, at_, number) :: rest → holdActive s = true → (connOf s n).st = .ready →
      ∃ t, exec (.holdOverrun n) s = .next t ∧ Quiet s t ∧ Posted t n (parseCapsule b).cid 0x0A 0 ∧
        (connOf t n).heldCaps = rest ∧ at_ + 200000000 ≤ t.time.now ∧ bit (getPage t cmdPage).intRaw 0 = true ∧
        t.zones = s.zones ∧ t.accepted = s.accepted)

/-- ZONE_MGMT (R55, R57 to R59, R61, R65, R105): a held zone turns it away; open makes an EMPTY or CLOSED zone OPEN on its
group; close, finish and reset take hold of the zone and go on once its writes have ended: a close leaves it CLOSED, or EMPTY
with nothing written; a finish leaves it FULL, with its fill point and both pointers at the capacity; a reset leaves it
EMPTY. What becomes of a zone that changed while the command waited is the model's (log entries 29, 31). -/
def Obligations.ZoneManagement : Prop :=
  ∀ (s : State) (n : Nat) (k : Capsule) (z : Zone),
    (Arrives s n k → capsulePasses s n k = true → zsqTakes s = true → k.op = 0x08 → z = zoneOf s k.ns k.zone →
      (∀ (i : Instr) (arg : Nat),
        (i, arg) ∈ ([(.zoneOpen n, 0), (.zoneClose n, 1), (.zoneFinish n, 2), (.zoneReset n, 3)] : List (Instr × Nat)) →
        k.arg = arg → z.hold.isSome = true →
        ∃ t, exec i s = .next t ∧ Taken s t n ∧ Posted t n k.cid 0x05 0 ∧ t.zones = s.zones) ∧
      (z.hold = none →
        (k.arg = 0 →
          (z.st ≠ .empty → z.st ≠ .closed →
            ∃ t, exec (.zoneOpen n) s = .next t ∧ Taken s t n ∧ Posted t n k.cid 0x05 0 ∧ t.zones = s.zones) ∧
          (z.st = .empty ∨ z.st = .closed → openLimitReached s = true →
            ∃ t, exec (.zoneOpen n) s = .next t ∧ Taken s t n ∧ Posted t n k.cid 0x0B 0 ∧ t.zones = s.zones ∧
              bit (getPage t zsqPage).intRaw 0 = true) ∧
          (∀ g x, z.st = .empty → z.group = none → openLimitReached s = false → chooseGroup s k.ns = some g →
              groupOf s g = some x → x.noRedundancy = false →
            ∃ t, exec (.zoneOpen n) s = .next t ∧ Taken s t n ∧ Posted t n k.cid 0 0 ∧
              (zoneOf t k.ns k.zone).st = .opened ∧ (zoneOf t k.ns k.zone).group = some g ∧
              (zoneOf t k.ns k.zone).accepted = 0 ∧ (zoneOf t k.ns k.zone).written = 0)) ∧
        (k.arg = 1 →
          (z.st ≠ .opened → ∃ t, exec (.zoneClose n) s = .next t ∧ Taken s t n ∧ Posted t n k.cid 0x05 0 ∧ t.zones = s.zones) ∧
          (z.st = .opened → s.commands.get s.accepted = none →
            ∃ t d, exec (.zoneClose n) s = .next t ∧ Taken s t n ∧ zoneOf t k.ns k.zone = { z with hold := some s.accepted } ∧
              t.commands.get s.accepted = some d ∧ d.phase = .holding ∧ d.arg = 1)) ∧
        (k.arg = 2 →
          (z.st = .empty →
            ∃ t, exec (.zoneFinish n) s = .next t ∧ Taken s t n ∧ Posted t n k.cid 0 0 ∧ (zoneOf t k.ns k.zone).st = .full ∧
              (zoneOf t k.ns k.zone).group = none ∧ (zoneOf t k.ns k.zone).fill = some 0 ∧
              (zoneOf t k.ns k.zone).written = emptyCapacity s k.ns ∧ (zoneOf t k.ns k.zone).accepted = emptyCapacity s k.ns) ∧
          (z.st = .full ∨ z.st = .offline →
            ∃ t, exec (.zoneFinish n) s = .next t ∧ Taken s t n ∧ Posted t n k.cid 0x05 0 ∧ t.zones = s.zones)) ∧
        (k.arg = 3 → 
          (z.st = .empty → ∃ t, exec (.zoneReset n) s = .next t ∧ Taken s t n ∧ Posted t n k.cid 0 0 ∧ t.zones = s.zones) ∧
          (z.st ≠ .empty → z.group = none → (zoneWrites s k.ns k.zone) = [] → s.pair.mirror ≠ .mirroring → s.commands.get s.accepted = none →
            ∃ t, exec (.zoneReset n) s = .next t ∧ Taken s t n ∧ Posted t n k.cid 0 0 ∧ (zoneOf t k.ns k.zone).st = .empty ∧
              (zoneOf t k.ns k.zone).accepted = 0 ∧ (zoneOf t k.ns k.zone).written = 0 ∧ (zoneOf t k.ns k.zone).lost = [] ∧
              (zoneOf t k.ns k.zone).hold = none)))) ∧
    (∀ cid q (c : Command), n < 4096 →
        (s.commands.entries.find? fun e => e.2.conn = n && e.2.cid = cid && e.2.op = 0x08 && e.2.phase = .holding) = some (q, c) →
        s.commands.get q = some c → z = zoneOf s c.ns c.zone → z.hold = some q → (zoneWrites s c.ns c.zone) = [] →
        c.orphan = false → c.aborted = false → (connOf s n).st = .ready →
      (c.arg = 1 → z.st = .opened → 0 < z.written →
        ∃ t, exec (.zoneMgmtComplete n cid) s = .next t ∧ Quiet s t ∧ Posted t n cid 0 0 ∧
          zoneOf t c.ns c.zone = { z with st := .closed, hold := none }) ∧
      (c.arg = 2 → c.count = 1 → c.jobsLeft = 0 → c.stripesLeft = [] → z.st = .opened ∨ z.st = .closed →
        ∃ t, exec (.zoneMgmtComplete n cid) s = .next t ∧ Quiet s t ∧ Posted t n cid 0 0 ∧
          zoneOf t c.ns c.zone = { z with st := .full, fill := some z.written, accepted := z.capacity, written := z.capacity,
                                          placed := z.capacity, hold := none }) ∧
      (c.arg = 3 → c.recNo = 0 → z.group = none → s.pair.mirror ≠ .mirroring →
        ∃ t, exec (.zoneMgmtComplete n cid) s = .next t ∧ Quiet s t ∧ Posted t n cid 0 0 ∧
          (zoneOf t c.ns c.zone).st = .empty ∧ (zoneOf t c.ns c.zone).hold = none ∧ (zoneOf t c.ns c.zone).written = 0)) ∧
    (∀ ns, ns < 1024 → (nsOf s ns).st = .retiring → zsqTakes s = true → worksBehind s = true →
      (nextZone s ns = none →
        ∃ t, exec (.nsZoneRelease ns) s = .next t ∧ Quiet s t ∧ (nsOf t ns).st = .unused ∧
          (∀ m, m ≠ ns → nsOf t m = nsOf s m)) ∧
      (∀ zi, nextZone s ns = some zi → (zoneOf s ns zi).group = none → zi < 1048576 →
        ∃ t, exec (.nsZoneRelease ns) s = .next t ∧ Quiet s t ∧ (zoneOf t ns zi).st = .empty ∧
          (∀ m, m ≠ ns → nsOf t m = nsOf s m)))

/-- Access tokens (R72 to R75, R109): TOKEN_ATTACH reads 160 bytes from the host, unless the time is not set or CRY is
halted; a token that passes R73 stands under its handle, and its completion carries the expiry; another is entered in the
security log and fails; TOKEN_DETACH empties the handle. The byte order of addresses, and the codes that the logs take, are
the model's (log entries 33, 34). -/
def Obligations.AccessTokens : Prop :=
  ∀ (s : State) (n cid q : Nat) (k : Capsule) (c : Command) (data : List Byte) (tagOk : Bool),
    (Arrives s n k → capsulePasses s n k = true → k.op = 0x18 →
      (1 ≤ k.arg → k.arg ≤ 16 →
        (s.time.isSet = false ∨ s.crypto.halted = true →
          ∃ t, exec (.tokenAttach n) s = .next t ∧ Taken s t n ∧ Posted t n k.cid 0x0A 0 ∧
            (connOf t n).tokens = (connOf s n).tokens) ∧
        (s.time.isSet = true → s.crypto.halted = false →
          ∃ t d, exec (.tokenAttach n) s = .next t ∧ Taken s t n ∧ t.commands.get s.accepted = some d ∧ d.phase = .tokenRead ∧
            d.arg = k.arg ∧ .rdmaRead n k.cid k.bufKey k.bufAddr 160 ∈ t.outs ∧ (connOf t n).tokens = (connOf s n).tokens)) ∧
      (257 ≤ k.arg → k.arg ≤ 272 →
        ∃ t, exec (.tokenDetach n) s = .next t ∧ Taken s t n ∧ Posted t n k.cid 0 0 ∧
          (connOf t n).tokens = (connOf s n).tokens.erase (k.arg - 256))) ∧
    (n < 4096 → findCmd s n cid = some (q, c) → s.commands.get q = some c → c.phase = .tokenRead → c.aborted = false → c.op = 0x18 →
        (connOf s n).st = .ready → s.crypto.halted = false →
      (tokenFault s n data tagOk = none →
        ∃ t, exec (.rdmaReadResponse n cid data tagOk) s = .next t ∧ Quiet s t ∧
          (connOf t n).tokens.get (c.arg % 256) = some ⟨leField data 4 4, ((s.sec.tvk.get (leField data 4 4)).map (·.2)).getD 0,
            leField data 8 8, leField data 0x10 4, leField data 0x20 8, tokenRanges data⟩ ∧
          (∀ h, h ≠ c.arg % 256 → (connOf t n).tokens.get h = (connOf s n).tokens.get h) ∧
          Posted t n cid 0 (leField data 0x20 8)) ∧
      (∀ r, tokenFault s n data tagOk = some r →
        ∃ t, exec (.rdmaReadResponse n cid data tagOk) s = .next t ∧ Quiet s t ∧ Posted t n cid 0x06 0 ∧
          (connOf t n).tokens = (connOf s n).tokens ∧ t.sec.log = (0x100 + r) :: s.sec.log ∧ t.draws = s.draws + 1))

/-- Connection management (R119, R122 to R126, R140, R141, R148, R469): a duplicate REQ is ignored, one that fails a test is
answered with REJ, and one that passes opens the lowest free number in SETUP, with its regions registered; RTU makes it
READY; a SETUP that times out, a DREQ, the end of CLOSING and the reuse of the number. The region register port registers,
revokes and reports an entry, by the tests of R469, and a revoke ends with the entry FREE at its next generation. That the
command picks the region entry, and the drawn PSN, are the model's (log entries 2, 14). -/
def Obligations.Connections : Prop :=
  ∀ (s : State) (n : Nat) (r : CmReq) (k : CmKind) (req e i : Nat),
    exec (.cmIgnored k) s = .next s ∧
    (duplicateReq s r = true → exec (.req r) s = .next s) ∧
    (duplicateReq s r = false →
      (∀ code, rejectCode s r = some code → exec (.req r) s = .next { s with outs := .rej code :: s.outs }) ∧
      (r.serviceId ≠ 0x5E1A489600000001 → rejectCode s r = some 0x0A) ∧
      (∀ e, rejectCode s r = none → freeNumber s = some n → chooseEngine s (flowHash r) = some e → regionFree s r.ring = true →
          (r.priv.getD 1 0#8).toNat % 2 = 0 →
        (s.rng.ready = false → exec (.req r) s = .next { s with reqWait := s.reqWait ++ [r] }) ∧
        (s.rng.ready = true →
          ∃ t, exec (.req r) s = .next t ∧ n < 4096 ∧ (connOf s n).st = .free ∧ (connOf t n).st = .setup ∧ (connOf t n).engine = e ∧
            (connOf t n).ePsn = r.psn ∧ (connOf t n).retryCount = r.retryCount ∧ (connOf t n).sealed = false ∧
            (connOf t n).grant = grantFor s (leField r.priv 4 2) ∧ (connOf t n).deadline = some (s.time.now + 800000000) ∧
            (connOf t n).nPsn < 2 ^ 24 ∧ (∀ m, m ≠ n → connOf t m = connOf s m) ∧
            (regionOf t r.ring).st = .valid ∧ (regionOf t r.ring).owner = n ∧ (regionOf t r.ring).len = 65600 ∧
            (regionOf t r.ring).gen = (regionOf s r.ring).gen ∧ (∀ j, j ≠ r.ring → regionOf t j = regionOf s j) ∧
            t = { s with conns := t.conns, regions := t.regions, draws := t.draws, outs := t.outs }))) ∧
    (n < 4096 →
      ((connOf s n).st = .setup →
        ∃ t, exec (.rtu n) s = .next t ∧ connOf t n = { connOf s n with st := .ready, deadline := none } ∧
          (∀ m, m ≠ n → connOf t m = connOf s m) ∧ t = { s with conns := t.conns }) ∧
      ((connOf s n).st ≠ .setup → exec (.rtu n) s = .next s) ∧
      (∀ d, (connOf s n).st = .setup → (connOf s n).deadline = some d →
        ∃ t, exec (.setupTimeout n) s = .next t ∧ ConnFreed s t n ∧ d ≤ t.time.now ∧ (∀ m, m ≠ n → connOf t m = connOf s m)) ∧
      ((connOf s n).st = .ready ∨ (connOf s n).st = .error ∨ (connOf s n).st = .closing →
        ∃ t, exec (.dreq n) s = .next t ∧ ConnFreed s t n ∧ .drep n ∈ t.outs) ∧
      ((connOf s n).st = .setup ∨ (connOf s n).st = .free → exec (.dreq n) s = .next s) ∧
      ((connOf s n).st = .closing → (connOf s n).ownDreq = true →
        (∃ t, exec (.drep n) s = .next t ∧ ConnFreed s t n ∧ (∀ m, m ≠ n → connOf t m = connOf s m) ∧ t.time = s.time) ∧
        (∀ d, (connOf s n).deadline = some d →
          ∃ t, exec (.drepTimeout n) s = .next t ∧ ConnFreed s t n ∧ d ≤ t.time.now ∧ (∀ m, m ≠ n → connOf t m = connOf s m))) ∧
      (∀ d, (connOf s n).st = .free → (connOf s n).deadline = some d →
        ∃ t, exec (.connNumberReuse n) s = .next t ∧ connOf t n = { connOf s n with deadline := none } ∧ d ≤ t.time.now ∧
          (∀ m, m ≠ n → connOf t m = connOf s m) ∧ Quiet s t)) ∧
    (e < 4 → i = regField s (xptPage e) O.XPT_RT_KEY 8 24 → writeReaches s req (xptPage e) O.XPT_RT_CMD = true →
        bit (regOf s (xptPage e) O.XPT_RT_CMD) 31 = false → (regionOf s i).inflight < 65536 →
      (∀ (c : Instr) (op : Nat), (c, op) ∈ ([(.rtRegister req e, 1), (.rtRevoke req e, 2), (.rtQuery req e, 3)] : List (Instr × Nat)) →
        rtResult s e op ≠ 0 →
        ∃ t, exec c s = .next t ∧ Quiet s t ∧ t.regions = s.regions ∧ field (regOf t (xptPage e) O.XPT_RT_STAT) 24 4 = rtResult s e op ∧
          ((getPage s (xptPage e)).errCount = 0 →
            (getPage t (xptPage e)).errCode = 0x0101 ∧ (getPage t (xptPage e)).errAddr = i * 256 + rtResult s e op) ∧
          bit (regOf t (xptPage e) O.XPT_RT_CMD) 31 = false) ∧
      (∀ op owner, op = 1 ∨ op = 2 ∨ op = 3 →
          owner = (if op = 1 then regField s (xptPage e) O.XPT_RT_ATTR 0 12 else (regionOf s i).owner) →
        rtResult s e op =
          if i = 0 ∨ 65535 < i then 1
          else if op = 1 ∧ (regionOf s i).st ≠ .free then 2
          else if op = 2 ∧ (regionOf s i).st ≠ .valid then 3
          else if (op = 3 → (regionOf s i).st ≠ .free) ∧ (connOf s owner).st ≠ .free ∧ (connOf s owner).engine ≠ e then 4
          else if op = 1 ∧ (connOf s owner).st = .free then 5
          else 0) ∧
      (rtResult s e 1 = 0 →
        ∃ t, exec (.rtRegister req e) s = .next t ∧ Quiet s t ∧
          regionOf t i = { rtRegion s e with st := .valid, gen := (regionOf s i).gen } ∧
          (∀ j, j ≠ i → regionOf t j = regionOf s j) ∧ bit (regOf t (xptPage e) O.XPT_RT_CMD) 31 = false ∧
          field (regOf t (xptPage e) O.XPT_RT_KEY) 0 8 = (regionOf s i).gen % 256) ∧
      (rtResult s e 2 = 0 →
        ∃ t, exec (.rtRevoke req e) s = .next t ∧ Quiet s t ∧
          regionOf t i = { regionOf s i with st := .revoking, byPort := some e } ∧
          (∀ j, j ≠ i → regionOf t j = regionOf s j) ∧ bit (regOf t (xptPage e) O.XPT_RT_CMD) 31 = true) ∧
      (rtResult s e 3 = 0 →
        ∃ t, exec (.rtQuery req e) s = .next t ∧ Quiet s t ∧ t.regions = s.regions ∧
          bit (regOf t (xptPage e) O.XPT_RT_CMD) 31 = false ∧
          field (regOf t (xptPage e) O.XPT_RT_STAT) 28 2 = (regionOf s i).st.code ∧
          field (regOf t (xptPage e) O.XPT_RT_STAT) 24 4 = 0 ∧ field (regOf t (xptPage e) O.XPT_RT_STAT) 0 16 = (regionOf s i).inflight)) ∧
    (i < 65536 →
      ((regionOf s i).st = .revoking → (regionOf s i).inflight = 0 →
        ∃ t, exec (.revokeDone i) s = .next t ∧ Quiet s t ∧
          regionOf t i = { st := .free, gen := if (regionOf s i).gen = 255 then 1 else (regionOf s i).gen + 1 } ∧
          (∀ j, j ≠ i → regionOf t j = regionOf s j) ∧
          (∀ p, (regionOf s i).byPort = some p → bit (regOf t (xptPage p) O.XPT_RT_CMD) 31 = false ∧
            bit (getPage t (xptPage p)).intRaw 3 = true)) ∧
      ((regionOf s i).st ≠ .revoking → exec (.revokeDone i) s = .next s))

/-- Packets of a host on a READY connection (R118, R132, R135, R136, R138 to R140, R144, and R79 to R81): a WRITE in sequence
that passes the key check is placed, and nothing beside its bytes is; a READ is answered with the region's bytes, a FLUSH
once they are placed, and one that asks for persistence is refused; a wrong key, or an opcode that is not supported, ends the
connection; a packet ahead of the sequence draws one NAK, a duplicate WRITE an acknowledgement; a context miss parks the
packet. The last byte of a ring slot fires its trigger, and CQ_HEAD moves the copy on. That rings and windows stand beside
DRAM, and that a packet is placed within its command, are the model's (log entries 16, 61). -/
def Obligations.ReceivedRequests : Prop :=
  ∀ (s : State) (n : Nat) (p : Packet) (data : List Byte) (len : Nat) (whole : Bool),
    (Pipeline s n p →
      (p.psn = (connOf s n).ePsn →
        (∀ i, keyCheck s n p.key .write p.off data.length = some i → (regionOf s i).kind ≠ .ring →
            ((regionOf s i).kind = .dram → (regionOf s i).trigger = false) →
          ∃ t, exec (.rdmaWrite p data) s = .next t ∧ PacketTaken s t n ∧ (connOf t n).ePsn = psnAdd (connOf s n).ePsn 1 ∧
            (regionOf t i).placed = (regionOf s i).placed + data.length ∧ (∀ j, j ≠ i → regionOf t j = regionOf s j) ∧
            ((regionOf s i).kind = .window → readBytes (regionOf t i).bytes p.off data.length = data ∧ t.dram = s.dram) ∧
            ((regionOf s i).kind = .dram →
              readBytes t.dram ((regionOf s i).base + p.off) data.length = data ∧
              (∀ a, a < (regionOf s i).base + p.off ∨ (regionOf s i).base + p.off + data.length ≤ a →
                readByte t.dram a = readByte s.dram a))) ∧
        (∀ i slot, keyCheck s n p.key .write p.off data.length = some i → (regionOf s i).kind = .ring → slot < 1024 →
            p.off = slot * 64 → data.length = 64 → (connOf s n).slots.has slot = false →
          ∃ t, exec (.rdmaWrite p data) s = .next t ∧ PacketTaken s t n ∧ (connOf t n).slots.has slot = true ∧
            readBytes (connOf t n).ringBytes p.off 64 = data ∧ (connOf t n).parse = (connOf s n).parse ∧ t.dram = s.dram) ∧
        (∀ i, keyCheck s n p.key .read p.off len = some i →
          ∃ t, exec (.rdmaRead p len) s = .next t ∧ PacketTaken s t n ∧ .readResponse n p.psn (regionBytes s n i p.off len) ∈ t.outs ∧
            (connOf t n).ePsn = psnAdd (connOf s n).ePsn (packetsOf (connOf s n).mtu len) ∧ t.regions = s.regions ∧ t.dram = s.dram) ∧
        (∀ i, keyCheck s n p.key .flush (if whole then 0 else p.off) (if whole then 0 else len) = some i →
          ∃ t, exec (.rdmaFlush p len whole false) s = .next t ∧ PacketTaken s t n ∧ .flushResponse n p.psn ∈ t.outs ∧
            (connOf t n).ePsn = psnAdd (connOf s n).ePsn 1 ∧ t.regions = s.regions ∧ t.dram = s.dram) ∧
        (∃ t, exec (.rdmaFlush p len whole true) s = .next t ∧ ConnFailed s t n ∧ .nak n p.psn 1 ∈ t.outs ∧ t.dram = s.dram) ∧
        (keyCheck s n p.key .write p.off data.length = none →
          ∃ t, exec (.rdmaWrite p data) s = .next t ∧ ConnFailed s t n ∧ .nak n p.psn 2 ∈ t.outs ∧ t.dram = s.dram ∧
            bit (getPage t (xptPage (connOf s n).engine)).intRaw 1 = true) ∧
        (keyCheck s n p.key .read p.off len = none →
          ∃ t, exec (.rdmaRead p len) s = .next t ∧ ConnFailed s t n ∧ .nak n p.psn 2 ∈ t.outs ∧ t.dram = s.dram)) ∧
      (psnPlace (connOf s n) p.psn = .ahead → (connOf s n).nakked = false →
        ∃ t, exec (.rdmaWrite p data) s = .next t ∧ PacketTaken s t n ∧ .nak n (connOf s n).ePsn 0 ∈ t.outs ∧
          (connOf t n).nakked = true ∧ (connOf t n).ePsn = (connOf s n).ePsn ∧ t.regions = s.regions ∧ t.dram = s.dram) ∧
      (psnPlace (connOf s n) p.psn = .duplicate →
        ∃ t, exec (.rdmaWrite p data) s = .next t ∧ PacketTaken s t n ∧ .ack n (psnAdd (connOf s n).ePsn (2 ^ 24 - 1)) ∈ t.outs ∧
          (connOf t n).ePsn = (connOf s n).ePsn ∧ t.regions = s.regions ∧ t.dram = s.dram) ∧
      (∀ i off k, psnPlace (connOf s n) p.psn = .duplicate →
        ((connOf s n).resources.find? (fun r => r.1 = p.psn) = some (p.psn, i, off, k, false) →
          ∃ t, exec (.rdmaRead p len) s = .next t ∧ PacketTaken s t n ∧ .readResponse n p.psn (regionBytes s n i off k) ∈ t.outs ∧
            (connOf t n).ePsn = (connOf s n).ePsn ∧ t.regions = s.regions ∧ t.dram = s.dram) ∧
        ((connOf s n).resources.find? (fun r => r.1 = p.psn) = some (p.psn, i, off, k, true) →
          ∃ t, exec (.rdmaFlush p len whole false) s = .next t ∧ PacketTaken s t n ∧ .flushResponse n p.psn ∈ t.outs ∧
            (connOf t n).ePsn = (connOf s n).ePsn ∧ t.regions = s.regions ∧ t.dram = s.dram))) ∧
    (∀ op, Pipeline s n p → op / 32 ≠ 3 →
      ∃ t, exec (.unsupportedPacket p.qpn op p.psn) s = .next t ∧ ConnFailed s t n ∧ .nak n p.psn 1 ∈ t.outs ∧
        (regOf t (xptPage (connOf s n).engine) O.XPT_UNSUP_CNT).toNat =
          min 0xFFFFFFFF ((regOf s (xptPage (connOf s n).engine) O.XPT_UNSUP_CNT).toNat + 1)) ∧
    (n < 4096 → (connOf s n).st = .ready →
      ((connOf s n).fetching = true → 
        (∃ t, exec (.contextFetchDone n true) s = .next t ∧ ConnFailed s t n ∧ t.parked.get n = none ∧ t.dram = s.dram ∧
          ((getPage s (xptPage (connOf s n).engine)).errCount = 0 →
            (getPage t (xptPage (connOf s n).engine)).errCode = 0x0100 ∧ (getPage t (xptPage (connOf s n).engine)).errAddr = n) ∧
          bit (getPage t (xptPage (connOf s n).engine)).intRaw 4 = true) ∧
        (s.parked.getD n [] = [] →
          ∃ t, exec (.contextFetchDone n false) s = .next t ∧ Quiet s t ∧ connOf t n = { connOf s n with fetching := false } ∧
            contextCached t n = true ∧ (∀ m, m ≠ n → connOf t m = connOf s m))) ∧
      (∀ d, (connOf s n).ackAt = some d →
        ∃ t, exec (.ackTimer n) s = .next t ∧ Quiet s t ∧ d ≤ t.time.now ∧ (connOf t n).ackAt = none ∧ (connOf t n).ackCount = 0 ∧
          .ack n (psnAdd (connOf s n).ePsn (2 ^ 24 - 1)) ∈ t.outs ∧ (∀ m, m ≠ n → connOf t m = connOf s m)) ∧
      (∀ (slot : Nat) (capsule : List Byte), slot < 1024 →
        ∃ t, exec (.ringTrigger n slot capsule) s = .next t ∧ (connOf t n).slots.has slot = true ∧
          readBytes (connOf t n).ringBytes (slot * 64) 64 = padTo 64 capsule ∧ (connOf t n).parse = (connOf s n).parse ∧
          (∀ m, m ≠ n → connOf t m = connOf s m) ∧
          ((connOf s n).slots.has slot = false → t = { s with conns := t.conns }) ∧
          ((connOf s n).slots.has slot = true → bit (getPage t cmdPage).intRaw 2 = true ∧
            (regOf t cmdPage O.CMD_OVERRUN_CNT).toNat = min 0xFFFFFFFF ((regOf s cmdPage O.CMD_OVERRUN_CNT).toNat + 1))) ∧
      (∀ v : Word,
        ((connOf s n).nextEntry - (connOf s n).cqHead < wrapGap 32 (connOf s n).cqHead v.toNat →
          ∃ t, exec (.cqHeadUpdate n v) s = .next t ∧ (connOf t n).cqHead = (connOf s n).cqHead ∧
            bit (getPage t cmdPage).intRaw 3 = true ∧
            (regOf t cmdPage O.CMD_CQH_ERR_CNT).toNat = min 0xFFFFFFFF ((regOf s cmdPage O.CMD_CQH_ERR_CNT).toNat + 1)) ∧
        (wrapGap 32 (connOf s n).cqHead v.toNat ≤ (connOf s n).nextEntry - (connOf s n).cqHead → (connOf s n).waiting = [] →
          ∃ t, exec (.cqHeadUpdate n v) s = .next t ∧
            (connOf t n).cqHead = (connOf s n).cqHead + wrapGap 32 (connOf s n).cqHead v.toNat ∧
            (∀ m, m ≠ n → connOf t m = connOf s m) ∧ t = { s with conns := t.conns })))

/-- The requester side of a READY connection (R101, R125, R128, R137, R144, R146, R147): an acknowledgement in the window moves
the oldest unacknowledged PSN on and restores the retries; a sequence error NAK and the retransmission timer go back N while a
retry is left, and end the connection where none is; another NAK ends it; a data WRITE that is done completes the command under
ordered delivery and is flushed under strict placement, and its last FLUSH response completes it; a CNP outside the hold
cuts the rate, and the rate rises after RISE_US. -/
def Obligations.RequesterSide : Prop :=
  ∀ (s : State) (n psn cid q : Nat) (c : Command), n < 4096 → (connOf s n).st = .ready →
    (psnGap (connOf s n).uPsn psn < psnGap (connOf s n).uPsn (connOf s n).nPsn →
      ∃ t, exec (.rdmaAck n psn) s = .next t ∧ Quiet s t ∧ (connOf t n).uPsn = psnAdd psn 1 ∧
        (connOf t n).retriesLeft = (connOf s n).retryCount ∧ (connOf t n).nPsn = (connOf s n).nPsn ∧
        (∀ m, m ≠ n → connOf t m = connOf s m) ∧ t.commands = s.commands) ∧
    (psnGap (connOf s n).uPsn (connOf s n).nPsn ≤ psnGap (connOf s n).uPsn psn →
      ∃ t, exec (.rdmaAck n psn) s = .next t ∧ Quiet s t ∧ t.conns = s.conns ∧ t.commands = s.commands) ∧
    (0 < (connOf s n).retriesLeft →
      (∃ t fs, exec (.rdmaNak n psn true) s = .next t ∧ Quiet s t ∧ (connOf t n).retriesLeft = (connOf s n).retriesLeft - 1 ∧
        (connOf t n).st = .ready ∧ .retransmit n psn fs ∈ t.outs ∧
        (regOf t (xptPage (connOf s n).engine) O.XPT_RETX_CNT).toNat =
          min 0xFFFFFFFF ((regOf s (xptPage (connOf s n).engine) O.XPT_RETX_CNT).toNat + fs) ∧
        (connOf t n).retxAt = some (s.time.now + retxTicks s (connOf s n)) ∧ t.commands = s.commands) ∧
      (∀ d, (connOf s n).retxAt = some d →
        ∃ t fs, exec (.retxTimeout n) s = .next t ∧ Quiet s t ∧ (connOf t n).retriesLeft = (connOf s n).retriesLeft - 1 ∧
          (connOf t n).st = .ready ∧ .retransmit n (connOf s n).uPsn fs ∈ t.outs ∧ d ≤ t.time.now ∧ t.commands = s.commands)) ∧
    ((connOf s n).retriesLeft = 0 →
      (∃ t, exec (.rdmaNak n psn true) s = .next t ∧ ConnFailed s t n) ∧
      (∀ d, (connOf s n).retxAt = some d → ∃ t, exec (.retxTimeout n) s = .next t ∧ ConnFailed s t n)) ∧
    (∃ t, exec (.rdmaNak n psn false) s = .next t ∧ ConnFailed s t n) ∧
    (findCmd s n cid = some (q, c) → s.commands.get q = some c → c.aborted = false → c.op = 0x01 →
      (c.phase = .delivering →
        ((connOf s n).ordered = true →
          ∃ t, exec (.rdmaWriteDone n cid) s = .next t ∧ Quiet s t ∧ Posted t n cid (deliveryStatus c).1 (deliveryStatus c).2) ∧
        ((connOf s n).ordered = false →
          ∃ t d, exec (.rdmaWriteDone n cid) s = .next t ∧ Quiet s t ∧ t.commands.get q = some d ∧ d.phase = .flushing ∧
            d.count = (if (connOf s n).sealed then 2 else 1) ∧ .rdmaFlush n cid c.bufKey.toNat c.bufAddr c.payload.length ∈ t.outs)) ∧
      (c.phase = .flushing →
        (c.count ≤ 1 →
          ∃ t, exec (.rdmaFlushResponse n cid) s = .next t ∧ Quiet s t ∧ Posted t n cid (deliveryStatus c).1 (deliveryStatus c).2) ∧
        (1 < c.count →
          ∃ t, exec (.rdmaFlushResponse n cid) s = .next t ∧ Quiet s t ∧ t.commands = s.commands.set q { c with count := c.count - 1 }))) ∧
    (∀ tick, (connOf s n).lastCut = none →
      ∃ t, exec (.cnp n tick) s = .next t ∧ Quiet s t ∧
        (let page := xptPage (connOf s n).engine
         (regOf t page O.XPT_CNP_RX_CNT).toNat = min 0xFFFFFFFF ((regOf s page O.XPT_CNP_RX_CNT).toNat + 1) ∧
         (connOf t n).rate = max (regField s page O.XPT_CC_LIMIT 0 16)
           ((connOf s n).rate - ceilDiv ((connOf s n).rate * regField s page O.XPT_CC_CFG 0 8) 256) ∧
         (connOf t n).step = regField s page O.XPT_CC_STEP 0 16) ∧
        (connOf t n).lastCut = some t.time.now ∧ (connOf t n).rises = 0 ∧ (∀ m, m ≠ n → connOf t m = connOf s m)) ∧
    (∀ x tick, (connOf s n).lastCut = some x → tick ≤ s.time.now →
        s.time.now - x < regField s (xptPage (connOf s n).engine) O.XPT_CC_CFG 8 8 * 800 →
      ∃ t, exec (.cnp n tick) s = .next t ∧ Quiet s t ∧ t.conns = s.conns) ∧
    (∃ t, exec (.rateRise n) s = .next t ∧ Quiet s t ∧ (connOf s n).riseAt ≤ t.time.now ∧
      (let page := xptPage (connOf s n).engine
       (connOf t n).rate = min (regField s page O.XPT_CC_LIMIT 16 16) ((connOf s n).rate + (connOf s n).step) ∧
       (connOf t n).rises = (connOf s n).rises + 1 ∧
       ((connOf t n).rises % 4 = 0 → (connOf t n).step = min (regField s page O.XPT_CC_STEP 16 16) (2 * (connOf s n).step)) ∧
       ((connOf t n).rises % 4 ≠ 0 → (connOf t n).step = (connOf s n).step)) ∧
      (∀ m, m ≠ n → connOf t m = connOf s m))

/-- Heartbeats (R343, R345, R346, R348 to R350, R355, R360): what is sent every 50 us on each path while the ROM kicks the
watchdog; a valid frame or word clears the count of its path, and one with a bad CRC or count does nothing; a claim above the
controller's own demotes it; a mirror found bad starts SYNCING anew; at a boundary the counts of silent paths advance, and
when both have reached 4 the active isolates itself and the standby takes over, or waits for the command. At boot the roles
are settled by what is heard. A STATUS frees its tag: a late one is counted, one of a broadcast confirms the claim, and one
that rejects the claim demotes the controller (R208, R209, R358). How an active notices a bad mirror, and the boot's
comparison of claims, are the model's (log entries 42, 65). -/
def Obligations.HeartbeatsAndClaims : Prop :=
  ∀ (s : State) (h : Heartbeat) (w value : Word) (req : Nat) (hdr : LinkHdr),
    (∃ t, exec .heartbeatSend s = .next t ∧ Quiet s t ∧ s.pair.sendAt + 40000 ≤ t.time.now ∧ t.pair.sendAt = t.time.now ∧
      (heartbeatsSent s = true →
        .wireWord (wireWordOf 5 s.pair.role.code s.pair.wireCount) ∈ t.outs ∧ t.pair.wireCount = (s.pair.wireCount + 1) % 65536 ∧
        (isEnabled s pairPage = true →
          .heartbeat (claimOf s) s.pair.role s.pair.epoch s.journalSeq (mirrorCrc s) s.pair.drill.code ∈ t.outs)) ∧
      (heartbeatsSent s = false → t.pair = { s.pair with sendAt := t.time.now })) ∧
    (writeReaches s req pairPage O.PAIR_KICK = true →
      ∃ t, exec (.pairKick req value) s = .next t ∧ Quiet s t ∧ t.pair = { s.pair with kicked := true, kickAt := t.time.now }) ∧
    (s.pair.kicked = true → s.boot.act = .none →
      ∃ t, exec .watchdogExpiry s = .next t ∧ Quiet s t ∧ t.pair = { s.pair with kicked := false } ∧
        s.pair.kickAt + regField s pairPage O.PAIR_WDOG 0 10 * 800 ≤ t.time.now) ∧
    (s.boot.act ≠ .none → exec .watchdogExpiry s = .next s) ∧
    (isEnabled s pairPage = false → ∃ t, exec (.heartbeat h) s = .next t ∧ t.pair = s.pair ∧ t.commands = s.commands) ∧
    (isEnabled s pairPage = true →
      (roleOpen s = false → h.claim ≤ claimOf s →
        ∃ t, exec (.heartbeat h) s = .next t ∧ Keep s t ∧ t.pair.link = { missed := 0, heard := true, lost := false, ever := true } ∧
          t.pair.wire = s.pair.wire ∧ t.pair.lastHeard = t.time.now ∧ t.pair.lostDeclared = false ∧ t.pair.peerClaim = h.claim ∧
          t.pair.peerEpoch = h.epoch ∧ t.pair.peerRole = some h.role ∧ t.pair.role = s.pair.role ∧ t.pair.epoch = s.pair.epoch ∧
          t.commands = s.commands ∧ t.zones = s.zones) ∧
      (s.rules = true → claimOf s < h.claim → ∃ t, exec (.heartbeat h) s = .next t ∧ Demoted s t) ∧
      (s.pair.role = .standby → s.pair.mirror = .mirroring → h.lastSeq = s.journalSeq → h.crc ≠ mirrorCrc s →
        ∃ t, exec (.heartbeat h) s = .next t ∧ t.pair.mirror = .syncing ∧ bit (getPage t pairPage).intRaw 4 = true ∧
          (regOf t pairPage O.PAIR_MIRROR_ERR_CNT).toNat = min 0xFFFFFFFF ((regOf s pairPage O.PAIR_MIRROR_ERR_CNT).toNat + 1)) ∧
      (roleOpen s = true → s.secWait = [] →
        (h.role = .active →
          ∃ t, exec (.heartbeat h) s = .next t ∧ t.pair.role = .standby ∧ t.boot.stage = 9 ∧
            t.pair.mirror = (if s.sec.bound then .syncing else .none)) ∧
        (h.role = .boot → h.lastSeq < s.journalSeq →
          ∃ t, exec (.heartbeat h) s = .next t ∧ t.pair.role = .active ∧ t.pair.epoch = raisedEpoch s h.epoch) ∧
        (h.role = .boot → s.journalSeq < h.lastSeq →
          ∃ t, exec (.heartbeat h) s = .next t ∧ t.pair.role = .standby ∧ t.boot.stage = 9))) ∧
    (field w 0 8 ≠ crc8 0 (wireBytes (field w 28 4) (field w 24 4) (field w 8 16)) ∨ countValid s.pair.wireLast (field w 8 16) = false →
      exec (.heartbeatWord w) s = .next s) ∧
    (field w 0 8 = crc8 0 (wireBytes (field w 28 4) (field w 24 4) (field w 8 16)) → countValid s.pair.wireLast (field w 8 16) = true →
        field w 28 4 = 5 → roleOpen s = false →
      ∃ t, exec (.heartbeatWord w) s = .next t ∧ Keep s t ∧ t.pair.wire = { missed := 0, heard := true, lost := false, ever := true } ∧
        t.pair.wireLast = some (field w 8 16) ∧ t.pair.link = s.pair.link ∧ t.pair.peerRole = roleOfCode (field w 24 4) ∧
        t.pair.role = s.pair.role ∧ t.pair.lostDeclared = false ∧ t.commands = s.commands ∧ t.zones = s.zones) ∧
    (s.pair.link.boundary.missed < 4 ∨ s.pair.wire.boundary.missed < 4 ∨ s.pair.lostDeclared = true →
      ∃ t, exec .heartbeatBoundary s = .next t ∧ Keep s t ∧ s.pair.boundaryAt + 40000 ≤ t.time.now ∧
        t.pair.link = s.pair.link.boundary ∧ t.pair.wire = s.pair.wire.boundary ∧ t.pair.role = s.pair.role ∧
        t.pair.epoch = s.pair.epoch ∧ t.commands = s.commands ∧ t.zones = s.zones ∧
        (s.pair.link.boundary.missed = 4 → s.pair.link.missed < 4 → s.pair.wire.boundary.missed < 4 →
          bit (getPage t pairPage).intRaw 0 = true)) ∧
    (4 ≤ s.pair.link.boundary.missed → 4 ≤ s.pair.wire.boundary.missed → s.pair.lostDeclared = false →
      ((s.pair.role = .active ∨ s.pair.role = .handingOver) →
        ∃ t, exec .heartbeatBoundary s = .next t ∧ t.pair.role = .isolated ∧ t.pair.isolatedAt = t.time.now ∧
          t.pair.lostDeclared = true ∧ bit (getPage t pairPage).intRaw 1 = true ∧ t.commands = s.commands) ∧
      (s.pair.role = .standby → bit (regOf s pairPage O.PAIR_CFG) 31 = false →
        ∃ t, exec .heartbeatBoundary s = .next t ∧ t.pair.role = .standby ∧ t.pair.lostDeclared = true ∧
          bit (getPage t pairPage).intRaw 1 = true ∧ t.commands = s.commands) ∧
      (s.pair.role = .standby → bit (regOf s pairPage O.PAIR_CFG) 31 = true → s.pair.barred = false →
        ∃ t, exec .heartbeatBoundary s = .next t ∧ t.pair.epoch = raisedEpoch s s.pair.peerEpoch ∧ t.pair.lostDeclared = true ∧
          (activeSlots s ≠ [] → t.pair.role = .takingOver ∧ t.pair.holding = true ∧ t.pair.probes = activeSlots s ∧
            t.pair.confirmAt = some t.time.now))) ∧
    (∀ x, s.pair.bootAt = some x → s.secWait = [] →
      (roleOpen s = true → s.pair.link.ever = false → s.pair.wire.ever = false →
        ∃ t, exec .bootWaitExpiry s = .next t ∧ t.pair.role = .active ∧ t.pair.epoch = raisedEpoch s s.pair.peerEpoch ∧
          t.pair.mirror = .none ∧ x + bootWait s ≤ t.time.now) ∧
      (roleOpen s = false ∨ s.pair.link.ever = true ∨ s.pair.wire.ever = true → exec .bootWaitExpiry s = .next s) ∧
      (roleOpen s = true → s.pair.link.ever = false → s.pair.wire.ever = true →
        (s.pair.peerClaim < claimOf s →
          ∃ t, exec .bootLinkWaitExpiry s = .next t ∧ t.pair.role = .active ∧ t.pair.epoch = raisedEpoch s s.pair.peerEpoch ∧
            x + 10 * bootWait s ≤ t.time.now) ∧
        (claimOf s ≤ s.pair.peerClaim →
          ∃ t, exec .bootLinkWaitExpiry s = .next t ∧ t.pair.role = .standby ∧ t.boot.stage = 9 ∧ x + 10 * bootWait s ≤ t.time.now))) ∧
    (∀ n l code payload, n < 48 → linkActive s n = true → l = linkOf s n → hdr.claim ≤ claimOf s → hdr.ack = none → hdr.seq = l.rxSeq →
      (l.tags.get hdr.tag = none →
        ∃ t, exec (.status n hdr code payload) s = .next t ∧ Keep s t ∧
          (s.pair.confirmAt = none → t.pair = s.pair ∧ (linkOf t n).tags = l.tags ∧
            (regOf t (mlkPage n) O.MLK_LATE_STS_CNT).toNat = min 0xFFFFFFFF ((regOf s (mlkPage n) O.MLK_LATE_STS_CNT).toNat + 1))) ∧
      (∀ c, l.tags.get hdr.tag = some c →
        (∃ t, exec (.status n hdr code payload) s = .next t ∧ Keep s t ∧ (linkOf t n).tags.get hdr.tag = none) ∧
        (c.why = .probe → code ≠ 6 → s.pair.confirmAt = none ∨ (∃ m ∈ s.pair.probes, m ≠ n) →
          ∃ t, exec (.status n hdr code payload) s = .next t ∧ t.pair = { s.pair with probes := s.pair.probes.filter (· ≠ n) } ∧
            (∀ k, k ≠ n → linkOf t k = linkOf s k) ∧ t.commands = s.commands) ∧
        (s.rules = true → ∃ t, exec (.status n hdr 6 payload) s = .next t ∧ Demoted s t)))

/-- Mirroring, binding, takeover and drills (R322, R344, R345, R350, R352, R353, R356, R358, R362, R363): a standby places
the next record and acknowledges it, and the image as it comes; acknowledgements count up to the last record sent, and end
SYNCING; a handover, the takeover command and the end of a broadcast; the fence probe of an isolated controller; state
records of the partner's die; the drill's start, refusals and ends, and its days. Who judges a drill, and what a takeover
finds silent, are the model's (log entries 43, 65). -/
def Obligations.MirrorAndTakeover : Prop :=
  ∀ (s : State) (claim seq req : Nat) (r : JournalRecord) (image : SyncImage),
    (isEnabled s pairPage = true →
      (s.pair.role = .standby → s.pair.mirror = .mirroring → seq ≤ r.seq →
        (r.seq = s.journalSeq + 1 → s.pair.peerSeq ≠ r.seq →
          ∃ t, exec (.record claim seq [r]) s = .next t ∧ Quiet s t ∧ t.journalSeq = r.seq ∧ t.journal = r :: s.journal ∧
            .mirrorAck (claimOf s) r.seq ∈ t.outs ∧ t.pair.peerClaim = claim ∧
            (∀ ns zi z, r.body = .zone ns zi z → zoneOf t ns zi = { z with hold := none } ∧ t.groups = s.groups)) ∧
        (r.seq ≠ s.journalSeq + 1 →
          ∃ t, exec (.record claim seq [r]) s = .next t ∧ Quiet s t ∧ t.journalSeq = s.journalSeq ∧ t.journal = s.journal ∧
            .mirrorAck (claimOf s) s.journalSeq ∈ t.outs ∧ t.zones = s.zones)) ∧
      (s.pair.role = .standby → s.pair.mirror = .syncing → seq ≤ r.seq →
        (∃ t, exec (.record claim seq [r]) s = .next t ∧ Quiet s t ∧ t.pair.early = s.pair.early ++ [r] ∧ t.journalSeq = s.journalSeq) ∧
        (∃ t, exec (.sync claim seq false image) s = .next t ∧ Quiet s t ∧ t.pair.image = s.pair.image ++ image.entries ∧
          t.journalSeq = s.journalSeq ∧ t.zones = s.zones) ∧
        (s.pair.early = [] →
          ∃ t, exec (.sync claim seq true image) s = .next t ∧ Quiet s t ∧ t.pair.mirror = .mirroring ∧ t.journalSeq = seq ∧
            t.pair.peerEpoch = image.epoch ∧ t.pair.image = [] ∧ .mirrorAck (claimOf s) seq ∈ t.outs ∧
            bit (getPage t pairPage).intRaw 8 = true)) ∧
      (s.pair.role ≠ .standby →
        ∃ t, exec (.record claim seq [r]) s = .next t ∧ t.pair = { s.pair with peerClaim := claim } ∧ t.journal = s.journal) ∧
      (s.rules = true →
        ∃ t, exec (.mirrorAck claim seq) s = .next t ∧ Quiet s t ∧ t.pair.acked = max s.pair.acked (min seq s.journalSeq) ∧
          (s.pair.mirror = .syncing → s.pair.sentSeq ≤ seq → t.pair.mirror = .mirroring ∧ bit (getPage t pairPage).intRaw 8 = true)) ∧
      (s.rules = false → ∃ t, exec (.mirrorAck claim seq) s = .next t ∧ t.pair = { s.pair with peerClaim := claim } ∧ t.zones = s.zones) ∧
      (∀ b pwk, s.sec.binding = some b → s.secWait = [] →
        (∃ t, exec (.secure claim pwk true) s = .next t ∧ Keep s t ∧ t.sec.bound = true ∧ t.sec.binding = none ∧
          t.sec.pwk = (if b.peerHolds || (!holdsNamespace s && b.peerHigher) then some pwk else s.sec.pwk) ∧
          .secStatus 0 [] ∈ t.outs ∧ t.sec.nonce = s.sec.heldNonce) ∧
        (∃ t, exec (.secure claim pwk false) s = .next t ∧ Keep s t ∧ t.sec.bound = s.sec.bound ∧ t.sec.pwk = s.sec.pwk ∧
          t.sec.binding = none ∧ .secStatus 1 [] ∈ t.outs)) ∧
      (s.pair.role = .standby → s.pair.mirror = .mirroring → seq ≤ s.journalSeq → s.pair.barred = false →
        ∃ t, exec (.handover claim seq) s = .next t ∧ Keep s t ∧ .mirrorAck (claimOf s) seq ∈ t.outs ∧ t.pair.role = .takingOver ∧
          t.pair.holding = true ∧ t.pair.epoch = raisedEpoch s s.pair.peerEpoch ∧ t.pair.probes = activeSlots s ++ [48] ∧
          t.pair.confirmAt = some t.time.now) ∧
      (s.pair.role ≠ .standby ∨ s.pair.mirror ≠ .mirroring →
        ∃ t, exec (.handover claim seq) s = .next t ∧ t.pair = { s.pair with peerClaim := claim } ∧ t.commands = s.commands)) ∧
    (isEnabled s pairPage = false → 
      exec (.record claim seq [r]) s = .next s ∧ exec (.mirrorAck claim seq) s = .next s ∧ exec (.sync claim seq true image) s = .next s ∧
      exec (.handover claim seq) s = .next s ∧ exec (.secure claim seq true) s = .next s) ∧
    (∀ slots spx,
      (s.pair.confirmAt = none → exec (.claimConfirmTimeout slots spx) s = .next s) ∧
      (∀ x, s.pair.confirmAt = some x → s.pair.role = .takingOver → s.pair.drill = .none →
        ∃ t, exec (.claimConfirmTimeout slots spx) s = .next t ∧ Keep s t ∧ t.pair.role = .active ∧ t.pair.mirror = .none ∧
          t.pair.holding = false ∧ t.pair.confirmAt = none ∧ x + 80000 ≤ t.time.now ∧ bit (getPage t pairPage).intRaw 2 = true ∧
          (regOf t pairPage O.PAIR_TKO_CNT).toNat = min 0xFFFFFFFF ((regOf s pairPage O.PAIR_TKO_CNT).toNat + 1))) ∧
    (∀ bridges, s.die.claim ≤ claimOf s →
      (s.pair.role ≠ .isolated → exec (.fenceProbe s.die.claim bridges) s = .next s) ∧
      (s.pair.role = .isolated → (∀ c ∈ bridges, c ≤ claimOf s) →
        ∃ t, exec (.fenceProbe s.die.claim bridges) s = .next t ∧ Quiet s t ∧ t.pair.role = .active ∧ t.pair.mirror = .degraded ∧
          s.pair.isolatedAt + regField s pairPage O.PAIR_CFG 0 10 * 800 ≤ t.time.now ∧
          (∀ n ∈ activeSlots s, .claimProbe n (claimOf s) ∈ t.outs)) ∧
      (∀ c ∈ bridges, s.pair.role = .isolated → claimOf s < c →
        ∃ t, exec (.fenceProbe s.die.claim bridges) s = .next t ∧ Demoted s t)) ∧
    (dieReachable s = false → exec (.spxStateRecord claim []) s = .next s) ∧
    (∀ x : SpxChannel, dieReachable s = true → claim ≤ s.die.claim → claim < claimOf s → x.slot < 48 → s.die.owner = false →
      ∃ t, exec (.spxStateRecord claim [x]) s = .next t ∧ t.pair = { s.pair with spxAt := some s.time.now } ∧
        chanOf t x.slot = { chanOf s x.slot with st := x.st, onReq := x.onReq, pg := x.pg, ftCount := x.ftCount, retries := x.retries,
                                                 fetTemp := x.fetTemp } ∧
        (∀ n, n ≠ x.slot → chanOf t n = chanOf s n) ∧ t = { s with channels := t.channels, pair := t.pair, outs := t.outs, mgt := t.mgt }) ∧
    (writeReaches s req pairPage O.PAIR_DRILL_CMD = true →
      (drillRefused s ≠ 0 → ∃ t, exec (.drill req) s = .next t ∧ t.pair = { s.pair with cmdResult := drillRefused s } ∧
        t.commands = s.commands) ∧
      (s.pair.role ≠ .active → drillRefused s = 1) ∧
      (s.pair.role = .active → s.pair.mirror ≠ .mirroring → drillRefused s = 2) ∧
      (drillRefused s = 0 →
        ∃ t, exec (.drill req) s = .next t ∧ Keep s t ∧ t.pair.holding = true ∧ t.pair.drillMine = true ∧ t.pair.cmdResult = 0 ∧
          t.pair.drillAt = t.time.now ∧ t.commands = s.commands ∧
          (holdDrained s = false → t.pair.drill = .draining ∧ t.pair.role = .active) ∧
          (holdDrained s = true → t.pair.role = .handingOver ∧ t.pair.drill = .handover ∧
            .handover (claimOf s) s.journalSeq ∈ t.outs)) ∧
      (s.pair.role = .standby → s.pair.lostDeclared = true → s.pair.barred = false →
        ∃ t, exec (.takeoverCommand req) s = .next t ∧ Keep s t ∧ t.pair.epoch = raisedEpoch s s.pair.peerEpoch ∧ t.pair.cmdResult = 0 ∧
          (activeSlots s ≠ [] → t.pair.role = .takingOver ∧ t.pair.holding = true)) ∧
      (s.pair.role ≠ .standby ∨ s.pair.lostDeclared = false →
        ∃ t, exec (.takeoverCommand req) s = .next t ∧ Keep s t ∧ t.pair = { s.pair with cmdResult := t.pair.cmdResult } ∧
          t.draws = s.draws + 1 ∧ t.commands = s.commands)) ∧
    (handoverOpen s = true →
      ∃ t, exec .drillDrainTimeout s = .next t ∧ Quiet s t ∧ t.pair.role = .active ∧ t.pair.drill = .none ∧ t.pair.holding = false ∧
        t.pair.drillResult = 4 ∧ s.pair.drillAt + 160000000 ≤ t.time.now ∧ bit (getPage t pairPage).intRaw 6 = true ∧
        t.commands = s.commands) ∧
    (handoverOpen s = false → exec .drillDrainTimeout s = .next s) ∧
    (s.pair.drill = .dwelling → s.pair.role = .active →
      ∃ t, exec .drillDwellEnd s = .next t ∧ Quiet s t ∧ t.pair.drill = .returning ∧ t.pair.holding = true ∧
        s.pair.drillAt + regField s pairPage O.PAIR_DRILL_CFG 0 16 * 800000000 ≤ t.time.now ∧ t.commands = s.commands) ∧
    (s.pair.drill ≠ .dwelling → exec .drillDwellEnd s = .next s) ∧
    (s.pair.drillDays ≠ 0xFFFF →
      ∃ t, exec .drillDay s = .next t ∧ Quiet s t ∧ t.pair.drillDays = min 0xFFFE (s.pair.drillDays + 1) ∧
        t = { s with pair := t.pair, pages := t.pages, regs := t.regs } ∧
        (regField s pairPage O.PAIR_DRILL_CFG 16 8 < min 0xFFFE (s.pair.drillDays + 1) → s.pair.drillDue = false →
          bit (getPage t pairPage).intRaw 5 = true)) ∧
    (s.pair.drillDays = 0xFFFF →
      ∃ t, exec .drillDay s = .next t ∧ Quiet s t ∧ t.pair.drillDays = 0xFFFF ∧
        (∀ d, s.pair.mirrorDays = some d → t.pair.mirrorDays = some (d + 1)))
end

