-- ==== Sys2Proof/Laws/State.lean ====
section
/-! SUPPORT. One lemma per field of State for each of the five plain updates (a sent item recorded, several of them, a
page header replaced, a register stored, the front command taken off), and what the registers and headers read after
such an update. -/
namespace Sys2Proof.Machine

@[simp] theorem emit_pending (s : State) (o : Out) : (emit s o).pending = s.pending := rfl
@[simp] theorem emit_draws (s : State) (o : Out) : (emit s o).draws = s.draws := rfl
@[simp] theorem emit_time (s : State) (o : Out) : (emit s o).time = s.time := rfl
@[simp] theorem emit_pages (s : State) (o : Out) : (emit s o).pages = s.pages := rfl
@[simp] theorem emit_regs (s : State) (o : Out) : (emit s o).regs = s.regs := rfl
@[simp] theorem emit_namespaces (s : State) (o : Out) : (emit s o).namespaces = s.namespaces := rfl
@[simp] theorem emit_zones (s : State) (o : Out) : (emit s o).zones = s.zones := rfl
@[simp] theorem emit_stripes (s : State) (o : Out) : (emit s o).stripes = s.stripes := rfl
@[simp] theorem emit_folds (s : State) (o : Out) : (emit s o).folds = s.folds := rfl
@[simp] theorem emit_buffers (s : State) (o : Out) : (emit s o).buffers = s.buffers := rfl
@[simp] theorem emit_logMap (s : State) (o : Out) : (emit s o).logMap = s.logMap := rfl
@[simp] theorem emit_commands (s : State) (o : Out) : (emit s o).commands = s.commands := rfl
@[simp] theorem emit_accepted (s : State) (o : Out) : (emit s o).accepted = s.accepted := rfl
@[simp] theorem emit_rowJobs (s : State) (o : Out) : (emit s o).rowJobs = s.rowJobs := rfl
@[simp] theorem emit_rowSeq (s : State) (o : Out) : (emit s o).rowSeq = s.rowSeq := rfl
@[simp] theorem emit_cwSeq (s : State) (o : Out) : (emit s o).cwSeq = s.cwSeq := rfl
@[simp] theorem emit_errorLog (s : State) (o : Out) : (emit s o).errorLog = s.errorLog := rfl
@[simp] theorem emit_healthLog (s : State) (o : Out) : (emit s o).healthLog = s.healthLog := rfl
@[simp] theorem emit_conns (s : State) (o : Out) : (emit s o).conns = s.conns := rfl
@[simp] theorem emit_regions (s : State) (o : Out) : (emit s o).regions = s.regions := rfl
@[simp] theorem emit_engines (s : State) (o : Out) : (emit s o).engines = s.engines := rfl
@[simp] theorem emit_parked (s : State) (o : Out) : (emit s o).parked = s.parked := rfl
@[simp] theorem emit_ports (s : State) (o : Out) : (emit s o).ports = s.ports := rfl
@[simp] theorem emit_switch (s : State) (o : Out) : (emit s o).switch = s.switch := rfl
@[simp] theorem emit_policers (s : State) (o : Out) : (emit s o).policers = s.policers := rfl
@[simp] theorem emit_egress (s : State) (o : Out) : (emit s o).egress = s.egress := rfl
@[simp] theorem emit_progGates (s : State) (o : Out) : (emit s o).progGates = s.progGates := rfl
@[simp] theorem emit_modules (s : State) (o : Out) : (emit s o).modules = s.modules := rfl
@[simp] theorem emit_history (s : State) (o : Out) : (emit s o).history = s.history := rfl
@[simp] theorem emit_links (s : State) (o : Out) : (emit s o).links = s.links := rfl
@[simp] theorem emit_climbs (s : State) (o : Out) : (emit s o).climbs = s.climbs := rfl
@[simp] theorem emit_decodes (s : State) (o : Out) : (emit s o).decodes = s.decodes := rfl
@[simp] theorem emit_groups (s : State) (o : Out) : (emit s o).groups = s.groups := rfl
@[simp] theorem emit_pqeRun (s : State) (o : Out) : (emit s o).pqeRun = s.pqeRun := rfl
@[simp] theorem emit_pqeQueue (s : State) (o : Out) : (emit s o).pqeQueue = s.pqeQueue := rfl
@[simp] theorem emit_pqeBytes (s : State) (o : Out) : (emit s o).pqeBytes = s.pqeBytes := rfl
@[simp] theorem emit_reshape (s : State) (o : Out) : (emit s o).reshape = s.reshape := rfl
@[simp] theorem emit_reshapeResult (s : State) (o : Out) : (emit s o).reshapeResult = s.reshapeResult := rfl
@[simp] theorem emit_losses (s : State) (o : Out) : (emit s o).losses = s.losses := rfl
@[simp] theorem emit_lossGen (s : State) (o : Out) : (emit s o).lossGen = s.lossGen := rfl
@[simp] theorem emit_journal (s : State) (o : Out) : (emit s o).journal = s.journal := rfl
@[simp] theorem emit_journalSeq (s : State) (o : Out) : (emit s o).journalSeq = s.journalSeq := rfl
@[simp] theorem emit_channels (s : State) (o : Out) : (emit s o).channels = s.channels := rfl
@[simp] theorem emit_die (s : State) (o : Out) : (emit s o).die = s.die := rfl
@[simp] theorem emit_wakeSeq (s : State) (o : Out) : (emit s o).wakeSeq = s.wakeSeq := rfl
@[simp] theorem emit_sec (s : State) (o : Out) : (emit s o).sec = s.sec := rfl
@[simp] theorem emit_vault (s : State) (o : Out) : (emit s o).vault = s.vault := rfl
@[simp] theorem emit_crypto (s : State) (o : Out) : (emit s o).crypto = s.crypto := rfl
@[simp] theorem emit_alarm (s : State) (o : Out) : (emit s o).alarm = s.alarm := rfl
@[simp] theorem emit_rng (s : State) (o : Out) : (emit s o).rng = s.rng := rfl
@[simp] theorem emit_secWait (s : State) (o : Out) : (emit s o).secWait = s.secWait := rfl
@[simp] theorem emit_reqWait (s : State) (o : Out) : (emit s o).reqWait = s.reqWait := rfl
@[simp] theorem emit_pair (s : State) (o : Out) : (emit s o).pair = s.pair := rfl
@[simp] theorem emit_arbiters (s : State) (o : Out) : (emit s o).arbiters = s.arbiters := rfl
@[simp] theorem emit_dma (s : State) (o : Out) : (emit s o).dma = s.dma := rfl
@[simp] theorem emit_ddr (s : State) (o : Out) : (emit s o).ddr = s.ddr := rfl
@[simp] theorem emit_mrm (s : State) (o : Out) : (emit s o).mrm = s.mrm := rfl
@[simp] theorem emit_dram (s : State) (o : Out) : (emit s o).dram = s.dram := rfl
@[simp] theorem emit_mram (s : State) (o : Out) : (emit s o).mram = s.mram := rfl
@[simp] theorem emit_poison (s : State) (o : Out) : (emit s o).poison = s.poison := rfl
@[simp] theorem emit_svp (s : State) (o : Out) : (emit s o).svp = s.svp := rfl
@[simp] theorem emit_clk (s : State) (o : Out) : (emit s o).clk = s.clk := rfl
@[simp] theorem emit_pwr (s : State) (o : Out) : (emit s o).pwr = s.pwr := rfl
@[simp] theorem emit_boot (s : State) (o : Out) : (emit s o).boot = s.boot := rfl
@[simp] theorem emit_mgt (s : State) (o : Out) : (emit s o).mgt = s.mgt := rfl
@[simp] theorem emit_trace (s : State) (o : Out) : (emit s o).trace = s.trace := rfl
@[simp] theorem emit_tap (s : State) (o : Out) : (emit s o).tap = s.tap := rfl

@[simp] theorem emitAll_pending (s : State) (os : List Out) : (emitAll s os).pending = s.pending := rfl
@[simp] theorem emitAll_draws (s : State) (os : List Out) : (emitAll s os).draws = s.draws := rfl
@[simp] theorem emitAll_time (s : State) (os : List Out) : (emitAll s os).time = s.time := rfl
@[simp] theorem emitAll_pages (s : State) (os : List Out) : (emitAll s os).pages = s.pages := rfl
@[simp] theorem emitAll_regs (s : State) (os : List Out) : (emitAll s os).regs = s.regs := rfl
@[simp] theorem emitAll_namespaces (s : State) (os : List Out) : (emitAll s os).namespaces = s.namespaces := rfl
@[simp] theorem emitAll_zones (s : State) (os : List Out) : (emitAll s os).zones = s.zones := rfl
@[simp] theorem emitAll_stripes (s : State) (os : List Out) : (emitAll s os).stripes = s.stripes := rfl
@[simp] theorem emitAll_folds (s : State) (os : List Out) : (emitAll s os).folds = s.folds := rfl
@[simp] theorem emitAll_buffers (s : State) (os : List Out) : (emitAll s os).buffers = s.buffers := rfl
@[simp] theorem emitAll_logMap (s : State) (os : List Out) : (emitAll s os).logMap = s.logMap := rfl
@[simp] theorem emitAll_commands (s : State) (os : List Out) : (emitAll s os).commands = s.commands := rfl
@[simp] theorem emitAll_accepted (s : State) (os : List Out) : (emitAll s os).accepted = s.accepted := rfl
@[simp] theorem emitAll_rowJobs (s : State) (os : List Out) : (emitAll s os).rowJobs = s.rowJobs := rfl
@[simp] theorem emitAll_rowSeq (s : State) (os : List Out) : (emitAll s os).rowSeq = s.rowSeq := rfl
@[simp] theorem emitAll_cwSeq (s : State) (os : List Out) : (emitAll s os).cwSeq = s.cwSeq := rfl
@[simp] theorem emitAll_errorLog (s : State) (os : List Out) : (emitAll s os).errorLog = s.errorLog := rfl
@[simp] theorem emitAll_healthLog (s : State) (os : List Out) : (emitAll s os).healthLog = s.healthLog := rfl
@[simp] theorem emitAll_conns (s : State) (os : List Out) : (emitAll s os).conns = s.conns := rfl
@[simp] theorem emitAll_regions (s : State) (os : List Out) : (emitAll s os).regions = s.regions := rfl
@[simp] theorem emitAll_engines (s : State) (os : List Out) : (emitAll s os).engines = s.engines := rfl
@[simp] theorem emitAll_parked (s : State) (os : List Out) : (emitAll s os).parked = s.parked := rfl
@[simp] theorem emitAll_ports (s : State) (os : List Out) : (emitAll s os).ports = s.ports := rfl
@[simp] theorem emitAll_switch (s : State) (os : List Out) : (emitAll s os).switch = s.switch := rfl
@[simp] theorem emitAll_policers (s : State) (os : List Out) : (emitAll s os).policers = s.policers := rfl
@[simp] theorem emitAll_egress (s : State) (os : List Out) : (emitAll s os).egress = s.egress := rfl
@[simp] theorem emitAll_progGates (s : State) (os : List Out) : (emitAll s os).progGates = s.progGates := rfl
@[simp] theorem emitAll_modules (s : State) (os : List Out) : (emitAll s os).modules = s.modules := rfl
@[simp] theorem emitAll_history (s : State) (os : List Out) : (emitAll s os).history = s.history := rfl
@[simp] theorem emitAll_links (s : State) (os : List Out) : (emitAll s os).links = s.links := rfl
@[simp] theorem emitAll_climbs (s : State) (os : List Out) : (emitAll s os).climbs = s.climbs := rfl
@[simp] theorem emitAll_decodes (s : State) (os : List Out) : (emitAll s os).decodes = s.decodes := rfl
@[simp] theorem emitAll_groups (s : State) (os : List Out) : (emitAll s os).groups = s.groups := rfl
@[simp] theorem emitAll_pqeRun (s : State) (os : List Out) : (emitAll s os).pqeRun = s.pqeRun := rfl
@[simp] theorem emitAll_pqeQueue (s : State) (os : List Out) : (emitAll s os).pqeQueue = s.pqeQueue := rfl
@[simp] theorem emitAll_pqeBytes (s : State) (os : List Out) : (emitAll s os).pqeBytes = s.pqeBytes := rfl
@[simp] theorem emitAll_reshape (s : State) (os : List Out) : (emitAll s os).reshape = s.reshape := rfl
@[simp] theorem emitAll_reshapeResult (s : State) (os : List Out) : (emitAll s os).reshapeResult = s.reshapeResult := rfl
@[simp] theorem emitAll_losses (s : State) (os : List Out) : (emitAll s os).losses = s.losses := rfl
@[simp] theorem emitAll_lossGen (s : State) (os : List Out) : (emitAll s os).lossGen = s.lossGen := rfl
@[simp] theorem emitAll_journal (s : State) (os : List Out) : (emitAll s os).journal = s.journal := rfl
@[simp] theorem emitAll_journalSeq (s : State) (os : List Out) : (emitAll s os).journalSeq = s.journalSeq := rfl
@[simp] theorem emitAll_channels (s : State) (os : List Out) : (emitAll s os).channels = s.channels := rfl
@[simp] theorem emitAll_die (s : State) (os : List Out) : (emitAll s os).die = s.die := rfl
@[simp] theorem emitAll_wakeSeq (s : State) (os : List Out) : (emitAll s os).wakeSeq = s.wakeSeq := rfl
@[simp] theorem emitAll_sec (s : State) (os : List Out) : (emitAll s os).sec = s.sec := rfl
@[simp] theorem emitAll_vault (s : State) (os : List Out) : (emitAll s os).vault = s.vault := rfl
@[simp] theorem emitAll_crypto (s : State) (os : List Out) : (emitAll s os).crypto = s.crypto := rfl
@[simp] theorem emitAll_alarm (s : State) (os : List Out) : (emitAll s os).alarm = s.alarm := rfl
@[simp] theorem emitAll_rng (s : State) (os : List Out) : (emitAll s os).rng = s.rng := rfl
@[simp] theorem emitAll_secWait (s : State) (os : List Out) : (emitAll s os).secWait = s.secWait := rfl
@[simp] theorem emitAll_reqWait (s : State) (os : List Out) : (emitAll s os).reqWait = s.reqWait := rfl
@[simp] theorem emitAll_pair (s : State) (os : List Out) : (emitAll s os).pair = s.pair := rfl
@[simp] theorem emitAll_arbiters (s : State) (os : List Out) : (emitAll s os).arbiters = s.arbiters := rfl
@[simp] theorem emitAll_dma (s : State) (os : List Out) : (emitAll s os).dma = s.dma := rfl
@[simp] theorem emitAll_ddr (s : State) (os : List Out) : (emitAll s os).ddr = s.ddr := rfl
@[simp] theorem emitAll_mrm (s : State) (os : List Out) : (emitAll s os).mrm = s.mrm := rfl
@[simp] theorem emitAll_dram (s : State) (os : List Out) : (emitAll s os).dram = s.dram := rfl
@[simp] theorem emitAll_mram (s : State) (os : List Out) : (emitAll s os).mram = s.mram := rfl
@[simp] theorem emitAll_poison (s : State) (os : List Out) : (emitAll s os).poison = s.poison := rfl
@[simp] theorem emitAll_svp (s : State) (os : List Out) : (emitAll s os).svp = s.svp := rfl
@[simp] theorem emitAll_clk (s : State) (os : List Out) : (emitAll s os).clk = s.clk := rfl
@[simp] theorem emitAll_pwr (s : State) (os : List Out) : (emitAll s os).pwr = s.pwr := rfl
@[simp] theorem emitAll_boot (s : State) (os : List Out) : (emitAll s os).boot = s.boot := rfl
@[simp] theorem emitAll_mgt (s : State) (os : List Out) : (emitAll s os).mgt = s.mgt := rfl
@[simp] theorem emitAll_trace (s : State) (os : List Out) : (emitAll s os).trace = s.trace := rfl
@[simp] theorem emitAll_tap (s : State) (os : List Out) : (emitAll s os).tap = s.tap := rfl

@[simp] theorem setPage_pending (s : State) (n : Nat) (p : Page) : (setPage s n p).pending = s.pending := rfl
@[simp] theorem setPage_outs (s : State) (n : Nat) (p : Page) : (setPage s n p).outs = s.outs := rfl
@[simp] theorem setPage_draws (s : State) (n : Nat) (p : Page) : (setPage s n p).draws = s.draws := rfl
@[simp] theorem setPage_time (s : State) (n : Nat) (p : Page) : (setPage s n p).time = s.time := rfl
@[simp] theorem setPage_regs (s : State) (n : Nat) (p : Page) : (setPage s n p).regs = s.regs := rfl
@[simp] theorem setPage_namespaces (s : State) (n : Nat) (p : Page) : (setPage s n p).namespaces = s.namespaces := rfl
@[simp] theorem setPage_zones (s : State) (n : Nat) (p : Page) : (setPage s n p).zones = s.zones := rfl
@[simp] theorem setPage_stripes (s : State) (n : Nat) (p : Page) : (setPage s n p).stripes = s.stripes := rfl
@[simp] theorem setPage_folds (s : State) (n : Nat) (p : Page) : (setPage s n p).folds = s.folds := rfl
@[simp] theorem setPage_buffers (s : State) (n : Nat) (p : Page) : (setPage s n p).buffers = s.buffers := rfl
@[simp] theorem setPage_logMap (s : State) (n : Nat) (p : Page) : (setPage s n p).logMap = s.logMap := rfl
@[simp] theorem setPage_commands (s : State) (n : Nat) (p : Page) : (setPage s n p).commands = s.commands := rfl
@[simp] theorem setPage_accepted (s : State) (n : Nat) (p : Page) : (setPage s n p).accepted = s.accepted := rfl
@[simp] theorem setPage_rowJobs (s : State) (n : Nat) (p : Page) : (setPage s n p).rowJobs = s.rowJobs := rfl
@[simp] theorem setPage_rowSeq (s : State) (n : Nat) (p : Page) : (setPage s n p).rowSeq = s.rowSeq := rfl
@[simp] theorem setPage_cwSeq (s : State) (n : Nat) (p : Page) : (setPage s n p).cwSeq = s.cwSeq := rfl
@[simp] theorem setPage_errorLog (s : State) (n : Nat) (p : Page) : (setPage s n p).errorLog = s.errorLog := rfl
@[simp] theorem setPage_healthLog (s : State) (n : Nat) (p : Page) : (setPage s n p).healthLog = s.healthLog := rfl
@[simp] theorem setPage_conns (s : State) (n : Nat) (p : Page) : (setPage s n p).conns = s.conns := rfl
@[simp] theorem setPage_regions (s : State) (n : Nat) (p : Page) : (setPage s n p).regions = s.regions := rfl
@[simp] theorem setPage_engines (s : State) (n : Nat) (p : Page) : (setPage s n p).engines = s.engines := rfl
@[simp] theorem setPage_parked (s : State) (n : Nat) (p : Page) : (setPage s n p).parked = s.parked := rfl
@[simp] theorem setPage_ports (s : State) (n : Nat) (p : Page) : (setPage s n p).ports = s.ports := rfl
@[simp] theorem setPage_switch (s : State) (n : Nat) (p : Page) : (setPage s n p).switch = s.switch := rfl
@[simp] theorem setPage_policers (s : State) (n : Nat) (p : Page) : (setPage s n p).policers = s.policers := rfl
@[simp] theorem setPage_egress (s : State) (n : Nat) (p : Page) : (setPage s n p).egress = s.egress := rfl
@[simp] theorem setPage_progGates (s : State) (n : Nat) (p : Page) : (setPage s n p).progGates = s.progGates := rfl
@[simp] theorem setPage_modules (s : State) (n : Nat) (p : Page) : (setPage s n p).modules = s.modules := rfl
@[simp] theorem setPage_history (s : State) (n : Nat) (p : Page) : (setPage s n p).history = s.history := rfl
@[simp] theorem setPage_links (s : State) (n : Nat) (p : Page) : (setPage s n p).links = s.links := rfl
@[simp] theorem setPage_climbs (s : State) (n : Nat) (p : Page) : (setPage s n p).climbs = s.climbs := rfl
@[simp] theorem setPage_decodes (s : State) (n : Nat) (p : Page) : (setPage s n p).decodes = s.decodes := rfl
@[simp] theorem setPage_groups (s : State) (n : Nat) (p : Page) : (setPage s n p).groups = s.groups := rfl
@[simp] theorem setPage_pqeRun (s : State) (n : Nat) (p : Page) : (setPage s n p).pqeRun = s.pqeRun := rfl
@[simp] theorem setPage_pqeQueue (s : State) (n : Nat) (p : Page) : (setPage s n p).pqeQueue = s.pqeQueue := rfl
@[simp] theorem setPage_pqeBytes (s : State) (n : Nat) (p : Page) : (setPage s n p).pqeBytes = s.pqeBytes := rfl
@[simp] theorem setPage_reshape (s : State) (n : Nat) (p : Page) : (setPage s n p).reshape = s.reshape := rfl
@[simp] theorem setPage_reshapeResult (s : State) (n : Nat) (p : Page) : (setPage s n p).reshapeResult = s.reshapeResult := rfl
@[simp] theorem setPage_losses (s : State) (n : Nat) (p : Page) : (setPage s n p).losses = s.losses := rfl
@[simp] theorem setPage_lossGen (s : State) (n : Nat) (p : Page) : (setPage s n p).lossGen = s.lossGen := rfl
@[simp] theorem setPage_journal (s : State) (n : Nat) (p : Page) : (setPage s n p).journal = s.journal := rfl
@[simp] theorem setPage_journalSeq (s : State) (n : Nat) (p : Page) : (setPage s n p).journalSeq = s.journalSeq := rfl
@[simp] theorem setPage_channels (s : State) (n : Nat) (p : Page) : (setPage s n p).channels = s.channels := rfl
@[simp] theorem setPage_die (s : State) (n : Nat) (p : Page) : (setPage s n p).die = s.die := rfl
@[simp] theorem setPage_wakeSeq (s : State) (n : Nat) (p : Page) : (setPage s n p).wakeSeq = s.wakeSeq := rfl
@[simp] theorem setPage_sec (s : State) (n : Nat) (p : Page) : (setPage s n p).sec = s.sec := rfl
@[simp] theorem setPage_vault (s : State) (n : Nat) (p : Page) : (setPage s n p).vault = s.vault := rfl
@[simp] theorem setPage_crypto (s : State) (n : Nat) (p : Page) : (setPage s n p).crypto = s.crypto := rfl
@[simp] theorem setPage_alarm (s : State) (n : Nat) (p : Page) : (setPage s n p).alarm = s.alarm := rfl
@[simp] theorem setPage_rng (s : State) (n : Nat) (p : Page) : (setPage s n p).rng = s.rng := rfl
@[simp] theorem setPage_secWait (s : State) (n : Nat) (p : Page) : (setPage s n p).secWait = s.secWait := rfl
@[simp] theorem setPage_reqWait (s : State) (n : Nat) (p : Page) : (setPage s n p).reqWait = s.reqWait := rfl
@[simp] theorem setPage_pair (s : State) (n : Nat) (p : Page) : (setPage s n p).pair = s.pair := rfl
@[simp] theorem setPage_arbiters (s : State) (n : Nat) (p : Page) : (setPage s n p).arbiters = s.arbiters := rfl
@[simp] theorem setPage_dma (s : State) (n : Nat) (p : Page) : (setPage s n p).dma = s.dma := rfl
@[simp] theorem setPage_ddr (s : State) (n : Nat) (p : Page) : (setPage s n p).ddr = s.ddr := rfl
@[simp] theorem setPage_mrm (s : State) (n : Nat) (p : Page) : (setPage s n p).mrm = s.mrm := rfl
@[simp] theorem setPage_dram (s : State) (n : Nat) (p : Page) : (setPage s n p).dram = s.dram := rfl
@[simp] theorem setPage_mram (s : State) (n : Nat) (p : Page) : (setPage s n p).mram = s.mram := rfl
@[simp] theorem setPage_poison (s : State) (n : Nat) (p : Page) : (setPage s n p).poison = s.poison := rfl
@[simp] theorem setPage_svp (s : State) (n : Nat) (p : Page) : (setPage s n p).svp = s.svp := rfl
@[simp] theorem setPage_clk (s : State) (n : Nat) (p : Page) : (setPage s n p).clk = s.clk := rfl
@[simp] theorem setPage_pwr (s : State) (n : Nat) (p : Page) : (setPage s n p).pwr = s.pwr := rfl
@[simp] theorem setPage_boot (s : State) (n : Nat) (p : Page) : (setPage s n p).boot = s.boot := rfl
@[simp] theorem setPage_mgt (s : State) (n : Nat) (p : Page) : (setPage s n p).mgt = s.mgt := rfl
@[simp] theorem setPage_trace (s : State) (n : Nat) (p : Page) : (setPage s n p).trace = s.trace := rfl
@[simp] theorem setPage_tap (s : State) (n : Nat) (p : Page) : (setPage s n p).tap = s.tap := rfl

@[simp] theorem setReg_pending (s : State) (n off : Nat) (v : Word) : (setReg s n off v).pending = s.pending := rfl
@[simp] theorem setReg_outs (s : State) (n off : Nat) (v : Word) : (setReg s n off v).outs = s.outs := rfl
@[simp] theorem setReg_draws (s : State) (n off : Nat) (v : Word) : (setReg s n off v).draws = s.draws := rfl
@[simp] theorem setReg_time (s : State) (n off : Nat) (v : Word) : (setReg s n off v).time = s.time := rfl
@[simp] theorem setReg_pages (s : State) (n off : Nat) (v : Word) : (setReg s n off v).pages = s.pages := rfl
@[simp] theorem setReg_namespaces (s : State) (n off : Nat) (v : Word) : (setReg s n off v).namespaces = s.namespaces := rfl
@[simp] theorem setReg_zones (s : State) (n off : Nat) (v : Word) : (setReg s n off v).zones = s.zones := rfl
@[simp] theorem setReg_stripes (s : State) (n off : Nat) (v : Word) : (setReg s n off v).stripes = s.stripes := rfl
@[simp] theorem setReg_folds (s : State) (n off : Nat) (v : Word) : (setReg s n off v).folds = s.folds := rfl
@[simp] theorem setReg_buffers (s : State) (n off : Nat) (v : Word) : (setReg s n off v).buffers = s.buffers := rfl
@[simp] theorem setReg_logMap (s : State) (n off : Nat) (v : Word) : (setReg s n off v).logMap = s.logMap := rfl
@[simp] theorem setReg_commands (s : State) (n off : Nat) (v : Word) : (setReg s n off v).commands = s.commands := rfl
@[simp] theorem setReg_accepted (s : State) (n off : Nat) (v : Word) : (setReg s n off v).accepted = s.accepted := rfl
@[simp] theorem setReg_rowJobs (s : State) (n off : Nat) (v : Word) : (setReg s n off v).rowJobs = s.rowJobs := rfl
@[simp] theorem setReg_rowSeq (s : State) (n off : Nat) (v : Word) : (setReg s n off v).rowSeq = s.rowSeq := rfl
@[simp] theorem setReg_cwSeq (s : State) (n off : Nat) (v : Word) : (setReg s n off v).cwSeq = s.cwSeq := rfl
@[simp] theorem setReg_errorLog (s : State) (n off : Nat) (v : Word) : (setReg s n off v).errorLog = s.errorLog := rfl
@[simp] theorem setReg_healthLog (s : State) (n off : Nat) (v : Word) : (setReg s n off v).healthLog = s.healthLog := rfl
@[simp] theorem setReg_conns (s : State) (n off : Nat) (v : Word) : (setReg s n off v).conns = s.conns := rfl
@[simp] theorem setReg_regions (s : State) (n off : Nat) (v : Word) : (setReg s n off v).regions = s.regions := rfl
@[simp] theorem setReg_engines (s : State) (n off : Nat) (v : Word) : (setReg s n off v).engines = s.engines := rfl
@[simp] theorem setReg_parked (s : State) (n off : Nat) (v : Word) : (setReg s n off v).parked = s.parked := rfl
@[simp] theorem setReg_ports (s : State) (n off : Nat) (v : Word) : (setReg s n off v).ports = s.ports := rfl
@[simp] theorem setReg_switch (s : State) (n off : Nat) (v : Word) : (setReg s n off v).switch = s.switch := rfl
@[simp] theorem setReg_policers (s : State) (n off : Nat) (v : Word) : (setReg s n off v).policers = s.policers := rfl
@[simp] theorem setReg_egress (s : State) (n off : Nat) (v : Word) : (setReg s n off v).egress = s.egress := rfl
@[simp] theorem setReg_progGates (s : State) (n off : Nat) (v : Word) : (setReg s n off v).progGates = s.progGates := rfl
@[simp] theorem setReg_modules (s : State) (n off : Nat) (v : Word) : (setReg s n off v).modules = s.modules := rfl
@[simp] theorem setReg_history (s : State) (n off : Nat) (v : Word) : (setReg s n off v).history = s.history := rfl
@[simp] theorem setReg_links (s : State) (n off : Nat) (v : Word) : (setReg s n off v).links = s.links := rfl
@[simp] theorem setReg_climbs (s : State) (n off : Nat) (v : Word) : (setReg s n off v).climbs = s.climbs := rfl
@[simp] theorem setReg_decodes (s : State) (n off : Nat) (v : Word) : (setReg s n off v).decodes = s.decodes := rfl
@[simp] theorem setReg_groups (s : State) (n off : Nat) (v : Word) : (setReg s n off v).groups = s.groups := rfl
@[simp] theorem setReg_pqeRun (s : State) (n off : Nat) (v : Word) : (setReg s n off v).pqeRun = s.pqeRun := rfl
@[simp] theorem setReg_pqeQueue (s : State) (n off : Nat) (v : Word) : (setReg s n off v).pqeQueue = s.pqeQueue := rfl
@[simp] theorem setReg_pqeBytes (s : State) (n off : Nat) (v : Word) : (setReg s n off v).pqeBytes = s.pqeBytes := rfl
@[simp] theorem setReg_reshape (s : State) (n off : Nat) (v : Word) : (setReg s n off v).reshape = s.reshape := rfl
@[simp] theorem setReg_reshapeResult (s : State) (n off : Nat) (v : Word) : (setReg s n off v).reshapeResult = s.reshapeResult := rfl
@[simp] theorem setReg_losses (s : State) (n off : Nat) (v : Word) : (setReg s n off v).losses = s.losses := rfl
@[simp] theorem setReg_lossGen (s : State) (n off : Nat) (v : Word) : (setReg s n off v).lossGen = s.lossGen := rfl
@[simp] theorem setReg_journal (s : State) (n off : Nat) (v : Word) : (setReg s n off v).journal = s.journal := rfl
@[simp] theorem setReg_journalSeq (s : State) (n off : Nat) (v : Word) : (setReg s n off v).journalSeq = s.journalSeq := rfl
@[simp] theorem setReg_channels (s : State) (n off : Nat) (v : Word) : (setReg s n off v).channels = s.channels := rfl
@[simp] theorem setReg_die (s : State) (n off : Nat) (v : Word) : (setReg s n off v).die = s.die := rfl
@[simp] theorem setReg_wakeSeq (s : State) (n off : Nat) (v : Word) : (setReg s n off v).wakeSeq = s.wakeSeq := rfl
@[simp] theorem setReg_sec (s : State) (n off : Nat) (v : Word) : (setReg s n off v).sec = s.sec := rfl
@[simp] theorem setReg_vault (s : State) (n off : Nat) (v : Word) : (setReg s n off v).vault = s.vault := rfl
@[simp] theorem setReg_crypto (s : State) (n off : Nat) (v : Word) : (setReg s n off v).crypto = s.crypto := rfl
@[simp] theorem setReg_alarm (s : State) (n off : Nat) (v : Word) : (setReg s n off v).alarm = s.alarm := rfl
@[simp] theorem setReg_rng (s : State) (n off : Nat) (v : Word) : (setReg s n off v).rng = s.rng := rfl
@[simp] theorem setReg_secWait (s : State) (n off : Nat) (v : Word) : (setReg s n off v).secWait = s.secWait := rfl
@[simp] theorem setReg_reqWait (s : State) (n off : Nat) (v : Word) : (setReg s n off v).reqWait = s.reqWait := rfl
@[simp] theorem setReg_pair (s : State) (n off : Nat) (v : Word) : (setReg s n off v).pair = s.pair := rfl
@[simp] theorem setReg_arbiters (s : State) (n off : Nat) (v : Word) : (setReg s n off v).arbiters = s.arbiters := rfl
@[simp] theorem setReg_dma (s : State) (n off : Nat) (v : Word) : (setReg s n off v).dma = s.dma := rfl
@[simp] theorem setReg_ddr (s : State) (n off : Nat) (v : Word) : (setReg s n off v).ddr = s.ddr := rfl
@[simp] theorem setReg_mrm (s : State) (n off : Nat) (v : Word) : (setReg s n off v).mrm = s.mrm := rfl
@[simp] theorem setReg_dram (s : State) (n off : Nat) (v : Word) : (setReg s n off v).dram = s.dram := rfl
@[simp] theorem setReg_mram (s : State) (n off : Nat) (v : Word) : (setReg s n off v).mram = s.mram := rfl
@[simp] theorem setReg_poison (s : State) (n off : Nat) (v : Word) : (setReg s n off v).poison = s.poison := rfl
@[simp] theorem setReg_svp (s : State) (n off : Nat) (v : Word) : (setReg s n off v).svp = s.svp := rfl
@[simp] theorem setReg_clk (s : State) (n off : Nat) (v : Word) : (setReg s n off v).clk = s.clk := rfl
@[simp] theorem setReg_pwr (s : State) (n off : Nat) (v : Word) : (setReg s n off v).pwr = s.pwr := rfl
@[simp] theorem setReg_boot (s : State) (n off : Nat) (v : Word) : (setReg s n off v).boot = s.boot := rfl
@[simp] theorem setReg_mgt (s : State) (n off : Nat) (v : Word) : (setReg s n off v).mgt = s.mgt := rfl
@[simp] theorem setReg_trace (s : State) (n off : Nat) (v : Word) : (setReg s n off v).trace = s.trace := rfl
@[simp] theorem setReg_tap (s : State) (n off : Nat) (v : Word) : (setReg s n off v).tap = s.tap := rfl

@[simp] theorem tail_outs (s : State) : (s.tail).outs = s.outs := rfl
@[simp] theorem tail_draws (s : State) : (s.tail).draws = s.draws := rfl
@[simp] theorem tail_time (s : State) : (s.tail).time = s.time := rfl
@[simp] theorem tail_pages (s : State) : (s.tail).pages = s.pages := rfl
@[simp] theorem tail_regs (s : State) : (s.tail).regs = s.regs := rfl
@[simp] theorem tail_namespaces (s : State) : (s.tail).namespaces = s.namespaces := rfl
@[simp] theorem tail_zones (s : State) : (s.tail).zones = s.zones := rfl
@[simp] theorem tail_stripes (s : State) : (s.tail).stripes = s.stripes := rfl
@[simp] theorem tail_folds (s : State) : (s.tail).folds = s.folds := rfl
@[simp] theorem tail_buffers (s : State) : (s.tail).buffers = s.buffers := rfl
@[simp] theorem tail_logMap (s : State) : (s.tail).logMap = s.logMap := rfl
@[simp] theorem tail_commands (s : State) : (s.tail).commands = s.commands := rfl
@[simp] theorem tail_accepted (s : State) : (s.tail).accepted = s.accepted := rfl
@[simp] theorem tail_rowJobs (s : State) : (s.tail).rowJobs = s.rowJobs := rfl
@[simp] theorem tail_rowSeq (s : State) : (s.tail).rowSeq = s.rowSeq := rfl
@[simp] theorem tail_cwSeq (s : State) : (s.tail).cwSeq = s.cwSeq := rfl
@[simp] theorem tail_errorLog (s : State) : (s.tail).errorLog = s.errorLog := rfl
@[simp] theorem tail_healthLog (s : State) : (s.tail).healthLog = s.healthLog := rfl
@[simp] theorem tail_conns (s : State) : (s.tail).conns = s.conns := rfl
@[simp] theorem tail_regions (s : State) : (s.tail).regions = s.regions := rfl
@[simp] theorem tail_engines (s : State) : (s.tail).engines = s.engines := rfl
@[simp] theorem tail_parked (s : State) : (s.tail).parked = s.parked := rfl
@[simp] theorem tail_ports (s : State) : (s.tail).ports = s.ports := rfl
@[simp] theorem tail_switch (s : State) : (s.tail).switch = s.switch := rfl
@[simp] theorem tail_policers (s : State) : (s.tail).policers = s.policers := rfl
@[simp] theorem tail_egress (s : State) : (s.tail).egress = s.egress := rfl
@[simp] theorem tail_progGates (s : State) : (s.tail).progGates = s.progGates := rfl
@[simp] theorem tail_modules (s : State) : (s.tail).modules = s.modules := rfl
@[simp] theorem tail_history (s : State) : (s.tail).history = s.history := rfl
@[simp] theorem tail_links (s : State) : (s.tail).links = s.links := rfl
@[simp] theorem tail_climbs (s : State) : (s.tail).climbs = s.climbs := rfl
@[simp] theorem tail_decodes (s : State) : (s.tail).decodes = s.decodes := rfl
@[simp] theorem tail_groups (s : State) : (s.tail).groups = s.groups := rfl
@[simp] theorem tail_pqeRun (s : State) : (s.tail).pqeRun = s.pqeRun := rfl
@[simp] theorem tail_pqeQueue (s : State) : (s.tail).pqeQueue = s.pqeQueue := rfl
@[simp] theorem tail_pqeBytes (s : State) : (s.tail).pqeBytes = s.pqeBytes := rfl
@[simp] theorem tail_reshape (s : State) : (s.tail).reshape = s.reshape := rfl
@[simp] theorem tail_reshapeResult (s : State) : (s.tail).reshapeResult = s.reshapeResult := rfl
@[simp] theorem tail_losses (s : State) : (s.tail).losses = s.losses := rfl
@[simp] theorem tail_lossGen (s : State) : (s.tail).lossGen = s.lossGen := rfl
@[simp] theorem tail_journal (s : State) : (s.tail).journal = s.journal := rfl
@[simp] theorem tail_journalSeq (s : State) : (s.tail).journalSeq = s.journalSeq := rfl
@[simp] theorem tail_channels (s : State) : (s.tail).channels = s.channels := rfl
@[simp] theorem tail_die (s : State) : (s.tail).die = s.die := rfl
@[simp] theorem tail_wakeSeq (s : State) : (s.tail).wakeSeq = s.wakeSeq := rfl
@[simp] theorem tail_sec (s : State) : (s.tail).sec = s.sec := rfl
@[simp] theorem tail_vault (s : State) : (s.tail).vault = s.vault := rfl
@[simp] theorem tail_crypto (s : State) : (s.tail).crypto = s.crypto := rfl
@[simp] theorem tail_alarm (s : State) : (s.tail).alarm = s.alarm := rfl
@[simp] theorem tail_rng (s : State) : (s.tail).rng = s.rng := rfl
@[simp] theorem tail_secWait (s : State) : (s.tail).secWait = s.secWait := rfl
@[simp] theorem tail_reqWait (s : State) : (s.tail).reqWait = s.reqWait := rfl
@[simp] theorem tail_pair (s : State) : (s.tail).pair = s.pair := rfl
@[simp] theorem tail_arbiters (s : State) : (s.tail).arbiters = s.arbiters := rfl
@[simp] theorem tail_dma (s : State) : (s.tail).dma = s.dma := rfl
@[simp] theorem tail_ddr (s : State) : (s.tail).ddr = s.ddr := rfl
@[simp] theorem tail_mrm (s : State) : (s.tail).mrm = s.mrm := rfl
@[simp] theorem tail_dram (s : State) : (s.tail).dram = s.dram := rfl
@[simp] theorem tail_mram (s : State) : (s.tail).mram = s.mram := rfl
@[simp] theorem tail_poison (s : State) : (s.tail).poison = s.poison := rfl
@[simp] theorem tail_svp (s : State) : (s.tail).svp = s.svp := rfl
@[simp] theorem tail_clk (s : State) : (s.tail).clk = s.clk := rfl
@[simp] theorem tail_pwr (s : State) : (s.tail).pwr = s.pwr := rfl
@[simp] theorem tail_boot (s : State) : (s.tail).boot = s.boot := rfl
@[simp] theorem tail_mgt (s : State) : (s.tail).mgt = s.mgt := rfl
@[simp] theorem tail_trace (s : State) : (s.tail).trace = s.trace := rfl
@[simp] theorem tail_tap (s : State) : (s.tail).tap = s.tap := rfl

@[simp] theorem emit_outs (s : State) (o : Out) : (emit s o).outs = o :: s.outs := rfl
@[simp] theorem emitAll_outs (s : State) (os : List Out) : (emitAll s os).outs = os.reverse ++ s.outs := rfl
@[simp] theorem setPage_pages (s : State) (n : Nat) (p : Page) : (setPage s n p).pages = s.pages.set n p := rfl
@[simp] theorem setReg_regs (s : State) (n off : Nat) (v : Word) :
    (setReg s n off v).regs = s.regs.set (regKey n off) v := rfl
@[simp] theorem tail_pending (s : State) : s.tail.pending = s.pending.drop 1 := rfl

/-! ## Tables -/

@[simp] theorem findKey_insertKey_self {α : Type} (k : Nat) (v : α) (l : List (Nat × α)) :
    findKey k (insertKey k v l) = some v := by
  induction l with
  | nil => simp [insertKey, findKey]
  | cons e r ih =>
    obtain ⟨j, w⟩ := e
    simp only [insertKey]
    split
    · simp [findKey]
    · split
      · simp [findKey]
      · simp [findKey, *]

theorem findKey_insertKey_ne {α : Type} {k j : Nat} (h : k ≠ j) (v : α) (l : List (Nat × α)) :
    findKey k (insertKey j v l) = findKey k l := by
  induction l with
  | nil => simp [insertKey, findKey, h.symm]
  | cons e r ih =>
    obtain ⟨i, w⟩ := e
    simp only [insertKey]
    split
    · simp [findKey, h.symm]
    · split
      · next e => subst e; simp [findKey, h.symm]
      · simp [findKey, ih]

@[simp] theorem findKey_eraseKey_self {α : Type} (k : Nat) (l : List (Nat × α)) : findKey k (eraseKey k l) = none := by
  induction l with
  | nil => rfl
  | cons e r ih =>
    obtain ⟨j, w⟩ := e
    simp only [eraseKey]
    split
    · exact ih
    · simp [findKey, *]

theorem findKey_eraseKey_ne {α : Type} {k j : Nat} (h : k ≠ j) (l : List (Nat × α)) :
    findKey k (eraseKey j l) = findKey k l := by
  induction l with
  | nil => rfl
  | cons e r ih =>
    obtain ⟨i, w⟩ := e
    simp only [eraseKey]
    split
    · next e => subst e; simp [findKey, h.symm, ih]
    · simp [findKey, ih]

@[simp] theorem get_set_self {α : Type} (t : Tab α) (k : Nat) (v : α) : (t.set k v).get k = some v :=
  findKey_insertKey_self k v t.entries
theorem get_set_ne {α : Type} (t : Tab α) {k j : Nat} (h : k ≠ j) (v : α) : (t.set j v).get k = t.get k :=
  findKey_insertKey_ne h v t.entries
@[simp] theorem getD_set_self {α : Type} (t : Tab α) (k : Nat) (v d : α) : (t.set k v).getD k d = v := by
  simp [Tab.getD]
theorem getD_set_ne {α : Type} (t : Tab α) {k j : Nat} (h : k ≠ j) (v d : α) : (t.set j v).getD k d = t.getD k d := by
  simp [Tab.getD, get_set_ne t h]
@[simp] theorem get_erase_self {α : Type} (t : Tab α) (k : Nat) : (t.erase k).get k = none :=
  findKey_eraseKey_self k t.entries
theorem get_erase_ne {α : Type} (t : Tab α) {k j : Nat} (h : k ≠ j) : (t.erase j).get k = t.get k :=
  findKey_eraseKey_ne h t.entries
@[simp] theorem get_empty {α : Type} (k : Nat) : (Tab.empty : Tab α).get k = none := rfl

/-! ## Registers and headers after an update -/

@[simp] theorem resetReg_emit (s : State) (o : Out) (p off : Nat) : resetReg (emit s o) p off = resetReg s p off := rfl
@[simp] theorem resetReg_setPage (s : State) (n : Nat) (q : Page) (p off : Nat) :
    resetReg (setPage s n q) p off = resetReg s p off := rfl
@[simp] theorem resetReg_setReg (s : State) (n o : Nat) (v : Word) (p off : Nat) :
    resetReg (setReg s n o v) p off = resetReg s p off := rfl
@[simp] theorem regOf_emit (s : State) (o : Out) (p off : Nat) : regOf (emit s o) p off = regOf s p off := rfl
@[simp] theorem regOf_setPage (s : State) (n : Nat) (q : Page) (p off : Nat) :
    regOf (setPage s n q) p off = regOf s p off := rfl
@[simp] theorem regOf_setReg_self (s : State) (n o : Nat) (v : Word) : regOf (setReg s n o v) n o = v := by
  simp [regOf]
theorem regOf_setReg_ne (s : State) {n o p off : Nat} (h : regKey p off ≠ regKey n o) (v : Word) :
    regOf (setReg s n o v) p off = regOf s p off := by
  simp [regOf, get_set_ne _ h]
@[simp] theorem getPage_emit (s : State) (o : Out) (p : Nat) : getPage (emit s o) p = getPage s p := rfl
@[simp] theorem getPage_setReg (s : State) (n o : Nat) (v : Word) (p : Nat) :
    getPage (setReg s n o v) p = getPage s p := rfl
@[simp] theorem getPage_setPage_self (s : State) (n : Nat) (q : Page) : getPage (setPage s n q) n = q := by
  simp [getPage]
theorem getPage_setPage_ne (s : State) {n p : Nat} (h : p ≠ n) (q : Page) : getPage (setPage s n q) p = getPage s p := by
  simp [getPage, getD_set_ne _ h]

end Sys2Proof.Machine
end

