-- ==== Sys2Proof/Laws/Pages.lean ====
section
/-! SUPPORT. What events, causes and errors leave of a page's header: only counters, INT_RAW and the error registers
move, on that page alone. -/
namespace Sys2Proof.Machine

theorem pmcCountOne_ctl (run : Bool) (code k : Nat) (p : Page) (i : Nat) :
    (pmcCountOne run code k p i).ctl = p.ctl := by
  unfold pmcCountOne
  dsimp only
  split
  · rfl
  · split <;> rfl

theorem foldl_ctl (f : Page → Nat → Page) (h : ∀ p i, (f p i).ctl = p.ctl) (l : List Nat) (p : Page) :
    (l.foldl f p).ctl = p.ctl := by
  induction l generalizing p with
  | nil => rfl
  | cons a l ih => rw [List.foldl_cons, ih, h]

@[simp] theorem pmcCount_ctl (run : Bool) (code k : Nat) (p : Page) : (pmcCount run code k p).ctl = p.ctl := by
  unfold pmcCount
  split
  · rfl
  · exact foldl_ctl _ (fun p i => pmcCountOne_ctl run code k p i) _ p

@[simp] theorem causeBits_ctl (run : Bool) (p : Page) (m : Word) : (causeBits run p m).ctl = p.ctl := by
  unfold causeBits
  rw [pmcCount_ctl]
  rfl

@[simp] theorem ovfCause_ctl (run : Bool) (b a : Page) : (ovfCause run b a).ctl = a.ctl := by
  unfold ovfCause
  split
  · rfl
  · exact causeBits_ctl ..

@[simp] theorem headerEvent_ctl (run : Bool) (c k : Nat) (p : Page) : (headerEvent run c k p).ctl = p.ctl := by
  simp [headerEvent]

@[simp] theorem headerRaise_ctl (run : Bool) (m : Word) (p : Page) : (headerRaise run m p).ctl = p.ctl := by
  simp [headerRaise]

@[simp] theorem headerError_ctl (run : Bool) (c r a : Nat) (p : Page) : (headerError run c r a p).ctl = p.ctl := by
  unfold headerError
  dsimp only
  split
  · rw [headerRaise_ctl]; exact headerEvent_ctl run 0x004 1 p
  · exact headerEvent_ctl run 0x004 1 p

@[simp] theorem headerEvent_enable (run : Bool) (c k : Nat) (p : Page) : (headerEvent run c k p).enable = p.enable :=
  (congrArg Page.enable (headerEvent_ctl run c k p) :)
@[simp] theorem headerEvent_quiesce (run : Bool) (c k : Nat) (p : Page) : (headerEvent run c k p).quiesce = p.quiesce :=
  (congrArg Page.quiesce (headerEvent_ctl run c k p) :)
@[simp] theorem headerEvent_softReset (run : Bool) (c k : Nat) (p : Page) : (headerEvent run c k p).softReset = p.softReset :=
  (congrArg Page.softReset (headerEvent_ctl run c k p) :)
@[simp] theorem headerEvent_lockReq (run : Bool) (c k : Nat) (p : Page) : (headerEvent run c k p).lockReq = p.lockReq :=
  (congrArg Page.lockReq (headerEvent_ctl run c k p) :)
@[simp] theorem headerEvent_enabled (run : Bool) (c k : Nat) (p : Page) : (headerEvent run c k p).enabled = p.enabled :=
  (congrArg Page.enabled (headerEvent_ctl run c k p) :)
@[simp] theorem headerEvent_enabling (run : Bool) (c k : Nat) (p : Page) : (headerEvent run c k p).enabling = p.enabling :=
  (congrArg Page.enabling (headerEvent_ctl run c k p) :)
@[simp] theorem headerEvent_shutdown (run : Bool) (c k : Nat) (p : Page) : (headerEvent run c k p).shutdown = p.shutdown :=
  (congrArg Page.shutdown (headerEvent_ctl run c k p) :)
@[simp] theorem headerEvent_reenable (run : Bool) (c k : Nat) (p : Page) : (headerEvent run c k p).reenable = p.reenable :=
  (congrArg Page.reenable (headerEvent_ctl run c k p) :)
@[simp] theorem headerEvent_fault (run : Bool) (c k : Nat) (p : Page) : (headerEvent run c k p).fault = p.fault :=
  (congrArg Page.fault (headerEvent_ctl run c k p) :)
@[simp] theorem headerEvent_quiesced (run : Bool) (c k : Nat) (p : Page) : (headerEvent run c k p).quiesced = p.quiesced :=
  (congrArg Page.quiesced (headerEvent_ctl run c k p) :)
@[simp] theorem headerEvent_lock (run : Bool) (c k : Nat) (p : Page) : (headerEvent run c k p).lock = p.lock :=
  (congrArg Page.lock (headerEvent_ctl run c k p) :)
@[simp] theorem headerEvent_intEn (run : Bool) (c k : Nat) (p : Page) : (headerEvent run c k p).intEn = p.intEn :=
  (congrArg Page.intEn (headerEvent_ctl run c k p) :)
@[simp] theorem headerEvent_pmcCtrl (run : Bool) (c k : Nat) (p : Page) : (headerEvent run c k p).pmcCtrl = p.pmcCtrl :=
  (congrArg Page.pmcCtrl (headerEvent_ctl run c k p) :)
@[simp] theorem headerEvent_pmcSel (run : Bool) (c k : Nat) (p : Page) : (headerEvent run c k p).pmcSel = p.pmcSel :=
  (congrArg Page.pmcSel (headerEvent_ctl run c k p) :)
@[simp] theorem headerEvent_cycBase (run : Bool) (c k : Nat) (p : Page) : (headerEvent run c k p).cycBase = p.cycBase :=
  (congrArg Page.cycBase (headerEvent_ctl run c k p) :)
@[simp] theorem headerEvent_latches (run : Bool) (c k : Nat) (p : Page) : (headerEvent run c k p).latches = p.latches :=
  (congrArg Page.latches (headerEvent_ctl run c k p) :)

@[simp] theorem headerRaise_enable (run : Bool) (m : Word) (p : Page) : (headerRaise run m p).enable = p.enable :=
  (congrArg Page.enable (headerRaise_ctl run m p) :)
@[simp] theorem headerRaise_quiesce (run : Bool) (m : Word) (p : Page) : (headerRaise run m p).quiesce = p.quiesce :=
  (congrArg Page.quiesce (headerRaise_ctl run m p) :)
@[simp] theorem headerRaise_softReset (run : Bool) (m : Word) (p : Page) : (headerRaise run m p).softReset = p.softReset :=
  (congrArg Page.softReset (headerRaise_ctl run m p) :)
@[simp] theorem headerRaise_lockReq (run : Bool) (m : Word) (p : Page) : (headerRaise run m p).lockReq = p.lockReq :=
  (congrArg Page.lockReq (headerRaise_ctl run m p) :)
@[simp] theorem headerRaise_enabled (run : Bool) (m : Word) (p : Page) : (headerRaise run m p).enabled = p.enabled :=
  (congrArg Page.enabled (headerRaise_ctl run m p) :)
@[simp] theorem headerRaise_enabling (run : Bool) (m : Word) (p : Page) : (headerRaise run m p).enabling = p.enabling :=
  (congrArg Page.enabling (headerRaise_ctl run m p) :)
@[simp] theorem headerRaise_shutdown (run : Bool) (m : Word) (p : Page) : (headerRaise run m p).shutdown = p.shutdown :=
  (congrArg Page.shutdown (headerRaise_ctl run m p) :)
@[simp] theorem headerRaise_reenable (run : Bool) (m : Word) (p : Page) : (headerRaise run m p).reenable = p.reenable :=
  (congrArg Page.reenable (headerRaise_ctl run m p) :)
@[simp] theorem headerRaise_fault (run : Bool) (m : Word) (p : Page) : (headerRaise run m p).fault = p.fault :=
  (congrArg Page.fault (headerRaise_ctl run m p) :)
@[simp] theorem headerRaise_quiesced (run : Bool) (m : Word) (p : Page) : (headerRaise run m p).quiesced = p.quiesced :=
  (congrArg Page.quiesced (headerRaise_ctl run m p) :)
@[simp] theorem headerRaise_lock (run : Bool) (m : Word) (p : Page) : (headerRaise run m p).lock = p.lock :=
  (congrArg Page.lock (headerRaise_ctl run m p) :)
@[simp] theorem headerRaise_intEn (run : Bool) (m : Word) (p : Page) : (headerRaise run m p).intEn = p.intEn :=
  (congrArg Page.intEn (headerRaise_ctl run m p) :)
@[simp] theorem headerRaise_pmcCtrl (run : Bool) (m : Word) (p : Page) : (headerRaise run m p).pmcCtrl = p.pmcCtrl :=
  (congrArg Page.pmcCtrl (headerRaise_ctl run m p) :)
@[simp] theorem headerRaise_pmcSel (run : Bool) (m : Word) (p : Page) : (headerRaise run m p).pmcSel = p.pmcSel :=
  (congrArg Page.pmcSel (headerRaise_ctl run m p) :)
@[simp] theorem headerRaise_cycBase (run : Bool) (m : Word) (p : Page) : (headerRaise run m p).cycBase = p.cycBase :=
  (congrArg Page.cycBase (headerRaise_ctl run m p) :)
@[simp] theorem headerRaise_latches (run : Bool) (m : Word) (p : Page) : (headerRaise run m p).latches = p.latches :=
  (congrArg Page.latches (headerRaise_ctl run m p) :)

@[simp] theorem headerError_enable (run : Bool) (c r a : Nat) (p : Page) : (headerError run c r a p).enable = p.enable :=
  (congrArg Page.enable (headerError_ctl run c r a p) :)
@[simp] theorem headerError_quiesce (run : Bool) (c r a : Nat) (p : Page) : (headerError run c r a p).quiesce = p.quiesce :=
  (congrArg Page.quiesce (headerError_ctl run c r a p) :)
@[simp] theorem headerError_softReset (run : Bool) (c r a : Nat) (p : Page) : (headerError run c r a p).softReset = p.softReset :=
  (congrArg Page.softReset (headerError_ctl run c r a p) :)
@[simp] theorem headerError_lockReq (run : Bool) (c r a : Nat) (p : Page) : (headerError run c r a p).lockReq = p.lockReq :=
  (congrArg Page.lockReq (headerError_ctl run c r a p) :)
@[simp] theorem headerError_enabled (run : Bool) (c r a : Nat) (p : Page) : (headerError run c r a p).enabled = p.enabled :=
  (congrArg Page.enabled (headerError_ctl run c r a p) :)
@[simp] theorem headerError_enabling (run : Bool) (c r a : Nat) (p : Page) : (headerError run c r a p).enabling = p.enabling :=
  (congrArg Page.enabling (headerError_ctl run c r a p) :)
@[simp] theorem headerError_shutdown (run : Bool) (c r a : Nat) (p : Page) : (headerError run c r a p).shutdown = p.shutdown :=
  (congrArg Page.shutdown (headerError_ctl run c r a p) :)
@[simp] theorem headerError_reenable (run : Bool) (c r a : Nat) (p : Page) : (headerError run c r a p).reenable = p.reenable :=
  (congrArg Page.reenable (headerError_ctl run c r a p) :)
@[simp] theorem headerError_fault (run : Bool) (c r a : Nat) (p : Page) : (headerError run c r a p).fault = p.fault :=
  (congrArg Page.fault (headerError_ctl run c r a p) :)
@[simp] theorem headerError_quiesced (run : Bool) (c r a : Nat) (p : Page) : (headerError run c r a p).quiesced = p.quiesced :=
  (congrArg Page.quiesced (headerError_ctl run c r a p) :)
@[simp] theorem headerError_lock (run : Bool) (c r a : Nat) (p : Page) : (headerError run c r a p).lock = p.lock :=
  (congrArg Page.lock (headerError_ctl run c r a p) :)
@[simp] theorem headerError_intEn (run : Bool) (c r a : Nat) (p : Page) : (headerError run c r a p).intEn = p.intEn :=
  (congrArg Page.intEn (headerError_ctl run c r a p) :)
@[simp] theorem headerError_pmcCtrl (run : Bool) (c r a : Nat) (p : Page) : (headerError run c r a p).pmcCtrl = p.pmcCtrl :=
  (congrArg Page.pmcCtrl (headerError_ctl run c r a p) :)
@[simp] theorem headerError_pmcSel (run : Bool) (c r a : Nat) (p : Page) : (headerError run c r a p).pmcSel = p.pmcSel :=
  (congrArg Page.pmcSel (headerError_ctl run c r a p) :)
@[simp] theorem headerError_cycBase (run : Bool) (c r a : Nat) (p : Page) : (headerError run c r a p).cycBase = p.cycBase :=
  (congrArg Page.cycBase (headerError_ctl run c r a p) :)
@[simp] theorem headerError_latches (run : Bool) (c r a : Nat) (p : Page) : (headerError run c r a p).latches = p.latches :=
  (congrArg Page.latches (headerError_ctl run c r a p) :)

/-! ## On the state -/

@[simp] theorem getPage_pmcEvent_self (s : State) (p c k : Nat) :
    getPage (pmcEvent s p c k) p = headerEvent (globalRun s) c k (getPage s p) := by simp [pmcEvent]
@[simp] theorem getPage_raiseCauses_self (s : State) (p : Nat) (m : Word) :
    getPage (raiseCauses s p m) p = headerRaise (globalRun s) m (getPage s p) := by simp [raiseCauses]
@[simp] theorem getPage_logError_self (s : State) (p c r a : Nat) :
    getPage (logError s p c r a) p = headerError (globalRun s) c r a (getPage s p) := by simp [logError]

@[simp] theorem pmcEvent_ctl (s : State) (q c k p : Nat) :
    (getPage (pmcEvent s q c k) p).ctl = (getPage s p).ctl := by
  by_cases h : p = q
  · subst h; simp
  · simp [pmcEvent, getPage_setPage_ne _ h]
@[simp] theorem raiseCauses_ctl (s : State) (q : Nat) (m : Word) (p : Nat) :
    (getPage (raiseCauses s q m) p).ctl = (getPage s p).ctl := by
  by_cases h : p = q
  · subst h; simp
  · simp [raiseCauses, getPage_setPage_ne _ h]
@[simp] theorem raiseCause_ctl (s : State) (q b p : Nat) :
    (getPage (raiseCause s q b) p).ctl = (getPage s p).ctl := raiseCauses_ctl ..
@[simp] theorem alertAt_ctl (s : State) (q off b base p : Nat) :
    (getPage (alertAt s q off b base) p).ctl = (getPage s p).ctl := by simp [alertAt]
@[simp] theorem alert_ctl (s : State) (q off b p : Nat) :
    (getPage (alert s q off b) p).ctl = (getPage s p).ctl := alertAt_ctl ..
@[simp] theorem logError_ctl (s : State) (q c r a p : Nat) :
    (getPage (logError s q c r a) p).ctl = (getPage s p).ctl := by
  by_cases h : p = q
  · subst h; simp
  · simp [logError, getPage_setPage_ne _ h]
@[simp] theorem bumpBy_getPage (s : State) (q off n p : Nat) : getPage (bumpBy s q off n) p = getPage s p := rfl
@[simp] theorem bump_getPage (s : State) (q off p : Nat) : getPage (bump s q off) p = getPage s p := rfl
@[simp] theorem countOn_getPage (s : State) (q off n p : Nat) : getPage (countOn s q off n) p = getPage s p := rfl

@[simp] theorem pmcEvent_enable (s : State) (q c k p : Nat) :
    (getPage (pmcEvent s q c k) p).enable = (getPage s p).enable :=
  (congrArg Page.enable (pmcEvent_ctl s q c k p) :)
@[simp] theorem pmcEvent_quiesce (s : State) (q c k p : Nat) :
    (getPage (pmcEvent s q c k) p).quiesce = (getPage s p).quiesce :=
  (congrArg Page.quiesce (pmcEvent_ctl s q c k p) :)
@[simp] theorem pmcEvent_softReset (s : State) (q c k p : Nat) :
    (getPage (pmcEvent s q c k) p).softReset = (getPage s p).softReset :=
  (congrArg Page.softReset (pmcEvent_ctl s q c k p) :)
@[simp] theorem pmcEvent_lockReq (s : State) (q c k p : Nat) :
    (getPage (pmcEvent s q c k) p).lockReq = (getPage s p).lockReq :=
  (congrArg Page.lockReq (pmcEvent_ctl s q c k p) :)
@[simp] theorem pmcEvent_enabled (s : State) (q c k p : Nat) :
    (getPage (pmcEvent s q c k) p).enabled = (getPage s p).enabled :=
  (congrArg Page.enabled (pmcEvent_ctl s q c k p) :)
@[simp] theorem pmcEvent_enabling (s : State) (q c k p : Nat) :
    (getPage (pmcEvent s q c k) p).enabling = (getPage s p).enabling :=
  (congrArg Page.enabling (pmcEvent_ctl s q c k p) :)
@[simp] theorem pmcEvent_shutdown (s : State) (q c k p : Nat) :
    (getPage (pmcEvent s q c k) p).shutdown = (getPage s p).shutdown :=
  (congrArg Page.shutdown (pmcEvent_ctl s q c k p) :)
@[simp] theorem pmcEvent_reenable (s : State) (q c k p : Nat) :
    (getPage (pmcEvent s q c k) p).reenable = (getPage s p).reenable :=
  (congrArg Page.reenable (pmcEvent_ctl s q c k p) :)
@[simp] theorem pmcEvent_fault (s : State) (q c k p : Nat) :
    (getPage (pmcEvent s q c k) p).fault = (getPage s p).fault :=
  (congrArg Page.fault (pmcEvent_ctl s q c k p) :)
@[simp] theorem pmcEvent_quiesced (s : State) (q c k p : Nat) :
    (getPage (pmcEvent s q c k) p).quiesced = (getPage s p).quiesced :=
  (congrArg Page.quiesced (pmcEvent_ctl s q c k p) :)
@[simp] theorem pmcEvent_lock (s : State) (q c k p : Nat) :
    (getPage (pmcEvent s q c k) p).lock = (getPage s p).lock :=
  (congrArg Page.lock (pmcEvent_ctl s q c k p) :)
@[simp] theorem pmcEvent_intEn (s : State) (q c k p : Nat) :
    (getPage (pmcEvent s q c k) p).intEn = (getPage s p).intEn :=
  (congrArg Page.intEn (pmcEvent_ctl s q c k p) :)
@[simp] theorem pmcEvent_pmcCtrl (s : State) (q c k p : Nat) :
    (getPage (pmcEvent s q c k) p).pmcCtrl = (getPage s p).pmcCtrl :=
  (congrArg Page.pmcCtrl (pmcEvent_ctl s q c k p) :)
@[simp] theorem pmcEvent_pmcSel (s : State) (q c k p : Nat) :
    (getPage (pmcEvent s q c k) p).pmcSel = (getPage s p).pmcSel :=
  (congrArg Page.pmcSel (pmcEvent_ctl s q c k p) :)
@[simp] theorem pmcEvent_cycBase (s : State) (q c k p : Nat) :
    (getPage (pmcEvent s q c k) p).cycBase = (getPage s p).cycBase :=
  (congrArg Page.cycBase (pmcEvent_ctl s q c k p) :)
@[simp] theorem pmcEvent_latches (s : State) (q c k p : Nat) :
    (getPage (pmcEvent s q c k) p).latches = (getPage s p).latches :=
  (congrArg Page.latches (pmcEvent_ctl s q c k p) :)

@[simp] theorem raiseCauses_enable (s : State) (q : Nat) (m : Word) (p : Nat) :
    (getPage (raiseCauses s q m) p).enable = (getPage s p).enable :=
  (congrArg Page.enable (raiseCauses_ctl s q m p) :)
@[simp] theorem raiseCauses_quiesce (s : State) (q : Nat) (m : Word) (p : Nat) :
    (getPage (raiseCauses s q m) p).quiesce = (getPage s p).quiesce :=
  (congrArg Page.quiesce (raiseCauses_ctl s q m p) :)
@[simp] theorem raiseCauses_softReset (s : State) (q : Nat) (m : Word) (p : Nat) :
    (getPage (raiseCauses s q m) p).softReset = (getPage s p).softReset :=
  (congrArg Page.softReset (raiseCauses_ctl s q m p) :)
@[simp] theorem raiseCauses_lockReq (s : State) (q : Nat) (m : Word) (p : Nat) :
    (getPage (raiseCauses s q m) p).lockReq = (getPage s p).lockReq :=
  (congrArg Page.lockReq (raiseCauses_ctl s q m p) :)
@[simp] theorem raiseCauses_enabled (s : State) (q : Nat) (m : Word) (p : Nat) :
    (getPage (raiseCauses s q m) p).enabled = (getPage s p).enabled :=
  (congrArg Page.enabled (raiseCauses_ctl s q m p) :)
@[simp] theorem raiseCauses_enabling (s : State) (q : Nat) (m : Word) (p : Nat) :
    (getPage (raiseCauses s q m) p).enabling = (getPage s p).enabling :=
  (congrArg Page.enabling (raiseCauses_ctl s q m p) :)
@[simp] theorem raiseCauses_shutdown (s : State) (q : Nat) (m : Word) (p : Nat) :
    (getPage (raiseCauses s q m) p).shutdown = (getPage s p).shutdown :=
  (congrArg Page.shutdown (raiseCauses_ctl s q m p) :)
@[simp] theorem raiseCauses_reenable (s : State) (q : Nat) (m : Word) (p : Nat) :
    (getPage (raiseCauses s q m) p).reenable = (getPage s p).reenable :=
  (congrArg Page.reenable (raiseCauses_ctl s q m p) :)
@[simp] theorem raiseCauses_fault (s : State) (q : Nat) (m : Word) (p : Nat) :
    (getPage (raiseCauses s q m) p).fault = (getPage s p).fault :=
  (congrArg Page.fault (raiseCauses_ctl s q m p) :)
@[simp] theorem raiseCauses_quiesced (s : State) (q : Nat) (m : Word) (p : Nat) :
    (getPage (raiseCauses s q m) p).quiesced = (getPage s p).quiesced :=
  (congrArg Page.quiesced (raiseCauses_ctl s q m p) :)
@[simp] theorem raiseCauses_lock (s : State) (q : Nat) (m : Word) (p : Nat) :
    (getPage (raiseCauses s q m) p).lock = (getPage s p).lock :=
  (congrArg Page.lock (raiseCauses_ctl s q m p) :)
@[simp] theorem raiseCauses_intEn (s : State) (q : Nat) (m : Word) (p : Nat) :
    (getPage (raiseCauses s q m) p).intEn = (getPage s p).intEn :=
  (congrArg Page.intEn (raiseCauses_ctl s q m p) :)
@[simp] theorem raiseCauses_pmcCtrl (s : State) (q : Nat) (m : Word) (p : Nat) :
    (getPage (raiseCauses s q m) p).pmcCtrl = (getPage s p).pmcCtrl :=
  (congrArg Page.pmcCtrl (raiseCauses_ctl s q m p) :)
@[simp] theorem raiseCauses_pmcSel (s : State) (q : Nat) (m : Word) (p : Nat) :
    (getPage (raiseCauses s q m) p).pmcSel = (getPage s p).pmcSel :=
  (congrArg Page.pmcSel (raiseCauses_ctl s q m p) :)
@[simp] theorem raiseCauses_cycBase (s : State) (q : Nat) (m : Word) (p : Nat) :
    (getPage (raiseCauses s q m) p).cycBase = (getPage s p).cycBase :=
  (congrArg Page.cycBase (raiseCauses_ctl s q m p) :)
@[simp] theorem raiseCauses_latches (s : State) (q : Nat) (m : Word) (p : Nat) :
    (getPage (raiseCauses s q m) p).latches = (getPage s p).latches :=
  (congrArg Page.latches (raiseCauses_ctl s q m p) :)

@[simp] theorem raiseCause_enable (s : State) (q b p : Nat) :
    (getPage (raiseCause s q b) p).enable = (getPage s p).enable :=
  (congrArg Page.enable (raiseCause_ctl s q b p) :)
@[simp] theorem raiseCause_quiesce (s : State) (q b p : Nat) :
    (getPage (raiseCause s q b) p).quiesce = (getPage s p).quiesce :=
  (congrArg Page.quiesce (raiseCause_ctl s q b p) :)
@[simp] theorem raiseCause_softReset (s : State) (q b p : Nat) :
    (getPage (raiseCause s q b) p).softReset = (getPage s p).softReset :=
  (congrArg Page.softReset (raiseCause_ctl s q b p) :)
@[simp] theorem raiseCause_lockReq (s : State) (q b p : Nat) :
    (getPage (raiseCause s q b) p).lockReq = (getPage s p).lockReq :=
  (congrArg Page.lockReq (raiseCause_ctl s q b p) :)
@[simp] theorem raiseCause_enabled (s : State) (q b p : Nat) :
    (getPage (raiseCause s q b) p).enabled = (getPage s p).enabled :=
  (congrArg Page.enabled (raiseCause_ctl s q b p) :)
@[simp] theorem raiseCause_enabling (s : State) (q b p : Nat) :
    (getPage (raiseCause s q b) p).enabling = (getPage s p).enabling :=
  (congrArg Page.enabling (raiseCause_ctl s q b p) :)
@[simp] theorem raiseCause_shutdown (s : State) (q b p : Nat) :
    (getPage (raiseCause s q b) p).shutdown = (getPage s p).shutdown :=
  (congrArg Page.shutdown (raiseCause_ctl s q b p) :)
@[simp] theorem raiseCause_reenable (s : State) (q b p : Nat) :
    (getPage (raiseCause s q b) p).reenable = (getPage s p).reenable :=
  (congrArg Page.reenable (raiseCause_ctl s q b p) :)
@[simp] theorem raiseCause_fault (s : State) (q b p : Nat) :
    (getPage (raiseCause s q b) p).fault = (getPage s p).fault :=
  (congrArg Page.fault (raiseCause_ctl s q b p) :)
@[simp] theorem raiseCause_quiesced (s : State) (q b p : Nat) :
    (getPage (raiseCause s q b) p).quiesced = (getPage s p).quiesced :=
  (congrArg Page.quiesced (raiseCause_ctl s q b p) :)
@[simp] theorem raiseCause_lock (s : State) (q b p : Nat) :
    (getPage (raiseCause s q b) p).lock = (getPage s p).lock :=
  (congrArg Page.lock (raiseCause_ctl s q b p) :)
@[simp] theorem raiseCause_intEn (s : State) (q b p : Nat) :
    (getPage (raiseCause s q b) p).intEn = (getPage s p).intEn :=
  (congrArg Page.intEn (raiseCause_ctl s q b p) :)
@[simp] theorem raiseCause_pmcCtrl (s : State) (q b p : Nat) :
    (getPage (raiseCause s q b) p).pmcCtrl = (getPage s p).pmcCtrl :=
  (congrArg Page.pmcCtrl (raiseCause_ctl s q b p) :)
@[simp] theorem raiseCause_pmcSel (s : State) (q b p : Nat) :
    (getPage (raiseCause s q b) p).pmcSel = (getPage s p).pmcSel :=
  (congrArg Page.pmcSel (raiseCause_ctl s q b p) :)
@[simp] theorem raiseCause_cycBase (s : State) (q b p : Nat) :
    (getPage (raiseCause s q b) p).cycBase = (getPage s p).cycBase :=
  (congrArg Page.cycBase (raiseCause_ctl s q b p) :)
@[simp] theorem raiseCause_latches (s : State) (q b p : Nat) :
    (getPage (raiseCause s q b) p).latches = (getPage s p).latches :=
  (congrArg Page.latches (raiseCause_ctl s q b p) :)

@[simp] theorem alertAt_enable (s : State) (q off b base p : Nat) :
    (getPage (alertAt s q off b base) p).enable = (getPage s p).enable :=
  (congrArg Page.enable (alertAt_ctl s q off b base p) :)
@[simp] theorem alertAt_quiesce (s : State) (q off b base p : Nat) :
    (getPage (alertAt s q off b base) p).quiesce = (getPage s p).quiesce :=
  (congrArg Page.quiesce (alertAt_ctl s q off b base p) :)
@[simp] theorem alertAt_softReset (s : State) (q off b base p : Nat) :
    (getPage (alertAt s q off b base) p).softReset = (getPage s p).softReset :=
  (congrArg Page.softReset (alertAt_ctl s q off b base p) :)
@[simp] theorem alertAt_lockReq (s : State) (q off b base p : Nat) :
    (getPage (alertAt s q off b base) p).lockReq = (getPage s p).lockReq :=
  (congrArg Page.lockReq (alertAt_ctl s q off b base p) :)
@[simp] theorem alertAt_enabled (s : State) (q off b base p : Nat) :
    (getPage (alertAt s q off b base) p).enabled = (getPage s p).enabled :=
  (congrArg Page.enabled (alertAt_ctl s q off b base p) :)
@[simp] theorem alertAt_enabling (s : State) (q off b base p : Nat) :
    (getPage (alertAt s q off b base) p).enabling = (getPage s p).enabling :=
  (congrArg Page.enabling (alertAt_ctl s q off b base p) :)
@[simp] theorem alertAt_shutdown (s : State) (q off b base p : Nat) :
    (getPage (alertAt s q off b base) p).shutdown = (getPage s p).shutdown :=
  (congrArg Page.shutdown (alertAt_ctl s q off b base p) :)
@[simp] theorem alertAt_reenable (s : State) (q off b base p : Nat) :
    (getPage (alertAt s q off b base) p).reenable = (getPage s p).reenable :=
  (congrArg Page.reenable (alertAt_ctl s q off b base p) :)
@[simp] theorem alertAt_fault (s : State) (q off b base p : Nat) :
    (getPage (alertAt s q off b base) p).fault = (getPage s p).fault :=
  (congrArg Page.fault (alertAt_ctl s q off b base p) :)
@[simp] theorem alertAt_quiesced (s : State) (q off b base p : Nat) :
    (getPage (alertAt s q off b base) p).quiesced = (getPage s p).quiesced :=
  (congrArg Page.quiesced (alertAt_ctl s q off b base p) :)
@[simp] theorem alertAt_lock (s : State) (q off b base p : Nat) :
    (getPage (alertAt s q off b base) p).lock = (getPage s p).lock :=
  (congrArg Page.lock (alertAt_ctl s q off b base p) :)
@[simp] theorem alertAt_intEn (s : State) (q off b base p : Nat) :
    (getPage (alertAt s q off b base) p).intEn = (getPage s p).intEn :=
  (congrArg Page.intEn (alertAt_ctl s q off b base p) :)
@[simp] theorem alertAt_pmcCtrl (s : State) (q off b base p : Nat) :
    (getPage (alertAt s q off b base) p).pmcCtrl = (getPage s p).pmcCtrl :=
  (congrArg Page.pmcCtrl (alertAt_ctl s q off b base p) :)
@[simp] theorem alertAt_pmcSel (s : State) (q off b base p : Nat) :
    (getPage (alertAt s q off b base) p).pmcSel = (getPage s p).pmcSel :=
  (congrArg Page.pmcSel (alertAt_ctl s q off b base p) :)
@[simp] theorem alertAt_cycBase (s : State) (q off b base p : Nat) :
    (getPage (alertAt s q off b base) p).cycBase = (getPage s p).cycBase :=
  (congrArg Page.cycBase (alertAt_ctl s q off b base p) :)
@[simp] theorem alertAt_latches (s : State) (q off b base p : Nat) :
    (getPage (alertAt s q off b base) p).latches = (getPage s p).latches :=
  (congrArg Page.latches (alertAt_ctl s q off b base p) :)

@[simp] theorem alert_enable (s : State) (q off b p : Nat) :
    (getPage (alert s q off b) p).enable = (getPage s p).enable :=
  (congrArg Page.enable (alert_ctl s q off b p) :)
@[simp] theorem alert_quiesce (s : State) (q off b p : Nat) :
    (getPage (alert s q off b) p).quiesce = (getPage s p).quiesce :=
  (congrArg Page.quiesce (alert_ctl s q off b p) :)
@[simp] theorem alert_softReset (s : State) (q off b p : Nat) :
    (getPage (alert s q off b) p).softReset = (getPage s p).softReset :=
  (congrArg Page.softReset (alert_ctl s q off b p) :)
@[simp] theorem alert_lockReq (s : State) (q off b p : Nat) :
    (getPage (alert s q off b) p).lockReq = (getPage s p).lockReq :=
  (congrArg Page.lockReq (alert_ctl s q off b p) :)
@[simp] theorem alert_enabled (s : State) (q off b p : Nat) :
    (getPage (alert s q off b) p).enabled = (getPage s p).enabled :=
  (congrArg Page.enabled (alert_ctl s q off b p) :)
@[simp] theorem alert_enabling (s : State) (q off b p : Nat) :
    (getPage (alert s q off b) p).enabling = (getPage s p).enabling :=
  (congrArg Page.enabling (alert_ctl s q off b p) :)
@[simp] theorem alert_shutdown (s : State) (q off b p : Nat) :
    (getPage (alert s q off b) p).shutdown = (getPage s p).shutdown :=
  (congrArg Page.shutdown (alert_ctl s q off b p) :)
@[simp] theorem alert_reenable (s : State) (q off b p : Nat) :
    (getPage (alert s q off b) p).reenable = (getPage s p).reenable :=
  (congrArg Page.reenable (alert_ctl s q off b p) :)
@[simp] theorem alert_fault (s : State) (q off b p : Nat) :
    (getPage (alert s q off b) p).fault = (getPage s p).fault :=
  (congrArg Page.fault (alert_ctl s q off b p) :)
@[simp] theorem alert_quiesced (s : State) (q off b p : Nat) :
    (getPage (alert s q off b) p).quiesced = (getPage s p).quiesced :=
  (congrArg Page.quiesced (alert_ctl s q off b p) :)
@[simp] theorem alert_lock (s : State) (q off b p : Nat) :
    (getPage (alert s q off b) p).lock = (getPage s p).lock :=
  (congrArg Page.lock (alert_ctl s q off b p) :)
@[simp] theorem alert_intEn (s : State) (q off b p : Nat) :
    (getPage (alert s q off b) p).intEn = (getPage s p).intEn :=
  (congrArg Page.intEn (alert_ctl s q off b p) :)
@[simp] theorem alert_pmcCtrl (s : State) (q off b p : Nat) :
    (getPage (alert s q off b) p).pmcCtrl = (getPage s p).pmcCtrl :=
  (congrArg Page.pmcCtrl (alert_ctl s q off b p) :)
@[simp] theorem alert_pmcSel (s : State) (q off b p : Nat) :
    (getPage (alert s q off b) p).pmcSel = (getPage s p).pmcSel :=
  (congrArg Page.pmcSel (alert_ctl s q off b p) :)
@[simp] theorem alert_cycBase (s : State) (q off b p : Nat) :
    (getPage (alert s q off b) p).cycBase = (getPage s p).cycBase :=
  (congrArg Page.cycBase (alert_ctl s q off b p) :)
@[simp] theorem alert_latches (s : State) (q off b p : Nat) :
    (getPage (alert s q off b) p).latches = (getPage s p).latches :=
  (congrArg Page.latches (alert_ctl s q off b p) :)

@[simp] theorem logError_enable (s : State) (q c r a p : Nat) :
    (getPage (logError s q c r a) p).enable = (getPage s p).enable :=
  (congrArg Page.enable (logError_ctl s q c r a p) :)
@[simp] theorem logError_quiesce (s : State) (q c r a p : Nat) :
    (getPage (logError s q c r a) p).quiesce = (getPage s p).quiesce :=
  (congrArg Page.quiesce (logError_ctl s q c r a p) :)
@[simp] theorem logError_softReset (s : State) (q c r a p : Nat) :
    (getPage (logError s q c r a) p).softReset = (getPage s p).softReset :=
  (congrArg Page.softReset (logError_ctl s q c r a p) :)
@[simp] theorem logError_lockReq (s : State) (q c r a p : Nat) :
    (getPage (logError s q c r a) p).lockReq = (getPage s p).lockReq :=
  (congrArg Page.lockReq (logError_ctl s q c r a p) :)
@[simp] theorem logError_enabled (s : State) (q c r a p : Nat) :
    (getPage (logError s q c r a) p).enabled = (getPage s p).enabled :=
  (congrArg Page.enabled (logError_ctl s q c r a p) :)
@[simp] theorem logError_enabling (s : State) (q c r a p : Nat) :
    (getPage (logError s q c r a) p).enabling = (getPage s p).enabling :=
  (congrArg Page.enabling (logError_ctl s q c r a p) :)
@[simp] theorem logError_shutdown (s : State) (q c r a p : Nat) :
    (getPage (logError s q c r a) p).shutdown = (getPage s p).shutdown :=
  (congrArg Page.shutdown (logError_ctl s q c r a p) :)
@[simp] theorem logError_reenable (s : State) (q c r a p : Nat) :
    (getPage (logError s q c r a) p).reenable = (getPage s p).reenable :=
  (congrArg Page.reenable (logError_ctl s q c r a p) :)
@[simp] theorem logError_fault (s : State) (q c r a p : Nat) :
    (getPage (logError s q c r a) p).fault = (getPage s p).fault :=
  (congrArg Page.fault (logError_ctl s q c r a p) :)
@[simp] theorem logError_quiesced (s : State) (q c r a p : Nat) :
    (getPage (logError s q c r a) p).quiesced = (getPage s p).quiesced :=
  (congrArg Page.quiesced (logError_ctl s q c r a p) :)
@[simp] theorem logError_lock (s : State) (q c r a p : Nat) :
    (getPage (logError s q c r a) p).lock = (getPage s p).lock :=
  (congrArg Page.lock (logError_ctl s q c r a p) :)
@[simp] theorem logError_intEn (s : State) (q c r a p : Nat) :
    (getPage (logError s q c r a) p).intEn = (getPage s p).intEn :=
  (congrArg Page.intEn (logError_ctl s q c r a p) :)
@[simp] theorem logError_pmcCtrl (s : State) (q c r a p : Nat) :
    (getPage (logError s q c r a) p).pmcCtrl = (getPage s p).pmcCtrl :=
  (congrArg Page.pmcCtrl (logError_ctl s q c r a p) :)
@[simp] theorem logError_pmcSel (s : State) (q c r a p : Nat) :
    (getPage (logError s q c r a) p).pmcSel = (getPage s p).pmcSel :=
  (congrArg Page.pmcSel (logError_ctl s q c r a p) :)
@[simp] theorem logError_cycBase (s : State) (q c r a p : Nat) :
    (getPage (logError s q c r a) p).cycBase = (getPage s p).cycBase :=
  (congrArg Page.cycBase (logError_ctl s q c r a p) :)
@[simp] theorem logError_latches (s : State) (q c r a p : Nat) :
    (getPage (logError s q c r a) p).latches = (getPage s p).latches :=
  (congrArg Page.latches (logError_ctl s q c r a p) :)

end Sys2Proof.Machine
end

