-- ==== Sys2Proof/Laws/Frames.lean ====
section
/-! SUPPORT. What the operations that every family shares leave alone: the passing of time, the SMBus status causes and the
interrupt vectors. -/
namespace Sys2Proof.Machine

theorem foldl_keeps {α β : Type} (g : State → β) (f : State → α → State) (h : ∀ s a, g (f s a) = g s) (l : List α)
    (s : State) : g (l.foldl f s) = g s := by
  induction l generalizing s with
  | nil => rfl
  | cons a l ih => rw [List.foldl_cons, ih, h]

/-- A state without what the passing of time moves. -/
def State.timeless (s : State) : State := { s with time := {}, clk := {}, pages := .empty }

/-- A state without what the status causes and the interrupt vectors move: pins and messages sent, MGT, SVP, and the
counters and causes of SVP's page. -/
def State.sides (s : State) : State := { s with outs := [], mgt := {}, svp := {}, pages := .empty, regs := .empty }

theorem elapse_timeless (s : State) (dt : Nat) : (elapse s dt).timeless = s.timeless := rfl

theorem clockTo_timeless (s : State) (t : Nat) : (clockTo s t).timeless = s.timeless := by
  unfold clockTo; split <;> rfl

theorem notePin_eq (b s : State) : ∃ l, notePin b s = { s with outs := l ++ s.outs } := by
  unfold notePin
  split
  · exact ⟨[], rfl⟩
  · exact ⟨[.alertPin (alertAsserted s)], rfl⟩

/-- A status change sets causes of MGT and moves its pin, and nothing else. -/
theorem noteStatus_eq (b s : State) : ∃ l m, noteStatus b s = { s with outs := l ++ s.outs, mgt := m } := by
  unfold noteStatus setCauses
  dsimp only
  split
  · exact ⟨[], s.mgt, rfl⟩
  · obtain ⟨l, h⟩ := notePin_eq s { s with mgt := { s.mgt with
      cause := s.mgt.cause ||| ((1 + if !hotNow b && hotNow s then 4 else 0) % 64),
      released := s.mgt.released && !decide ((1 + if !hotNow b && hotNow s then 4 else 0) &&&
        (63 - s.mgt.cause % 64) ≠ 0) } }
    exact ⟨l, _, h⟩

theorem clearCauses_eq (s : State) (k : Nat) : ∃ l m, clearCauses s k = { s with outs := l ++ s.outs, mgt := m } := by
  obtain ⟨l, h⟩ := notePin_eq s { s with mgt := { s.mgt with cause := s.mgt.cause &&& (63 - k % 64) } }
  exact ⟨l, _, h⟩

theorem noteStatus_sides (b s : State) : (noteStatus b s).sides = s.sides := by
  obtain ⟨l, m, h⟩ := noteStatus_eq b s
  rw [h]; rfl

theorem leaveL1_sides (s : State) : (leaveL1 s).sides = s.sides := by
  unfold leaveL1
  dsimp only
  split
  · rfl
  · split <;> rfl

theorem sendMsix_sides (s : State) (v : Nat) : (sendMsix s v).sides = s.sides := by
  have h := leaveL1_sides s
  unfold sendMsix
  generalize leaveL1 s = u at *
  rw [← h]
  rfl

theorem vectorEdge_sides (s : State) (v : Nat) : (vectorEdge s v).sides = s.sides := by
  unfold vectorEdge
  split
  · exact sendMsix_sides s v
  · rfl

theorem settleVector_sides (s : State) (v : Nat) : (settleVector s v).sides = s.sides := by
  unfold settleVector
  dsimp only
  split
  · rfl
  · split
    · exact sendMsix_sides s v
    · rfl

theorem settleVectors_sides (s : State) : (settleVectors s).sides = s.sides :=
  foldl_keeps State.sides settleVector settleVector_sides _ s

theorem settleSigns_sides (b s : State) : (settleSigns b s).sides = s.sides :=
  (settleVectors_sides _).trans (noteStatus_sides b s)

theorem settleVector_ctl (s : State) (v p : Nat) :
    (getPage (settleVector s v) p).ctl = (getPage s p).ctl := by
  have hL : ∀ s : State, getPage (leaveL1 s) p = getPage s p := by
    intro s
    unfold leaveL1
    dsimp only
    split
    · rfl
    · split <;> rfl
  have hM : (getPage (sendMsix s v) p).ctl = (getPage s p).ctl := by
    simp only [sendMsix, sendTlp, getPage_emit, pmcEvent_ctl, bump_getPage]
    exact congrArg Page.ctl (hL s)
  unfold settleVector
  dsimp only
  split
  · rfl
  · split
    · exact hM
    · rfl

theorem settleVectors_ctl (s : State) (p : Nat) : (getPage (settleVectors s) p).ctl = (getPage s p).ctl :=
  foldl_keeps (fun s => (getPage s p).ctl) settleVector (fun s v => settleVector_ctl s v p) _ s

@[simp] theorem noteStatus_getPage (b s : State) (p : Nat) : getPage (noteStatus b s) p = getPage s p := by
  obtain ⟨l, m, h⟩ := noteStatus_eq b s
  rw [h]; rfl

theorem settleSigns_ctl (b s : State) (p : Nat) : (getPage (settleSigns b s) p).ctl = (getPage s p).ctl := by
  rw [settleSigns, settleVectors_ctl, noteStatus_getPage]

@[simp] theorem clockTo_pending (s : State) (t : Nat) : (clockTo s t).pending = s.pending :=
  (congrArg State.pending (clockTo_timeless s t) :)
@[simp] theorem clockTo_outs (s : State) (t : Nat) : (clockTo s t).outs = s.outs :=
  (congrArg State.outs (clockTo_timeless s t) :)
@[simp] theorem clockTo_draws (s : State) (t : Nat) : (clockTo s t).draws = s.draws :=
  (congrArg State.draws (clockTo_timeless s t) :)
@[simp] theorem clockTo_regs (s : State) (t : Nat) : (clockTo s t).regs = s.regs :=
  (congrArg State.regs (clockTo_timeless s t) :)
@[simp] theorem clockTo_namespaces (s : State) (t : Nat) : (clockTo s t).namespaces = s.namespaces :=
  (congrArg State.namespaces (clockTo_timeless s t) :)
@[simp] theorem clockTo_zones (s : State) (t : Nat) : (clockTo s t).zones = s.zones :=
  (congrArg State.zones (clockTo_timeless s t) :)
@[simp] theorem clockTo_stripes (s : State) (t : Nat) : (clockTo s t).stripes = s.stripes :=
  (congrArg State.stripes (clockTo_timeless s t) :)
@[simp] theorem clockTo_folds (s : State) (t : Nat) : (clockTo s t).folds = s.folds :=
  (congrArg State.folds (clockTo_timeless s t) :)
@[simp] theorem clockTo_buffers (s : State) (t : Nat) : (clockTo s t).buffers = s.buffers :=
  (congrArg State.buffers (clockTo_timeless s t) :)
@[simp] theorem clockTo_logMap (s : State) (t : Nat) : (clockTo s t).logMap = s.logMap :=
  (congrArg State.logMap (clockTo_timeless s t) :)
@[simp] theorem clockTo_commands (s : State) (t : Nat) : (clockTo s t).commands = s.commands :=
  (congrArg State.commands (clockTo_timeless s t) :)
@[simp] theorem clockTo_accepted (s : State) (t : Nat) : (clockTo s t).accepted = s.accepted :=
  (congrArg State.accepted (clockTo_timeless s t) :)
@[simp] theorem clockTo_rowJobs (s : State) (t : Nat) : (clockTo s t).rowJobs = s.rowJobs :=
  (congrArg State.rowJobs (clockTo_timeless s t) :)
@[simp] theorem clockTo_rowSeq (s : State) (t : Nat) : (clockTo s t).rowSeq = s.rowSeq :=
  (congrArg State.rowSeq (clockTo_timeless s t) :)
@[simp] theorem clockTo_cwSeq (s : State) (t : Nat) : (clockTo s t).cwSeq = s.cwSeq :=
  (congrArg State.cwSeq (clockTo_timeless s t) :)
@[simp] theorem clockTo_errorLog (s : State) (t : Nat) : (clockTo s t).errorLog = s.errorLog :=
  (congrArg State.errorLog (clockTo_timeless s t) :)
@[simp] theorem clockTo_healthLog (s : State) (t : Nat) : (clockTo s t).healthLog = s.healthLog :=
  (congrArg State.healthLog (clockTo_timeless s t) :)
@[simp] theorem clockTo_conns (s : State) (t : Nat) : (clockTo s t).conns = s.conns :=
  (congrArg State.conns (clockTo_timeless s t) :)
@[simp] theorem clockTo_regions (s : State) (t : Nat) : (clockTo s t).regions = s.regions :=
  (congrArg State.regions (clockTo_timeless s t) :)
@[simp] theorem clockTo_engines (s : State) (t : Nat) : (clockTo s t).engines = s.engines :=
  (congrArg State.engines (clockTo_timeless s t) :)
@[simp] theorem clockTo_parked (s : State) (t : Nat) : (clockTo s t).parked = s.parked :=
  (congrArg State.parked (clockTo_timeless s t) :)
@[simp] theorem clockTo_ports (s : State) (t : Nat) : (clockTo s t).ports = s.ports :=
  (congrArg State.ports (clockTo_timeless s t) :)
@[simp] theorem clockTo_switch (s : State) (t : Nat) : (clockTo s t).switch = s.switch :=
  (congrArg State.switch (clockTo_timeless s t) :)
@[simp] theorem clockTo_policers (s : State) (t : Nat) : (clockTo s t).policers = s.policers :=
  (congrArg State.policers (clockTo_timeless s t) :)
@[simp] theorem clockTo_egress (s : State) (t : Nat) : (clockTo s t).egress = s.egress :=
  (congrArg State.egress (clockTo_timeless s t) :)
@[simp] theorem clockTo_progGates (s : State) (t : Nat) : (clockTo s t).progGates = s.progGates :=
  (congrArg State.progGates (clockTo_timeless s t) :)
@[simp] theorem clockTo_modules (s : State) (t : Nat) : (clockTo s t).modules = s.modules :=
  (congrArg State.modules (clockTo_timeless s t) :)
@[simp] theorem clockTo_history (s : State) (t : Nat) : (clockTo s t).history = s.history :=
  (congrArg State.history (clockTo_timeless s t) :)
@[simp] theorem clockTo_links (s : State) (t : Nat) : (clockTo s t).links = s.links :=
  (congrArg State.links (clockTo_timeless s t) :)
@[simp] theorem clockTo_climbs (s : State) (t : Nat) : (clockTo s t).climbs = s.climbs :=
  (congrArg State.climbs (clockTo_timeless s t) :)
@[simp] theorem clockTo_decodes (s : State) (t : Nat) : (clockTo s t).decodes = s.decodes :=
  (congrArg State.decodes (clockTo_timeless s t) :)
@[simp] theorem clockTo_groups (s : State) (t : Nat) : (clockTo s t).groups = s.groups :=
  (congrArg State.groups (clockTo_timeless s t) :)
@[simp] theorem clockTo_pqeRun (s : State) (t : Nat) : (clockTo s t).pqeRun = s.pqeRun :=
  (congrArg State.pqeRun (clockTo_timeless s t) :)
@[simp] theorem clockTo_pqeQueue (s : State) (t : Nat) : (clockTo s t).pqeQueue = s.pqeQueue :=
  (congrArg State.pqeQueue (clockTo_timeless s t) :)
@[simp] theorem clockTo_pqeBytes (s : State) (t : Nat) : (clockTo s t).pqeBytes = s.pqeBytes :=
  (congrArg State.pqeBytes (clockTo_timeless s t) :)
@[simp] theorem clockTo_reshape (s : State) (t : Nat) : (clockTo s t).reshape = s.reshape :=
  (congrArg State.reshape (clockTo_timeless s t) :)
@[simp] theorem clockTo_reshapeResult (s : State) (t : Nat) : (clockTo s t).reshapeResult = s.reshapeResult :=
  (congrArg State.reshapeResult (clockTo_timeless s t) :)
@[simp] theorem clockTo_losses (s : State) (t : Nat) : (clockTo s t).losses = s.losses :=
  (congrArg State.losses (clockTo_timeless s t) :)
@[simp] theorem clockTo_lossGen (s : State) (t : Nat) : (clockTo s t).lossGen = s.lossGen :=
  (congrArg State.lossGen (clockTo_timeless s t) :)
@[simp] theorem clockTo_journal (s : State) (t : Nat) : (clockTo s t).journal = s.journal :=
  (congrArg State.journal (clockTo_timeless s t) :)
@[simp] theorem clockTo_journalSeq (s : State) (t : Nat) : (clockTo s t).journalSeq = s.journalSeq :=
  (congrArg State.journalSeq (clockTo_timeless s t) :)
@[simp] theorem clockTo_channels (s : State) (t : Nat) : (clockTo s t).channels = s.channels :=
  (congrArg State.channels (clockTo_timeless s t) :)
@[simp] theorem clockTo_die (s : State) (t : Nat) : (clockTo s t).die = s.die :=
  (congrArg State.die (clockTo_timeless s t) :)
@[simp] theorem clockTo_wakeSeq (s : State) (t : Nat) : (clockTo s t).wakeSeq = s.wakeSeq :=
  (congrArg State.wakeSeq (clockTo_timeless s t) :)
@[simp] theorem clockTo_sec (s : State) (t : Nat) : (clockTo s t).sec = s.sec :=
  (congrArg State.sec (clockTo_timeless s t) :)
@[simp] theorem clockTo_vault (s : State) (t : Nat) : (clockTo s t).vault = s.vault :=
  (congrArg State.vault (clockTo_timeless s t) :)
@[simp] theorem clockTo_crypto (s : State) (t : Nat) : (clockTo s t).crypto = s.crypto :=
  (congrArg State.crypto (clockTo_timeless s t) :)
@[simp] theorem clockTo_alarm (s : State) (t : Nat) : (clockTo s t).alarm = s.alarm :=
  (congrArg State.alarm (clockTo_timeless s t) :)
@[simp] theorem clockTo_rng (s : State) (t : Nat) : (clockTo s t).rng = s.rng :=
  (congrArg State.rng (clockTo_timeless s t) :)
@[simp] theorem clockTo_secWait (s : State) (t : Nat) : (clockTo s t).secWait = s.secWait :=
  (congrArg State.secWait (clockTo_timeless s t) :)
@[simp] theorem clockTo_reqWait (s : State) (t : Nat) : (clockTo s t).reqWait = s.reqWait :=
  (congrArg State.reqWait (clockTo_timeless s t) :)
@[simp] theorem clockTo_pair (s : State) (t : Nat) : (clockTo s t).pair = s.pair :=
  (congrArg State.pair (clockTo_timeless s t) :)
@[simp] theorem clockTo_arbiters (s : State) (t : Nat) : (clockTo s t).arbiters = s.arbiters :=
  (congrArg State.arbiters (clockTo_timeless s t) :)
@[simp] theorem clockTo_dma (s : State) (t : Nat) : (clockTo s t).dma = s.dma :=
  (congrArg State.dma (clockTo_timeless s t) :)
@[simp] theorem clockTo_ddr (s : State) (t : Nat) : (clockTo s t).ddr = s.ddr :=
  (congrArg State.ddr (clockTo_timeless s t) :)
@[simp] theorem clockTo_mrm (s : State) (t : Nat) : (clockTo s t).mrm = s.mrm :=
  (congrArg State.mrm (clockTo_timeless s t) :)
@[simp] theorem clockTo_dram (s : State) (t : Nat) : (clockTo s t).dram = s.dram :=
  (congrArg State.dram (clockTo_timeless s t) :)
@[simp] theorem clockTo_mram (s : State) (t : Nat) : (clockTo s t).mram = s.mram :=
  (congrArg State.mram (clockTo_timeless s t) :)
@[simp] theorem clockTo_poison (s : State) (t : Nat) : (clockTo s t).poison = s.poison :=
  (congrArg State.poison (clockTo_timeless s t) :)
@[simp] theorem clockTo_svp (s : State) (t : Nat) : (clockTo s t).svp = s.svp :=
  (congrArg State.svp (clockTo_timeless s t) :)
@[simp] theorem clockTo_pwr (s : State) (t : Nat) : (clockTo s t).pwr = s.pwr :=
  (congrArg State.pwr (clockTo_timeless s t) :)
@[simp] theorem clockTo_boot (s : State) (t : Nat) : (clockTo s t).boot = s.boot :=
  (congrArg State.boot (clockTo_timeless s t) :)
@[simp] theorem clockTo_mgt (s : State) (t : Nat) : (clockTo s t).mgt = s.mgt :=
  (congrArg State.mgt (clockTo_timeless s t) :)
@[simp] theorem clockTo_trace (s : State) (t : Nat) : (clockTo s t).trace = s.trace :=
  (congrArg State.trace (clockTo_timeless s t) :)
@[simp] theorem clockTo_tap (s : State) (t : Nat) : (clockTo s t).tap = s.tap :=
  (congrArg State.tap (clockTo_timeless s t) :)

@[simp] theorem noteStatus_pending (b s : State) : (noteStatus b s).pending = s.pending :=
  (congrArg State.pending (noteStatus_sides b s) :)
@[simp] theorem noteStatus_draws (b s : State) : (noteStatus b s).draws = s.draws :=
  (congrArg State.draws (noteStatus_sides b s) :)
@[simp] theorem noteStatus_time (b s : State) : (noteStatus b s).time = s.time :=
  (congrArg State.time (noteStatus_sides b s) :)
@[simp] theorem noteStatus_namespaces (b s : State) : (noteStatus b s).namespaces = s.namespaces :=
  (congrArg State.namespaces (noteStatus_sides b s) :)
@[simp] theorem noteStatus_zones (b s : State) : (noteStatus b s).zones = s.zones :=
  (congrArg State.zones (noteStatus_sides b s) :)
@[simp] theorem noteStatus_stripes (b s : State) : (noteStatus b s).stripes = s.stripes :=
  (congrArg State.stripes (noteStatus_sides b s) :)
@[simp] theorem noteStatus_folds (b s : State) : (noteStatus b s).folds = s.folds :=
  (congrArg State.folds (noteStatus_sides b s) :)
@[simp] theorem noteStatus_buffers (b s : State) : (noteStatus b s).buffers = s.buffers :=
  (congrArg State.buffers (noteStatus_sides b s) :)
@[simp] theorem noteStatus_logMap (b s : State) : (noteStatus b s).logMap = s.logMap :=
  (congrArg State.logMap (noteStatus_sides b s) :)
@[simp] theorem noteStatus_commands (b s : State) : (noteStatus b s).commands = s.commands :=
  (congrArg State.commands (noteStatus_sides b s) :)
@[simp] theorem noteStatus_accepted (b s : State) : (noteStatus b s).accepted = s.accepted :=
  (congrArg State.accepted (noteStatus_sides b s) :)
@[simp] theorem noteStatus_rowJobs (b s : State) : (noteStatus b s).rowJobs = s.rowJobs :=
  (congrArg State.rowJobs (noteStatus_sides b s) :)
@[simp] theorem noteStatus_rowSeq (b s : State) : (noteStatus b s).rowSeq = s.rowSeq :=
  (congrArg State.rowSeq (noteStatus_sides b s) :)
@[simp] theorem noteStatus_cwSeq (b s : State) : (noteStatus b s).cwSeq = s.cwSeq :=
  (congrArg State.cwSeq (noteStatus_sides b s) :)
@[simp] theorem noteStatus_errorLog (b s : State) : (noteStatus b s).errorLog = s.errorLog :=
  (congrArg State.errorLog (noteStatus_sides b s) :)
@[simp] theorem noteStatus_healthLog (b s : State) : (noteStatus b s).healthLog = s.healthLog :=
  (congrArg State.healthLog (noteStatus_sides b s) :)
@[simp] theorem noteStatus_conns (b s : State) : (noteStatus b s).conns = s.conns :=
  (congrArg State.conns (noteStatus_sides b s) :)
@[simp] theorem noteStatus_regions (b s : State) : (noteStatus b s).regions = s.regions :=
  (congrArg State.regions (noteStatus_sides b s) :)
@[simp] theorem noteStatus_engines (b s : State) : (noteStatus b s).engines = s.engines :=
  (congrArg State.engines (noteStatus_sides b s) :)
@[simp] theorem noteStatus_parked (b s : State) : (noteStatus b s).parked = s.parked :=
  (congrArg State.parked (noteStatus_sides b s) :)
@[simp] theorem noteStatus_ports (b s : State) : (noteStatus b s).ports = s.ports :=
  (congrArg State.ports (noteStatus_sides b s) :)
@[simp] theorem noteStatus_switch (b s : State) : (noteStatus b s).switch = s.switch :=
  (congrArg State.switch (noteStatus_sides b s) :)
@[simp] theorem noteStatus_policers (b s : State) : (noteStatus b s).policers = s.policers :=
  (congrArg State.policers (noteStatus_sides b s) :)
@[simp] theorem noteStatus_egress (b s : State) : (noteStatus b s).egress = s.egress :=
  (congrArg State.egress (noteStatus_sides b s) :)
@[simp] theorem noteStatus_progGates (b s : State) : (noteStatus b s).progGates = s.progGates :=
  (congrArg State.progGates (noteStatus_sides b s) :)
@[simp] theorem noteStatus_modules (b s : State) : (noteStatus b s).modules = s.modules :=
  (congrArg State.modules (noteStatus_sides b s) :)
@[simp] theorem noteStatus_history (b s : State) : (noteStatus b s).history = s.history :=
  (congrArg State.history (noteStatus_sides b s) :)
@[simp] theorem noteStatus_links (b s : State) : (noteStatus b s).links = s.links :=
  (congrArg State.links (noteStatus_sides b s) :)
@[simp] theorem noteStatus_climbs (b s : State) : (noteStatus b s).climbs = s.climbs :=
  (congrArg State.climbs (noteStatus_sides b s) :)
@[simp] theorem noteStatus_decodes (b s : State) : (noteStatus b s).decodes = s.decodes :=
  (congrArg State.decodes (noteStatus_sides b s) :)
@[simp] theorem noteStatus_groups (b s : State) : (noteStatus b s).groups = s.groups :=
  (congrArg State.groups (noteStatus_sides b s) :)
@[simp] theorem noteStatus_pqeRun (b s : State) : (noteStatus b s).pqeRun = s.pqeRun :=
  (congrArg State.pqeRun (noteStatus_sides b s) :)
@[simp] theorem noteStatus_pqeQueue (b s : State) : (noteStatus b s).pqeQueue = s.pqeQueue :=
  (congrArg State.pqeQueue (noteStatus_sides b s) :)
@[simp] theorem noteStatus_pqeBytes (b s : State) : (noteStatus b s).pqeBytes = s.pqeBytes :=
  (congrArg State.pqeBytes (noteStatus_sides b s) :)
@[simp] theorem noteStatus_reshape (b s : State) : (noteStatus b s).reshape = s.reshape :=
  (congrArg State.reshape (noteStatus_sides b s) :)
@[simp] theorem noteStatus_reshapeResult (b s : State) : (noteStatus b s).reshapeResult = s.reshapeResult :=
  (congrArg State.reshapeResult (noteStatus_sides b s) :)
@[simp] theorem noteStatus_losses (b s : State) : (noteStatus b s).losses = s.losses :=
  (congrArg State.losses (noteStatus_sides b s) :)
@[simp] theorem noteStatus_lossGen (b s : State) : (noteStatus b s).lossGen = s.lossGen :=
  (congrArg State.lossGen (noteStatus_sides b s) :)
@[simp] theorem noteStatus_journal (b s : State) : (noteStatus b s).journal = s.journal :=
  (congrArg State.journal (noteStatus_sides b s) :)
@[simp] theorem noteStatus_journalSeq (b s : State) : (noteStatus b s).journalSeq = s.journalSeq :=
  (congrArg State.journalSeq (noteStatus_sides b s) :)
@[simp] theorem noteStatus_channels (b s : State) : (noteStatus b s).channels = s.channels :=
  (congrArg State.channels (noteStatus_sides b s) :)
@[simp] theorem noteStatus_die (b s : State) : (noteStatus b s).die = s.die :=
  (congrArg State.die (noteStatus_sides b s) :)
@[simp] theorem noteStatus_wakeSeq (b s : State) : (noteStatus b s).wakeSeq = s.wakeSeq :=
  (congrArg State.wakeSeq (noteStatus_sides b s) :)
@[simp] theorem noteStatus_sec (b s : State) : (noteStatus b s).sec = s.sec :=
  (congrArg State.sec (noteStatus_sides b s) :)
@[simp] theorem noteStatus_vault (b s : State) : (noteStatus b s).vault = s.vault :=
  (congrArg State.vault (noteStatus_sides b s) :)
@[simp] theorem noteStatus_crypto (b s : State) : (noteStatus b s).crypto = s.crypto :=
  (congrArg State.crypto (noteStatus_sides b s) :)
@[simp] theorem noteStatus_alarm (b s : State) : (noteStatus b s).alarm = s.alarm :=
  (congrArg State.alarm (noteStatus_sides b s) :)
@[simp] theorem noteStatus_rng (b s : State) : (noteStatus b s).rng = s.rng :=
  (congrArg State.rng (noteStatus_sides b s) :)
@[simp] theorem noteStatus_secWait (b s : State) : (noteStatus b s).secWait = s.secWait :=
  (congrArg State.secWait (noteStatus_sides b s) :)
@[simp] theorem noteStatus_reqWait (b s : State) : (noteStatus b s).reqWait = s.reqWait :=
  (congrArg State.reqWait (noteStatus_sides b s) :)
@[simp] theorem noteStatus_pair (b s : State) : (noteStatus b s).pair = s.pair :=
  (congrArg State.pair (noteStatus_sides b s) :)
@[simp] theorem noteStatus_arbiters (b s : State) : (noteStatus b s).arbiters = s.arbiters :=
  (congrArg State.arbiters (noteStatus_sides b s) :)
@[simp] theorem noteStatus_dma (b s : State) : (noteStatus b s).dma = s.dma :=
  (congrArg State.dma (noteStatus_sides b s) :)
@[simp] theorem noteStatus_ddr (b s : State) : (noteStatus b s).ddr = s.ddr :=
  (congrArg State.ddr (noteStatus_sides b s) :)
@[simp] theorem noteStatus_mrm (b s : State) : (noteStatus b s).mrm = s.mrm :=
  (congrArg State.mrm (noteStatus_sides b s) :)
@[simp] theorem noteStatus_dram (b s : State) : (noteStatus b s).dram = s.dram :=
  (congrArg State.dram (noteStatus_sides b s) :)
@[simp] theorem noteStatus_mram (b s : State) : (noteStatus b s).mram = s.mram :=
  (congrArg State.mram (noteStatus_sides b s) :)
@[simp] theorem noteStatus_poison (b s : State) : (noteStatus b s).poison = s.poison :=
  (congrArg State.poison (noteStatus_sides b s) :)
@[simp] theorem noteStatus_clk (b s : State) : (noteStatus b s).clk = s.clk :=
  (congrArg State.clk (noteStatus_sides b s) :)
@[simp] theorem noteStatus_pwr (b s : State) : (noteStatus b s).pwr = s.pwr :=
  (congrArg State.pwr (noteStatus_sides b s) :)
@[simp] theorem noteStatus_boot (b s : State) : (noteStatus b s).boot = s.boot :=
  (congrArg State.boot (noteStatus_sides b s) :)
@[simp] theorem noteStatus_trace (b s : State) : (noteStatus b s).trace = s.trace :=
  (congrArg State.trace (noteStatus_sides b s) :)
@[simp] theorem noteStatus_tap (b s : State) : (noteStatus b s).tap = s.tap :=
  (congrArg State.tap (noteStatus_sides b s) :)

@[simp] theorem settleVectors_pending (s : State) : (settleVectors s).pending = s.pending :=
  (congrArg State.pending (settleVectors_sides s) :)
@[simp] theorem settleVectors_draws (s : State) : (settleVectors s).draws = s.draws :=
  (congrArg State.draws (settleVectors_sides s) :)
@[simp] theorem settleVectors_time (s : State) : (settleVectors s).time = s.time :=
  (congrArg State.time (settleVectors_sides s) :)
@[simp] theorem settleVectors_namespaces (s : State) : (settleVectors s).namespaces = s.namespaces :=
  (congrArg State.namespaces (settleVectors_sides s) :)
@[simp] theorem settleVectors_zones (s : State) : (settleVectors s).zones = s.zones :=
  (congrArg State.zones (settleVectors_sides s) :)
@[simp] theorem settleVectors_stripes (s : State) : (settleVectors s).stripes = s.stripes :=
  (congrArg State.stripes (settleVectors_sides s) :)
@[simp] theorem settleVectors_folds (s : State) : (settleVectors s).folds = s.folds :=
  (congrArg State.folds (settleVectors_sides s) :)
@[simp] theorem settleVectors_buffers (s : State) : (settleVectors s).buffers = s.buffers :=
  (congrArg State.buffers (settleVectors_sides s) :)
@[simp] theorem settleVectors_logMap (s : State) : (settleVectors s).logMap = s.logMap :=
  (congrArg State.logMap (settleVectors_sides s) :)
@[simp] theorem settleVectors_commands (s : State) : (settleVectors s).commands = s.commands :=
  (congrArg State.commands (settleVectors_sides s) :)
@[simp] theorem settleVectors_accepted (s : State) : (settleVectors s).accepted = s.accepted :=
  (congrArg State.accepted (settleVectors_sides s) :)
@[simp] theorem settleVectors_rowJobs (s : State) : (settleVectors s).rowJobs = s.rowJobs :=
  (congrArg State.rowJobs (settleVectors_sides s) :)
@[simp] theorem settleVectors_rowSeq (s : State) : (settleVectors s).rowSeq = s.rowSeq :=
  (congrArg State.rowSeq (settleVectors_sides s) :)
@[simp] theorem settleVectors_cwSeq (s : State) : (settleVectors s).cwSeq = s.cwSeq :=
  (congrArg State.cwSeq (settleVectors_sides s) :)
@[simp] theorem settleVectors_errorLog (s : State) : (settleVectors s).errorLog = s.errorLog :=
  (congrArg State.errorLog (settleVectors_sides s) :)
@[simp] theorem settleVectors_healthLog (s : State) : (settleVectors s).healthLog = s.healthLog :=
  (congrArg State.healthLog (settleVectors_sides s) :)
@[simp] theorem settleVectors_conns (s : State) : (settleVectors s).conns = s.conns :=
  (congrArg State.conns (settleVectors_sides s) :)
@[simp] theorem settleVectors_regions (s : State) : (settleVectors s).regions = s.regions :=
  (congrArg State.regions (settleVectors_sides s) :)
@[simp] theorem settleVectors_engines (s : State) : (settleVectors s).engines = s.engines :=
  (congrArg State.engines (settleVectors_sides s) :)
@[simp] theorem settleVectors_parked (s : State) : (settleVectors s).parked = s.parked :=
  (congrArg State.parked (settleVectors_sides s) :)
@[simp] theorem settleVectors_ports (s : State) : (settleVectors s).ports = s.ports :=
  (congrArg State.ports (settleVectors_sides s) :)
@[simp] theorem settleVectors_switch (s : State) : (settleVectors s).switch = s.switch :=
  (congrArg State.switch (settleVectors_sides s) :)
@[simp] theorem settleVectors_policers (s : State) : (settleVectors s).policers = s.policers :=
  (congrArg State.policers (settleVectors_sides s) :)
@[simp] theorem settleVectors_egress (s : State) : (settleVectors s).egress = s.egress :=
  (congrArg State.egress (settleVectors_sides s) :)
@[simp] theorem settleVectors_progGates (s : State) : (settleVectors s).progGates = s.progGates :=
  (congrArg State.progGates (settleVectors_sides s) :)
@[simp] theorem settleVectors_modules (s : State) : (settleVectors s).modules = s.modules :=
  (congrArg State.modules (settleVectors_sides s) :)
@[simp] theorem settleVectors_history (s : State) : (settleVectors s).history = s.history :=
  (congrArg State.history (settleVectors_sides s) :)
@[simp] theorem settleVectors_links (s : State) : (settleVectors s).links = s.links :=
  (congrArg State.links (settleVectors_sides s) :)
@[simp] theorem settleVectors_climbs (s : State) : (settleVectors s).climbs = s.climbs :=
  (congrArg State.climbs (settleVectors_sides s) :)
@[simp] theorem settleVectors_decodes (s : State) : (settleVectors s).decodes = s.decodes :=
  (congrArg State.decodes (settleVectors_sides s) :)
@[simp] theorem settleVectors_groups (s : State) : (settleVectors s).groups = s.groups :=
  (congrArg State.groups (settleVectors_sides s) :)
@[simp] theorem settleVectors_pqeRun (s : State) : (settleVectors s).pqeRun = s.pqeRun :=
  (congrArg State.pqeRun (settleVectors_sides s) :)
@[simp] theorem settleVectors_pqeQueue (s : State) : (settleVectors s).pqeQueue = s.pqeQueue :=
  (congrArg State.pqeQueue (settleVectors_sides s) :)
@[simp] theorem settleVectors_pqeBytes (s : State) : (settleVectors s).pqeBytes = s.pqeBytes :=
  (congrArg State.pqeBytes (settleVectors_sides s) :)
@[simp] theorem settleVectors_reshape (s : State) : (settleVectors s).reshape = s.reshape :=
  (congrArg State.reshape (settleVectors_sides s) :)
@[simp] theorem settleVectors_reshapeResult (s : State) : (settleVectors s).reshapeResult = s.reshapeResult :=
  (congrArg State.reshapeResult (settleVectors_sides s) :)
@[simp] theorem settleVectors_losses (s : State) : (settleVectors s).losses = s.losses :=
  (congrArg State.losses (settleVectors_sides s) :)
@[simp] theorem settleVectors_lossGen (s : State) : (settleVectors s).lossGen = s.lossGen :=
  (congrArg State.lossGen (settleVectors_sides s) :)
@[simp] theorem settleVectors_journal (s : State) : (settleVectors s).journal = s.journal :=
  (congrArg State.journal (settleVectors_sides s) :)
@[simp] theorem settleVectors_journalSeq (s : State) : (settleVectors s).journalSeq = s.journalSeq :=
  (congrArg State.journalSeq (settleVectors_sides s) :)
@[simp] theorem settleVectors_channels (s : State) : (settleVectors s).channels = s.channels :=
  (congrArg State.channels (settleVectors_sides s) :)
@[simp] theorem settleVectors_die (s : State) : (settleVectors s).die = s.die :=
  (congrArg State.die (settleVectors_sides s) :)
@[simp] theorem settleVectors_wakeSeq (s : State) : (settleVectors s).wakeSeq = s.wakeSeq :=
  (congrArg State.wakeSeq (settleVectors_sides s) :)
@[simp] theorem settleVectors_sec (s : State) : (settleVectors s).sec = s.sec :=
  (congrArg State.sec (settleVectors_sides s) :)
@[simp] theorem settleVectors_vault (s : State) : (settleVectors s).vault = s.vault :=
  (congrArg State.vault (settleVectors_sides s) :)
@[simp] theorem settleVectors_crypto (s : State) : (settleVectors s).crypto = s.crypto :=
  (congrArg State.crypto (settleVectors_sides s) :)
@[simp] theorem settleVectors_alarm (s : State) : (settleVectors s).alarm = s.alarm :=
  (congrArg State.alarm (settleVectors_sides s) :)
@[simp] theorem settleVectors_rng (s : State) : (settleVectors s).rng = s.rng :=
  (congrArg State.rng (settleVectors_sides s) :)
@[simp] theorem settleVectors_secWait (s : State) : (settleVectors s).secWait = s.secWait :=
  (congrArg State.secWait (settleVectors_sides s) :)
@[simp] theorem settleVectors_reqWait (s : State) : (settleVectors s).reqWait = s.reqWait :=
  (congrArg State.reqWait (settleVectors_sides s) :)
@[simp] theorem settleVectors_pair (s : State) : (settleVectors s).pair = s.pair :=
  (congrArg State.pair (settleVectors_sides s) :)
@[simp] theorem settleVectors_arbiters (s : State) : (settleVectors s).arbiters = s.arbiters :=
  (congrArg State.arbiters (settleVectors_sides s) :)
@[simp] theorem settleVectors_dma (s : State) : (settleVectors s).dma = s.dma :=
  (congrArg State.dma (settleVectors_sides s) :)
@[simp] theorem settleVectors_ddr (s : State) : (settleVectors s).ddr = s.ddr :=
  (congrArg State.ddr (settleVectors_sides s) :)
@[simp] theorem settleVectors_mrm (s : State) : (settleVectors s).mrm = s.mrm :=
  (congrArg State.mrm (settleVectors_sides s) :)
@[simp] theorem settleVectors_dram (s : State) : (settleVectors s).dram = s.dram :=
  (congrArg State.dram (settleVectors_sides s) :)
@[simp] theorem settleVectors_mram (s : State) : (settleVectors s).mram = s.mram :=
  (congrArg State.mram (settleVectors_sides s) :)
@[simp] theorem settleVectors_poison (s : State) : (settleVectors s).poison = s.poison :=
  (congrArg State.poison (settleVectors_sides s) :)
@[simp] theorem settleVectors_clk (s : State) : (settleVectors s).clk = s.clk :=
  (congrArg State.clk (settleVectors_sides s) :)
@[simp] theorem settleVectors_pwr (s : State) : (settleVectors s).pwr = s.pwr :=
  (congrArg State.pwr (settleVectors_sides s) :)
@[simp] theorem settleVectors_boot (s : State) : (settleVectors s).boot = s.boot :=
  (congrArg State.boot (settleVectors_sides s) :)
@[simp] theorem settleVectors_trace (s : State) : (settleVectors s).trace = s.trace :=
  (congrArg State.trace (settleVectors_sides s) :)
@[simp] theorem settleVectors_tap (s : State) : (settleVectors s).tap = s.tap :=
  (congrArg State.tap (settleVectors_sides s) :)

@[simp] theorem settleSigns_pending (b s : State) : (settleSigns b s).pending = s.pending :=
  (congrArg State.pending (settleSigns_sides b s) :)
@[simp] theorem settleSigns_draws (b s : State) : (settleSigns b s).draws = s.draws :=
  (congrArg State.draws (settleSigns_sides b s) :)
@[simp] theorem settleSigns_time (b s : State) : (settleSigns b s).time = s.time :=
  (congrArg State.time (settleSigns_sides b s) :)
@[simp] theorem settleSigns_namespaces (b s : State) : (settleSigns b s).namespaces = s.namespaces :=
  (congrArg State.namespaces (settleSigns_sides b s) :)
@[simp] theorem settleSigns_zones (b s : State) : (settleSigns b s).zones = s.zones :=
  (congrArg State.zones (settleSigns_sides b s) :)
@[simp] theorem settleSigns_stripes (b s : State) : (settleSigns b s).stripes = s.stripes :=
  (congrArg State.stripes (settleSigns_sides b s) :)
@[simp] theorem settleSigns_folds (b s : State) : (settleSigns b s).folds = s.folds :=
  (congrArg State.folds (settleSigns_sides b s) :)
@[simp] theorem settleSigns_buffers (b s : State) : (settleSigns b s).buffers = s.buffers :=
  (congrArg State.buffers (settleSigns_sides b s) :)
@[simp] theorem settleSigns_logMap (b s : State) : (settleSigns b s).logMap = s.logMap :=
  (congrArg State.logMap (settleSigns_sides b s) :)
@[simp] theorem settleSigns_commands (b s : State) : (settleSigns b s).commands = s.commands :=
  (congrArg State.commands (settleSigns_sides b s) :)
@[simp] theorem settleSigns_accepted (b s : State) : (settleSigns b s).accepted = s.accepted :=
  (congrArg State.accepted (settleSigns_sides b s) :)
@[simp] theorem settleSigns_rowJobs (b s : State) : (settleSigns b s).rowJobs = s.rowJobs :=
  (congrArg State.rowJobs (settleSigns_sides b s) :)
@[simp] theorem settleSigns_rowSeq (b s : State) : (settleSigns b s).rowSeq = s.rowSeq :=
  (congrArg State.rowSeq (settleSigns_sides b s) :)
@[simp] theorem settleSigns_cwSeq (b s : State) : (settleSigns b s).cwSeq = s.cwSeq :=
  (congrArg State.cwSeq (settleSigns_sides b s) :)
@[simp] theorem settleSigns_errorLog (b s : State) : (settleSigns b s).errorLog = s.errorLog :=
  (congrArg State.errorLog (settleSigns_sides b s) :)
@[simp] theorem settleSigns_healthLog (b s : State) : (settleSigns b s).healthLog = s.healthLog :=
  (congrArg State.healthLog (settleSigns_sides b s) :)
@[simp] theorem settleSigns_conns (b s : State) : (settleSigns b s).conns = s.conns :=
  (congrArg State.conns (settleSigns_sides b s) :)
@[simp] theorem settleSigns_regions (b s : State) : (settleSigns b s).regions = s.regions :=
  (congrArg State.regions (settleSigns_sides b s) :)
@[simp] theorem settleSigns_engines (b s : State) : (settleSigns b s).engines = s.engines :=
  (congrArg State.engines (settleSigns_sides b s) :)
@[simp] theorem settleSigns_parked (b s : State) : (settleSigns b s).parked = s.parked :=
  (congrArg State.parked (settleSigns_sides b s) :)
@[simp] theorem settleSigns_ports (b s : State) : (settleSigns b s).ports = s.ports :=
  (congrArg State.ports (settleSigns_sides b s) :)
@[simp] theorem settleSigns_switch (b s : State) : (settleSigns b s).switch = s.switch :=
  (congrArg State.switch (settleSigns_sides b s) :)
@[simp] theorem settleSigns_policers (b s : State) : (settleSigns b s).policers = s.policers :=
  (congrArg State.policers (settleSigns_sides b s) :)
@[simp] theorem settleSigns_egress (b s : State) : (settleSigns b s).egress = s.egress :=
  (congrArg State.egress (settleSigns_sides b s) :)
@[simp] theorem settleSigns_progGates (b s : State) : (settleSigns b s).progGates = s.progGates :=
  (congrArg State.progGates (settleSigns_sides b s) :)
@[simp] theorem settleSigns_modules (b s : State) : (settleSigns b s).modules = s.modules :=
  (congrArg State.modules (settleSigns_sides b s) :)
@[simp] theorem settleSigns_history (b s : State) : (settleSigns b s).history = s.history :=
  (congrArg State.history (settleSigns_sides b s) :)
@[simp] theorem settleSigns_links (b s : State) : (settleSigns b s).links = s.links :=
  (congrArg State.links (settleSigns_sides b s) :)
@[simp] theorem settleSigns_climbs (b s : State) : (settleSigns b s).climbs = s.climbs :=
  (congrArg State.climbs (settleSigns_sides b s) :)
@[simp] theorem settleSigns_decodes (b s : State) : (settleSigns b s).decodes = s.decodes :=
  (congrArg State.decodes (settleSigns_sides b s) :)
@[simp] theorem settleSigns_groups (b s : State) : (settleSigns b s).groups = s.groups :=
  (congrArg State.groups (settleSigns_sides b s) :)
@[simp] theorem settleSigns_pqeRun (b s : State) : (settleSigns b s).pqeRun = s.pqeRun :=
  (congrArg State.pqeRun (settleSigns_sides b s) :)
@[simp] theorem settleSigns_pqeQueue (b s : State) : (settleSigns b s).pqeQueue = s.pqeQueue :=
  (congrArg State.pqeQueue (settleSigns_sides b s) :)
@[simp] theorem settleSigns_pqeBytes (b s : State) : (settleSigns b s).pqeBytes = s.pqeBytes :=
  (congrArg State.pqeBytes (settleSigns_sides b s) :)
@[simp] theorem settleSigns_reshape (b s : State) : (settleSigns b s).reshape = s.reshape :=
  (congrArg State.reshape (settleSigns_sides b s) :)
@[simp] theorem settleSigns_reshapeResult (b s : State) : (settleSigns b s).reshapeResult = s.reshapeResult :=
  (congrArg State.reshapeResult (settleSigns_sides b s) :)
@[simp] theorem settleSigns_losses (b s : State) : (settleSigns b s).losses = s.losses :=
  (congrArg State.losses (settleSigns_sides b s) :)
@[simp] theorem settleSigns_lossGen (b s : State) : (settleSigns b s).lossGen = s.lossGen :=
  (congrArg State.lossGen (settleSigns_sides b s) :)
@[simp] theorem settleSigns_journal (b s : State) : (settleSigns b s).journal = s.journal :=
  (congrArg State.journal (settleSigns_sides b s) :)
@[simp] theorem settleSigns_journalSeq (b s : State) : (settleSigns b s).journalSeq = s.journalSeq :=
  (congrArg State.journalSeq (settleSigns_sides b s) :)
@[simp] theorem settleSigns_channels (b s : State) : (settleSigns b s).channels = s.channels :=
  (congrArg State.channels (settleSigns_sides b s) :)
@[simp] theorem settleSigns_die (b s : State) : (settleSigns b s).die = s.die :=
  (congrArg State.die (settleSigns_sides b s) :)
@[simp] theorem settleSigns_wakeSeq (b s : State) : (settleSigns b s).wakeSeq = s.wakeSeq :=
  (congrArg State.wakeSeq (settleSigns_sides b s) :)
@[simp] theorem settleSigns_sec (b s : State) : (settleSigns b s).sec = s.sec :=
  (congrArg State.sec (settleSigns_sides b s) :)
@[simp] theorem settleSigns_vault (b s : State) : (settleSigns b s).vault = s.vault :=
  (congrArg State.vault (settleSigns_sides b s) :)
@[simp] theorem settleSigns_crypto (b s : State) : (settleSigns b s).crypto = s.crypto :=
  (congrArg State.crypto (settleSigns_sides b s) :)
@[simp] theorem settleSigns_alarm (b s : State) : (settleSigns b s).alarm = s.alarm :=
  (congrArg State.alarm (settleSigns_sides b s) :)
@[simp] theorem settleSigns_rng (b s : State) : (settleSigns b s).rng = s.rng :=
  (congrArg State.rng (settleSigns_sides b s) :)
@[simp] theorem settleSigns_secWait (b s : State) : (settleSigns b s).secWait = s.secWait :=
  (congrArg State.secWait (settleSigns_sides b s) :)
@[simp] theorem settleSigns_reqWait (b s : State) : (settleSigns b s).reqWait = s.reqWait :=
  (congrArg State.reqWait (settleSigns_sides b s) :)
@[simp] theorem settleSigns_pair (b s : State) : (settleSigns b s).pair = s.pair :=
  (congrArg State.pair (settleSigns_sides b s) :)
@[simp] theorem settleSigns_arbiters (b s : State) : (settleSigns b s).arbiters = s.arbiters :=
  (congrArg State.arbiters (settleSigns_sides b s) :)
@[simp] theorem settleSigns_dma (b s : State) : (settleSigns b s).dma = s.dma :=
  (congrArg State.dma (settleSigns_sides b s) :)
@[simp] theorem settleSigns_ddr (b s : State) : (settleSigns b s).ddr = s.ddr :=
  (congrArg State.ddr (settleSigns_sides b s) :)
@[simp] theorem settleSigns_mrm (b s : State) : (settleSigns b s).mrm = s.mrm :=
  (congrArg State.mrm (settleSigns_sides b s) :)
@[simp] theorem settleSigns_dram (b s : State) : (settleSigns b s).dram = s.dram :=
  (congrArg State.dram (settleSigns_sides b s) :)
@[simp] theorem settleSigns_mram (b s : State) : (settleSigns b s).mram = s.mram :=
  (congrArg State.mram (settleSigns_sides b s) :)
@[simp] theorem settleSigns_poison (b s : State) : (settleSigns b s).poison = s.poison :=
  (congrArg State.poison (settleSigns_sides b s) :)
@[simp] theorem settleSigns_clk (b s : State) : (settleSigns b s).clk = s.clk :=
  (congrArg State.clk (settleSigns_sides b s) :)
@[simp] theorem settleSigns_pwr (b s : State) : (settleSigns b s).pwr = s.pwr :=
  (congrArg State.pwr (settleSigns_sides b s) :)
@[simp] theorem settleSigns_boot (b s : State) : (settleSigns b s).boot = s.boot :=
  (congrArg State.boot (settleSigns_sides b s) :)
@[simp] theorem settleSigns_trace (b s : State) : (settleSigns b s).trace = s.trace :=
  (congrArg State.trace (settleSigns_sides b s) :)
@[simp] theorem settleSigns_tap (b s : State) : (settleSigns b s).tap = s.tap :=
  (congrArg State.tap (settleSigns_sides b s) :)

@[simp] theorem noteStatus_svp (b s : State) : (noteStatus b s).svp = s.svp := by
  obtain ⟨l, m, h⟩ := noteStatus_eq b s
  rw [h]
@[simp] theorem noteStatus_pages (b s : State) : (noteStatus b s).pages = s.pages := by
  obtain ⟨l, m, h⟩ := noteStatus_eq b s
  rw [h]
@[simp] theorem noteStatus_regs (b s : State) : (noteStatus b s).regs = s.regs := by
  obtain ⟨l, m, h⟩ := noteStatus_eq b s
  rw [h]
@[simp] theorem noteStatus_regOf (b s : State) (p off : Nat) : regOf (noteStatus b s) p off = regOf s p off := by
  simp [regOf, resetReg]
theorem noteStatus_outs (b s : State) (o : Out) (h : o ∈ s.outs) : o ∈ (noteStatus b s).outs := by
  obtain ⟨l, m, e⟩ := noteStatus_eq b s
  rw [e]; exact List.mem_append_right l h

@[simp] theorem settleVectors_page_enable (s : State) (p : Nat) :
    (getPage (settleVectors s) p).enable = (getPage s p).enable := (congrArg Page.enable (settleVectors_ctl s p) :)
@[simp] theorem settleSigns_page_enable (b s : State) (p : Nat) :
    (getPage (settleSigns b s) p).enable = (getPage s p).enable := (congrArg Page.enable (settleSigns_ctl b s p) :)
@[simp] theorem settleVectors_page_quiesce (s : State) (p : Nat) :
    (getPage (settleVectors s) p).quiesce = (getPage s p).quiesce := (congrArg Page.quiesce (settleVectors_ctl s p) :)
@[simp] theorem settleSigns_page_quiesce (b s : State) (p : Nat) :
    (getPage (settleSigns b s) p).quiesce = (getPage s p).quiesce := (congrArg Page.quiesce (settleSigns_ctl b s p) :)
@[simp] theorem settleVectors_page_softReset (s : State) (p : Nat) :
    (getPage (settleVectors s) p).softReset = (getPage s p).softReset := (congrArg Page.softReset (settleVectors_ctl s p) :)
@[simp] theorem settleSigns_page_softReset (b s : State) (p : Nat) :
    (getPage (settleSigns b s) p).softReset = (getPage s p).softReset := (congrArg Page.softReset (settleSigns_ctl b s p) :)
@[simp] theorem settleVectors_page_lockReq (s : State) (p : Nat) :
    (getPage (settleVectors s) p).lockReq = (getPage s p).lockReq := (congrArg Page.lockReq (settleVectors_ctl s p) :)
@[simp] theorem settleSigns_page_lockReq (b s : State) (p : Nat) :
    (getPage (settleSigns b s) p).lockReq = (getPage s p).lockReq := (congrArg Page.lockReq (settleSigns_ctl b s p) :)
@[simp] theorem settleVectors_page_enabled (s : State) (p : Nat) :
    (getPage (settleVectors s) p).enabled = (getPage s p).enabled := (congrArg Page.enabled (settleVectors_ctl s p) :)
@[simp] theorem settleSigns_page_enabled (b s : State) (p : Nat) :
    (getPage (settleSigns b s) p).enabled = (getPage s p).enabled := (congrArg Page.enabled (settleSigns_ctl b s p) :)
@[simp] theorem settleVectors_page_enabling (s : State) (p : Nat) :
    (getPage (settleVectors s) p).enabling = (getPage s p).enabling := (congrArg Page.enabling (settleVectors_ctl s p) :)
@[simp] theorem settleSigns_page_enabling (b s : State) (p : Nat) :
    (getPage (settleSigns b s) p).enabling = (getPage s p).enabling := (congrArg Page.enabling (settleSigns_ctl b s p) :)
@[simp] theorem settleVectors_page_shutdown (s : State) (p : Nat) :
    (getPage (settleVectors s) p).shutdown = (getPage s p).shutdown := (congrArg Page.shutdown (settleVectors_ctl s p) :)
@[simp] theorem settleSigns_page_shutdown (b s : State) (p : Nat) :
    (getPage (settleSigns b s) p).shutdown = (getPage s p).shutdown := (congrArg Page.shutdown (settleSigns_ctl b s p) :)
@[simp] theorem settleVectors_page_reenable (s : State) (p : Nat) :
    (getPage (settleVectors s) p).reenable = (getPage s p).reenable := (congrArg Page.reenable (settleVectors_ctl s p) :)
@[simp] theorem settleSigns_page_reenable (b s : State) (p : Nat) :
    (getPage (settleSigns b s) p).reenable = (getPage s p).reenable := (congrArg Page.reenable (settleSigns_ctl b s p) :)
@[simp] theorem settleVectors_page_fault (s : State) (p : Nat) :
    (getPage (settleVectors s) p).fault = (getPage s p).fault := (congrArg Page.fault (settleVectors_ctl s p) :)
@[simp] theorem settleSigns_page_fault (b s : State) (p : Nat) :
    (getPage (settleSigns b s) p).fault = (getPage s p).fault := (congrArg Page.fault (settleSigns_ctl b s p) :)
@[simp] theorem settleVectors_page_quiesced (s : State) (p : Nat) :
    (getPage (settleVectors s) p).quiesced = (getPage s p).quiesced := (congrArg Page.quiesced (settleVectors_ctl s p) :)
@[simp] theorem settleSigns_page_quiesced (b s : State) (p : Nat) :
    (getPage (settleSigns b s) p).quiesced = (getPage s p).quiesced := (congrArg Page.quiesced (settleSigns_ctl b s p) :)
@[simp] theorem settleVectors_page_lock (s : State) (p : Nat) :
    (getPage (settleVectors s) p).lock = (getPage s p).lock := (congrArg Page.lock (settleVectors_ctl s p) :)
@[simp] theorem settleSigns_page_lock (b s : State) (p : Nat) :
    (getPage (settleSigns b s) p).lock = (getPage s p).lock := (congrArg Page.lock (settleSigns_ctl b s p) :)

end Sys2Proof.Machine
end

