-- ==== Sys2Proof/Laws/Quiet.lean ====
section
/-! SUPPORT. The relation `Quiet`: what nearly every command leaves alone. One lemma per operation, in the files beside
this one, says that the operation keeps it. -/
namespace Sys2Proof.Machine

variable {s₀ : State}

theorem Quiet.refl (a : State) : Quiet a a where
  pending := rfl
  mram := rfl
  tap := rfl
  vault := rfl
  rng := rfl
  dma := rfl
  ddr := rfl
  pwr := rfl
  boot := rfl
  ctl _ := rfl
  causes _ _ := id
  dram := id

theorem Quiet.trans {b c : State} (h : Quiet s₀ b) (k : Quiet b c) : Quiet s₀ c where
  pending := k.pending.trans h.pending
  mram := k.mram.trans h.mram
  tap := k.tap.trans h.tap
  vault := k.vault.trans h.vault
  rng := k.rng.trans h.rng
  dma := k.dma.trans h.dma
  ddr := k.ddr.trans h.ddr
  pwr := k.pwr.trans h.pwr
  boot := k.boot.trans h.boot
  ctl p := (k.ctl p).trans (h.ctl p)
  causes p i w := k.causes p i (h.causes p i w)
  dram w := k.dram (h.dram w)

theorem Quiet.ite {c : Prop} [Decidable c] {x y : State} (hx : Quiet s₀ x) (hy : Quiet s₀ y) :
    Quiet s₀ (if c then x else y) := by
  split <;> assumption

theorem Quiet.mk' {u : State}
    {a_pending : List Instr} {a_outs : List Out} {a_draws : Nat} {a_time : TimeBase} {a_pages : Tab Page} {a_regs : Tab Word} {a_namespaces : Tab Namespace} {a_zones : Tab Zone} {a_stripes : Tab Stripe} {a_folds : Tab Fold} {a_buffers : Tab StripeBuf} {a_logMap : Tab (List Place)} {a_commands : Tab Command} {a_accepted : Nat} {a_rowJobs : Tab RowJob} {a_rowSeq : Nat} {a_cwSeq : Nat} {a_errorLog : List LogEntry} {a_healthLog : List Nat} {a_conns : Tab Conn} {a_regions : Tab Region} {a_engines : Tab Engine} {a_parked : Tab (List Instr)} {a_ports : Tab Port} {a_switch : Switch} {a_policers : Tab Policer} {a_egress : Tab Egress} {a_progGates : Tab GateEngine} {a_modules : Tab Module} {a_history : List (List Byte × Tab EraseBlock)} {a_links : Tab Link} {a_climbs : List Climb} {a_decodes : List DecodeJob} {a_groups : Tab Group} {a_pqeRun : Tab PqeJob} {a_pqeQueue : List PqeJob} {a_pqeBytes : Tab Nat} {a_reshape : Option Reshape} {a_reshapeResult : Nat} {a_losses : List Loss} {a_lossGen : Tab Nat} {a_journal : List JournalRecord} {a_journalSeq : Nat} {a_channels : Tab Channel} {a_die : PowerDie} {a_wakeSeq : Nat} {a_sec : Sec} {a_vault : Vault} {a_crypto : Crypto} {a_alarm : Alarm} {a_rng : Rng} {a_secWait : List Instr} {a_reqWait : List CmReq} {a_pair : Pair} {a_arbiters : Tab Arbiter} {a_dma : Tab DmaChan} {a_ddr : Tab Ddr} {a_mrm : Mrm} {a_dram : List Host.Cell} {a_mram : List Host.Cell} {a_poison : List Nat} {a_svp : Service} {a_clk : Clk} {a_pwr : Pwr} {a_boot : Boot} {a_mgt : Mgt} {a_trace : Trace} {a_tap : Tap}
    (h : Quiet s₀ u) (h_pending : a_pending = u.pending) (h_mram : a_mram = u.mram) (h_tap : a_tap = u.tap) (h_vault : a_vault = u.vault) (h_rng : a_rng = u.rng) (h_dma : a_dma = u.dma) (h_ddr : a_ddr = u.ddr) (h_pwr : a_pwr = u.pwr) (h_boot : a_boot = u.boot) (h_pages : a_pages = u.pages)
    (h_dram : a_dram = u.dram) :
    Quiet s₀ (State.mk a_pending a_outs a_draws a_time a_pages a_regs a_namespaces a_zones a_stripes a_folds a_buffers a_logMap a_commands a_accepted a_rowJobs a_rowSeq a_cwSeq a_errorLog a_healthLog a_conns a_regions a_engines a_parked a_ports a_switch a_policers a_egress a_progGates a_modules a_history a_links a_climbs a_decodes a_groups a_pqeRun a_pqeQueue a_pqeBytes a_reshape a_reshapeResult a_losses a_lossGen a_journal a_journalSeq a_channels a_die a_wakeSeq a_sec a_vault a_crypto a_alarm a_rng a_secWait a_reqWait a_pair a_arbiters a_dma a_ddr a_mrm a_dram a_mram a_poison a_svp a_clk a_pwr a_boot a_mgt a_trace a_tap) :=
  h.trans ⟨h_pending, h_mram, h_tap, h_vault, h_rng, h_dma, h_ddr, h_pwr, h_boot, fun p => by unfold getPage; rw [h_pages],
    fun p i w => by unfold getPage at *; rw [h_pages]; exact w, fun w => by rw [h_dram]; exact w⟩

theorem Quiet.foldl {α : Type} {f : State → α → State} {l : List α} {s : State} (h : Quiet s₀ s)
    (hf : ∀ u x, Quiet s₀ u → Quiet s₀ (f u x)) : Quiet s₀ (l.foldl f s) := by
  induction l generalizing s with
  | nil => exact h
  | cons x l ih => exact ih (hf s x h)

/-- An optional next state that keeps `Quiet`, alone or with a value. -/
structure Quiet.Opt (a : State) (o : Option State) : Prop where
  use : ∀ t, o = some t → Quiet a t
structure Quiet.Opt2 {α : Type} (a : State) (o : Option (α × State)) : Prop where
  use : ∀ x t, o = some (x, t) → Quiet a t

theorem Quiet.opt_none : Quiet.Opt s₀ none := ⟨fun _ h => nomatch h⟩
theorem Quiet.opt_some {u : State} (h : Quiet s₀ u) : Quiet.Opt s₀ (some u) := ⟨fun _ e => Option.some.inj e ▸ h⟩
theorem Quiet.opt_ite {c : Prop} [Decidable c] {x y : Option State} (hx : Quiet.Opt s₀ x) (hy : Quiet.Opt s₀ y) :
    Quiet.Opt s₀ (if c then x else y) := by
  split <;> assumption
theorem Quiet.opt_use {u : State} {o : Option State} (h : Quiet.Opt s₀ o) (e : o = some u) : Quiet s₀ u := h.use u e
theorem Quiet.opt2_none {α : Type} : Quiet.Opt2 s₀ (none : Option (α × State)) := ⟨fun _ _ h => nomatch h⟩
theorem Quiet.opt2_some {α : Type} {x : α} {u : State} (h : Quiet s₀ u) : Quiet.Opt2 s₀ (some (x, u)) := by
  constructor
  intro y t e
  cases e
  exact h
theorem Quiet.opt2_ite {α : Type} {c : Prop} [Decidable c] {x y : Option (α × State)} (hx : Quiet.Opt2 s₀ x)
    (hy : Quiet.Opt2 s₀ y) : Quiet.Opt2 s₀ (if c then x else y) := by
  split <;> assumption
theorem Quiet.opt2_use {α : Type} {x : α} {u : State} {o : Option (α × State)} (h : Quiet.Opt2 s₀ o)
    (e : o = some (x, u)) : Quiet s₀ u := h.use x u e

theorem Quiet.ofPages {u v : State} (h : Quiet s₀ u) (h_pending : v.pending = u.pending) (h_mram : v.mram = u.mram) (h_tap : v.tap = u.tap) (h_vault : v.vault = u.vault) (h_rng : v.rng = u.rng) (h_dma : v.dma = u.dma) (h_ddr : v.ddr = u.ddr) (h_pwr : v.pwr = u.pwr) (h_boot : v.boot = u.boot)
    (hc : ∀ p, (getPage v p).ctl = (getPage u p).ctl)
    (hi : ∀ p i, bit (getPage u p).intRaw i = true → bit (getPage v p).intRaw i = true) (hd : v.dram = u.dram) : Quiet s₀ v :=
  h.trans ⟨h_pending, h_mram, h_tap, h_vault, h_rng, h_dma, h_ddr, h_pwr, h_boot, hc, hi, fun w => by rw [hd]; exact w⟩

/-! ## Byte memories -/

theorem risingFrom_le {α : Type} {b c : Nat} (h : b ≤ c) {l : List (Nat × α)} (w : risingFrom c l = true) :
    risingFrom b l = true := by
  cases l with
  | nil => rfl
  | cons e r =>
    simp only [risingFrom, Bool.and_eq_true, decide_eq_true_eq] at w ⊢
    exact ⟨Nat.le_trans h w.1, w.2⟩

theorem risingFrom_insertKey {α : Type} (k : Nat) (v : α) (l : List (Nat × α)) (b : Nat) (hb : b ≤ k)
    (w : risingFrom b l = true) : risingFrom b (insertKey k v l) = true := by
  induction l generalizing b with
  | nil => simpa [insertKey, risingFrom] using hb
  | cons e r ih =>
    simp only [risingFrom, Bool.and_eq_true, decide_eq_true_eq] at w
    simp only [insertKey]
    split
    · next hlt =>
      simp only [risingFrom, Bool.and_eq_true, decide_eq_true_eq]
      exact ⟨hb, hlt, w.2⟩
    · split
      · next heq =>
        simp only [risingFrom, Bool.and_eq_true, decide_eq_true_eq]
        exact ⟨hb, heq ▸ w.2⟩
      · simp only [risingFrom, Bool.and_eq_true, decide_eq_true_eq]
        exact ⟨w.1, ih _ (by omega) w.2⟩

theorem risingFrom_eraseKey {α : Type} (k : Nat) (l : List (Nat × α)) (b : Nat) (w : risingFrom b l = true) :
    risingFrom b (eraseKey k l) = true := by
  induction l generalizing b with
  | nil => rfl
  | cons e r ih =>
    simp only [risingFrom, Bool.and_eq_true, decide_eq_true_eq] at w
    simp only [eraseKey]
    split
    · exact ih b (risingFrom_le (by omega) w.2)
    · simp only [risingFrom, Bool.and_eq_true, decide_eq_true_eq]
      exact ⟨w.1, ih _ w.2⟩

theorem mem_insertKey {α : Type} {k : Nat} {v : α} {l : List (Nat × α)} {e : Nat × α} (h : e ∈ insertKey k v l) :
    e = (k, v) ∨ e ∈ l := by
  induction l with
  | nil => simpa [insertKey] using h
  | cons c r ih =>
    simp only [insertKey] at h
    split at h
    · simpa using h
    · split at h
      · rcases List.mem_cons.1 h with h | h
        · exact .inl h
        · exact .inr (List.mem_cons_of_mem _ h)
      · rcases List.mem_cons.1 h with h | h
        · exact .inr (h ▸ List.mem_cons_self)
        · exact (ih h).imp id (List.mem_cons_of_mem _)

theorem mem_eraseKey {α : Type} {k : Nat} {l : List (Nat × α)} {e : Nat × α} (h : e ∈ eraseKey k l) : e ∈ l := by
  induction l with
  | nil => exact h
  | cons c r ih =>
    simp only [eraseKey] at h
    split at h
    · exact List.mem_cons_of_mem _ (ih h)
    · rcases List.mem_cons.1 h with h | h
      · exact h ▸ List.mem_cons_self
      · exact List.mem_cons_of_mem _ (ih h)

/-- A byte write keeps the canonical form of a memory. -/
theorem writeByte_wf {m : List Host.Cell} (w : memoryWf m = true) (k : Nat) (v : Byte) :
    memoryWf (writeByte m k v) = true := by
  simp only [memoryWf, Bool.and_eq_true, List.all_eq_true, decide_eq_true_eq] at w ⊢
  unfold writeByte
  split
  · exact ⟨risingFrom_eraseKey k m 0 w.1, fun c h => w.2 c (mem_eraseKey h)⟩
  · next hv =>
    refine ⟨risingFrom_insertKey k v m 0 (Nat.zero_le k) w.1, fun c h => ?_⟩
    rcases mem_insertKey h with h | h
    · exact h ▸ hv
    · exact w.2 c h

/-- A write of bytes keeps the canonical form of a memory. -/
theorem writeBytes_wf (bs : List Byte) {m : List Host.Cell} (w : memoryWf m = true) (k : Nat) :
    memoryWf (writeBytes m k bs) = true := by
  induction bs generalizing m k with
  | nil => exact w
  | cons b r ih => exact ih (writeByte_wf w k b) (k + 1)

theorem readByte_writeByte_self (m : List Host.Cell) (k : Nat) (v : Byte) : readByte (writeByte m k v) k = v := by
  unfold readByte writeByte
  split
  · next h => simp [h]
  · simp

theorem readByte_writeByte_ne (m : List Host.Cell) {k j : Nat} (h : k ≠ j) (v : Byte) :
    readByte (writeByte m j v) k = readByte m k := by
  unfold readByte writeByte
  split
  · rw [findKey_eraseKey_ne h]
  · rw [findKey_insertKey_ne h]

/-- A byte outside the written ones reads as before. -/
theorem readByte_writeBytes_out (bs : List Byte) (m : List Host.Cell) (j : Nat) {k : Nat}
    (h : k < j ∨ j + bs.length ≤ k) : readByte (writeBytes m j bs) k = readByte m k := by
  induction bs generalizing m j with
  | nil => rfl
  | cons b r ih =>
    simp only [List.length_cons] at h
    rw [writeBytes, ih _ _ (by omega), readByte_writeByte_ne _ (by omega)]

/-- What was written reads back. -/
theorem readBytes_writeBytes (bs : List Byte) (m : List Host.Cell) (j : Nat) :
    readBytes (writeBytes m j bs) j bs.length = bs := by
  induction bs generalizing m j with
  | nil => rfl
  | cons b r ih =>
    rw [List.length_cons, readBytes, writeBytes, ih, readByte_writeBytes_out r _ _ (by omega),
      readByte_writeByte_self]

/-! ## The shared operations -/

theorem dramWrite_quiet (s : State) (k : Nat) (bs : List Byte) (hs : Quiet s₀ s) : Quiet s₀ (dramWrite s k bs) where
  pending := hs.pending
  mram := hs.mram
  tap := hs.tap
  vault := hs.vault
  rng := hs.rng
  dma := hs.dma
  ddr := hs.ddr
  pwr := hs.pwr
  boot := hs.boot
  ctl := hs.ctl
  causes := hs.causes
  dram w := writeBytes_wf bs (hs.dram w) k

theorem pageCycles_ctl (s t : State) (n : Nat) (p : Page) : (pageCycles s t n p).ctl = p.ctl := by
  have hf : ∀ (run : Bool) (k : Nat) (l : List Nat) (p : Page),
      (l.foldl (fun p c => headerEvent run c k p) p).ctl = p.ctl := by
    intro run k l
    induction l with
    | nil => intro p; rfl
    | cons c l ih => intro p; rw [List.foldl_cons, ih, headerEvent_ctl]
  unfold pageCycles
  split
  · rfl
  · unfold cycleCount
    dsimp only
    rw [hf]
    split <;> split <;> simp

theorem findKey_map {α β : Type} (f : Nat → α → β) (k : Nat) (l : List (Nat × α)) :
    findKey k (l.map fun e => (e.1, f e.1 e.2)) = (findKey k l).map (f k) := by
  induction l with
  | nil => rfl
  | cons e r ih =>
    simp only [List.map_cons, findKey]
    split
    · next h => subst h; rfl
    · exact ih

theorem resetPage_ctl (n : Nat) : (resetPage n).ctl = resetPage n := rfl

theorem elapse_ctl (s : State) (dt p : Nat) : (getPage (elapse s dt) p).ctl = (getPage s p).ctl := by
  unfold getPage elapse Tab.getD Tab.get Tab.mapVals
  dsimp only
  rw [findKey_map]
  cases findKey p s.pages.entries with
  | none => rfl
  | some q => exact pageCycles_ctl ..

/-! ## Interrupt causes stay raised -/

theorem bit_or (a b : Word) (i : Nat) : bit (a ||| b) i = (bit a i || bit b i) := by simp [bit]

theorem pmcCountOne_intRaw (run : Bool) (c k : Nat) (p : Page) (i : Nat) : (pmcCountOne run c k p i).intRaw = p.intRaw := by
  unfold pmcCountOne
  dsimp only
  split
  · rfl
  · split <;> rfl

theorem pmcCount_intRaw (run : Bool) (c k : Nat) (p : Page) : (pmcCount run c k p).intRaw = p.intRaw := by
  unfold pmcCount
  split
  · rfl
  · generalize List.range 8 = l
    induction l generalizing p with
    | nil => rfl
    | cons a l ih => rw [List.foldl_cons, ih, pmcCountOne_intRaw]

theorem causeBits_intRaw (run : Bool) (p : Page) (m : Word) : (causeBits run p m).intRaw = p.intRaw ||| m := by
  unfold causeBits
  rw [pmcCount_intRaw]

theorem ovfCause_causes (run : Bool) (b a : Page) (i : Nat) (h : bit a.intRaw i = true) :
    bit (ovfCause run b a).intRaw i = true := by
  unfold ovfCause
  split
  · exact h
  · rw [causeBits_intRaw, bit_or, h, Bool.true_or]

theorem headerEvent_causes (run : Bool) (c k : Nat) (p : Page) (i : Nat) (h : bit p.intRaw i = true) :
    bit (headerEvent run c k p).intRaw i = true :=
  ovfCause_causes _ _ _ _ (by rw [pmcCount_intRaw]; exact h)

theorem headerRaise_causes (run : Bool) (m : Word) (p : Page) (i : Nat) (h : bit p.intRaw i = true ∨ bit m i = true) :
    bit (headerRaise run m p).intRaw i = true :=
  ovfCause_causes _ _ _ _ (by
    rw [causeBits_intRaw, bit_or]
    rcases h with h | h <;> simp [h])

theorem headerError_causes (run : Bool) (c r a : Nat) (p : Page) (i : Nat) (h : bit p.intRaw i = true) :
    bit (headerError run c r a p).intRaw i = true := by
  have h1 := headerEvent_causes run 0x004 1 p i h
  unfold headerError
  dsimp only
  split
  · exact headerRaise_causes _ _ _ _ (.inl h1)
  · exact h1

theorem setPage_causes (s : State) (n : Nat) (f : Page → Page)
    (hf : ∀ p i, bit p.intRaw i = true → bit (f p).intRaw i = true) (p i : Nat) (h : bit (getPage s p).intRaw i = true) :
    bit (getPage (setPage s n (f (getPage s n))) p).intRaw i = true := by
  by_cases e : p = n
  · subst e
    rw [getPage_setPage_self]
    exact hf _ _ h
  · rw [getPage_setPage_ne _ e]
    exact h

theorem pmcEvent_causes (s : State) (n c k p i : Nat) (h : bit (getPage s p).intRaw i = true) :
    bit (getPage (pmcEvent s n c k) p).intRaw i = true :=
  setPage_causes s n _ (fun p i => headerEvent_causes _ c k p i) p i h

theorem raiseCauses_causes (s : State) (n : Nat) (m : Word) (p i : Nat) (h : bit (getPage s p).intRaw i = true) :
    bit (getPage (raiseCauses s n m) p).intRaw i = true :=
  setPage_causes s n _ (fun p i h => headerRaise_causes _ m p i (.inl h)) p i h

theorem logError_causes (s : State) (n c r a p i : Nat) (h : bit (getPage s p).intRaw i = true) :
    bit (getPage (logError s n c r a) p).intRaw i = true :=
  setPage_causes s n _ (fun p i => headerError_causes _ c r a p i) p i h

/-- The causes asked for are raised. -/
theorem raiseCauses_raised (s : State) (n : Nat) (m : Word) (i : Nat) (h : bit m i = true) :
    bit (getPage (raiseCauses s n m) n).intRaw i = true := by
  rw [getPage_raiseCauses_self]
  exact headerRaise_causes _ _ _ _ (.inr h)

theorem bit_oneBit (i : Nat) (h : i < 32) : bit (oneBit i) i = true := by
  unfold bit oneBit
  rw [BitVec.getLsbD_ofNat]
  simp [h, Nat.testBit_two_pow_self]

theorem raiseCause_raised (s : State) (n b : Nat) (h : b < 32) : bit (getPage (raiseCause s n b) n).intRaw b = true :=
  raiseCauses_raised _ _ _ _ (bit_oneBit b h)

theorem pageCycles_causes (s t : State) (n : Nat) (p : Page) (i : Nat) (h : bit p.intRaw i = true) :
    bit (pageCycles s t n p).intRaw i = true := by
  have hf : ∀ (run : Bool) (k : Nat) (l : List Nat) (p : Page), bit p.intRaw i = true →
      bit (l.foldl (fun p c => headerEvent run c k p) p).intRaw i = true := by
    intro run k l
    induction l with
    | nil => intro p h; exact h
    | cons c l ih => intro p h; exact ih _ (headerEvent_causes _ _ _ _ _ h)
  unfold pageCycles
  split
  · exact h
  · unfold cycleCount
    dsimp only
    apply hf
    split <;> split <;> repeat (first | exact h | apply headerEvent_causes)

theorem elapse_causes (s : State) (dt p i : Nat) (h : bit (getPage s p).intRaw i = true) :
    bit (getPage (elapse s dt) p).intRaw i = true := by
  revert h
  unfold getPage elapse Tab.getD Tab.get Tab.mapVals
  dsimp only
  rw [findKey_map]
  cases findKey p s.pages.entries with
  | none => exact id
  | some q => exact pageCycles_causes _ _ _ _ _

theorem elapse_quiet (s : State) (dt : Nat) (hs : Quiet s₀ s) : Quiet s₀ (elapse s dt) :=
  hs.ofPages rfl rfl rfl rfl rfl rfl rfl rfl rfl (elapse_ctl s dt) (elapse_causes s dt) rfl

theorem pmcEvent_quiet (s : State) (n c k : Nat) (hs : Quiet s₀ s) : Quiet s₀ (pmcEvent s n c k) :=
  hs.ofPages rfl rfl rfl rfl rfl rfl rfl rfl rfl (pmcEvent_ctl s n c k) (pmcEvent_causes s n c k) rfl

theorem raiseCauses_quiet (s : State) (n : Nat) (m : Word) (hs : Quiet s₀ s) : Quiet s₀ (raiseCauses s n m) :=
  hs.ofPages rfl rfl rfl rfl rfl rfl rfl rfl rfl (raiseCauses_ctl s n m) (raiseCauses_causes s n m) rfl

theorem logError_quiet (s : State) (n c r x : Nat) (hs : Quiet s₀ s) : Quiet s₀ (logError s n c r x) :=
  hs.ofPages rfl rfl rfl rfl rfl rfl rfl rfl rfl (logError_ctl s n c r x) (logError_causes s n c r x) rfl

end Sys2Proof.Machine
end

