-- ==== Sys2Proof/Laws/Access.lean ====
section
/-! SUPPORT. What a register access does when it reaches its register. -/
namespace Sys2Proof.Machine

theorem dropCodes_pmcEvent (s : State) (p c k req page off : Nat) :
    dropCodes (pmcEvent s p c k) req page off = dropCodes s req page off := by
  simp [dropCodes]

theorem judgeWrite_go {s : State} {req page off : Nat} (h : writeReaches s req page off = true) :
    judgeWrite s req page off = .go (pmcEvent s page 0x006 1) := by
  simp only [writeReaches, Bool.and_eq_true, Bool.or_eq_true, Bool.not_eq_true', List.isEmpty_iff] at h
  obtain ⟨⟨ha, hb⟩, hc⟩ := h
  unfold judgeWrite
  have h1 : (onDie page && !dieReachable s) = false := by
    rcases ha with ha | ha <;> simp [ha]
  simp [h1, hb, dropCodes_pmcEvent, hc]

theorem judgeRead_go {s : State} {req page off : Nat} (h : readReaches s page off = true) :
    judgeRead s req page off = .go (pmcEvent s page 0x006 1) := by
  simp only [readReaches, Bool.and_eq_true, Bool.or_eq_true, Bool.not_eq_true'] at h
  obtain ⟨⟨ha, hb⟩, hc⟩ := h
  unfold judgeRead
  have h1 : (onDie page && !dieReachable s) = false := by
    rcases ha with ha | ha <;> simp [ha]
  simp [h1, hb, hc]

theorem writeBlock_go {s : State} {req page off : Nat} (h : writeReaches s req page off = true)
    (effect : State → State → State) (v : Word) :
    writeBlock effect s req page off v =
      effect (pmcEvent s page 0x006 1) (storeBlock (pmcEvent s page 0x006 1) req page off v) := by
  simp only [writeBlock, judgeWrite_go h]

theorem readWith_go {s : State} {req page off : Nat} (h : readReaches s page off = true)
    (effect : State → State) (value : State → Word) :
    readWith effect value s req page off =
      emit (effect (pmcEvent s page 0x006 1)) (.readValue req (regAddr page off) (value (pmcEvent s page 0x006 1))) := by
  simp only [readWith, judgeRead_go h]

end Sys2Proof.Machine
end

