-- ==== Sys2Proof/Laws/QuietOps.lean ====
section
/-! SUPPORT. The operations of Machine/Ops.lean that keep `Quiet`. -/
namespace Sys2Proof.Machine
variable {s₀ : State}

theorem emit_quiet (s : State) (o : Out) (hss : Quiet s₀ s) : Quiet s₀ (emit s o) := by
  unfold emit
  repeat' (first
    | (with_reducible assumption)
    | (intro u; first | (refine (fun (_ : Quiet s₀ u) => ?_) ?_; clear_value u; rotate_left; dsimp -zeta only [u]; rotate_right) | clear_value u)
    | intro _ | lift_lets -underBinder | (with_reducible apply Quiet.ite) | (with_reducible apply Quiet.foldl) | split
    | (with_reducible refine Quiet.mk' ?_ rfl rfl rfl rfl rfl rfl rfl rfl rfl rfl rfl) | dsimp -zeta only)

theorem emitAll_quiet (s : State) (os : List Out) (hss : Quiet s₀ s) : Quiet s₀ (emitAll s os) := by
  unfold emitAll
  repeat' (first
    | (with_reducible assumption)
    | (intro u; first | (refine (fun (_ : Quiet s₀ u) => ?_) ?_; clear_value u; rotate_left; dsimp -zeta only [u]; rotate_right) | clear_value u)
    | intro _ | lift_lets -underBinder | (with_reducible apply Quiet.ite) | (with_reducible apply Quiet.foldl) | split
    | (with_reducible refine Quiet.mk' ?_ rfl rfl rfl rfl rfl rfl rfl rfl rfl rfl rfl) | dsimp -zeta only)

theorem draw_quiet (s : State) (hss : Quiet s₀ s) : Quiet s₀ (draw s).2 := by
  unfold draw
  repeat' (first
    | (with_reducible assumption)
    | (intro u; first | (refine (fun (_ : Quiet s₀ u) => ?_) ?_; clear_value u; rotate_left; dsimp -zeta only [u]; rotate_right) | (refine (fun (_ : Quiet s₀ u.2) => ?_) ?_; clear_value u; rotate_left; dsimp -zeta only [u]; rotate_right) | (refine (fun (_ : Quiet s₀ u.2.2) => ?_) ?_; clear_value u; rotate_left; dsimp -zeta only [u]; rotate_right) | clear_value u)
    | intro _ | lift_lets -underBinder | (with_reducible apply Quiet.ite) | (with_reducible apply Quiet.foldl) | split
    | (with_reducible refine Quiet.mk' ?_ rfl rfl rfl rfl rfl rfl rfl rfl rfl rfl rfl) | dsimp -zeta only)
theorem draw_quiet_eq {s : State} {e0 : Nat} {t : State} (hss : Quiet s₀ s) (e : draw s = (e0, t)) : Quiet s₀ t :=
    by
  have := draw_quiet s hss
  rw [e] at this
  exact this

theorem setReg_quiet (s : State) (page : Nat) (off : Nat) (v : Word) (hss : Quiet s₀ s) : Quiet s₀ (setReg s page
    off v) := by
  unfold setReg
  repeat' (first
    | (with_reducible assumption)
    | (intro u; first | (refine (fun (_ : Quiet s₀ u) => ?_) ?_; clear_value u; rotate_left; dsimp -zeta only [u]; rotate_right) | clear_value u)
    | intro _ | lift_lets -underBinder | (with_reducible apply Quiet.ite) | (with_reducible apply Quiet.foldl) | split
    | (with_reducible refine Quiet.mk' ?_ rfl rfl rfl rfl rfl rfl rfl rfl rfl rfl rfl) | dsimp -zeta only)

theorem setField_quiet (s : State) (page : Nat) (off : Nat) (lo : Nat) (w : Nat) (n : Nat) (hss : Quiet s₀ s) :
    Quiet s₀ (setField s page off lo w n) := by
  unfold setField
  repeat' (first
    | (with_reducible assumption)
    | (intro u; first | (refine (fun (_ : Quiet s₀ u) => ?_) ?_; clear_value u; rotate_left; dsimp -zeta only [u]; rotate_right) | clear_value u)
    | intro _ | lift_lets -underBinder | (with_reducible apply Quiet.ite) | (with_reducible apply Quiet.foldl)
    | (with_reducible apply setReg_quiet) | split
    | (with_reducible refine Quiet.mk' ?_ rfl rfl rfl rfl rfl rfl rfl rfl rfl rfl rfl) | dsimp -zeta only)

theorem bumpBy_quiet (s : State) (page : Nat) (off : Nat) (n : Nat) (hss : Quiet s₀ s) : Quiet s₀ (bumpBy s page
    off n) := by
  unfold bumpBy
  repeat' (first
    | (with_reducible assumption)
    | (intro u; first | (refine (fun (_ : Quiet s₀ u) => ?_) ?_; clear_value u; rotate_left; dsimp -zeta only [u]; rotate_right) | clear_value u)
    | intro _ | lift_lets -underBinder | (with_reducible apply Quiet.ite) | (with_reducible apply Quiet.foldl)
    | (with_reducible apply setReg_quiet) | split
    | (with_reducible refine Quiet.mk' ?_ rfl rfl rfl rfl rfl rfl rfl rfl rfl rfl rfl) | dsimp -zeta only)

theorem bump_quiet (s : State) (page : Nat) (off : Nat) (hss : Quiet s₀ s) : Quiet s₀ (bump s page off) := by
  unfold bump
  repeat' (first
    | (with_reducible assumption)
    | (intro u; first | (refine (fun (_ : Quiet s₀ u) => ?_) ?_; clear_value u; rotate_left; dsimp -zeta only [u]; rotate_right) | clear_value u)
    | intro _ | lift_lets -underBinder | (with_reducible apply Quiet.ite) | (with_reducible apply Quiet.foldl)
    | (with_reducible apply bumpBy_quiet) | split
    | (with_reducible refine Quiet.mk' ?_ rfl rfl rfl rfl rfl rfl rfl rfl rfl rfl rfl) | dsimp -zeta only)

theorem countOn_quiet (s : State) (page : Nat) (off : Nat) (n : Nat) (hss : Quiet s₀ s) : Quiet s₀ (countOn s page
    off n) := by
  unfold countOn
  repeat' (first
    | (with_reducible assumption)
    | (intro u; first | (refine (fun (_ : Quiet s₀ u) => ?_) ?_; clear_value u; rotate_left; dsimp -zeta only [u]; rotate_right) | clear_value u)
    | intro _ | lift_lets -underBinder | (with_reducible apply Quiet.ite) | (with_reducible apply Quiet.foldl)
    | (with_reducible apply setReg_quiet) | split
    | (with_reducible refine Quiet.mk' ?_ rfl rfl rfl rfl rfl rfl rfl rfl rfl rfl rfl) | dsimp -zeta only)

theorem raiseCause_quiet (s : State) (page : Nat) (b : Nat) (hss : Quiet s₀ s) : Quiet s₀ (raiseCause s page b) :=
    by
  unfold raiseCause
  repeat' (first
    | (with_reducible assumption)
    | (intro u; first | (refine (fun (_ : Quiet s₀ u) => ?_) ?_; clear_value u; rotate_left; dsimp -zeta only [u]; rotate_right) | clear_value u)
    | intro _ | lift_lets -underBinder | (with_reducible apply Quiet.ite) | (with_reducible apply Quiet.foldl)
    | (with_reducible apply raiseCauses_quiet) | split
    | (with_reducible refine Quiet.mk' ?_ rfl rfl rfl rfl rfl rfl rfl rfl rfl rfl rfl) | dsimp -zeta only)

theorem alertAt_quiet (s : State) (page : Nat) (off : Nat) (b : Nat) (base : Nat) (hss : Quiet s₀ s) : Quiet s₀
    (alertAt s page off b base) := by
  unfold alertAt
  repeat' (first
    | (with_reducible assumption)
    | (intro u; first | (refine (fun (_ : Quiet s₀ u) => ?_) ?_; clear_value u; rotate_left; dsimp -zeta only [u]; rotate_right) | clear_value u)
    | intro _ | lift_lets -underBinder | (with_reducible apply Quiet.ite) | (with_reducible apply Quiet.foldl)
    | (with_reducible apply raiseCause_quiet) | (with_reducible apply setReg_quiet) | split
    | (with_reducible refine Quiet.mk' ?_ rfl rfl rfl rfl rfl rfl rfl rfl rfl rfl rfl) | dsimp -zeta only)

theorem alert_quiet (s : State) (page : Nat) (off : Nat) (b : Nat) (hss : Quiet s₀ s) : Quiet s₀ (alert s page off
    b) := by
  unfold alert
  repeat' (first
    | (with_reducible assumption)
    | (intro u; first | (refine (fun (_ : Quiet s₀ u) => ?_) ?_; clear_value u; rotate_left; dsimp -zeta only [u]; rotate_right) | clear_value u)
    | intro _ | lift_lets -underBinder | (with_reducible apply Quiet.ite) | (with_reducible apply Quiet.foldl)
    | (with_reducible apply alertAt_quiet) | split
    | (with_reducible refine Quiet.mk' ?_ rfl rfl rfl rfl rfl rfl rfl rfl rfl rfl rfl) | dsimp -zeta only)

theorem blockError_quiet (s : State) (page : Nat) (code : Nat) (addr : Nat) (hss : Quiet s₀ s) : Quiet s₀
    (blockError s page code addr) := by
  unfold blockError
  repeat' (first
    | (with_reducible assumption)
    | (intro u; first | (refine (fun (_ : Quiet s₀ u) => ?_) ?_; clear_value u; rotate_left; dsimp -zeta only [u]; rotate_right) | clear_value u)
    | intro _ | lift_lets -underBinder | (with_reducible apply Quiet.ite) | (with_reducible apply Quiet.foldl)
    | (with_reducible apply logError_quiet) | split
    | (with_reducible refine Quiet.mk' ?_ rfl rfl rfl rfl rfl rfl rfl rfl rfl rfl rfl) | dsimp -zeta only)

end Sys2Proof.Machine
end

