-- ==== Sys2Proof/Laws/QuietGates.lean ====
section
/-! SUPPORT. The operations of Machine/Gates.lean that keep `Quiet`. -/
namespace Sys2Proof.Machine
variable {s₀ : State}

theorem setGate_quiet (s : State) (page : Nat) (g : GateEngine) (hss : Quiet s₀ s) : Quiet s₀ (setGate s page g)
    := by
  unfold setGate
  repeat' (first
    | (with_reducible assumption)
    | (intro u; first | (refine (fun (_ : Quiet s₀ u) => ?_) ?_; clear_value u; rotate_left; dsimp -zeta only [u]; rotate_right) | clear_value u)
    | intro _ | lift_lets -underBinder | (with_reducible apply Quiet.ite) | (with_reducible apply Quiet.foldl) | split
    | (with_reducible refine Quiet.mk' ?_ rfl rfl rfl rfl rfl rfl rfl rfl rfl rfl rfl) | dsimp -zeta only)

end Sys2Proof.Machine
end

