-- ==== Sys2Proof/Laws/QuietAccess.lean ====
section
/-! SUPPORT. The operations of Machine/Access.lean that keep `Quiet`. -/
namespace Sys2Proof.Machine
variable {s₀ : State}

theorem clockTo_quiet (s : State) (t : Tick) (hss : Quiet s₀ s) : Quiet s₀ (clockTo s t) := by
  unfold clockTo
  repeat' (first
    | (with_reducible assumption)
    | (intro u; first | (refine (fun (_ : Quiet s₀ u) => ?_) ?_; clear_value u; rotate_left; dsimp -zeta only [u]; rotate_right) | clear_value u)
    | intro _ | lift_lets -underBinder | (with_reducible apply Quiet.ite) | (with_reducible apply Quiet.foldl)
    | (with_reducible apply elapse_quiet) | split
    | (with_reducible refine Quiet.mk' ?_ rfl rfl rfl rfl rfl rfl rfl rfl rfl rfl rfl) | dsimp -zeta only)

theorem clockToOpt_quiet (s : State) (z0 : Option Tick) (hss : Quiet s₀ s) : Quiet s₀ (clockToOpt s z0) := by
  unfold clockToOpt
  repeat' (first
    | (with_reducible assumption)
    | (intro u; first | (refine (fun (_ : Quiet s₀ u) => ?_) ?_; clear_value u; rotate_left; dsimp -zeta only [u]; rotate_right) | clear_value u)
    | intro _ | lift_lets -underBinder | (with_reducible apply Quiet.ite) | (with_reducible apply Quiet.foldl)
    | (with_reducible apply clockTo_quiet) | split
    | (with_reducible refine Quiet.mk' ?_ rfl rfl rfl rfl rfl rfl rfl rfl rfl rfl rfl) | dsimp -zeta only)

theorem fabError_quiet (s : State) (code : Nat) (req : Nat) (addr : Nat) (hss : Quiet s₀ s) : Quiet s₀ (fabError s
    code req addr) := by
  unfold fabError
  repeat' (first
    | (with_reducible assumption)
    | (intro u; first | (refine (fun (_ : Quiet s₀ u) => ?_) ?_; clear_value u; rotate_left; dsimp -zeta only [u]; rotate_right) | clear_value u)
    | intro _ | lift_lets -underBinder | (with_reducible apply Quiet.ite) | (with_reducible apply Quiet.foldl)
    | (with_reducible apply alert_quiet) | (with_reducible apply logError_quiet) | split
    | (with_reducible refine Quiet.mk' ?_ rfl rfl rfl rfl rfl rfl rfl rfl rfl rfl rfl) | dsimp -zeta only)

theorem logCodes_quiet (s : State) (page : Nat) (req : Nat) (off : Nat) (codes : List Nat) (hss : Quiet s₀ s) :
    Quiet s₀ (logCodes s page req off codes) := by
  unfold logCodes
  repeat' (first
    | (with_reducible assumption)
    | (intro u; first | (refine (fun (_ : Quiet s₀ u) => ?_) ?_; clear_value u; rotate_left; dsimp -zeta only [u]; rotate_right) | clear_value u)
    | intro _ | lift_lets -underBinder | (with_reducible apply Quiet.ite) | (with_reducible apply Quiet.foldl)
    | (with_reducible apply logError_quiet) | split
    | (with_reducible refine Quiet.mk' ?_ rfl rfl rfl rfl rfl rfl rfl rfl rfl rfl rfl) | dsimp -zeta only)

theorem storeBlock_quiet (s : State) (req : Nat) (page : Nat) (off : Nat) (v : Word) (hss : Quiet s₀ s) : Quiet s₀
    (storeBlock s req page off v) := by
  unfold storeBlock
  repeat' (first
    | (with_reducible assumption)
    | (intro u; first | (refine (fun (_ : Quiet s₀ u) => ?_) ?_; clear_value u; rotate_left; dsimp -zeta only [u]; rotate_right) | clear_value u)
    | intro _ | lift_lets -underBinder | (with_reducible apply Quiet.ite) | (with_reducible apply Quiet.foldl)
    | (with_reducible apply logCodes_quiet) | (with_reducible apply setReg_quiet) | split
    | (with_reducible refine Quiet.mk' ?_ rfl rfl rfl rfl rfl rfl rfl rfl rfl rfl rfl) | dsimp -zeta only)

theorem judgeWrite_quiet (s : State) (req page off : Nat) (hs : Quiet s₀ s) {t : State}
    (e : judgeWrite s req page off = .stop t ∨ judgeWrite s req page off = .go t) : Quiet s₀ t := by
  unfold judgeWrite at e
  split at e
  · rcases e with e | e <;> simp only [Judged.stop.injEq, reduceCtorEq] at e
    subst e
    exact fabError_quiet _ _ _ _ hs |>.mk' rfl rfl rfl rfl rfl rfl rfl rfl rfl rfl rfl
  · split at e
    · rcases e with e | e <;> simp only [Judged.stop.injEq, reduceCtorEq] at e
      subst e
      exact logError_quiet _ _ _ _ _ hs
    · dsimp only at e
      split at e
      · rcases e with e | e <;> simp only [Judged.go.injEq, reduceCtorEq] at e
        subst e
        exact pmcEvent_quiet _ _ _ _ hs
      · rcases e with e | e <;> simp only [Judged.stop.injEq, reduceCtorEq] at e
        subst e
        exact logCodes_quiet _ _ _ _ _ (pmcEvent_quiet _ _ _ _ hs)

theorem judgeRead_quiet (s : State) (req page off : Nat) (hs : Quiet s₀ s) {t : State}
    (e : judgeRead s req page off = .stop t ∨ judgeRead s req page off = .go t) : Quiet s₀ t := by
  unfold judgeRead at e
  split at e
  · rcases e with e | e <;> simp only [Judged.stop.injEq, reduceCtorEq] at e
    subst e
    exact fabError_quiet _ _ _ _ hs |>.mk' rfl rfl rfl rfl rfl rfl rfl rfl rfl rfl rfl
  · split at e
    · rcases e with e | e <;> simp only [Judged.stop.injEq, reduceCtorEq] at e
      subst e
      exact hs
    · split at e
      · rcases e with e | e <;> simp only [Judged.stop.injEq, reduceCtorEq] at e
        subst e
        exact pmcEvent_quiet _ _ _ _ hs
      · rcases e with e | e <;> simp only [Judged.go.injEq, reduceCtorEq] at e
        subst e
        exact pmcEvent_quiet _ _ _ _ hs


theorem writeBlock_quiet (effect : State → State → State) (s : State) (req page off : Nat) (v : Word)
    (he : ∀ x y, Quiet s₀ x → Quiet s₀ y → Quiet s₀ (effect x y)) (hs : Quiet s₀ s) :
    Quiet s₀ (writeBlock effect s req page off v) := by
  unfold writeBlock
  split
  · next e => exact judgeWrite_quiet _ _ _ _ hs (.inl e)
  · next e =>
    have ht := judgeWrite_quiet _ _ _ _ hs (.inr e)
    exact he _ _ ht (storeBlock_quiet _ _ _ _ _ ht)

theorem readWith_quiet (effect : State → State) (value : State → Word) (s : State) (req page off : Nat)
    (he : ∀ x, Quiet s₀ x → Quiet s₀ (effect x)) (hs : Quiet s₀ s) :
    Quiet s₀ (readWith effect value s req page off) := by
  unfold readWith
  split
  · next e => exact emit_quiet _ _ (judgeRead_quiet _ _ _ _ hs (.inl e))
  · next e => exact emit_quiet _ _ (he _ (judgeRead_quiet _ _ _ _ hs (.inr e)))

end Sys2Proof.Machine
end

