-- ==== Sys2Proof/Laws/QuietHeader.lean ====
section
/-! SUPPORT. The operations of Machine/Header.lean that keep `Quiet`. -/
namespace Sys2Proof.Machine
variable {s₀ : State}

theorem invalidateEntry_quiet (s : State) (i : Nat) (hss : Quiet s₀ s) : Quiet s₀ (invalidateEntry s i) := by
  unfold invalidateEntry
  repeat' (first
    | (with_reducible assumption)
    | (intro u; first | (refine (fun (_ : Quiet s₀ u) => ?_) ?_; clear_value u; rotate_left; dsimp -zeta only [u]; rotate_right) | clear_value u)
    | intro _ | lift_lets -underBinder | (with_reducible apply Quiet.ite) | (with_reducible apply Quiet.foldl)
    | (with_reducible apply alert_quiet) | split
    | (with_reducible refine Quiet.mk' ?_ rfl rfl rfl rfl rfl rfl rfl rfl rfl rfl rfl) | dsimp -zeta only)

theorem seedEffect_quiet (x0 : State) (after : State) (hsafter : Quiet s₀ after) : Quiet s₀ (seedEffect x0 after)
    := by
  unfold seedEffect
  repeat' (first
    | (with_reducible assumption)
    | (intro u; first | (refine (fun (_ : Quiet s₀ u) => ?_) ?_; clear_value u; rotate_left; dsimp -zeta only [u]; rotate_right) | clear_value u)
    | intro _ | lift_lets -underBinder | (with_reducible apply Quiet.ite) | (with_reducible apply Quiet.foldl) | split
    | (with_reducible refine Quiet.mk' ?_ rfl rfl rfl rfl rfl rfl rfl rfl rfl rfl rfl) | dsimp -zeta only)

theorem tagCapsule_quiet (s : State) (conn : Nat) (cid : Nat) (op : Nat) (trig : Nat) (hss : Quiet s₀ s) : Quiet
    s₀ (tagCapsule s conn cid op trig).2 := by
  unfold tagCapsule
  repeat' (first
    | (with_reducible assumption)
    | (intro u; first | (refine (fun (_ : Quiet s₀ u) => ?_) ?_; clear_value u; rotate_left; dsimp -zeta only [u]; rotate_right) | (refine (fun (_ : Quiet s₀ u.2) => ?_) ?_; clear_value u; rotate_left; dsimp -zeta only [u]; rotate_right) | (refine (fun (_ : Quiet s₀ u.2.2) => ?_) ?_; clear_value u; rotate_left; dsimp -zeta only [u]; rotate_right) | clear_value u)
    | intro _ | lift_lets -underBinder | (with_reducible apply Quiet.ite) | (with_reducible apply Quiet.foldl)
    | (with_reducible apply bump_quiet) | split
    | (with_reducible refine Quiet.mk' ?_ rfl rfl rfl rfl rfl rfl rfl rfl rfl rfl rfl) | dsimp -zeta only)
theorem tagCapsule_quiet_eq {s : State} {conn : Nat} {cid : Nat} {op : Nat} {trig : Nat} {e0 : Bool} {t : State}
    (hss : Quiet s₀ s) (e : tagCapsule s conn cid op trig = (e0, t)) : Quiet s₀ t := by
  have := tagCapsule_quiet s conn cid op trig hss
  rw [e] at this
  exact this

theorem stamp_quiet (s : State) (conn : Nat) (cid : Nat) (point : Nat) (hss : Quiet s₀ s) : Quiet s₀ (stamp s conn
    cid point) := by
  unfold stamp
  repeat' (first
    | (with_reducible assumption)
    | (intro u; first | (refine (fun (_ : Quiet s₀ u) => ?_) ?_; clear_value u; rotate_left; dsimp -zeta only [u]; rotate_right) | clear_value u)
    | intro _ | lift_lets -underBinder | (with_reducible apply Quiet.ite) | (with_reducible apply Quiet.foldl) | split
    | (with_reducible refine Quiet.mk' ?_ rfl rfl rfl rfl rfl rfl rfl rfl rfl rfl rfl) | dsimp -zeta only)

theorem traceFlag_quiet (s : State) (conn : Nat) (cid : Nat) (b : Nat) (hss : Quiet s₀ s) : Quiet s₀ (traceFlag s
    conn cid b) := by
  unfold traceFlag
  repeat' (first
    | (with_reducible assumption)
    | (intro u; first | (refine (fun (_ : Quiet s₀ u) => ?_) ?_; clear_value u; rotate_left; dsimp -zeta only [u]; rotate_right) | clear_value u)
    | intro _ | lift_lets -underBinder | (with_reducible apply Quiet.ite) | (with_reducible apply Quiet.foldl) | split
    | (with_reducible refine Quiet.mk' ?_ rfl rfl rfl rfl rfl rfl rfl rfl rfl rfl rfl) | dsimp -zeta only)

theorem traceTarget_quiet (s : State) (conn : Nat) (cid : Nat) (ns : Nat) (zone : Nat) (len : Nat) (hss : Quiet s₀
    s) : Quiet s₀ (traceTarget s conn cid ns zone len) := by
  unfold traceTarget
  repeat' (first
    | (with_reducible assumption)
    | (intro u; first | (refine (fun (_ : Quiet s₀ u) => ?_) ?_; clear_value u; rotate_left; dsimp -zeta only [u]; rotate_right) | clear_value u)
    | intro _ | lift_lets -underBinder | (with_reducible apply Quiet.ite) | (with_reducible apply Quiet.foldl) | split
    | (with_reducible refine Quiet.mk' ?_ rfl rfl rfl rfl rfl rfl rfl rfl rfl rfl rfl) | dsimp -zeta only)

theorem endTrace_quiet (s : State) (conn : Nat) (cid : Nat) (status : Nat) (hss : Quiet s₀ s) : Quiet s₀ (endTrace
    s conn cid status) := by
  unfold endTrace
  repeat' (first
    | (with_reducible assumption)
    | (intro u; first | (refine (fun (_ : Quiet s₀ u) => ?_) ?_; clear_value u; rotate_left; dsimp -zeta only [u]; rotate_right) | clear_value u)
    | intro _ | lift_lets -underBinder | (with_reducible apply Quiet.ite) | (with_reducible apply Quiet.foldl)
    | (with_reducible apply alert_quiet) | (with_reducible apply dramWrite_quiet) | split
    | (with_reducible refine Quiet.mk' ?_ rfl rfl rfl rfl rfl rfl rfl rfl rfl rfl rfl) | dsimp -zeta only)

end Sys2Proof.Machine
end

