-- ==== Sys2Proof/Laws/QuietArbiters.lean ====
section
/-! SUPPORT. The operations of Machine/Arbiters.lean that keep `Quiet`. -/
namespace Sys2Proof.Machine
variable {s₀ : State}

theorem setArbiter_quiet (s : State) (arb : Nat) (a : Arbiter) (hss : Quiet s₀ s) : Quiet s₀ (setArbiter s arb a)
    := by
  unfold setArbiter
  repeat' (first
    | (with_reducible assumption)
    | (intro u; first | (refine (fun (_ : Quiet s₀ u) => ?_) ?_; clear_value u; rotate_left; dsimp -zeta only [u]; rotate_right) | clear_value u)
    | intro _ | lift_lets -underBinder | (with_reducible apply Quiet.ite) | (with_reducible apply Quiet.foldl) | split
    | (with_reducible refine Quiet.mk' ?_ rfl rfl rfl rfl rfl rfl rfl rfl rfl rfl rfl) | dsimp -zeta only)

theorem setRequester_quiet (s : State) (arb : Nat) (req : Nat) (r : Requester) (hss : Quiet s₀ s) : Quiet s₀
    (setRequester s arb req r) := by
  unfold setRequester
  repeat' (first
    | (with_reducible assumption)
    | (intro u; first | (refine (fun (_ : Quiet s₀ u) => ?_) ?_; clear_value u; rotate_left; dsimp -zeta only [u]; rotate_right) | clear_value u)
    | intro _ | lift_lets -underBinder | (with_reducible apply Quiet.ite) | (with_reducible apply Quiet.foldl)
    | (with_reducible apply setArbiter_quiet) | split
    | (with_reducible refine Quiet.mk' ?_ rfl rfl rfl rfl rfl rfl rfl rfl rfl rfl rfl) | dsimp -zeta only)

theorem clockToCycle_quiet (s : State) (arb : Nat) (c : Nat) (hss : Quiet s₀ s) : Quiet s₀ (clockToCycle s arb c)
    := by
  unfold clockToCycle
  repeat' (first
    | (with_reducible assumption)
    | (intro u; first | (refine (fun (_ : Quiet s₀ u) => ?_) ?_; clear_value u; rotate_left; dsimp -zeta only [u]; rotate_right) | clear_value u)
    | intro _ | lift_lets -underBinder | (with_reducible apply Quiet.ite) | (with_reducible apply Quiet.foldl)
    | (with_reducible apply elapse_quiet) | split
    | (with_reducible refine Quiet.mk' ?_ rfl rfl rfl rfl rfl rfl rfl rfl rfl rfl rfl) | dsimp -zeta only)

theorem present_quiet (arb : Nat) (s : State) (p : Presented) (hss : Quiet s₀ s) : Quiet s₀ (present arb s p) :=
    by
  unfold present
  repeat' (first
    | (with_reducible assumption)
    | (intro u; first | (refine (fun (_ : Quiet s₀ u) => ?_) ?_; clear_value u; rotate_left; dsimp -zeta only [u]; rotate_right) | clear_value u)
    | intro _ | lift_lets -underBinder | (with_reducible apply Quiet.ite) | (with_reducible apply Quiet.foldl)
    | (with_reducible apply setRequester_quiet) | split
    | (with_reducible refine Quiet.mk' ?_ rfl rfl rfl rfl rfl rfl rfl rfl rfl rfl rfl) | dsimp -zeta only)

theorem checkAlarm_quiet (arb : Nat) (s : State) (req : Nat) (hss : Quiet s₀ s) : Quiet s₀ (checkAlarm arb s req)
    := by
  unfold checkAlarm
  repeat' (first
    | (with_reducible assumption)
    | (intro u; first | (refine (fun (_ : Quiet s₀ u) => ?_) ?_; clear_value u; rotate_left; dsimp -zeta only [u]; rotate_right) | clear_value u)
    | intro _ | lift_lets -underBinder | (with_reducible apply Quiet.ite) | (with_reducible apply Quiet.foldl)
    | (with_reducible apply alert_quiet) | (with_reducible apply setReg_quiet)
    | (with_reducible apply setRequester_quiet) | split
    | (with_reducible refine Quiet.mk' ?_ rfl rfl rfl rfl rfl rfl rfl rfl rfl rfl rfl) | dsimp -zeta only)

theorem checkAlarms_quiet (s : State) (arb : Nat) (hss : Quiet s₀ s) : Quiet s₀ (checkAlarms s arb) := by
  unfold checkAlarms
  repeat' (first
    | (with_reducible assumption)
    | (intro u; first | (refine (fun (_ : Quiet s₀ u) => ?_) ?_; clear_value u; rotate_left; dsimp -zeta only [u]; rotate_right) | clear_value u)
    | intro _ | lift_lets -underBinder | (with_reducible apply Quiet.ite) | (with_reducible apply Quiet.foldl)
    | (with_reducible apply checkAlarm_quiet) | split
    | (with_reducible refine Quiet.mk' ?_ rfl rfl rfl rfl rfl rfl rfl rfl rfl rfl rfl) | dsimp -zeta only)

theorem lose_quiet (arb : Nat) (s : State) (c : Nat) (hss : Quiet s₀ s) : Quiet s₀ (lose arb s c) := by
  unfold lose
  repeat' (first
    | (with_reducible assumption)
    | (intro u; first | (refine (fun (_ : Quiet s₀ u) => ?_) ?_; clear_value u; rotate_left; dsimp -zeta only [u]; rotate_right) | clear_value u)
    | intro _ | lift_lets -underBinder | (with_reducible apply Quiet.ite) | (with_reducible apply Quiet.foldl)
    | (with_reducible apply pmcEvent_quiet) | (with_reducible apply setRequester_quiet) | split
    | (with_reducible refine Quiet.mk' ?_ rfl rfl rfl rfl rfl rfl rfl rfl rfl rfl rfl) | dsimp -zeta only)

theorem grant_quiet (arb : Nat) (s : State) (c : Nat) (hss : Quiet s₀ s) : Quiet s₀ (grant arb s c) := by
  unfold grant
  repeat' (first
    | (with_reducible assumption)
    | (intro u; first | (refine (fun (_ : Quiet s₀ u) => ?_) ?_; clear_value u; rotate_left; dsimp -zeta only [u]; rotate_right) | clear_value u)
    | intro _ | lift_lets -underBinder | (with_reducible apply Quiet.ite) | (with_reducible apply Quiet.foldl)
    | (with_reducible apply pmcEvent_quiet) | (with_reducible apply setArbiter_quiet)
    | (with_reducible apply setRequester_quiet) | split
    | (with_reducible refine Quiet.mk' ?_ rfl rfl rfl rfl rfl rfl rfl rfl rfl rfl rfl) | dsimp -zeta only)

theorem completeBurst_quiet (s : State) (arb : Nat) (hss : Quiet s₀ s) : Quiet s₀ (completeBurst s arb) := by
  unfold completeBurst
  repeat' (first
    | (with_reducible assumption)
    | (intro u; first | (refine (fun (_ : Quiet s₀ u) => ?_) ?_; clear_value u; rotate_left; dsimp -zeta only [u]; rotate_right) | clear_value u)
    | intro _ | lift_lets -underBinder | (with_reducible apply Quiet.ite) | (with_reducible apply Quiet.foldl)
    | (with_reducible apply setArbiter_quiet) | (with_reducible apply setRequester_quiet) | split
    | (with_reducible refine Quiet.mk' ?_ rfl rfl rfl rfl rfl rfl rfl rfl rfl rfl rfl) | dsimp -zeta only)

theorem yieldPort_quiet (s : State) (arb : Nat) (hss : Quiet s₀ s) : Quiet s₀ (yieldPort s arb) := by
  unfold yieldPort
  repeat' (first
    | (with_reducible assumption)
    | (intro u; first | (refine (fun (_ : Quiet s₀ u) => ?_) ?_; clear_value u; rotate_left; dsimp -zeta only [u]; rotate_right) | clear_value u)
    | intro _ | lift_lets -underBinder | (with_reducible apply Quiet.ite) | (with_reducible apply Quiet.foldl)
    | (with_reducible apply setArbiter_quiet) | (with_reducible apply setRequester_quiet) | split
    | (with_reducible refine Quiet.mk' ?_ rfl rfl rfl rfl rfl rfl rfl rfl rfl rfl rfl) | dsimp -zeta only)

theorem settle_quiet (s : State) (arb : Nat) (cs : List Nat) (hss : Quiet s₀ s) : Quiet s₀ (settle s arb cs) := by
  unfold settle
  repeat' (first
    | (with_reducible assumption)
    | (intro u; first | (refine (fun (_ : Quiet s₀ u) => ?_) ?_; clear_value u; rotate_left; dsimp -zeta only [u]; rotate_right) | clear_value u)
    | intro _ | lift_lets -underBinder | (with_reducible apply Quiet.ite) | (with_reducible apply Quiet.foldl)
    | (with_reducible apply grant_quiet) | (with_reducible apply lose_quiet) | (with_reducible apply setArbiter_quiet)
    | split | (with_reducible refine Quiet.mk' ?_ rfl rfl rfl rfl rfl rfl rfl rfl rfl rfl rfl) | dsimp -zeta only)

theorem decide__quiet (s : State) (arb : Nat) (arrivals : List Presented) (hss : Quiet s₀ s) : Quiet s₀ (decide_ s
    arb arrivals) := by
  unfold decide_
  repeat' (first
    | (with_reducible assumption)
    | (intro u; first | (refine (fun (_ : Quiet s₀ u) => ?_) ?_; clear_value u; rotate_left; dsimp -zeta only [u]; rotate_right) | clear_value u)
    | intro _ | lift_lets -underBinder | (with_reducible apply Quiet.ite) | (with_reducible apply Quiet.foldl)
    | (with_reducible apply checkAlarms_quiet) | (with_reducible apply completeBurst_quiet)
    | (with_reducible apply grant_quiet) | (with_reducible apply lose_quiet) | (with_reducible apply present_quiet)
    | (with_reducible apply settle_quiet) | (with_reducible apply yieldPort_quiet) | split
    | (with_reducible refine Quiet.mk' ?_ rfl rfl rfl rfl rfl rfl rfl rfl rfl rfl rfl) | dsimp -zeta only)

theorem backoffEnd_quiet (s : State) (arb : Nat) (req : Nat) (hss : Quiet s₀ s) : Quiet s₀ (backoffEnd s arb req)
    := by
  unfold backoffEnd
  repeat' (first
    | (with_reducible assumption)
    | (intro u; first | (refine (fun (_ : Quiet s₀ u) => ?_) ?_; clear_value u; rotate_left; dsimp -zeta only [u]; rotate_right) | clear_value u)
    | intro _ | lift_lets -underBinder | (with_reducible apply Quiet.ite) | (with_reducible apply Quiet.foldl)
    | (with_reducible apply checkAlarm_quiet) | (with_reducible apply clockToCycle_quiet)
    | (with_reducible apply setRequester_quiet) | split
    | (with_reducible refine Quiet.mk' ?_ rfl rfl rfl rfl rfl rfl rfl rfl rfl rfl rfl) | dsimp -zeta only)

theorem preempt_quiet (s : State) (arb : Nat) (o : Nat) (hss : Quiet s₀ s) : Quiet s₀ (preempt s arb o) := by
  unfold preempt
  repeat' (first
    | (with_reducible assumption)
    | (intro u; first | (refine (fun (_ : Quiet s₀ u) => ?_) ?_; clear_value u; rotate_left; dsimp -zeta only [u]; rotate_right) | clear_value u)
    | intro _ | lift_lets -underBinder | (with_reducible apply Quiet.ite) | (with_reducible apply Quiet.foldl)
    | (with_reducible apply pmcEvent_quiet) | (with_reducible apply setArbiter_quiet)
    | (with_reducible apply setRequester_quiet) | split
    | (with_reducible refine Quiet.mk' ?_ rfl rfl rfl rfl rfl rfl rfl rfl rfl rfl rfl) | dsimp -zeta only)

theorem privileged_quiet (s : State) (arb : Nat) (req : Nat) (len : Nat) (hss : Quiet s₀ s) : Quiet s₀ (privileged
    s arb req len) := by
  unfold privileged
  repeat' (first
    | (with_reducible assumption)
    | (intro u; first | (refine (fun (_ : Quiet s₀ u) => ?_) ?_; clear_value u; rotate_left; dsimp -zeta only [u]; rotate_right) | clear_value u)
    | intro _ | lift_lets -underBinder | (with_reducible apply Quiet.ite) | (with_reducible apply Quiet.foldl)
    | (with_reducible apply grant_quiet) | (with_reducible apply preempt_quiet) | (with_reducible apply present_quiet)
    | split | (with_reducible refine Quiet.mk' ?_ rfl rfl rfl rfl rfl rfl rfl rfl rfl rfl rfl) | dsimp -zeta only)

theorem fabEffect_quiet (off : Nat) (v : Word) (before : State) (after : State) (hsafter : Quiet s₀ after) : Quiet
    s₀ (fabEffect off v before after) := by
  unfold fabEffect
  repeat' (first
    | (with_reducible assumption)
    | (intro u; first | (refine (fun (_ : Quiet s₀ u) => ?_) ?_; clear_value u; rotate_left; dsimp -zeta only [u]; rotate_right) | clear_value u)
    | intro _ | lift_lets -underBinder | (with_reducible apply Quiet.ite) | (with_reducible apply Quiet.foldl)
    | (with_reducible apply setRequester_quiet) | split
    | (with_reducible refine Quiet.mk' ?_ rfl rfl rfl rfl rfl rfl rfl rfl rfl rfl rfl) | dsimp -zeta only)

theorem mramScrub_quiet (s : State) (w : WordCheck) (_raced : Bool) (hss : Quiet s₀ s) : Quiet s₀ (mramScrub s w
    _raced) := by
  unfold mramScrub
  repeat' (first
    | (with_reducible assumption)
    | (intro u; first | (refine (fun (_ : Quiet s₀ u) => ?_) ?_; clear_value u; rotate_left; dsimp -zeta only [u]; rotate_right) | clear_value u)
    | intro _ | lift_lets -underBinder | (with_reducible apply Quiet.ite) | (with_reducible apply Quiet.foldl)
    | (with_reducible apply alert_quiet) | (with_reducible apply blockError_quiet) | (with_reducible apply bump_quiet)
    | split | (with_reducible refine Quiet.mk' ?_ rfl rfl rfl rfl rfl rfl rfl rfl rfl rfl rfl) | dsimp -zeta only)

end Sys2Proof.Machine
end

