-- ==== Sys2Proof/Laws/QuietSwitch.lean ====
section
/-! SUPPORT. The operations of Machine/Switch.lean that keep `Quiet`. -/
namespace Sys2Proof.Machine
variable {s₀ : State}

theorem updateSub_quiet (s : State) (n : Nat) (k : Nat) (f : SubPort → SubPort) (hss : Quiet s₀ s) : Quiet s₀
    (updateSub s n k f) := by
  unfold updateSub
  repeat' (first
    | (with_reducible assumption)
    | (intro u; first | (refine (fun (_ : Quiet s₀ u) => ?_) ?_; clear_value u; rotate_left; dsimp -zeta only [u]; rotate_right) | clear_value u)
    | intro _ | lift_lets -underBinder | (with_reducible apply Quiet.ite) | (with_reducible apply Quiet.foldl) | split
    | (with_reducible refine Quiet.mk' ?_ rfl rfl rfl rfl rfl rfl rfl rfl rfl rfl rfl) | dsimp -zeta only)

theorem netCount_quiet (s : State) (n : Nat) (k : Nat) (off : Nat) (m : Nat) (hss : Quiet s₀ s) : Quiet s₀
    (netCount s n k off m) := by
  unfold netCount
  repeat' (first
    | (with_reducible assumption)
    | (intro u; first | (refine (fun (_ : Quiet s₀ u) => ?_) ?_; clear_value u; rotate_left; dsimp -zeta only [u]; rotate_right) | clear_value u)
    | intro _ | lift_lets -underBinder | (with_reducible apply Quiet.ite) | (with_reducible apply Quiet.foldl)
    | (with_reducible apply updateSub_quiet) | split
    | (with_reducible refine Quiet.mk' ?_ rfl rfl rfl rfl rfl rfl rfl rfl rfl rfl rfl) | dsimp -zeta only)

theorem sendPauses_quiet (s : State) (n : Nat) (k : Nat) (hss : Quiet s₀ s) : Quiet s₀ (sendPauses s n k) := by
  unfold sendPauses
  repeat' (first
    | (with_reducible assumption)
    | (intro u; first | (refine (fun (_ : Quiet s₀ u) => ?_) ?_; clear_value u; rotate_left; dsimp -zeta only [u]; rotate_right) | clear_value u)
    | intro _ | lift_lets -underBinder | (with_reducible apply Quiet.ite) | (with_reducible apply Quiet.foldl)
    | (with_reducible apply emitAll_quiet) | (with_reducible apply netCount_quiet)
    | (with_reducible apply updateSub_quiet) | split
    | (with_reducible refine Quiet.mk' ?_ rfl rfl rfl rfl rfl rfl rfl rfl rfl rfl rfl) | dsimp -zeta only)

theorem requestPause_quiet (s : State) (sub : Nat) (cls : Nat) (quanta : Nat) (hss : Quiet s₀ s) : Quiet s₀
    (requestPause s sub cls quanta) := by
  unfold requestPause
  repeat' (first
    | (with_reducible assumption)
    | (intro u; first | (refine (fun (_ : Quiet s₀ u) => ?_) ?_; clear_value u; rotate_left; dsimp -zeta only [u]; rotate_right) | clear_value u)
    | intro _ | lift_lets -underBinder | (with_reducible apply Quiet.ite) | (with_reducible apply Quiet.foldl)
    | (with_reducible apply sendPauses_quiet) | (with_reducible apply updateSub_quiet) | split
    | (with_reducible refine Quiet.mk' ?_ rfl rfl rfl rfl rfl rfl rfl rfl rfl rfl rfl) | dsimp -zeta only)

theorem sendXoff_quiet (s : State) (sub : Nat) (cls : Nat) (hss : Quiet s₀ s) : Quiet s₀ (sendXoff s sub cls) :=
    by
  unfold sendXoff
  repeat' (first
    | (with_reducible assumption)
    | (intro u; first | (refine (fun (_ : Quiet s₀ u) => ?_) ?_; clear_value u; rotate_left; dsimp -zeta only [u]; rotate_right) | clear_value u)
    | intro _ | lift_lets -underBinder | (with_reducible apply Quiet.ite) | (with_reducible apply Quiet.foldl)
    | (with_reducible apply requestPause_quiet) | (with_reducible apply updateSub_quiet) | split
    | (with_reducible refine Quiet.mk' ?_ rfl rfl rfl rfl rfl rfl rfl rfl rfl rfl rfl) | dsimp -zeta only)

theorem checkXoff_quiet (s : State) (sub : Nat) (cls : Nat) (hss : Quiet s₀ s) : Quiet s₀ (checkXoff s sub cls) :=
    by
  unfold checkXoff
  repeat' (first
    | (with_reducible assumption)
    | (intro u; first | (refine (fun (_ : Quiet s₀ u) => ?_) ?_; clear_value u; rotate_left; dsimp -zeta only [u]; rotate_right) | clear_value u)
    | intro _ | lift_lets -underBinder | (with_reducible apply Quiet.ite) | (with_reducible apply Quiet.foldl)
    | (with_reducible apply sendXoff_quiet) | split
    | (with_reducible refine Quiet.mk' ?_ rfl rfl rfl rfl rfl rfl rfl rfl rfl rfl rfl) | dsimp -zeta only)

theorem checkXon_quiet (s : State) (sub : Nat) (cls : Nat) (hss : Quiet s₀ s) : Quiet s₀ (checkXon s sub cls) :=
    by
  unfold checkXon
  repeat' (first
    | (with_reducible assumption)
    | (intro u; first | (refine (fun (_ : Quiet s₀ u) => ?_) ?_; clear_value u; rotate_left; dsimp -zeta only [u]; rotate_right) | clear_value u)
    | intro _ | lift_lets -underBinder | (with_reducible apply Quiet.ite) | (with_reducible apply Quiet.foldl)
    | (with_reducible apply requestPause_quiet) | (with_reducible apply updateSub_quiet) | split
    | (with_reducible refine Quiet.mk' ?_ rfl rfl rfl rfl rfl rfl rfl rfl rfl rfl rfl) | dsimp -zeta only)

theorem setFrames_quiet (s : State) (q : Nat) (fs : List QFrame) (hss : Quiet s₀ s) : Quiet s₀ (setFrames s q fs)
    := by
  unfold setFrames
  repeat' (first
    | (with_reducible assumption)
    | (intro u; first | (refine (fun (_ : Quiet s₀ u) => ?_) ?_; clear_value u; rotate_left; dsimp -zeta only [u]; rotate_right) | clear_value u)
    | intro _ | lift_lets -underBinder | (with_reducible apply Quiet.ite) | (with_reducible apply Quiet.foldl) | split
    | (with_reducible refine Quiet.mk' ?_ rfl rfl rfl rfl rfl rfl rfl rfl rfl rfl rfl) | dsimp -zeta only)

theorem removeFrame_quiet (s : State) (q : Nat) (i : Nat) (hss : Quiet s₀ s) : Quiet s₀ (removeFrame s q i) := by
  unfold removeFrame
  repeat' (first
    | (with_reducible assumption)
    | (intro u; first | (refine (fun (_ : Quiet s₀ u) => ?_) ?_; clear_value u; rotate_left; dsimp -zeta only [u]; rotate_right) | clear_value u)
    | intro _ | lift_lets -underBinder | (with_reducible apply Quiet.ite) | (with_reducible apply Quiet.foldl)
    | (with_reducible apply checkXon_quiet) | (with_reducible apply setFrames_quiet) | split
    | (with_reducible refine Quiet.mk' ?_ rfl rfl rfl rfl rfl rfl rfl rfl rfl rfl rfl) | dsimp -zeta only)

theorem takeFrame_quiet (s : State) (qpn : Nat) (hss : Quiet s₀ s) : Quiet s₀ (takeFrame s qpn) := by
  unfold takeFrame
  repeat' (first
    | (with_reducible assumption)
    | (intro u; first | (refine (fun (_ : Quiet s₀ u) => ?_) ?_; clear_value u; rotate_left; dsimp -zeta only [u]; rotate_right) | clear_value u)
    | intro _ | lift_lets -underBinder | (with_reducible apply Quiet.ite) | (with_reducible apply Quiet.foldl)
    | (with_reducible apply removeFrame_quiet) | split
    | (with_reducible refine Quiet.mk' ?_ rfl rfl rfl rfl rfl rfl rfl rfl rfl rfl rfl) | dsimp -zeta only)

theorem discardQueue_quiet (s : State) (q : Nat) (hss : Quiet s₀ s) : Quiet s₀ (discardQueue s q) := by
  unfold discardQueue
  repeat' (first
    | (with_reducible assumption)
    | (intro u; first | (refine (fun (_ : Quiet s₀ u) => ?_) ?_; clear_value u; rotate_left; dsimp -zeta only [u]; rotate_right) | clear_value u)
    | intro _ | lift_lets -underBinder | (with_reducible apply Quiet.ite) | (with_reducible apply Quiet.foldl)
    | (with_reducible apply removeFrame_quiet) | split
    | (with_reducible refine Quiet.mk' ?_ rfl rfl rfl rfl rfl rfl rfl rfl rfl rfl rfl) | dsimp -zeta only)

theorem dropFrame_quiet (s : State) (counter : Nat) (hss : Quiet s₀ s) : Quiet s₀ (dropFrame s counter) := by
  unfold dropFrame
  repeat' (first
    | (with_reducible assumption)
    | (intro u; first | (refine (fun (_ : Quiet s₀ u) => ?_) ?_; clear_value u; rotate_left; dsimp -zeta only [u]; rotate_right) | clear_value u)
    | intro _ | lift_lets -underBinder | (with_reducible apply Quiet.ite) | (with_reducible apply Quiet.foldl)
    | (with_reducible apply bump_quiet) | (with_reducible apply pmcEvent_quiet) | split
    | (with_reducible refine Quiet.mk' ?_ rfl rfl rfl rfl rfl rfl rfl rfl rfl rfl rfl) | dsimp -zeta only)

theorem pushOut_quiet (cls : Nat) (cells : Nat) (z0 : Nat) (z1 : State) (hsz1 : Quiet s₀ z1) : Quiet s₀ (pushOut
    cls cells z0 z1) := by
  induction z0 generalizing z1 with
  | zero =>
    rw [pushOut]
    repeat' (first
      | (with_reducible assumption)
      | (intro u; first | (refine (fun (_ : Quiet s₀ u) => ?_) ?_; clear_value u; rotate_left; dsimp -zeta only [u]; rotate_right) | clear_value u)
      | intro _ | lift_lets -underBinder | (with_reducible apply Quiet.ite) | (with_reducible apply Quiet.foldl)
      | (with_reducible apply alert_quiet) | (with_reducible apply bump_quiet) | (with_reducible apply pmcEvent_quiet)
      | (with_reducible apply removeFrame_quiet) | split
      | (with_reducible refine Quiet.mk' ?_ rfl rfl rfl rfl rfl rfl rfl rfl rfl rfl rfl) | dsimp -zeta only)
  | succ z0 ih =>
    rw [pushOut]
    repeat' (first
      | (with_reducible apply ih) | (with_reducible assumption)
      | (intro u; first | (refine (fun (_ : Quiet s₀ u) => ?_) ?_; clear_value u; rotate_left; dsimp -zeta only [u]; rotate_right) | clear_value u)
      | intro _ | lift_lets -underBinder | (with_reducible apply Quiet.ite) | (with_reducible apply Quiet.foldl)
      | (with_reducible apply alert_quiet) | (with_reducible apply bump_quiet) | (with_reducible apply pmcEvent_quiet)
      | (with_reducible apply removeFrame_quiet) | split
      | (with_reducible refine Quiet.mk' ?_ rfl rfl rfl rfl rfl rfl rfl rfl rfl rfl rfl) | dsimp -zeta only)

theorem wredVerdict_quiet (s : State) (q : Nat) (c : Colour) (hss : Quiet s₀ s) : Quiet s₀ (wredVerdict s q c).2
    := by
  unfold wredVerdict
  repeat' (first
    | (with_reducible assumption)
    | (intro u; first | (refine (fun (_ : Quiet s₀ u) => ?_) ?_; clear_value u; rotate_left; dsimp -zeta only [u]; rotate_right) | (refine (fun (_ : Quiet s₀ u.2) => ?_) ?_; clear_value u; rotate_left; dsimp -zeta only [u]; rotate_right) | (refine (fun (_ : Quiet s₀ u.2.2) => ?_) ?_; clear_value u; rotate_left; dsimp -zeta only [u]; rotate_right) | clear_value u)
    | intro _ | lift_lets -underBinder | (with_reducible apply Quiet.ite) | (with_reducible apply Quiet.foldl)
    | (with_reducible apply draw_quiet) | (refine draw_quiet_eq ?_ (by with_reducible assumption)) | split
    | (with_reducible refine Quiet.mk' ?_ rfl rfl rfl rfl rfl rfl rfl rfl rfl rfl rfl) | dsimp -zeta only)
theorem wredVerdict_quiet_eq {s : State} {q : Nat} {c : Colour} {e0 : Bool} {t : State} (hss : Quiet s₀ s) (e :
    wredVerdict s q c = (e0, t)) : Quiet s₀ t := by
  have := wredVerdict_quiet s q c hss
  rw [e] at this
  exact this

theorem enqueue_quiet (s : State) (q : Nat) (f : QFrame) (hss : Quiet s₀ s) : Quiet s₀ (enqueue s q f) := by
  unfold enqueue
  repeat' (first
    | (with_reducible assumption)
    | (intro u; first | (refine (fun (_ : Quiet s₀ u) => ?_) ?_; clear_value u; rotate_left; dsimp -zeta only [u]; rotate_right) | clear_value u)
    | intro _ | lift_lets -underBinder | (with_reducible apply Quiet.ite) | (with_reducible apply Quiet.foldl)
    | (with_reducible apply alert_quiet) | (with_reducible apply checkXoff_quiet)
    | (with_reducible apply pmcEvent_quiet) | (with_reducible apply setFrames_quiet) | split
    | (with_reducible refine Quiet.mk' ?_ rfl rfl rfl rfl rfl rfl rfl rfl rfl rfl rfl) | dsimp -zeta only)

theorem storeFrame_quiet (s : State) (q : Nat) (f : QFrame) (hss : Quiet s₀ s) : Quiet s₀ (storeFrame s q f) := by
  unfold storeFrame
  repeat' (first
    | (with_reducible assumption)
    | (intro u; first | (refine (fun (_ : Quiet s₀ u) => ?_) ?_; clear_value u; rotate_left; dsimp -zeta only [u]; rotate_right) | clear_value u)
    | intro _ | lift_lets -underBinder | (with_reducible apply Quiet.ite) | (with_reducible apply Quiet.foldl)
    | (with_reducible apply alert_quiet) | (with_reducible apply dropFrame_quiet) | (with_reducible apply enqueue_quiet)
    | split | (with_reducible refine Quiet.mk' ?_ rfl rfl rfl rfl rfl rfl rfl rfl rfl rfl rfl) | dsimp -zeta only)

theorem admitFrame_quiet (s : State) (q : Nat) (f : QFrame) (ecn : Option Nat) (hss : Quiet s₀ s) : Quiet s₀
    (admitFrame s q f ecn) := by
  unfold admitFrame
  repeat' (first
    | (with_reducible assumption)
    | (intro u; first | (refine (fun (_ : Quiet s₀ u) => ?_) ?_; clear_value u; rotate_left; dsimp -zeta only [u]; rotate_right) | (refine (fun (_ : Quiet s₀ u.2) => ?_) ?_; clear_value u; rotate_left; dsimp -zeta only [u]; rotate_right) | (refine (fun (_ : Quiet s₀ u.2.2) => ?_) ?_; clear_value u; rotate_left; dsimp -zeta only [u]; rotate_right) | clear_value u)
    | intro _ | lift_lets -underBinder | (with_reducible apply Quiet.ite) | (with_reducible apply Quiet.foldl)
    | (with_reducible apply bump_quiet) | (with_reducible apply dropFrame_quiet) | (with_reducible apply pmcEvent_quiet)
    | (with_reducible apply pushOut_quiet) | (with_reducible apply storeFrame_quiet)
    | (with_reducible apply wredVerdict_quiet) | (refine wredVerdict_quiet_eq ?_ (by with_reducible assumption)) | split
    | (with_reducible refine Quiet.mk' ?_ rfl rfl rfl rfl rfl rfl rfl rfl rfl rfl rfl) | dsimp -zeta only)

end Sys2Proof.Machine
end

