-- ==== Sys2Proof/Laws/QuietCompletion.lean ====
section
/-! SUPPORT. The operations of Machine/Completion.lean that keep `Quiet`. -/
namespace Sys2Proof.Machine
variable {s₀ : State}

theorem setConn_quiet (s : State) (n : Nat) (c : Conn) (hss : Quiet s₀ s) : Quiet s₀ (setConn s n c) := by
  unfold setConn
  repeat' (first
    | (with_reducible assumption)
    | (intro u; first | (refine (fun (_ : Quiet s₀ u) => ?_) ?_; clear_value u; rotate_left; dsimp -zeta only [u]; rotate_right) | clear_value u)
    | intro _ | lift_lets -underBinder | (with_reducible apply Quiet.ite) | (with_reducible apply Quiet.foldl) | split
    | (with_reducible refine Quiet.mk' ?_ rfl rfl rfl rfl rfl rfl rfl rfl rfl rfl rfl) | dsimp -zeta only)

theorem setCmd_quiet (s : State) (q : Nat) (c : Command) (hss : Quiet s₀ s) : Quiet s₀ (setCmd s q c) := by
  unfold setCmd
  repeat' (first
    | (with_reducible assumption)
    | (intro u; first | (refine (fun (_ : Quiet s₀ u) => ?_) ?_; clear_value u; rotate_left; dsimp -zeta only [u]; rotate_right) | clear_value u)
    | intro _ | lift_lets -underBinder | (with_reducible apply Quiet.ite) | (with_reducible apply Quiet.foldl) | split
    | (with_reducible refine Quiet.mk' ?_ rfl rfl rfl rfl rfl rfl rfl rfl rfl rfl rfl) | dsimp -zeta only)

theorem setZone_quiet (s : State) (ns : Nat) (idx : Nat) (z : Zone) (hss : Quiet s₀ s) : Quiet s₀ (setZone s ns
    idx z) := by
  unfold setZone
  repeat' (first
    | (with_reducible assumption)
    | (intro u; first | (refine (fun (_ : Quiet s₀ u) => ?_) ?_; clear_value u; rotate_left; dsimp -zeta only [u]; rotate_right) | clear_value u)
    | intro _ | lift_lets -underBinder | (with_reducible apply Quiet.ite) | (with_reducible apply Quiet.foldl) | split
    | (with_reducible refine Quiet.mk' ?_ rfl rfl rfl rfl rfl rfl rfl rfl rfl rfl rfl) | dsimp -zeta only)

theorem addError_quiet (s : State) (code : Nat) (conn : Nat) (cid : Nat) (hss : Quiet s₀ s) : Quiet s₀ (addError s
    code conn cid) := by
  unfold addError
  repeat' (first
    | (with_reducible assumption)
    | (intro u; first | (refine (fun (_ : Quiet s₀ u) => ?_) ?_; clear_value u; rotate_left; dsimp -zeta only [u]; rotate_right) | clear_value u)
    | intro _ | lift_lets -underBinder | (with_reducible apply Quiet.ite) | (with_reducible apply Quiet.foldl) | split
    | (with_reducible refine Quiet.mk' ?_ rfl rfl rfl rfl rfl rfl rfl rfl rfl rfl rfl) | dsimp -zeta only)

theorem cacheContext_quiet (s : State) (n : Nat) (hss : Quiet s₀ s) : Quiet s₀ (cacheContext s n) := by
  unfold cacheContext
  repeat' (first
    | (with_reducible assumption)
    | (intro u; first | (refine (fun (_ : Quiet s₀ u) => ?_) ?_; clear_value u; rotate_left; dsimp -zeta only [u]; rotate_right) | clear_value u)
    | intro _ | lift_lets -underBinder | (with_reducible apply Quiet.ite) | (with_reducible apply Quiet.foldl)
    | (with_reducible apply bump_quiet) | split
    | (with_reducible refine Quiet.mk' ?_ rfl rfl rfl rfl rfl rfl rfl rfl rfl rfl rfl) | dsimp -zeta only)

theorem queueFrames_quiet (s : State) (n : Nat) (lens : List Nat) (hss : Quiet s₀ s) : Quiet s₀ (queueFrames s n
    lens) := by
  unfold queueFrames
  repeat' (first
    | (with_reducible assumption)
    | (intro u; first | (refine (fun (_ : Quiet s₀ u) => ?_) ?_; clear_value u; rotate_left; dsimp -zeta only [u]; rotate_right) | clear_value u)
    | intro _ | lift_lets -underBinder | (with_reducible apply Quiet.ite) | (with_reducible apply Quiet.foldl)
    | (with_reducible apply cacheContext_quiet) | (with_reducible apply setConn_quiet) | split
    | (with_reducible refine Quiet.mk' ?_ rfl rfl rfl rfl rfl rfl rfl rfl rfl rfl rfl) | dsimp -zeta only)

theorem issueNow_quiet (s : State) (n : Nat) (kind : SentKind) (cmd : Option Nat) (len : Nat) (hss : Quiet s₀ s) :
    Quiet s₀ (issueNow s n kind cmd len) := by
  unfold issueNow
  repeat' (first
    | (with_reducible assumption)
    | (intro u; first | (refine (fun (_ : Quiet s₀ u) => ?_) ?_; clear_value u; rotate_left; dsimp -zeta only [u]; rotate_right) | clear_value u)
    | intro _ | lift_lets -underBinder | (with_reducible apply Quiet.ite) | (with_reducible apply Quiet.foldl)
    | (with_reducible apply cacheContext_quiet) | (with_reducible apply setConn_quiet) | split
    | (with_reducible refine Quiet.mk' ?_ rfl rfl rfl rfl rfl rfl rfl rfl rfl rfl rfl) | dsimp -zeta only)

theorem issue_quiet (s : State) (n : Nat) (kind : SentKind) (cmd : Option Nat) (len : Nat) (hss : Quiet s₀ s) :
    Quiet s₀ (issue s n kind cmd len) := by
  unfold issue
  repeat' (first
    | (with_reducible assumption)
    | (intro u; first | (refine (fun (_ : Quiet s₀ u) => ?_) ?_; clear_value u; rotate_left; dsimp -zeta only [u]; rotate_right) | clear_value u)
    | intro _ | lift_lets -underBinder | (with_reducible apply Quiet.ite) | (with_reducible apply Quiet.foldl)
    | (with_reducible apply issueNow_quiet) | (with_reducible apply setConn_quiet) | split
    | (with_reducible refine Quiet.mk' ?_ rfl rfl rfl rfl rfl rfl rfl rfl rfl rfl rfl) | dsimp -zeta only)

theorem issueHeld_quiet (s : State) (n : Nat) (hss : Quiet s₀ s) : Quiet s₀ (issueHeld s n) := by
  unfold issueHeld
  repeat' (first
    | (with_reducible assumption)
    | (intro u; first | (refine (fun (_ : Quiet s₀ u) => ?_) ?_; clear_value u; rotate_left; dsimp -zeta only [u]; rotate_right) | clear_value u)
    | intro _ | lift_lets -underBinder | (with_reducible apply Quiet.ite) | (with_reducible apply Quiet.foldl)
    | (with_reducible apply issueNow_quiet) | (with_reducible apply setConn_quiet) | split
    | (with_reducible refine Quiet.mk' ?_ rfl rfl rfl rfl rfl rfl rfl rfl rfl rfl rfl) | dsimp -zeta only)

theorem setRegion_quiet (s : State) (i : Nat) (r : Region) (hss : Quiet s₀ s) : Quiet s₀ (setRegion s i r) := by
  unfold setRegion
  repeat' (first
    | (with_reducible assumption)
    | (intro u; first | (refine (fun (_ : Quiet s₀ u) => ?_) ?_; clear_value u; rotate_left; dsimp -zeta only [u]; rotate_right) | clear_value u)
    | intro _ | lift_lets -underBinder | (with_reducible apply Quiet.ite) | (with_reducible apply Quiet.foldl) | split
    | (with_reducible refine Quiet.mk' ?_ rfl rfl rfl rfl rfl rfl rfl rfl rfl rfl rfl) | dsimp -zeta only)

theorem register_quiet (s : State) (i : Nat) (r : Region) (hss : Quiet s₀ s) : Quiet s₀ (register s i r) := by
  unfold register
  repeat' (first
    | (with_reducible assumption)
    | (intro u; first | (refine (fun (_ : Quiet s₀ u) => ?_) ?_; clear_value u; rotate_left; dsimp -zeta only [u]; rotate_right) | clear_value u)
    | intro _ | lift_lets -underBinder | (with_reducible apply Quiet.ite) | (with_reducible apply Quiet.foldl)
    | (with_reducible apply setRegion_quiet) | split
    | (with_reducible refine Quiet.mk' ?_ rfl rfl rfl rfl rfl rfl rfl rfl rfl rfl rfl) | dsimp -zeta only)

theorem revoke_quiet (s : State) (i : Nat) (hss : Quiet s₀ s) : Quiet s₀ (revoke s i) := by
  unfold revoke
  repeat' (first
    | (with_reducible assumption)
    | (intro u; first | (refine (fun (_ : Quiet s₀ u) => ?_) ?_; clear_value u; rotate_left; dsimp -zeta only [u]; rotate_right) | clear_value u)
    | intro _ | lift_lets -underBinder | (with_reducible apply Quiet.ite) | (with_reducible apply Quiet.foldl)
    | (with_reducible apply setRegion_quiet) | split
    | (with_reducible refine Quiet.mk' ?_ rfl rfl rfl rfl rfl rfl rfl rfl rfl rfl rfl) | dsimp -zeta only)

theorem freeRegion_quiet (s : State) (i : Nat) (hss : Quiet s₀ s) : Quiet s₀ (freeRegion s i) := by
  unfold freeRegion
  repeat' (first
    | (with_reducible assumption)
    | (intro u; first | (refine (fun (_ : Quiet s₀ u) => ?_) ?_; clear_value u; rotate_left; dsimp -zeta only [u]; rotate_right) | clear_value u)
    | intro _ | lift_lets -underBinder | (with_reducible apply Quiet.ite) | (with_reducible apply Quiet.foldl)
    | (with_reducible apply setRegion_quiet) | split
    | (with_reducible refine Quiet.mk' ?_ rfl rfl rfl rfl rfl rfl rfl rfl rfl rfl rfl) | dsimp -zeta only)

theorem revokeWindows_quiet (s : State) (q : Nat) (hss : Quiet s₀ s) : Quiet s₀ (revokeWindows s q) := by
  unfold revokeWindows
  repeat' (first
    | (with_reducible assumption)
    | (intro u; first | (refine (fun (_ : Quiet s₀ u) => ?_) ?_; clear_value u; rotate_left; dsimp -zeta only [u]; rotate_right) | clear_value u)
    | intro _ | lift_lets -underBinder | (with_reducible apply Quiet.ite) | (with_reducible apply Quiet.foldl)
    | (with_reducible apply revoke_quiet) | (with_reducible apply setCmd_quiet) | split
    | (with_reducible refine Quiet.mk' ?_ rfl rfl rfl rfl rfl rfl rfl rfl rfl rfl rfl) | dsimp -zeta only)

theorem barrierReady_quiet (n : Nat) (s : State) (b : Nat) (hss : Quiet s₀ s) : Quiet s₀ (barrierReady n s b) :=
    by
  unfold barrierReady
  repeat' (first
    | (with_reducible assumption)
    | (intro u; first | (refine (fun (_ : Quiet s₀ u) => ?_) ?_; clear_value u; rotate_left; dsimp -zeta only [u]; rotate_right) | clear_value u)
    | intro _ | lift_lets -underBinder | (with_reducible apply Quiet.ite) | (with_reducible apply Quiet.foldl)
    | (with_reducible apply aborted_quiet) | (with_reducible apply addError_quiet) | (with_reducible apply setCmd_quiet)
    | (with_reducible apply setConn_quiet) | split
    | (with_reducible refine Quiet.mk' ?_ rfl rfl rfl rfl rfl rfl rfl rfl rfl rfl rfl) | dsimp -zeta only)

theorem entryHanded_quiet (s : State) (n : Nat) (q : Nat) (status : Nat) (hss : Quiet s₀ s) : Quiet s₀
    (entryHanded s n q status) := by
  unfold entryHanded
  repeat' (first
    | (with_reducible assumption)
    | (intro u; first | (refine (fun (_ : Quiet s₀ u) => ?_) ?_; clear_value u; rotate_left; dsimp -zeta only [u]; rotate_right) | clear_value u)
    | intro _ | lift_lets -underBinder | (with_reducible apply Quiet.ite) | (with_reducible apply Quiet.foldl)
    | (with_reducible apply barrierReady_quiet) | (with_reducible apply endTrace_quiet)
    | (with_reducible apply revokeWindows_quiet) | (with_reducible apply stamp_quiet) | split
    | (with_reducible refine Quiet.mk' ?_ rfl rfl rfl rfl rfl rfl rfl rfl rfl rfl rfl) | dsimp -zeta only)

theorem xrdyHanded_quiet (s : State) (n : Nat) (q : Nat) (tmo : Nat) (hss : Quiet s₀ s) : Quiet s₀ (xrdyHanded s n
    q tmo) := by
  unfold xrdyHanded
  repeat' (first
    | (with_reducible assumption)
    | (intro u; first | (refine (fun (_ : Quiet s₀ u) => ?_) ?_; clear_value u; rotate_left; dsimp -zeta only [u]; rotate_right) | clear_value u)
    | intro _ | lift_lets -underBinder | (with_reducible apply Quiet.ite) | (with_reducible apply Quiet.foldl)
    | (with_reducible apply setCmd_quiet) | (with_reducible apply stamp_quiet) | split
    | (with_reducible refine Quiet.mk' ?_ rfl rfl rfl rfl rfl rfl rfl rfl rfl rfl rfl) | dsimp -zeta only)

theorem handEntry_quiet (s : State) (n : Nat) (e : Entry) (hss : Quiet s₀ s) : Quiet s₀ (handEntry s n e) := by
  unfold handEntry
  repeat' (first
    | (with_reducible assumption)
    | (intro u; first | (refine (fun (_ : Quiet s₀ u) => ?_) ?_; clear_value u; rotate_left; dsimp -zeta only [u]; rotate_right) | clear_value u)
    | intro _ | lift_lets -underBinder | (with_reducible apply Quiet.ite) | (with_reducible apply Quiet.foldl)
    | (with_reducible apply emitAll_quiet) | (with_reducible apply endTrace_quiet)
    | (with_reducible apply entryHanded_quiet) | (with_reducible apply grant_quiet) | (with_reducible apply issue_quiet)
    | (with_reducible apply pmcEvent_quiet) | (with_reducible apply setConn_quiet) | (with_reducible apply stamp_quiet)
    | (with_reducible apply xrdyHanded_quiet) | split
    | (with_reducible refine Quiet.mk' ?_ rfl rfl rfl rfl rfl rfl rfl rfl rfl rfl rfl) | dsimp -zeta only)

theorem drainEntries_quiet (n : Nat) (z0 : Nat) (z1 : State) (hsz1 : Quiet s₀ z1) : Quiet s₀ (drainEntries n z0
    z1) := by
  induction z0 generalizing z1 with
  | zero =>
    rw [drainEntries]
    repeat' (first
      | (with_reducible assumption)
      | (intro u; first | (refine (fun (_ : Quiet s₀ u) => ?_) ?_; clear_value u; rotate_left; dsimp -zeta only [u]; rotate_right) | clear_value u)
      | intro _ | lift_lets -underBinder | (with_reducible apply Quiet.ite) | (with_reducible apply Quiet.foldl)
      | (with_reducible apply handEntry_quiet) | split
      | (with_reducible refine Quiet.mk' ?_ rfl rfl rfl rfl rfl rfl rfl rfl rfl rfl rfl) | dsimp -zeta only)
  | succ z0 ih =>
    rw [drainEntries]
    repeat' (first
      | (with_reducible apply ih) | (with_reducible assumption)
      | (intro u; first | (refine (fun (_ : Quiet s₀ u) => ?_) ?_; clear_value u; rotate_left; dsimp -zeta only [u]; rotate_right) | clear_value u)
      | intro _ | lift_lets -underBinder | (with_reducible apply Quiet.ite) | (with_reducible apply Quiet.foldl)
      | (with_reducible apply handEntry_quiet) | split
      | (with_reducible refine Quiet.mk' ?_ rfl rfl rfl rfl rfl rfl rfl rfl rfl rfl rfl) | dsimp -zeta only)

theorem drain_quiet (s : State) (n : Nat) (hss : Quiet s₀ s) : Quiet s₀ (drain s n) := by
  unfold drain
  repeat' (first
    | (with_reducible assumption)
    | (intro u; first | (refine (fun (_ : Quiet s₀ u) => ?_) ?_; clear_value u; rotate_left; dsimp -zeta only [u]; rotate_right) | clear_value u)
    | intro _ | lift_lets -underBinder | (with_reducible apply Quiet.ite) | (with_reducible apply Quiet.foldl)
    | (with_reducible apply drainEntries_quiet) | split
    | (with_reducible refine Quiet.mk' ?_ rfl rfl rfl rfl rfl rfl rfl rfl rfl rfl rfl) | dsimp -zeta only)

theorem postEntry_quiet (s : State) (n : Nat) (e : Entry) (hss : Quiet s₀ s) : Quiet s₀ (postEntry s n e) := by
  unfold postEntry
  repeat' (first
    | (with_reducible assumption)
    | (intro u; first | (refine (fun (_ : Quiet s₀ u) => ?_) ?_; clear_value u; rotate_left; dsimp -zeta only [u]; rotate_right) | clear_value u)
    | intro _ | lift_lets -underBinder | (with_reducible apply Quiet.ite) | (with_reducible apply Quiet.foldl)
    | (with_reducible apply drain_quiet) | (with_reducible apply emit_quiet) | (with_reducible apply setConn_quiet)
    | split | (with_reducible refine Quiet.mk' ?_ rfl rfl rfl rfl rfl rfl rfl rfl rfl rfl rfl) | dsimp -zeta only)

theorem releaseHold_quiet (s : State) (q : Nat) (c : Command) (hss : Quiet s₀ s) : Quiet s₀ (releaseHold s q c) :=
    by
  unfold releaseHold
  repeat' (first
    | (with_reducible assumption)
    | (intro u; first | (refine (fun (_ : Quiet s₀ u) => ?_) ?_; clear_value u; rotate_left; dsimp -zeta only [u]; rotate_right) | clear_value u)
    | intro _ | lift_lets -underBinder | (with_reducible apply Quiet.ite) | (with_reducible apply Quiet.foldl)
    | (with_reducible apply setZone_quiet) | split
    | (with_reducible refine Quiet.mk' ?_ rfl rfl rfl rfl rfl rfl rfl rfl rfl rfl rfl) | dsimp -zeta only)

theorem complete_quiet (s : State) (q : Nat) (status : Nat) (result : Nat) (hss : Quiet s₀ s) : Quiet s₀ (complete
    s q status result) := by
  unfold complete
  repeat' (first
    | (with_reducible assumption)
    | (intro u; first | (refine (fun (_ : Quiet s₀ u) => ?_) ?_; clear_value u; rotate_left; dsimp -zeta only [u]; rotate_right) | clear_value u)
    | intro _ | lift_lets -underBinder | (with_reducible apply Quiet.ite) | (with_reducible apply Quiet.foldl)
    | (with_reducible apply aborted_quiet) | (with_reducible apply addError_quiet)
    | (with_reducible apply endTrace_quiet) | (with_reducible apply postEntry_quiet)
    | (with_reducible apply releaseHold_quiet) | (with_reducible apply revokeWindows_quiet)
    | (with_reducible apply setCmd_quiet) | split
    | (with_reducible refine Quiet.mk' ?_ rfl rfl rfl rfl rfl rfl rfl rfl rfl rfl rfl) | dsimp -zeta only)

theorem reject_quiet (s : State) (n : Nat) (cid : Nat) (op : Nat) (status : Nat) (hss : Quiet s₀ s) : Quiet s₀
    (reject s n cid op status) := by
  unfold reject
  repeat' (first
    | (with_reducible assumption)
    | (intro u; first | (refine (fun (_ : Quiet s₀ u) => ?_) ?_; clear_value u; rotate_left; dsimp -zeta only [u]; rotate_right) | clear_value u)
    | intro _ | lift_lets -underBinder | (with_reducible apply Quiet.ite) | (with_reducible apply Quiet.foldl)
    | (with_reducible apply addError_quiet) | (with_reducible apply bump_quiet) | (with_reducible apply pmcEvent_quiet)
    | (with_reducible apply postEntry_quiet) | split
    | (with_reducible refine Quiet.mk' ?_ rfl rfl rfl rfl rfl rfl rfl rfl rfl rfl rfl) | dsimp -zeta only)

theorem endWrite_quiet (status : Nat) (s : State) (q : Nat) (hss : Quiet s₀ s) : Quiet s₀ (endWrite status s q) :=
    by
  unfold endWrite
  repeat' (first
    | (with_reducible assumption)
    | (intro u; first | (refine (fun (_ : Quiet s₀ u) => ?_) ?_; clear_value u; rotate_left; dsimp -zeta only [u]; rotate_right) | clear_value u)
    | intro _ | lift_lets -underBinder | (with_reducible apply Quiet.ite) | (with_reducible apply Quiet.foldl)
    | (with_reducible apply complete_quiet) | (with_reducible apply revokeWindows_quiet) | split
    | (with_reducible refine Quiet.mk' ?_ rfl rfl rfl rfl rfl rfl rfl rfl rfl rfl rfl) | dsimp -zeta only)

theorem failWrite_quiet (s : State) (q : Nat) (status : Nat) (hss : Quiet s₀ s) : Quiet s₀ (failWrite s q status)
    := by
  unfold failWrite
  repeat' (first
    | (with_reducible assumption)
    | (intro u; first | (refine (fun (_ : Quiet s₀ u) => ?_) ?_; clear_value u; rotate_left; dsimp -zeta only [u]; rotate_right) | clear_value u)
    | intro _ | lift_lets -underBinder | (with_reducible apply Quiet.ite) | (with_reducible apply Quiet.foldl)
    | (with_reducible apply endWrite_quiet) | (with_reducible apply setZone_quiet) | split
    | (with_reducible refine Quiet.mk' ?_ rfl rfl rfl rfl rfl rfl rfl rfl rfl rfl rfl) | dsimp -zeta only)

theorem loseCommand_quiet (s : State) (q : Nat) (hss : Quiet s₀ s) : Quiet s₀ (loseCommand s q) := by
  unfold loseCommand
  repeat' (first
    | (with_reducible assumption)
    | (intro u; first | (refine (fun (_ : Quiet s₀ u) => ?_) ?_; clear_value u; rotate_left; dsimp -zeta only [u]; rotate_right) | clear_value u)
    | intro _ | lift_lets -underBinder | (with_reducible apply Quiet.ite) | (with_reducible apply Quiet.foldl)
    | (with_reducible apply complete_quiet) | (with_reducible apply failWrite_quiet) | split
    | (with_reducible refine Quiet.mk' ?_ rfl rfl rfl rfl rfl rfl rfl rfl rfl rfl rfl) | dsimp -zeta only)

theorem loseCommands_quiet (s : State) (n : Nat) (hss : Quiet s₀ s) : Quiet s₀ (loseCommands s n) := by
  unfold loseCommands
  repeat' (first
    | (with_reducible assumption)
    | (intro u; first | (refine (fun (_ : Quiet s₀ u) => ?_) ?_; clear_value u; rotate_left; dsimp -zeta only [u]; rotate_right) | clear_value u)
    | intro _ | lift_lets -underBinder | (with_reducible apply Quiet.ite) | (with_reducible apply Quiet.foldl)
    | (with_reducible apply loseCommand_quiet) | split
    | (with_reducible refine Quiet.mk' ?_ rfl rfl rfl rfl rfl rfl rfl rfl rfl rfl rfl) | dsimp -zeta only)

theorem discardEntries_quiet (s : State) (n : Nat) (hss : Quiet s₀ s) : Quiet s₀ (discardEntries s n) := by
  unfold discardEntries
  repeat' (first
    | (with_reducible assumption)
    | (intro u; first | (refine (fun (_ : Quiet s₀ u) => ?_) ?_; clear_value u; rotate_left; dsimp -zeta only [u]; rotate_right) | clear_value u)
    | intro _ | lift_lets -underBinder | (with_reducible apply Quiet.ite) | (with_reducible apply Quiet.foldl)
    | (with_reducible apply emitAll_quiet) | (with_reducible apply endTrace_quiet)
    | (with_reducible apply setConn_quiet) | split
    | (with_reducible refine Quiet.mk' ?_ rfl rfl rfl rfl rfl rfl rfl rfl rfl rfl rfl) | dsimp -zeta only)

theorem stopConn_quiet (s : State) (n : Nat) (st : ConnState) (hss : Quiet s₀ s) : Quiet s₀ (stopConn s n st) :=
    by
  unfold stopConn
  repeat' (first
    | (with_reducible assumption)
    | (intro u; first | (refine (fun (_ : Quiet s₀ u) => ?_) ?_; clear_value u; rotate_left; dsimp -zeta only [u]; rotate_right) | clear_value u)
    | intro _ | lift_lets -underBinder | (with_reducible apply Quiet.ite) | (with_reducible apply Quiet.foldl)
    | (with_reducible apply discardEntries_quiet) | (with_reducible apply loseCommands_quiet)
    | (with_reducible apply setConn_quiet) | split
    | (with_reducible refine Quiet.mk' ?_ rfl rfl rfl rfl rfl rfl rfl rfl rfl rfl rfl) | dsimp -zeta only)

theorem connError_quiet (s : State) (n : Nat) (hss : Quiet s₀ s) : Quiet s₀ (connError s n) := by
  unfold connError
  repeat' (first
    | (with_reducible assumption)
    | (intro u; first | (refine (fun (_ : Quiet s₀ u) => ?_) ?_; clear_value u; rotate_left; dsimp -zeta only [u]; rotate_right) | clear_value u)
    | intro _ | lift_lets -underBinder | (with_reducible apply Quiet.ite) | (with_reducible apply Quiet.foldl)
    | (with_reducible apply alert_quiet) | (with_reducible apply emit_quiet) | (with_reducible apply setConn_quiet)
    | (with_reducible apply stopConn_quiet) | split
    | (with_reducible refine Quiet.mk' ?_ rfl rfl rfl rfl rfl rfl rfl rfl rfl rfl rfl) | dsimp -zeta only)

end Sys2Proof.Machine
end

