-- ==== Sys2Proof/Laws/QuietGroups.lean ====
section
/-! SUPPORT. The operations of Machine/Groups.lean that keep `Quiet`. -/
namespace Sys2Proof.Machine
variable {s₀ : State}

theorem putMember_quiet (s : State) (g : Nat) (m : Nat) (y : Member) (hss : Quiet s₀ s) : Quiet s₀ (putMember s g
    m y) := by
  unfold putMember
  repeat' (first
    | (with_reducible assumption)
    | (intro u; first | (refine (fun (_ : Quiet s₀ u) => ?_) ?_; clear_value u; rotate_left; dsimp -zeta only [u]; rotate_right) | clear_value u)
    | intro _ | lift_lets -underBinder | (with_reducible apply Quiet.ite) | (with_reducible apply Quiet.foldl)
    | (with_reducible apply journal_quiet) | (with_reducible apply setGroup_quiet) | split
    | (with_reducible refine Quiet.mk' ?_ rfl rfl rfl rfl rfl rfl rfl rfl rfl rfl rfl) | dsimp -zeta only)

theorem keepMember_quiet (s : State) (g : Nat) (m : Nat) (y : Member) (hss : Quiet s₀ s) : Quiet s₀ (keepMember s
    g m y) := by
  unfold keepMember
  repeat' (first
    | (with_reducible assumption)
    | (intro u; first | (refine (fun (_ : Quiet s₀ u) => ?_) ?_; clear_value u; rotate_left; dsimp -zeta only [u]; rotate_right) | clear_value u)
    | intro _ | lift_lets -underBinder | (with_reducible apply Quiet.ite) | (with_reducible apply Quiet.foldl)
    | (with_reducible apply setGroup_quiet) | split
    | (with_reducible refine Quiet.mk' ?_ rfl rfl rfl rfl rfl rfl rfl rfl rfl rfl rfl) | dsimp -zeta only)

theorem keepBlock_quiet (s : State) (slot : Nat) (l : Nat) (b : EraseBlock) (hss : Quiet s₀ s) : Quiet s₀
    (keepBlock s slot l b) := by
  unfold keepBlock
  repeat' (first
    | (with_reducible assumption)
    | (intro u; first | (refine (fun (_ : Quiet s₀ u) => ?_) ?_; clear_value u; rotate_left; dsimp -zeta only [u]; rotate_right) | clear_value u)
    | intro _ | lift_lets -underBinder | (with_reducible apply Quiet.ite) | (with_reducible apply Quiet.foldl) | split
    | (with_reducible refine Quiet.mk' ?_ rfl rfl rfl rfl rfl rfl rfl rfl rfl rfl rfl) | dsimp -zeta only)

theorem setBlock_quiet (s : State) (slot : Nat) (l : Nat) (b : EraseBlock) (hss : Quiet s₀ s) : Quiet s₀ (setBlock
    s slot l b) := by
  unfold setBlock
  repeat' (first
    | (with_reducible assumption)
    | (intro u; first | (refine (fun (_ : Quiet s₀ u) => ?_) ?_; clear_value u; rotate_left; dsimp -zeta only [u]; rotate_right) | clear_value u)
    | intro _ | lift_lets -underBinder | (with_reducible apply Quiet.ite) | (with_reducible apply Quiet.foldl)
    | (with_reducible apply journal_quiet) | (with_reducible apply keepBlock_quiet) | split
    | (with_reducible refine Quiet.mk' ?_ rfl rfl rfl rfl rfl rfl rfl rfl rfl rfl rfl) | dsimp -zeta only)

theorem pushCmd_quiet (s : State) (slot : Nat) (c : LinkCmd) (hss : Quiet s₀ s) : Quiet s₀ (pushCmd s slot c) :=
    by
  unfold pushCmd
  repeat' (first
    | (with_reducible assumption)
    | (intro u; first | (refine (fun (_ : Quiet s₀ u) => ?_) ?_; clear_value u; rotate_left; dsimp -zeta only [u]; rotate_right) | clear_value u)
    | intro _ | lift_lets -underBinder | (with_reducible apply Quiet.ite) | (with_reducible apply Quiet.foldl) | split
    | (with_reducible refine Quiet.mk' ?_ rfl rfl rfl rfl rfl rfl rfl rfl rfl rfl rfl) | dsimp -zeta only)

theorem releaseBuffer_quiet (s : State) (ns : Nat) (zone : Nat) (hss : Quiet s₀ s) : Quiet s₀ (releaseBuffer s ns
    zone) := by
  unfold releaseBuffer
  repeat' (first
    | (with_reducible assumption)
    | (intro u; first | (refine (fun (_ : Quiet s₀ u) => ?_) ?_; clear_value u; rotate_left; dsimp -zeta only [u]; rotate_right) | clear_value u)
    | intro _ | lift_lets -underBinder | (with_reducible apply Quiet.ite) | (with_reducible apply Quiet.foldl) | split
    | (with_reducible refine Quiet.mk' ?_ rfl rfl rfl rfl rfl rfl rfl rfl rfl rfl rfl) | dsimp -zeta only)

theorem zoneEnter_quiet (s : State) (ns : Nat) (zone : Nat) (st : ZoneState) (hss : Quiet s₀ s) : Quiet s₀
    (zoneEnter s ns zone st) := by
  unfold zoneEnter
  repeat' (first
    | (with_reducible assumption)
    | (intro u; first | (refine (fun (_ : Quiet s₀ u) => ?_) ?_; clear_value u; rotate_left; dsimp -zeta only [u]; rotate_right) | clear_value u)
    | intro _ | lift_lets -underBinder | (with_reducible apply Quiet.ite) | (with_reducible apply Quiet.foldl)
    | (with_reducible apply alert_quiet) | (with_reducible apply journalZone_quiet)
    | (with_reducible apply releaseBuffer_quiet) | (with_reducible apply setZone_quiet) | split
    | (with_reducible refine Quiet.mk' ?_ rfl rfl rfl rfl rfl rfl rfl rfl rfl rfl rfl) | dsimp -zeta only)

theorem recheckZone_quiet (noRedundancy : Bool) (s : State) (k : Nat) (hss : Quiet s₀ s) : Quiet s₀ (recheckZone
    noRedundancy s k) := by
  unfold recheckZone
  repeat' (first
    | (with_reducible assumption)
    | (intro u; first | (refine (fun (_ : Quiet s₀ u) => ?_) ?_; clear_value u; rotate_left; dsimp -zeta only [u]; rotate_right) | clear_value u)
    | intro _ | lift_lets -underBinder | (with_reducible apply Quiet.ite) | (with_reducible apply Quiet.foldl)
    | (with_reducible apply zoneEnter_quiet) | split
    | (with_reducible refine Quiet.mk' ?_ rfl rfl rfl rfl rfl rfl rfl rfl rfl rfl rfl) | dsimp -zeta only)

theorem recheckZones_quiet (s : State) (g : Nat) (hss : Quiet s₀ s) : Quiet s₀ (recheckZones s g) := by
  unfold recheckZones
  repeat' (first
    | (with_reducible assumption)
    | (intro u; first | (refine (fun (_ : Quiet s₀ u) => ?_) ?_; clear_value u; rotate_left; dsimp -zeta only [u]; rotate_right) | clear_value u)
    | intro _ | lift_lets -underBinder | (with_reducible apply Quiet.ite) | (with_reducible apply Quiet.foldl)
    | (with_reducible apply recheckZone_quiet) | split
    | (with_reducible refine Quiet.mk' ?_ rfl rfl rfl rfl rfl rfl rfl rfl rfl rfl rfl) | dsimp -zeta only)

theorem zoneNoBlocks_quiet (s : State) (k : Nat) (hss : Quiet s₀ s) : Quiet s₀ (zoneNoBlocks s k) := by
  unfold zoneNoBlocks
  repeat' (first
    | (with_reducible assumption)
    | (intro u; first | (refine (fun (_ : Quiet s₀ u) => ?_) ?_; clear_value u; rotate_left; dsimp -zeta only [u]; rotate_right) | clear_value u)
    | intro _ | lift_lets -underBinder | (with_reducible apply Quiet.ite) | (with_reducible apply Quiet.foldl)
    | (with_reducible apply setZone_quiet) | (with_reducible apply zoneEnter_quiet) | split
    | (with_reducible refine Quiet.mk' ?_ rfl rfl rfl rfl rfl rfl rfl rfl rfl rfl rfl) | dsimp -zeta only)

theorem reserveOut_quiet (s : State) (g : Nat) (hss : Quiet s₀ s) : Quiet s₀ (reserveOut s g) := by
  unfold reserveOut
  repeat' (first
    | (with_reducible assumption)
    | (intro u; first | (refine (fun (_ : Quiet s₀ u) => ?_) ?_; clear_value u; rotate_left; dsimp -zeta only [u]; rotate_right) | clear_value u)
    | intro _ | lift_lets -underBinder | (with_reducible apply Quiet.ite) | (with_reducible apply Quiet.foldl)
    | (with_reducible apply alert_quiet) | (with_reducible apply zoneNoBlocks_quiet) | split
    | (with_reducible refine Quiet.mk' ?_ rfl rfl rfl rfl rfl rfl rfl rfl rfl rfl rfl) | dsimp -zeta only)

theorem takeBlock_quiet (s : State) (slot : Nat) (g : Nat) (use : BlockUse) (slc : Bool) (spare : Bool) (hss :
    Quiet s₀ s) : Quiet.Opt2 s₀ (takeBlock s slot g use slc spare) := by
  unfold takeBlock
  repeat' (first
    | (with_reducible assumption)
    | (intro u; first | (refine (fun (_ : Quiet s₀ u) => ?_) ?_; clear_value u; rotate_left; dsimp -zeta only [u]; rotate_right) | (refine (fun (_ : Quiet s₀ u.2) => ?_) ?_; clear_value u; rotate_left; dsimp -zeta only [u]; rotate_right) | (refine (fun (_ : Quiet s₀ u.2.2) => ?_) ?_; clear_value u; rotate_left; dsimp -zeta only [u]; rotate_right) | (refine (fun (_ : Quiet.Opt2 s₀ u) => ?_) ?_; clear_value u; rotate_left; dsimp -zeta only [u]; rotate_right) | clear_value u)
    | intro _ | lift_lets -underBinder | (with_reducible apply Quiet.ite) | (with_reducible exact Quiet.opt2_none)
    | (with_reducible apply Quiet.opt2_some) | (with_reducible apply Quiet.opt2_ite)
    | (with_reducible apply Quiet.foldl) | (with_reducible apply checkpoint_quiet)
    | (with_reducible apply freeBlocks_quiet) | (with_reducible apply pushCmd_quiet)
    | (with_reducible apply reserveOut_quiet) | (with_reducible apply setBlock_quiet)
    | (exact Quiet.opt2_use (by with_reducible assumption) (by with_reducible assumption))
    | (exact Quiet.opt2_use (by with_reducible assumption) rfl) | split
    | (with_reducible refine Quiet.mk' ?_ rfl rfl rfl rfl rfl rfl rfl rfl rfl rfl rfl) | dsimp -zeta only)
theorem takeBlock_quiet_eq {s : State} {slot : Nat} {g : Nat} {use : BlockUse} {slc : Bool} {spare : Bool} {e0 :
    Nat} {t : State} (hss : Quiet s₀ s) (e : takeBlock s slot g use slc spare = some (e0, t)) : Quiet s₀ t :=
  (takeBlock_quiet s slot g use slc spare hss).use _ t e

theorem takePages_quiet (s : State) (slot : Nat) (g : Nat) (use : BlockUse) (slc : Bool) (spare : Bool) (n : Nat)
    (hss : Quiet s₀ s) : Quiet.Opt2 s₀ (takePages s slot g use slc spare n) := by
  unfold takePages
  repeat' (first
    | (with_reducible assumption)
    | (intro u; first | (refine (fun (_ : Quiet s₀ u) => ?_) ?_; clear_value u; rotate_left; dsimp -zeta only [u]; rotate_right) | (refine (fun (_ : Quiet s₀ u.2) => ?_) ?_; clear_value u; rotate_left; dsimp -zeta only [u]; rotate_right) | (refine (fun (_ : Quiet s₀ u.2.2) => ?_) ?_; clear_value u; rotate_left; dsimp -zeta only [u]; rotate_right) | (refine (fun (_ : Quiet.Opt2 s₀ u) => ?_) ?_; clear_value u; rotate_left; dsimp -zeta only [u]; rotate_right) | clear_value u)
    | intro _ | lift_lets -underBinder | (with_reducible apply Quiet.ite) | (with_reducible exact Quiet.opt2_none)
    | (with_reducible apply Quiet.opt2_some) | (with_reducible apply Quiet.opt2_ite)
    | (with_reducible apply Quiet.foldl) | (with_reducible apply setBlock_quiet)
    | (with_reducible apply takeBlock_quiet) | (refine takeBlock_quiet_eq ?_ (by with_reducible assumption))
    | (exact Quiet.opt2_use (by with_reducible assumption) (by with_reducible assumption))
    | (exact Quiet.opt2_use (by with_reducible assumption) rfl) | split
    | (with_reducible refine Quiet.mk' ?_ rfl rfl rfl rfl rfl rfl rfl rfl rfl rfl rfl) | dsimp -zeta only)
theorem takePages_quiet_eq {s : State} {slot : Nat} {g : Nat} {use : BlockUse} {slc : Bool} {spare : Bool} {n :
    Nat} {e0 : FlashAddr} {t : State} (hss : Quiet s₀ s) (e : takePages s slot g use slc spare n = some (e0, t)) :
    Quiet s₀ t :=
  (takePages_quiet s slot g use slc spare n hss).use _ t e

theorem bumpGen_quiet (s : State) (ns : Nat) (hss : Quiet s₀ s) : Quiet s₀ (bumpGen s ns) := by
  unfold bumpGen
  repeat' (first
    | (with_reducible assumption)
    | (intro u; first | (refine (fun (_ : Quiet s₀ u) => ?_) ?_; clear_value u; rotate_left; dsimp -zeta only [u]; rotate_right) | clear_value u)
    | intro _ | lift_lets -underBinder | (with_reducible apply Quiet.ite) | (with_reducible apply Quiet.foldl) | split
    | (with_reducible refine Quiet.mk' ?_ rfl rfl rfl rfl rfl rfl rfl rfl rfl rfl rfl) | dsimp -zeta only)

theorem dropLosses_quiet (s : State) (ns : Nat) (zone : Nat) (hss : Quiet s₀ s) : Quiet s₀ (dropLosses s ns zone)
    := by
  unfold dropLosses
  repeat' (first
    | (with_reducible assumption)
    | (intro u; first | (refine (fun (_ : Quiet s₀ u) => ?_) ?_; clear_value u; rotate_left; dsimp -zeta only [u]; rotate_right) | clear_value u)
    | intro _ | lift_lets -underBinder | (with_reducible apply Quiet.ite) | (with_reducible apply Quiet.foldl)
    | (with_reducible apply bumpGen_quiet) | (with_reducible apply setZone_quiet) | split
    | (with_reducible refine Quiet.mk' ?_ rfl rfl rfl rfl rfl rfl rfl rfl rfl rfl rfl) | dsimp -zeta only)

theorem loseSector_quiet (ns : Nat) (zone : Nat) (cause : Nat) (s : State) (sector : Nat) (hss : Quiet s₀ s) :
    Quiet s₀ (loseSector ns zone cause s sector) := by
  unfold loseSector
  repeat' (first
    | (with_reducible assumption)
    | (intro u; first | (refine (fun (_ : Quiet s₀ u) => ?_) ?_; clear_value u; rotate_left; dsimp -zeta only [u]; rotate_right) | clear_value u)
    | intro _ | lift_lets -underBinder | (with_reducible apply Quiet.ite) | (with_reducible apply Quiet.foldl)
    | (with_reducible apply alertAt_quiet) | (with_reducible apply bump_quiet) | (with_reducible apply bumpGen_quiet)
    | (with_reducible apply dropLosses_quiet) | (with_reducible apply journal_quiet)
    | (with_reducible apply setZone_quiet) | (with_reducible apply zoneEnter_quiet) | split
    | (with_reducible refine Quiet.mk' ?_ rfl rfl rfl rfl rfl rfl rfl rfl rfl rfl rfl) | dsimp -zeta only)

theorem loseLogSector_quiet (s : State) (ns : Nat) (zone : Nat) (sector : Nat) (hss : Quiet s₀ s) : Quiet s₀
    (loseLogSector s ns zone sector) := by
  unfold loseLogSector
  repeat' (first
    | (with_reducible assumption)
    | (intro u; first | (refine (fun (_ : Quiet s₀ u) => ?_) ?_; clear_value u; rotate_left; dsimp -zeta only [u]; rotate_right) | clear_value u)
    | intro _ | lift_lets -underBinder | (with_reducible apply Quiet.ite) | (with_reducible apply Quiet.foldl)
    | (with_reducible apply alertAt_quiet) | (with_reducible apply loseSector_quiet) | split
    | (with_reducible refine Quiet.mk' ?_ rfl rfl rfl rfl rfl rfl rfl rfl rfl rfl rfl) | dsimp -zeta only)

theorem groupLost_quiet (s : State) (g : Nat) (hss : Quiet s₀ s) : Quiet s₀ (groupLost s g) := by
  unfold groupLost
  repeat' (first
    | (with_reducible assumption)
    | (intro u; first | (refine (fun (_ : Quiet s₀ u) => ?_) ?_; clear_value u; rotate_left; dsimp -zeta only [u]; rotate_right) | clear_value u)
    | intro _ | lift_lets -underBinder | (with_reducible apply Quiet.ite) | (with_reducible apply Quiet.foldl)
    | (with_reducible apply alertAt_quiet) | (with_reducible apply journal_quiet)
    | (with_reducible apply setGroup_quiet) | (with_reducible apply zoneEnter_quiet) | split
    | (with_reducible refine Quiet.mk' ?_ rfl rfl rfl rfl rfl rfl rfl rfl rfl rfl rfl) | dsimp -zeta only)

end Sys2Proof.Machine
end

