-- ==== Sys2Proof/Laws/QuietCryptoJobs.lean ====
section
/-! SUPPORT. The operations of Machine/CryptoJobs.lean that keep `Quiet`. -/
namespace Sys2Proof.Machine
variable {s₀ : State}

theorem setCore_quiet (s : State) (i : Nat) (c : CxCore) (hss : Quiet s₀ s) : Quiet s₀ (setCore s i c) := by
  unfold setCore
  repeat' (first
    | (with_reducible assumption)
    | (intro u; first | (refine (fun (_ : Quiet s₀ u) => ?_) ?_; clear_value u; rotate_left; dsimp -zeta only [u]; rotate_right) | clear_value u)
    | intro _ | lift_lets -underBinder | (with_reducible apply Quiet.ite) | (with_reducible apply Quiet.foldl) | split
    | (with_reducible refine Quiet.mk' ?_ rfl rfl rfl rfl rfl rfl rfl rfl rfl rfl rfl) | dsimp -zeta only)

theorem startJob_quiet (s : State) (i : Nat) (j : CryptoJob) (hss : Quiet s₀ s) : Quiet s₀ (startJob s i j) := by
  unfold startJob
  repeat' (first
    | (with_reducible assumption)
    | (intro u; first | (refine (fun (_ : Quiet s₀ u) => ?_) ?_; clear_value u; rotate_left; dsimp -zeta only [u]; rotate_right) | clear_value u)
    | intro _ | lift_lets -underBinder | (with_reducible apply Quiet.ite) | (with_reducible apply Quiet.foldl)
    | (with_reducible apply bump_quiet) | (with_reducible apply pmcEvent_quiet) | (with_reducible apply setCore_quiet)
    | split | (with_reducible refine Quiet.mk' ?_ rfl rfl rfl rfl rfl rfl rfl rfl rfl rfl rfl) | dsimp -zeta only)

theorem dispatchCore_quiet (s : State) (i : Nat) (hss : Quiet s₀ s) : Quiet s₀ (dispatchCore s i) := by
  unfold dispatchCore
  repeat' (first
    | (with_reducible assumption)
    | (intro u; first | (refine (fun (_ : Quiet s₀ u) => ?_) ?_; clear_value u; rotate_left; dsimp -zeta only [u]; rotate_right) | clear_value u)
    | intro _ | lift_lets -underBinder | (with_reducible apply Quiet.ite) | (with_reducible apply Quiet.foldl)
    | (with_reducible apply startJob_quiet) | split
    | (with_reducible refine Quiet.mk' ?_ rfl rfl rfl rfl rfl rfl rfl rfl rfl rfl rfl) | dsimp -zeta only)

theorem dispatchJobs_quiet (s : State) (hss : Quiet s₀ s) : Quiet s₀ (dispatchJobs s) := by
  unfold dispatchJobs
  repeat' (first
    | (with_reducible assumption)
    | (intro u; first | (refine (fun (_ : Quiet s₀ u) => ?_) ?_; clear_value u; rotate_left; dsimp -zeta only [u]; rotate_right) | clear_value u)
    | intro _ | lift_lets -underBinder | (with_reducible apply Quiet.ite) | (with_reducible apply Quiet.foldl)
    | (with_reducible apply dispatchCore_quiet) | split
    | (with_reducible refine Quiet.mk' ?_ rfl rfl rfl rfl rfl rfl rfl rfl rfl rfl rfl) | dsimp -zeta only)

theorem queueJobs_quiet (s : State) (js : List CryptoJob) (hss : Quiet s₀ s) : Quiet s₀ (queueJobs s js) := by
  unfold queueJobs
  repeat' (first
    | (with_reducible assumption)
    | (intro u; first | (refine (fun (_ : Quiet s₀ u) => ?_) ?_; clear_value u; rotate_left; dsimp -zeta only [u]; rotate_right) | clear_value u)
    | intro _ | lift_lets -underBinder | (with_reducible apply Quiet.ite) | (with_reducible apply Quiet.foldl)
    | (with_reducible apply dispatchJobs_quiet) | split
    | (with_reducible refine Quiet.mk' ?_ rfl rfl rfl rfl rfl rfl rfl rfl rfl rfl rfl) | dsimp -zeta only)

theorem endJob_quiet (s : State) (i : Nat) (j : CryptoJob) (hss : Quiet s₀ s) : Quiet s₀ (endJob s i j) := by
  unfold endJob
  repeat' (first
    | (with_reducible assumption)
    | (intro u; first | (refine (fun (_ : Quiet s₀ u) => ?_) ?_; clear_value u; rotate_left; dsimp -zeta only [u]; rotate_right) | clear_value u)
    | intro _ | lift_lets -underBinder | (with_reducible apply Quiet.ite) | (with_reducible apply Quiet.foldl)
    | (with_reducible apply bump_quiet) | (with_reducible apply bumpBy_quiet) | (with_reducible apply pmcEvent_quiet)
    | (with_reducible apply setCore_quiet) | split
    | (with_reducible refine Quiet.mk' ?_ rfl rfl rfl rfl rfl rfl rfl rfl rfl rfl rfl) | dsimp -zeta only)

theorem haltCount_quiet (s : State) (n : Nat) (hss : Quiet s₀ s) : Quiet s₀ (haltCount s n) := by
  unfold haltCount
  repeat' (first
    | (with_reducible assumption)
    | (intro u; first | (refine (fun (_ : Quiet s₀ u) => ?_) ?_; clear_value u; rotate_left; dsimp -zeta only [u]; rotate_right) | clear_value u)
    | intro _ | lift_lets -underBinder | (with_reducible apply Quiet.ite) | (with_reducible apply Quiet.foldl)
    | (with_reducible apply bumpBy_quiet) | split
    | (with_reducible refine Quiet.mk' ?_ rfl rfl rfl rfl rfl rfl rfl rfl rfl rfl rfl) | dsimp -zeta only)

theorem dropJobs_quiet (s : State) (p : CryptoJob → Bool) (hss : Quiet s₀ s) : Quiet s₀ (dropJobs s p).2 := by
  unfold dropJobs
  repeat' (first
    | (with_reducible assumption)
    | (intro u; first | (refine (fun (_ : Quiet s₀ u) => ?_) ?_; clear_value u; rotate_left; dsimp -zeta only [u]; rotate_right) | (refine (fun (_ : Quiet s₀ u.2) => ?_) ?_; clear_value u; rotate_left; dsimp -zeta only [u]; rotate_right) | (refine (fun (_ : Quiet s₀ u.2.2) => ?_) ?_; clear_value u; rotate_left; dsimp -zeta only [u]; rotate_right) | clear_value u)
    | intro _ | lift_lets -underBinder | (with_reducible apply Quiet.ite) | (with_reducible apply Quiet.foldl)
    | (with_reducible apply haltCount_quiet) | split
    | (with_reducible refine Quiet.mk' ?_ rfl rfl rfl rfl rfl rfl rfl rfl rfl rfl rfl) | dsimp -zeta only)
theorem dropJobs_quiet_eq {s : State} {p : CryptoJob → Bool} {e0 : List Nat} {t : State} (hss : Quiet s₀ s) (e :
    dropJobs s p = (e0, t)) : Quiet s₀ t := by
  have := dropJobs_quiet s p hss
  rw [e] at this
  exact this

end Sys2Proof.Machine
end

