-- ==== Sys2Proof/Laws/QuietStripes.lean ====
section
/-! SUPPORT. The operations of Machine/Stripes.lean that keep `Quiet`. -/
namespace Sys2Proof.Machine
variable {s₀ : State}

theorem setFold_quiet (s : State) (key : Nat) (f : Fold) (hss : Quiet s₀ s) : Quiet s₀ (setFold s key f) := by
  unfold setFold
  repeat' (first
    | (with_reducible assumption)
    | (intro u; first | (refine (fun (_ : Quiet s₀ u) => ?_) ?_; clear_value u; rotate_left; dsimp -zeta only [u]; rotate_right) | clear_value u)
    | intro _ | lift_lets -underBinder | (with_reducible apply Quiet.ite) | (with_reducible apply Quiet.foldl) | split
    | (with_reducible refine Quiet.mk' ?_ rfl rfl rfl rfl rfl rfl rfl rfl rfl rfl rfl) | dsimp -zeta only)

theorem setBuf_quiet (s : State) (ns : Nat) (zone : Nat) (b : StripeBuf) (hss : Quiet s₀ s) : Quiet s₀ (setBuf s
    ns zone b) := by
  unfold setBuf
  repeat' (first
    | (with_reducible assumption)
    | (intro u; first | (refine (fun (_ : Quiet s₀ u) => ?_) ?_; clear_value u; rotate_left; dsimp -zeta only [u]; rotate_right) | clear_value u)
    | intro _ | lift_lets -underBinder | (with_reducible apply Quiet.ite) | (with_reducible apply Quiet.foldl) | split
    | (with_reducible refine Quiet.mk' ?_ rfl rfl rfl rfl rfl rfl rfl rfl rfl rfl rfl) | dsimp -zeta only)

theorem assignStripe_quiet (ns : Nat) (zone : Nat) (s : State) (q : Nat) (hss : Quiet s₀ s) : Quiet s₀
    (assignStripe ns zone s q) := by
  unfold assignStripe
  repeat' (first
    | (with_reducible assumption)
    | (intro u; first | (refine (fun (_ : Quiet s₀ u) => ?_) ?_; clear_value u; rotate_left; dsimp -zeta only [u]; rotate_right) | clear_value u)
    | intro _ | lift_lets -underBinder | (with_reducible apply Quiet.ite) | (with_reducible apply Quiet.foldl)
    | (with_reducible apply setGroup_quiet) | (with_reducible apply setZone_quiet) | split
    | (with_reducible refine Quiet.mk' ?_ rfl rfl rfl rfl rfl rfl rfl rfl rfl rfl rfl) | dsimp -zeta only)

theorem placeStrip_quiet (s : State) (g : Nat) (slots : List Nat) (m : Nat) (n : Nat) (hss : Quiet s₀ s) : Quiet
    s₀ (placeStrip s g slots m n).2 := by
  unfold placeStrip
  repeat' (first
    | (with_reducible assumption)
    | (intro u; first | (refine (fun (_ : Quiet s₀ u) => ?_) ?_; clear_value u; rotate_left; dsimp -zeta only [u]; rotate_right) | (refine (fun (_ : Quiet.Opt2 s₀ u) => ?_) ?_; clear_value u; rotate_left; dsimp -zeta only [u]; rotate_right) | (refine (fun (_ : Quiet s₀ u.2) => ?_) ?_; clear_value u; rotate_left; dsimp -zeta only [u]; rotate_right) | (refine (fun (_ : Quiet s₀ u.2.2) => ?_) ?_; clear_value u; rotate_left; dsimp -zeta only [u]; rotate_right) | clear_value u)
    | intro _ | lift_lets -underBinder | (with_reducible apply Quiet.ite) | (with_reducible apply Quiet.foldl)
    | (with_reducible apply reserveOut_quiet) | (with_reducible apply takePages_quiet)
    | (refine takePages_quiet_eq ?_ (by with_reducible assumption)) | (with_reducible exact Quiet.opt2_none)
    | (with_reducible apply Quiet.opt2_some) | (with_reducible apply Quiet.opt2_ite)
    | (exact Quiet.opt2_use (by with_reducible assumption) (by with_reducible assumption))
    | (exact Quiet.opt2_use (by with_reducible assumption) rfl) | split
    | (with_reducible refine Quiet.mk' ?_ rfl rfl rfl rfl rfl rfl rfl rfl rfl rfl rfl) | dsimp -zeta only)
theorem placeStrip_quiet_eq {s : State} {g : Nat} {slots : List Nat} {m : Nat} {n : Nat} {e0 : Option Place} {t :
    State} (hss : Quiet s₀ s) (e : placeStrip s g slots m n = (e0, t)) : Quiet s₀ t := by
  have := placeStrip_quiet s g slots m n hss
  rw [e] at this
  exact this

theorem placeStrips_quiet (g : Nat) (slots : List Nat) (n : Nat) (l : List Nat) (p : Tab Place × State)
    (hs : Quiet s₀ p.2) : Quiet s₀ (placeStrips g slots n l p).2 := by
  induction l generalizing p with
  | nil => exact hs
  | cons m ms ih =>
    obtain ⟨t, s⟩ := p
    unfold placeStrips
    split
    · next e => exact ih _ (placeStrip_quiet_eq hs e)
    · next e => exact ih _ (placeStrip_quiet_eq hs e)

theorem placeStrips_quiet_eq {g : Nat} {slots : List Nat} {n : Nat} {l : List Nat} {t t' : Tab Place} {s s' : State}
    (hs : Quiet s₀ s) (e : placeStrips g slots n l (t, s) = (t', s')) : Quiet s₀ s' := by
  have := placeStrips_quiet g slots n l (t, s) hs
  rw [e] at this
  exact this

theorem takeSeq_quiet (s : State) (n : Nat) (hss : Quiet s₀ s) : Quiet s₀ (takeSeq s n).2 := by
  unfold takeSeq
  repeat' (first
    | (with_reducible assumption)
    | (intro u; first | (refine (fun (_ : Quiet s₀ u) => ?_) ?_; clear_value u; rotate_left; dsimp -zeta only [u]; rotate_right) | (refine (fun (_ : Quiet s₀ u.2) => ?_) ?_; clear_value u; rotate_left; dsimp -zeta only [u]; rotate_right) | (refine (fun (_ : Quiet s₀ u.2.2) => ?_) ?_; clear_value u; rotate_left; dsimp -zeta only [u]; rotate_right) | clear_value u)
    | intro _ | lift_lets -underBinder | (with_reducible apply Quiet.ite) | (with_reducible apply Quiet.foldl) | split
    | (with_reducible refine Quiet.mk' ?_ rfl rfl rfl rfl rfl rfl rfl rfl rfl rfl rfl) | dsimp -zeta only)
theorem takeSeq_quiet_eq {s : State} {n : Nat} {e0 : Nat} {t : State} (hss : Quiet s₀ s) (e : takeSeq s n = (e0,
    t)) : Quiet s₀ t := by
  have := takeSeq_quiet s n hss
  rw [e] at this
  exact this

theorem journalTo_quiet (g : Nat) (num : Nat) (es : List (Nat × Nat)) (s : State) (m : Nat) (hss : Quiet s₀ s) :
    Quiet s₀ (journalTo g num es s m) := by
  unfold journalTo
  repeat' (first
    | (with_reducible assumption)
    | (intro u; first | (refine (fun (_ : Quiet s₀ u) => ?_) ?_; clear_value u; rotate_left; dsimp -zeta only [u]; rotate_right) | (refine (fun (_ : Quiet.Opt2 s₀ u) => ?_) ?_; clear_value u; rotate_left; dsimp -zeta only [u]; rotate_right) | (refine (fun (_ : Quiet s₀ u.2) => ?_) ?_; clear_value u; rotate_left; dsimp -zeta only [u]; rotate_right) | (refine (fun (_ : Quiet s₀ u.2.2) => ?_) ?_; clear_value u; rotate_left; dsimp -zeta only [u]; rotate_right) | clear_value u)
    | intro _ | lift_lets -underBinder | (with_reducible apply Quiet.ite) | (with_reducible apply Quiet.foldl)
    | (with_reducible apply journal_quiet) | (with_reducible apply pushCmd_quiet)
    | (with_reducible apply setGroup_quiet) | (with_reducible apply takePages_quiet)
    | (refine takePages_quiet_eq ?_ (by with_reducible assumption)) | (with_reducible apply takeSeq_quiet)
    | (refine takeSeq_quiet_eq ?_ (by with_reducible assumption)) | (with_reducible exact Quiet.opt2_none)
    | (with_reducible apply Quiet.opt2_some) | (with_reducible apply Quiet.opt2_ite)
    | (exact Quiet.opt2_use (by with_reducible assumption) (by with_reducible assumption))
    | (exact Quiet.opt2_use (by with_reducible assumption) rfl) | split
    | (with_reducible refine Quiet.mk' ?_ rfl rfl rfl rfl rfl rfl rfl rfl rfl rfl rfl) | dsimp -zeta only)

theorem releaseJournal_quiet (s : State) (g : Nat) (hss : Quiet s₀ s) : Quiet s₀ (releaseJournal s g) := by
  unfold releaseJournal
  repeat' (first
    | (with_reducible assumption)
    | (intro u; first | (refine (fun (_ : Quiet s₀ u) => ?_) ?_; clear_value u; rotate_left; dsimp -zeta only [u]; rotate_right) | clear_value u)
    | intro _ | lift_lets -underBinder | (with_reducible apply Quiet.ite) | (with_reducible apply Quiet.foldl)
    | (with_reducible apply journalTo_quiet) | (with_reducible apply setGroup_quiet) | split
    | (with_reducible refine Quiet.mk' ?_ rfl rfl rfl rfl rfl rfl rfl rfl rfl rfl rfl) | dsimp -zeta only)

theorem addJournalEntry_quiet (s : State) (g : Nat) (typ : Nat) (key : Nat) (hss : Quiet s₀ s) : Quiet s₀
    (addJournalEntry s g typ key) := by
  unfold addJournalEntry
  repeat' (first
    | (with_reducible assumption)
    | (intro u; first | (refine (fun (_ : Quiet s₀ u) => ?_) ?_; clear_value u; rotate_left; dsimp -zeta only [u]; rotate_right) | clear_value u)
    | intro _ | lift_lets -underBinder | (with_reducible apply Quiet.ite) | (with_reducible apply Quiet.foldl)
    | (with_reducible apply releaseJournal_quiet) | (with_reducible apply setGroup_quiet) | split
    | (with_reducible refine Quiet.mk' ?_ rfl rfl rfl rfl rfl rfl rfl rfl rfl rfl rfl) | dsimp -zeta only)

theorem dispatchPqe1_quiet (s : State) (i : Nat) (hss : Quiet s₀ s) : Quiet s₀ (dispatchPqe1 s i) := by
  unfold dispatchPqe1
  repeat' (first
    | (with_reducible assumption)
    | (intro u; first | (refine (fun (_ : Quiet s₀ u) => ?_) ?_; clear_value u; rotate_left; dsimp -zeta only [u]; rotate_right) | clear_value u)
    | intro _ | lift_lets -underBinder | (with_reducible apply Quiet.ite) | (with_reducible apply Quiet.foldl) | split
    | (with_reducible refine Quiet.mk' ?_ rfl rfl rfl rfl rfl rfl rfl rfl rfl rfl rfl) | dsimp -zeta only)

theorem dispatchPqe_quiet (s : State) (hss : Quiet s₀ s) : Quiet s₀ (dispatchPqe s) := by
  unfold dispatchPqe
  repeat' (first
    | (with_reducible assumption)
    | (intro u; first | (refine (fun (_ : Quiet s₀ u) => ?_) ?_; clear_value u; rotate_left; dsimp -zeta only [u]; rotate_right) | clear_value u)
    | intro _ | lift_lets -underBinder | (with_reducible apply Quiet.ite) | (with_reducible apply Quiet.foldl)
    | (with_reducible apply dispatchPqe1_quiet) | split
    | (with_reducible refine Quiet.mk' ?_ rfl rfl rfl rfl rfl rfl rfl rfl rfl rfl rfl) | dsimp -zeta only)

theorem queuePqe_quiet (s : State) (j : PqeJob) (hss : Quiet s₀ s) : Quiet s₀ (queuePqe s j) := by
  unfold queuePqe
  repeat' (first
    | (with_reducible assumption)
    | (intro u; first | (refine (fun (_ : Quiet s₀ u) => ?_) ?_; clear_value u; rotate_left; dsimp -zeta only [u]; rotate_right) | clear_value u)
    | intro _ | lift_lets -underBinder | (with_reducible apply Quiet.ite) | (with_reducible apply Quiet.foldl)
    | (with_reducible apply dispatchPqe_quiet) | split
    | (with_reducible refine Quiet.mk' ?_ rfl rfl rfl rfl rfl rfl rfl rfl rfl rfl rfl) | dsimp -zeta only)

theorem tryParity_quiet (s : State) (key : Nat) (hss : Quiet s₀ s) : Quiet s₀ (tryParity s key) := by
  unfold tryParity
  repeat' (first
    | (with_reducible assumption)
    | (intro u; first | (refine (fun (_ : Quiet s₀ u) => ?_) ?_; clear_value u; rotate_left; dsimp -zeta only [u]; rotate_right) | clear_value u)
    | intro _ | lift_lets -underBinder | (with_reducible apply Quiet.ite) | (with_reducible apply Quiet.foldl)
    | (with_reducible apply queuePqe_quiet) | split
    | (with_reducible refine Quiet.mk' ?_ rfl rfl rfl rfl rfl rfl rfl rfl rfl rfl rfl) | dsimp -zeta only)

theorem pushStrip_quiet (s : State) (key : Nat) (m : Nat) (p : Place) (f : Fold) (hss : Quiet s₀ s) : Quiet s₀
    (pushStrip s key m p f) := by
  unfold pushStrip
  repeat' (first
    | (with_reducible assumption)
    | (intro u; first | (refine (fun (_ : Quiet s₀ u) => ?_) ?_; clear_value u; rotate_left; dsimp -zeta only [u]; rotate_right) | clear_value u)
    | intro _ | lift_lets -underBinder | (with_reducible apply Quiet.ite) | (with_reducible apply Quiet.foldl)
    | (with_reducible apply pushCmd_quiet) | split
    | (with_reducible refine Quiet.mk' ?_ rfl rfl rfl rfl rfl rfl rfl rfl rfl rfl rfl) | dsimp -zeta only)

theorem stampStripe_quiet (s : State) (key : Nat) (point : Nat) (hss : Quiet s₀ s) : Quiet s₀ (stampStripe s key
    point) := by
  unfold stampStripe
  repeat' (first
    | (with_reducible assumption)
    | (intro u; first | (refine (fun (_ : Quiet s₀ u) => ?_) ?_; clear_value u; rotate_left; dsimp -zeta only [u]; rotate_right) | clear_value u)
    | intro _ | lift_lets -underBinder | (with_reducible apply Quiet.ite) | (with_reducible apply Quiet.foldl)
    | (with_reducible apply stamp_quiet) | split
    | (with_reducible refine Quiet.mk' ?_ rfl rfl rfl rfl rfl rfl rfl rfl rfl rfl rfl) | dsimp -zeta only)

theorem tryRelease_quiet (s : State) (key : Nat) (hss : Quiet s₀ s) : Quiet s₀ (tryRelease s key) := by
  unfold tryRelease
  repeat' (first
    | (with_reducible assumption)
    | (intro u; first | (refine (fun (_ : Quiet s₀ u) => ?_) ?_; clear_value u; rotate_left; dsimp -zeta only [u]; rotate_right) | clear_value u)
    | intro _ | lift_lets -underBinder | (with_reducible apply Quiet.ite) | (with_reducible apply Quiet.foldl)
    | (with_reducible apply alertAt_quiet) | (with_reducible apply pushStrip_quiet)
    | (with_reducible apply setFold_quiet) | (with_reducible apply stampStripe_quiet) | split
    | (with_reducible refine Quiet.mk' ?_ rfl rfl rfl rfl rfl rfl rfl rfl rfl rfl rfl) | dsimp -zeta only)

theorem tryReleaseGroup_quiet (s : State) (g : Nat) (hss : Quiet s₀ s) : Quiet s₀ (tryReleaseGroup s g) := by
  unfold tryReleaseGroup
  repeat' (first
    | (with_reducible assumption)
    | (intro u; first | (refine (fun (_ : Quiet s₀ u) => ?_) ?_; clear_value u; rotate_left; dsimp -zeta only [u]; rotate_right) | clear_value u)
    | intro _ | lift_lets -underBinder | (with_reducible apply Quiet.ite) | (with_reducible apply Quiet.foldl)
    | (with_reducible apply tryRelease_quiet) | split
    | (with_reducible refine Quiet.mk' ?_ rfl rfl rfl rfl rfl rfl rfl rfl rfl rfl rfl) | dsimp -zeta only)

theorem openFold_quiet (ns : Nat) (zone : Nat) (padFrom : Option Nat) (s : State) (q : Nat) (hss : Quiet s₀ s) :
    Quiet s₀ (openFold ns zone padFrom s q) := by
  unfold openFold
  repeat' (first
    | (with_reducible assumption)
    | (intro u; first | (refine (fun (_ : Quiet s₀ u) => ?_) ?_; clear_value u; rotate_left; dsimp -zeta only [u]; rotate_right) | (refine (fun (_ : Quiet s₀ u.2) => ?_) ?_; clear_value u; rotate_left; dsimp -zeta only [u]; rotate_right) | (refine (fun (_ : Quiet s₀ u.2.2) => ?_) ?_; clear_value u; rotate_left; dsimp -zeta only [u]; rotate_right) | clear_value u)
    | intro _ | lift_lets -underBinder | (with_reducible apply Quiet.ite) | (with_reducible apply Quiet.foldl)
    | (with_reducible apply addJournalEntry_quiet) | (with_reducible apply journal_quiet)
    | (with_reducible apply placeStrips_quiet) | (refine placeStrips_quiet_eq ?_ (by with_reducible assumption))
    | (with_reducible apply setBuf_quiet) | (with_reducible apply setFold_quiet) | (with_reducible apply takeSeq_quiet)
    | (refine takeSeq_quiet_eq ?_ (by with_reducible assumption)) | split
    | (with_reducible refine Quiet.mk' ?_ rfl rfl rfl rfl rfl rfl rfl rfl rfl rfl rfl) | dsimp -zeta only)

theorem putCipher_quiet (s : State) (ns : Nat) (zone : Nat) (sector : Nat) (data : List Byte) (hss : Quiet s₀ s) :
    Quiet s₀ (putCipher s ns zone sector data) := by
  unfold putCipher
  repeat' (first
    | (with_reducible assumption)
    | (intro u; first | (refine (fun (_ : Quiet s₀ u) => ?_) ?_; clear_value u; rotate_left; dsimp -zeta only [u]; rotate_right) | clear_value u)
    | intro _ | lift_lets -underBinder | (with_reducible apply Quiet.ite) | (with_reducible apply Quiet.foldl)
    | (with_reducible apply setBuf_quiet) | (with_reducible apply setFold_quiet) | split
    | (with_reducible refine Quiet.mk' ?_ rfl rfl rfl rfl rfl rfl rfl rfl rfl rfl rfl) | dsimp -zeta only)

theorem programLog_quiet (s : State) (g : Nat) (slot : Nat) (cws : List LogCw) (hss : Quiet s₀ s) : Quiet.Opt s₀
    (programLog s g slot cws) := by
  unfold programLog
  repeat' (first
    | (with_reducible assumption)
    | (intro u; first | (refine (fun (_ : Quiet s₀ u) => ?_) ?_; clear_value u; rotate_left; dsimp -zeta only [u]; rotate_right) | (refine (fun (_ : Quiet s₀ u.2) => ?_) ?_; clear_value u; rotate_left; dsimp -zeta only [u]; rotate_right) | (refine (fun (_ : Quiet s₀ u.2.2) => ?_) ?_; clear_value u; rotate_left; dsimp -zeta only [u]; rotate_right) | clear_value u)
    | intro _ | lift_lets -underBinder | (with_reducible apply Quiet.ite) | (with_reducible exact Quiet.opt_none)
    | (with_reducible apply Quiet.opt_some) | (with_reducible apply Quiet.opt_ite) | (with_reducible apply Quiet.foldl)
    | (with_reducible apply keepMember_quiet) | (with_reducible apply pushCmd_quiet)
    | (with_reducible apply takePages_quiet) | (refine takePages_quiet_eq ?_ (by with_reducible assumption))
    | (with_reducible apply takeSeq_quiet) | (refine takeSeq_quiet_eq ?_ (by with_reducible assumption)) | split
    | (with_reducible refine Quiet.mk' ?_ rfl rfl rfl rfl rfl rfl rfl rfl rfl rfl rfl) | dsimp -zeta only)
theorem programLog_quiet_eq {s : State} {g : Nat} {slot : Nat} {cws : List LogCw} {t : State} (hss : Quiet s₀ s)
    (e : programLog s g slot cws = some t) : Quiet s₀ t :=
  (programLog_quiet s g slot cws hss).use t e

theorem releaseLog_quiet (s : State) (g : Nat) (mk : Nat) (hss : Quiet s₀ s) : Quiet s₀ (releaseLog s g mk) := by
  unfold releaseLog
  repeat' (first
    | (with_reducible assumption)
    | (intro u; first | (refine (fun (_ : Quiet s₀ u) => ?_) ?_; clear_value u; rotate_left; dsimp -zeta only [u]; rotate_right) | (refine (fun (_ : Quiet.Opt s₀ u) => ?_) ?_; clear_value u; rotate_left; dsimp -zeta only [u]; rotate_right) | clear_value u)
    | intro _ | lift_lets -underBinder | (with_reducible apply Quiet.ite) | (with_reducible apply Quiet.foldl)
    | (with_reducible apply keepMember_quiet) | (with_reducible apply programLog_quiet)
    | (refine programLog_quiet_eq ?_ (by with_reducible assumption)) | (with_reducible exact Quiet.opt_none)
    | (with_reducible apply Quiet.opt_some) | (with_reducible apply Quiet.opt_ite)
    | (exact Quiet.opt_use (by with_reducible assumption) (by with_reducible assumption))
    | (exact Quiet.opt_use (by with_reducible assumption) rfl) | split
    | (with_reducible refine Quiet.mk' ?_ rfl rfl rfl rfl rfl rfl rfl rfl rfl rfl rfl) | dsimp -zeta only)

theorem gatherLog_quiet (s : State) (g : Nat) (slot : Nat) (c : LogCw) (hss : Quiet s₀ s) : Quiet s₀ (gatherLog s
    g slot c) := by
  unfold gatherLog
  repeat' (first
    | (with_reducible assumption)
    | (intro u; first | (refine (fun (_ : Quiet s₀ u) => ?_) ?_; clear_value u; rotate_left; dsimp -zeta only [u]; rotate_right) | clear_value u)
    | intro _ | lift_lets -underBinder | (with_reducible apply Quiet.ite) | (with_reducible apply Quiet.foldl)
    | (with_reducible apply keepMember_quiet) | (with_reducible apply releaseLog_quiet) | split
    | (with_reducible refine Quiet.mk' ?_ rfl rfl rfl rfl rfl rfl rfl rfl rfl rfl rfl) | dsimp -zeta only)

theorem logSector_quiet (q : Nat) (s : State) (sector : Nat) (hss : Quiet s₀ s) : Quiet s₀ (logSector q s sector)
    := by
  unfold logSector
  repeat' (first
    | (with_reducible assumption)
    | (intro u; first | (refine (fun (_ : Quiet s₀ u) => ?_) ?_; clear_value u; rotate_left; dsimp -zeta only [u]; rotate_right) | clear_value u)
    | intro _ | lift_lets -underBinder | (with_reducible apply Quiet.ite) | (with_reducible apply Quiet.foldl)
    | (with_reducible apply gatherLog_quiet) | split
    | (with_reducible refine Quiet.mk' ?_ rfl rfl rfl rfl rfl rfl rfl rfl rfl rfl rfl) | dsimp -zeta only)

theorem markWrite_quiet (s : State) (q : Nat) (c : Command) (hss : Quiet s₀ s) : Quiet s₀ (markWrite s q c) := by
  unfold markWrite
  repeat' (first
    | (with_reducible assumption)
    | (intro u; first | (refine (fun (_ : Quiet s₀ u) => ?_) ?_; clear_value u; rotate_left; dsimp -zeta only [u]; rotate_right) | clear_value u)
    | intro _ | lift_lets -underBinder | (with_reducible apply Quiet.ite) | (with_reducible apply Quiet.foldl)
    | (with_reducible apply complete_quiet) | (with_reducible apply setZone_quiet) | (with_reducible apply stamp_quiet)
    | (with_reducible apply zoneEnter_quiet) | split
    | (with_reducible refine Quiet.mk' ?_ rfl rfl rfl rfl rfl rfl rfl rfl rfl rfl rfl) | dsimp -zeta only)

theorem markNext_quiet (s : State) (ns : Nat) (zone : Nat) (hss : Quiet s₀ s) : Quiet.Opt s₀ (markNext s ns zone)
    := by
  unfold markNext
  repeat' (first
    | (with_reducible assumption)
    | (intro u; first | (refine (fun (_ : Quiet s₀ u) => ?_) ?_; clear_value u; rotate_left; dsimp -zeta only [u]; rotate_right) | clear_value u)
    | intro _ | lift_lets -underBinder | (with_reducible apply Quiet.ite) | (with_reducible exact Quiet.opt_none)
    | (with_reducible apply Quiet.opt_some) | (with_reducible apply Quiet.opt_ite) | (with_reducible apply Quiet.foldl)
    | (with_reducible apply journal_quiet) | (with_reducible apply markWrite_quiet)
    | (with_reducible apply setCmd_quiet) | split
    | (with_reducible refine Quiet.mk' ?_ rfl rfl rfl rfl rfl rfl rfl rfl rfl rfl rfl) | dsimp -zeta only)
theorem markNext_quiet_eq {s : State} {ns : Nat} {zone : Nat} {t : State} (hss : Quiet s₀ s) (e : markNext s ns
    zone = some t) : Quiet s₀ t :=
  (markNext_quiet s ns zone hss).use t e

theorem markLoop_quiet (ns : Nat) (zone : Nat) (z0 : Nat) (z1 : State) (hsz1 : Quiet s₀ z1) : Quiet s₀ (markLoop
    ns zone z0 z1) := by
  induction z0 generalizing z1 with
  | zero =>
    rw [markLoop]
    repeat' (first
      | (with_reducible assumption)
      | (intro u; first | (refine (fun (_ : Quiet s₀ u) => ?_) ?_; clear_value u; rotate_left; dsimp -zeta only [u]; rotate_right) | (refine (fun (_ : Quiet.Opt s₀ u) => ?_) ?_; clear_value u; rotate_left; dsimp -zeta only [u]; rotate_right) | clear_value u)
      | intro _ | lift_lets -underBinder | (with_reducible apply Quiet.ite) | (with_reducible apply Quiet.foldl)
      | (with_reducible apply journal_quiet) | (with_reducible apply markNext_quiet)
      | (refine markNext_quiet_eq ?_ (by with_reducible assumption)) | (with_reducible apply setCmd_quiet)
      | (with_reducible exact Quiet.opt_none) | (with_reducible apply Quiet.opt_some)
      | (with_reducible apply Quiet.opt_ite)
      | (exact Quiet.opt_use (by with_reducible assumption) (by with_reducible assumption))
      | (exact Quiet.opt_use (by with_reducible assumption) rfl) | split
      | (with_reducible refine Quiet.mk' ?_ rfl rfl rfl rfl rfl rfl rfl rfl rfl rfl rfl) | dsimp -zeta only)
  | succ z0 ih =>
    rw [markLoop]
    repeat' (first
      | (with_reducible apply ih) | (with_reducible assumption)
      | (intro u; first | (refine (fun (_ : Quiet s₀ u) => ?_) ?_; clear_value u; rotate_left; dsimp -zeta only [u]; rotate_right) | (refine (fun (_ : Quiet.Opt s₀ u) => ?_) ?_; clear_value u; rotate_left; dsimp -zeta only [u]; rotate_right) | clear_value u)
      | intro _ | lift_lets -underBinder | (with_reducible apply Quiet.ite) | (with_reducible apply Quiet.foldl)
      | (with_reducible apply journal_quiet) | (with_reducible apply markNext_quiet)
      | (refine markNext_quiet_eq ?_ (by with_reducible assumption)) | (with_reducible apply setCmd_quiet)
      | (with_reducible exact Quiet.opt_none) | (with_reducible apply Quiet.opt_some)
      | (with_reducible apply Quiet.opt_ite)
      | (exact Quiet.opt_use (by with_reducible assumption) (by with_reducible assumption))
      | (exact Quiet.opt_use (by with_reducible assumption) rfl) | split
      | (with_reducible refine Quiet.mk' ?_ rfl rfl rfl rfl rfl rfl rfl rfl rfl rfl rfl) | dsimp -zeta only)

theorem markWrites_quiet (s : State) (ns : Nat) (zone : Nat) (hss : Quiet s₀ s) : Quiet s₀ (markWrites s ns zone)
    := by
  unfold markWrites
  repeat' (first
    | (with_reducible assumption)
    | (intro u; first | (refine (fun (_ : Quiet s₀ u) => ?_) ?_; clear_value u; rotate_left; dsimp -zeta only [u]; rotate_right) | clear_value u)
    | intro _ | lift_lets -underBinder | (with_reducible apply Quiet.ite) | (with_reducible apply Quiet.foldl)
    | (with_reducible apply markLoop_quiet) | (with_reducible apply releaseBuffer_quiet) | split
    | (with_reducible refine Quiet.mk' ?_ rfl rfl rfl rfl rfl rfl rfl rfl rfl rfl rfl) | dsimp -zeta only)

theorem startPadding_quiet (s : State) (ns : Nat) (zone : Nat) (hss : Quiet s₀ s) : Quiet s₀ (startPadding s ns
    zone) := by
  unfold startPadding
  repeat' (first
    | (with_reducible assumption)
    | (intro u; first | (refine (fun (_ : Quiet s₀ u) => ?_) ?_; clear_value u; rotate_left; dsimp -zeta only [u]; rotate_right) | clear_value u)
    | intro _ | lift_lets -underBinder | (with_reducible apply Quiet.ite) | (with_reducible apply Quiet.foldl)
    | (with_reducible apply assignStripe_quiet) | (with_reducible apply complete_quiet)
    | (with_reducible apply haltCount_quiet) | (with_reducible apply openFold_quiet)
    | (with_reducible apply queueJobs_quiet) | (with_reducible apply setCmd_quiet) | split
    | (with_reducible refine Quiet.mk' ?_ rfl rfl rfl rfl rfl rfl rfl rfl rfl rfl rfl) | dsimp -zeta only)

theorem placeWrite_quiet (s : State) (q : Nat) (c : Command) (hss : Quiet s₀ s) : Quiet s₀ (placeWrite s q c) :=
    by
  unfold placeWrite
  repeat' (first
    | (with_reducible assumption)
    | (intro u; first | (refine (fun (_ : Quiet s₀ u) => ?_) ?_; clear_value u; rotate_left; dsimp -zeta only [u]; rotate_right) | clear_value u)
    | intro _ | lift_lets -underBinder | (with_reducible apply Quiet.ite) | (with_reducible apply Quiet.foldl)
    | (with_reducible apply State.tail_quiet) | (with_reducible apply assignStripe_quiet)
    | (with_reducible apply openFold_quiet) | (with_reducible apply queueJobs_quiet)
    | (with_reducible apply setCmd_quiet) | (with_reducible apply setZone_quiet) | (with_reducible apply stamp_quiet)
    | split | (with_reducible refine Quiet.mk' ?_ rfl rfl rfl rfl rfl rfl rfl rfl rfl rfl rfl) | dsimp -zeta only)

theorem tryPlace_quiet (s : State) (n : Nat) (cid : Nat) (hss : Quiet s₀ s) : Quiet s₀ (tryPlace s n cid) := by
  unfold tryPlace
  repeat' (first
    | (with_reducible assumption)
    | (intro u; first | (refine (fun (_ : Quiet s₀ u) => ?_) ?_; clear_value u; rotate_left; dsimp -zeta only [u]; rotate_right) | clear_value u)
    | intro _ | lift_lets -underBinder | (with_reducible apply Quiet.ite) | (with_reducible apply Quiet.foldl)
    | (with_reducible apply failWrite_quiet) | (with_reducible apply haltCount_quiet)
    | (with_reducible apply placeWrite_quiet) | split
    | (with_reducible refine Quiet.mk' ?_ rfl rfl rfl rfl rfl rfl rfl rfl rfl rfl rfl) | dsimp -zeta only)

theorem writeEncrypted_quiet (s : State) (q : Nat) (c : Command) (hss : Quiet s₀ s) : Quiet s₀ (writeEncrypted s q
    c) := by
  unfold writeEncrypted
  repeat' (first
    | (with_reducible assumption)
    | (intro u; first | (refine (fun (_ : Quiet s₀ u) => ?_) ?_; clear_value u; rotate_left; dsimp -zeta only [u]; rotate_right) | clear_value u)
    | intro _ | lift_lets -underBinder | (with_reducible apply Quiet.ite) | (with_reducible apply Quiet.foldl)
    | (with_reducible apply logSector_quiet) | (with_reducible apply stamp_quiet)
    | (with_reducible apply tryParity_quiet) | split
    | (with_reducible refine Quiet.mk' ?_ rfl rfl rfl rfl rfl rfl rfl rfl rfl rfl rfl) | dsimp -zeta only)

theorem sectorEncrypted_quiet (s : State) (q : Nat) (key : Nat) (sector : Nat) (hss : Quiet s₀ s) : Quiet s₀
    (sectorEncrypted s q key sector) := by
  unfold sectorEncrypted
  repeat' (first
    | (with_reducible assumption)
    | (intro u; first | (refine (fun (_ : Quiet s₀ u) => ?_) ?_; clear_value u; rotate_left; dsimp -zeta only [u]; rotate_right) | clear_value u)
    | intro _ | lift_lets -underBinder | (with_reducible apply Quiet.ite) | (with_reducible apply Quiet.foldl)
    | (with_reducible apply putCipher_quiet) | (with_reducible apply setCmd_quiet)
    | (with_reducible apply writeEncrypted_quiet) | split
    | (with_reducible refine Quiet.mk' ?_ rfl rfl rfl rfl rfl rfl rfl rfl rfl rfl rfl) | dsimp -zeta only)

theorem obsoleteAt_quiet (s : State) (p : Place) (hss : Quiet s₀ s) : Quiet s₀ (obsoleteAt s p) := by
  unfold obsoleteAt
  repeat' (first
    | (with_reducible assumption)
    | (intro u; first | (refine (fun (_ : Quiet s₀ u) => ?_) ?_; clear_value u; rotate_left; dsimp -zeta only [u]; rotate_right) | clear_value u)
    | intro _ | lift_lets -underBinder | (with_reducible apply Quiet.ite) | (with_reducible apply Quiet.foldl)
    | (with_reducible apply keepBlock_quiet) | split
    | (with_reducible refine Quiet.mk' ?_ rfl rfl rfl rfl rfl rfl rfl rfl rfl rfl rfl) | dsimp -zeta only)

theorem dropLog_quiet (s : State) (key : Nat) (hss : Quiet s₀ s) : Quiet s₀ (dropLog s key) := by
  unfold dropLog
  repeat' (first
    | (with_reducible assumption)
    | (intro u; first | (refine (fun (_ : Quiet s₀ u) => ?_) ?_; clear_value u; rotate_left; dsimp -zeta only [u]; rotate_right) | clear_value u)
    | intro _ | lift_lets -underBinder | (with_reducible apply Quiet.ite) | (with_reducible apply Quiet.foldl)
    | (with_reducible apply obsoleteAt_quiet) | split
    | (with_reducible refine Quiet.mk' ?_ rfl rfl rfl rfl rfl rfl rfl rfl rfl rfl rfl) | dsimp -zeta only)

theorem markDirty_quiet (g : Nat) (n : Nat) (slot : Nat) (s : State) (hss : Quiet s₀ s) : Quiet s₀ (markDirty g n
    slot s) := by
  unfold markDirty
  repeat' (first
    | (with_reducible assumption)
    | (intro u; first | (refine (fun (_ : Quiet s₀ u) => ?_) ?_; clear_value u; rotate_left; dsimp -zeta only [u]; rotate_right) | clear_value u)
    | intro _ | lift_lets -underBinder | (with_reducible apply Quiet.ite) | (with_reducible apply Quiet.foldl)
    | (with_reducible apply putMember_quiet) | split
    | (with_reducible refine Quiet.mk' ?_ rfl rfl rfl rfl rfl rfl rfl rfl rfl rfl rfl) | dsimp -zeta only)

theorem commitStripe_quiet (s : State) (key : Nat) (f : Fold) (hss : Quiet s₀ s) : Quiet s₀ (commitStripe s key f)
    := by
  unfold commitStripe
  repeat' (first
    | (with_reducible assumption)
    | (intro u; first | (refine (fun (_ : Quiet s₀ u) => ?_) ?_; clear_value u; rotate_left; dsimp -zeta only [u]; rotate_right) | clear_value u)
    | intro _ | lift_lets -underBinder | (with_reducible apply Quiet.ite) | (with_reducible apply Quiet.foldl)
    | (with_reducible apply addJournalEntry_quiet) | (with_reducible apply bump_quiet)
    | (with_reducible apply dropLog_quiet) | (with_reducible apply journal_quiet)
    | (with_reducible apply markDirty_quiet) | (with_reducible apply markWrites_quiet)
    | (with_reducible apply pmcEvent_quiet) | (with_reducible apply startPadding_quiet) | split
    | (with_reducible refine Quiet.mk' ?_ rfl rfl rfl rfl rfl rfl rfl rfl rfl rfl rfl) | dsimp -zeta only)

theorem tryCommit_quiet (s : State) (key : Nat) (hss : Quiet s₀ s) : Quiet s₀ (tryCommit s key) := by
  unfold tryCommit
  repeat' (first
    | (with_reducible assumption)
    | (intro u; first | (refine (fun (_ : Quiet s₀ u) => ?_) ?_; clear_value u; rotate_left; dsimp -zeta only [u]; rotate_right) | clear_value u)
    | intro _ | lift_lets -underBinder | (with_reducible apply Quiet.ite) | (with_reducible apply Quiet.foldl)
    | (with_reducible apply commitStripe_quiet) | split
    | (with_reducible refine Quiet.mk' ?_ rfl rfl rfl rfl rfl rfl rfl rfl rfl rfl rfl) | dsimp -zeta only)

theorem stripPagePassed_quiet (s : State) (key : Nat) (m : Nat) (i : Nat) (a : FlashAddr) (slot : Nat) (hss :
    Quiet s₀ s) : Quiet s₀ (stripPagePassed s key m i a slot) := by
  unfold stripPagePassed
  repeat' (first
    | (with_reducible assumption)
    | (intro u; first | (refine (fun (_ : Quiet s₀ u) => ?_) ?_; clear_value u; rotate_left; dsimp -zeta only [u]; rotate_right) | clear_value u)
    | intro _ | lift_lets -underBinder | (with_reducible apply Quiet.ite) | (with_reducible apply Quiet.foldl)
    | (with_reducible apply setFold_quiet) | (with_reducible apply tryCommit_quiet) | split
    | (with_reducible refine Quiet.mk' ?_ rfl rfl rfl rfl rfl rfl rfl rfl rfl rfl rfl) | dsimp -zeta only)

theorem unpushStrip_quiet (s : State) (slot : Nat) (key : Nat) (m : Nat) (hss : Quiet s₀ s) : Quiet s₀
    (unpushStrip s slot key m) := by
  unfold unpushStrip
  repeat' (first
    | (with_reducible assumption)
    | (intro u; first | (refine (fun (_ : Quiet s₀ u) => ?_) ?_; clear_value u; rotate_left; dsimp -zeta only [u]; rotate_right) | clear_value u)
    | intro _ | lift_lets -underBinder | (with_reducible apply Quiet.ite) | (with_reducible apply Quiet.foldl) | split
    | (with_reducible refine Quiet.mk' ?_ rfl rfl rfl rfl rfl rfl rfl rfl rfl rfl rfl) | dsimp -zeta only)

theorem stripAbsent_quiet (s : State) (key : Nat) (m : Nat) (hss : Quiet s₀ s) : Quiet s₀ (stripAbsent s key m) :=
    by
  unfold stripAbsent
  repeat' (first
    | (with_reducible assumption)
    | (intro u; first | (refine (fun (_ : Quiet s₀ u) => ?_) ?_; clear_value u; rotate_left; dsimp -zeta only [u]; rotate_right) | clear_value u)
    | intro _ | lift_lets -underBinder | (with_reducible apply Quiet.ite) | (with_reducible apply Quiet.foldl)
    | (with_reducible apply setFold_quiet) | (with_reducible apply tryCommit_quiet)
    | (with_reducible apply unpushStrip_quiet) | split
    | (with_reducible refine Quiet.mk' ?_ rfl rfl rfl rfl rfl rfl rfl rfl rfl rfl rfl) | dsimp -zeta only)

theorem replaceStrip_quiet (s : State) (key : Nat) (m : Nat) (hss : Quiet s₀ s) : Quiet s₀ (replaceStrip s key m)
    := by
  unfold replaceStrip
  repeat' (first
    | (with_reducible assumption)
    | (intro u; first | (refine (fun (_ : Quiet s₀ u) => ?_) ?_; clear_value u; rotate_left; dsimp -zeta only [u]; rotate_right) | (refine (fun (_ : Quiet s₀ u.2) => ?_) ?_; clear_value u; rotate_left; dsimp -zeta only [u]; rotate_right) | (refine (fun (_ : Quiet s₀ u.2.2) => ?_) ?_; clear_value u; rotate_left; dsimp -zeta only [u]; rotate_right) | clear_value u)
    | intro _ | lift_lets -underBinder | (with_reducible apply Quiet.ite) | (with_reducible apply Quiet.foldl)
    | (with_reducible apply placeStrip_quiet) | (refine placeStrip_quiet_eq ?_ (by with_reducible assumption))
    | (with_reducible apply pushStrip_quiet) | (with_reducible apply setFold_quiet)
    | (with_reducible apply stripAbsent_quiet) | (with_reducible apply takeSeq_quiet)
    | (refine takeSeq_quiet_eq ?_ (by with_reducible assumption)) | (with_reducible apply unpushStrip_quiet) | split
    | (with_reducible refine Quiet.mk' ?_ rfl rfl rfl rfl rfl rfl rfl rfl rfl rfl rfl) | dsimp -zeta only)

theorem logCopyPassed_quiet (slot : Nat) (g : Nat) (a : FlashAddr) (s : State) (e : Nat × LogCw) (hss : Quiet s₀
    s) : Quiet s₀ (logCopyPassed slot g a s e) := by
  unfold logCopyPassed
  repeat' (first
    | (with_reducible assumption)
    | (intro u; first | (refine (fun (_ : Quiet s₀ u) => ?_) ?_; clear_value u; rotate_left; dsimp -zeta only [u]; rotate_right) | clear_value u)
    | intro _ | lift_lets -underBinder | (with_reducible apply Quiet.ite) | (with_reducible apply Quiet.foldl)
    | (with_reducible apply bump_quiet) | (with_reducible apply journal_quiet) | (with_reducible apply obsoleteAt_quiet)
    | (with_reducible apply pmcEvent_quiet) | (with_reducible apply setCmd_quiet) | split
    | (with_reducible refine Quiet.mk' ?_ rfl rfl rfl rfl rfl rfl rfl rfl rfl rfl rfl) | dsimp -zeta only)

theorem logPagePassed_quiet (s : State) (g : Nat) (mk : Nat) (num : Nat) (slot : Nat) (a : FlashAddr) (hss : Quiet
    s₀ s) : Quiet s₀ (logPagePassed s g mk num slot a) := by
  unfold logPagePassed
  repeat' (first
    | (with_reducible assumption)
    | (intro u; first | (refine (fun (_ : Quiet s₀ u) => ?_) ?_; clear_value u; rotate_left; dsimp -zeta only [u]; rotate_right) | clear_value u)
    | intro _ | lift_lets -underBinder | (with_reducible apply Quiet.ite) | (with_reducible apply Quiet.foldl)
    | (with_reducible apply keepMember_quiet) | (with_reducible apply logCopyPassed_quiet)
    | (with_reducible apply markWrites_quiet) | (with_reducible apply startPadding_quiet) | split
    | (with_reducible refine Quiet.mk' ?_ rfl rfl rfl rfl rfl rfl rfl rfl rfl rfl rfl) | dsimp -zeta only)

theorem replaceLog_quiet (s : State) (g : Nat) (mk : Nat) (num : Nat) (hss : Quiet s₀ s) : Quiet s₀ (replaceLog s
    g mk num) := by
  unfold replaceLog
  repeat' (first
    | (with_reducible assumption)
    | (intro u; first | (refine (fun (_ : Quiet s₀ u) => ?_) ?_; clear_value u; rotate_left; dsimp -zeta only [u]; rotate_right) | (refine (fun (_ : Quiet.Opt s₀ u) => ?_) ?_; clear_value u; rotate_left; dsimp -zeta only [u]; rotate_right) | clear_value u)
    | intro _ | lift_lets -underBinder | (with_reducible apply Quiet.ite) | (with_reducible apply Quiet.foldl)
    | (with_reducible apply keepMember_quiet) | (with_reducible apply programLog_quiet)
    | (refine programLog_quiet_eq ?_ (by with_reducible assumption)) | (with_reducible exact Quiet.opt_none)
    | (with_reducible apply Quiet.opt_some) | (with_reducible apply Quiet.opt_ite)
    | (exact Quiet.opt_use (by with_reducible assumption) (by with_reducible assumption))
    | (exact Quiet.opt_use (by with_reducible assumption) rfl) | split
    | (with_reducible refine Quiet.mk' ?_ rfl rfl rfl rfl rfl rfl rfl rfl rfl rfl rfl) | dsimp -zeta only)

theorem entryPassed_quiet (m : Nat) (s : State) (e : Nat × Nat) (hss : Quiet s₀ s) : Quiet s₀ (entryPassed m s e)
    := by
  unfold entryPassed
  repeat' (first
    | (with_reducible assumption)
    | (intro u; first | (refine (fun (_ : Quiet s₀ u) => ?_) ?_; clear_value u; rotate_left; dsimp -zeta only [u]; rotate_right) | clear_value u)
    | intro _ | lift_lets -underBinder | (with_reducible apply Quiet.ite) | (with_reducible apply Quiet.foldl)
    | (with_reducible apply setFold_quiet) | (with_reducible apply tryRelease_quiet) | split
    | (with_reducible refine Quiet.mk' ?_ rfl rfl rfl rfl rfl rfl rfl rfl rfl rfl rfl) | dsimp -zeta only)

theorem seedDone_quiet (s : State) (g : Nat) (role : Nat) (m : Nat) (hss : Quiet s₀ s) : Quiet s₀ (seedDone s g
    role m) := by
  unfold seedDone
  repeat' (first
    | (with_reducible assumption)
    | (intro u; first | (refine (fun (_ : Quiet s₀ u) => ?_) ?_; clear_value u; rotate_left; dsimp -zeta only [u]; rotate_right) | clear_value u)
    | intro _ | lift_lets -underBinder | (with_reducible apply Quiet.ite) | (with_reducible apply Quiet.foldl)
    | (with_reducible apply alertAt_quiet) | (with_reducible apply journal_quiet)
    | (with_reducible apply setGroup_quiet) | (with_reducible apply tryReleaseGroup_quiet) | split
    | (with_reducible refine Quiet.mk' ?_ rfl rfl rfl rfl rfl rfl rfl rfl rfl rfl rfl) | dsimp -zeta only)

theorem seedPagePassed_quiet (s : State) (g : Nat) (m : Nat) (hss : Quiet s₀ s) : Quiet s₀ (seedPagePassed s g m)
    := by
  unfold seedPagePassed
  repeat' (first
    | (with_reducible assumption)
    | (intro u; first | (refine (fun (_ : Quiet s₀ u) => ?_) ?_; clear_value u; rotate_left; dsimp -zeta only [u]; rotate_right) | clear_value u)
    | intro _ | lift_lets -underBinder | (with_reducible apply Quiet.ite) | (with_reducible apply Quiet.foldl)
    | (with_reducible apply seedDone_quiet) | (with_reducible apply setGroup_quiet) | split
    | (with_reducible refine Quiet.mk' ?_ rfl rfl rfl rfl rfl rfl rfl rfl rfl rfl rfl) | dsimp -zeta only)

theorem journalPagePassed_quiet (s : State) (g : Nat) (m : Nat) (num : Nat) (hss : Quiet s₀ s) : Quiet s₀
    (journalPagePassed s g m num) := by
  unfold journalPagePassed
  repeat' (first
    | (with_reducible assumption)
    | (intro u; first | (refine (fun (_ : Quiet s₀ u) => ?_) ?_; clear_value u; rotate_left; dsimp -zeta only [u]; rotate_right) | clear_value u)
    | intro _ | lift_lets -underBinder | (with_reducible apply Quiet.ite) | (with_reducible apply Quiet.foldl)
    | (with_reducible apply entryPassed_quiet) | (with_reducible apply seedPagePassed_quiet)
    | (with_reducible apply setGroup_quiet) | split
    | (with_reducible refine Quiet.mk' ?_ rfl rfl rfl rfl rfl rfl rfl rfl rfl rfl rfl) | dsimp -zeta only)

theorem replaceJournal_quiet (s : State) (g : Nat) (m : Nat) (num : Nat) (hss : Quiet s₀ s) : Quiet s₀
    (replaceJournal s g m num) := by
  unfold replaceJournal
  repeat' (first
    | (with_reducible assumption)
    | (intro u; first | (refine (fun (_ : Quiet s₀ u) => ?_) ?_; clear_value u; rotate_left; dsimp -zeta only [u]; rotate_right) | clear_value u)
    | intro _ | lift_lets -underBinder | (with_reducible apply Quiet.ite) | (with_reducible apply Quiet.foldl)
    | (with_reducible apply journalTo_quiet) | (with_reducible apply setGroup_quiet) | split
    | (with_reducible refine Quiet.mk' ?_ rfl rfl rfl rfl rfl rfl rfl rfl rfl rfl rfl) | dsimp -zeta only)

theorem abandonFold_quiet (s : State) (key : Nat) (hss : Quiet s₀ s) : Quiet s₀ (abandonFold s key) := by
  unfold abandonFold
  repeat' (first
    | (with_reducible assumption)
    | (intro u; first | (refine (fun (_ : Quiet s₀ u) => ?_) ?_; clear_value u; rotate_left; dsimp -zeta only [u]; rotate_right) | clear_value u)
    | intro _ | lift_lets -underBinder | (with_reducible apply Quiet.ite) | (with_reducible apply Quiet.foldl)
    | (with_reducible apply addJournalEntry_quiet) | (with_reducible apply bump_quiet)
    | (with_reducible apply journal_quiet) | split
    | (with_reducible refine Quiet.mk' ?_ rfl rfl rfl rfl rfl rfl rfl rfl rfl rfl rfl) | dsimp -zeta only)

theorem failPlacedWrite_quiet (s : State) (q : Nat) (hss : Quiet s₀ s) : Quiet s₀ (failPlacedWrite s q) := by
  unfold failPlacedWrite
  repeat' (first
    | (with_reducible assumption)
    | (intro u; first | (refine (fun (_ : Quiet s₀ u) => ?_) ?_; clear_value u; rotate_left; dsimp -zeta only [u]; rotate_right) | clear_value u)
    | intro _ | lift_lets -underBinder | (with_reducible apply Quiet.ite) | (with_reducible apply Quiet.foldl)
    | (with_reducible apply complete_quiet) | (with_reducible apply revokeWindows_quiet)
    | (with_reducible apply setMark_quiet) | split
    | (with_reducible refine Quiet.mk' ?_ rfl rfl rfl rfl rfl rfl rfl rfl rfl rfl rfl) | dsimp -zeta only)

theorem dropLogsFrom_quiet (s : State) (ns : Nat) (zone : Nat) (bound : Nat) (hss : Quiet s₀ s) : Quiet s₀
    (dropLogsFrom s ns zone bound) := by
  unfold dropLogsFrom
  repeat' (first
    | (with_reducible assumption)
    | (intro u; first | (refine (fun (_ : Quiet s₀ u) => ?_) ?_; clear_value u; rotate_left; dsimp -zeta only [u]; rotate_right) | clear_value u)
    | intro _ | lift_lets -underBinder | (with_reducible apply Quiet.ite) | (with_reducible apply Quiet.foldl)
    | (with_reducible apply dropLog_quiet) | split
    | (with_reducible refine Quiet.mk' ?_ rfl rfl rfl rfl rfl rfl rfl rfl rfl rfl rfl) | dsimp -zeta only)

theorem trimLogs_quiet (s : State) (ns : Nat) (zone : Nat) (bound : Nat) (hss : Quiet s₀ s) : Quiet s₀ (trimLogs s
    ns zone bound) := by
  unfold trimLogs
  repeat' (first
    | (with_reducible assumption)
    | (intro u; first | (refine (fun (_ : Quiet s₀ u) => ?_) ?_; clear_value u; rotate_left; dsimp -zeta only [u]; rotate_right) | clear_value u)
    | intro _ | lift_lets -underBinder | (with_reducible apply Quiet.ite) | (with_reducible apply Quiet.foldl) | split
    | (with_reducible refine Quiet.mk' ?_ rfl rfl rfl rfl rfl rfl rfl rfl rfl rfl rfl) | dsimp -zeta only)

theorem failZone_quiet (s : State) (ns : Nat) (zone : Nat) (bad : List Nat) (hss : Quiet s₀ s) : Quiet s₀
    (failZone s ns zone bad) := by
  unfold failZone
  repeat' (first
    | (with_reducible assumption)
    | (intro u; first | (refine (fun (_ : Quiet s₀ u) => ?_) ?_; clear_value u; rotate_left; dsimp -zeta only [u]; rotate_right) | (refine (fun (_ : Quiet s₀ u.2) => ?_) ?_; clear_value u; rotate_left; dsimp -zeta only [u]; rotate_right) | (refine (fun (_ : Quiet s₀ u.2.2) => ?_) ?_; clear_value u; rotate_left; dsimp -zeta only [u]; rotate_right) | clear_value u)
    | intro _ | lift_lets -underBinder | (with_reducible apply Quiet.ite) | (with_reducible apply Quiet.foldl)
    | (with_reducible apply abandonFold_quiet) | (with_reducible apply dropJobs_quiet)
    | (refine dropJobs_quiet_eq ?_ (by with_reducible assumption)) | (with_reducible apply dropLogsFrom_quiet)
    | (with_reducible apply endWrite_quiet) | (with_reducible apply failPlacedWrite_quiet)
    | (with_reducible apply releaseBuffer_quiet) | (with_reducible apply setBuf_quiet)
    | (with_reducible apply setZone_quiet) | (with_reducible apply trimLogs_quiet) | split
    | (with_reducible refine Quiet.mk' ?_ rfl rfl rfl rfl rfl rfl rfl rfl rfl rfl rfl) | dsimp -zeta only)

theorem failPadding_quiet (s : State) (q : Nat) (hss : Quiet s₀ s) : Quiet s₀ (failPadding s q) := by
  unfold failPadding
  repeat' (first
    | (with_reducible assumption)
    | (intro u; first | (refine (fun (_ : Quiet s₀ u) => ?_) ?_; clear_value u; rotate_left; dsimp -zeta only [u]; rotate_right) | clear_value u)
    | intro _ | lift_lets -underBinder | (with_reducible apply Quiet.ite) | (with_reducible apply Quiet.foldl)
    | (with_reducible apply abandonFold_quiet) | (with_reducible apply complete_quiet) | split
    | (with_reducible refine Quiet.mk' ?_ rfl rfl rfl rfl rfl rfl rfl rfl rfl rfl rfl) | dsimp -zeta only)

theorem abandonStripe_quiet (s : State) (key : Nat) (hss : Quiet s₀ s) : Quiet s₀ (abandonStripe s key) := by
  unfold abandonStripe
  repeat' (first
    | (with_reducible assumption)
    | (intro u; first | (refine (fun (_ : Quiet s₀ u) => ?_) ?_; clear_value u; rotate_left; dsimp -zeta only [u]; rotate_right) | clear_value u)
    | intro _ | lift_lets -underBinder | (with_reducible apply Quiet.ite) | (with_reducible apply Quiet.foldl)
    | (with_reducible apply abandonFold_quiet) | (with_reducible apply failPadding_quiet)
    | (with_reducible apply failZone_quiet) | split
    | (with_reducible refine Quiet.mk' ?_ rfl rfl rfl rfl rfl rfl rfl rfl rfl rfl rfl) | dsimp -zeta only)

theorem logPageFlush_quiet (s : State) (g : Nat) (mk : Nat) (hss : Quiet s₀ s) : Quiet s₀ (logPageFlush s g mk) :=
    by
  unfold logPageFlush
  repeat' (first
    | (with_reducible assumption)
    | (intro u; first | (refine (fun (_ : Quiet s₀ u) => ?_) ?_; clear_value u; rotate_left; dsimp -zeta only [u]; rotate_right) | clear_value u)
    | intro _ | lift_lets -underBinder | (with_reducible apply Quiet.ite) | (with_reducible apply Quiet.foldl)
    | (with_reducible apply clockTo_quiet) | (with_reducible apply releaseLog_quiet) | split
    | (with_reducible refine Quiet.mk' ?_ rfl rfl rfl rfl rfl rfl rfl rfl rfl rfl rfl) | dsimp -zeta only)

theorem journalPageFlush_quiet (s : State) (g : Nat) (hss : Quiet s₀ s) : Quiet s₀ (journalPageFlush s g) := by
  unfold journalPageFlush
  repeat' (first
    | (with_reducible assumption)
    | (intro u; first | (refine (fun (_ : Quiet s₀ u) => ?_) ?_; clear_value u; rotate_left; dsimp -zeta only [u]; rotate_right) | clear_value u)
    | intro _ | lift_lets -underBinder | (with_reducible apply Quiet.ite) | (with_reducible apply Quiet.foldl)
    | (with_reducible apply clockTo_quiet) | (with_reducible apply releaseJournal_quiet) | split
    | (with_reducible refine Quiet.mk' ?_ rfl rfl rfl rfl rfl rfl rfl rfl rfl rfl rfl) | dsimp -zeta only)

end Sys2Proof.Machine
end

