-- ==== Sys2Proof/Laws/QuietReads.lean ====
section
/-! SUPPORT. The operations of Machine/Reads.lean that keep `Quiet`. -/
namespace Sys2Proof.Machine
variable {s₀ : State}

theorem sendPayload_quiet (s : State) (q : Nat) (hss : Quiet s₀ s) : Quiet s₀ (sendPayload s q) := by
  unfold sendPayload
  repeat' (first
    | (with_reducible assumption)
    | (intro u; first | (refine (fun (_ : Quiet s₀ u) => ?_) ?_; clear_value u; rotate_left; dsimp -zeta only [u]; rotate_right) | clear_value u)
    | intro _ | lift_lets -underBinder | (with_reducible apply Quiet.ite) | (with_reducible apply Quiet.foldl)
    | (with_reducible apply emit_quiet) | (with_reducible apply issue_quiet) | (with_reducible apply setCmd_quiet)
    | (with_reducible apply stamp_quiet) | split
    | (with_reducible refine Quiet.mk' ?_ rfl rfl rfl rfl rfl rfl rfl rfl rfl rfl rfl) | dsimp -zeta only)

theorem deliver_quiet (s : State) (q : Nat) (data : List Byte) (hss : Quiet s₀ s) : Quiet s₀ (deliver s q data) :=
    by
  unfold deliver
  repeat' (first
    | (with_reducible assumption)
    | (intro u; first | (refine (fun (_ : Quiet s₀ u) => ?_) ?_; clear_value u; rotate_left; dsimp -zeta only [u]; rotate_right) | clear_value u)
    | intro _ | lift_lets -underBinder | (with_reducible apply Quiet.ite) | (with_reducible apply Quiet.foldl)
    | (with_reducible apply queueJobs_quiet) | (with_reducible apply sendPayload_quiet)
    | (with_reducible apply setCmd_quiet) | split
    | (with_reducible refine Quiet.mk' ?_ rfl rfl rfl rfl rfl rfl rfl rfl rfl rfl rfl) | dsimp -zeta only)

theorem finishRead_quiet (s : State) (q : Nat) (hss : Quiet s₀ s) : Quiet s₀ (finishRead s q) := by
  unfold finishRead
  repeat' (first
    | (with_reducible assumption)
    | (intro u; first | (refine (fun (_ : Quiet s₀ u) => ?_) ?_; clear_value u; rotate_left; dsimp -zeta only [u]; rotate_right) | clear_value u)
    | intro _ | lift_lets -underBinder | (with_reducible apply Quiet.ite) | (with_reducible apply Quiet.foldl)
    | (with_reducible apply deliver_quiet) | (with_reducible apply stamp_quiet) | split
    | (with_reducible refine Quiet.mk' ?_ rfl rfl rfl rfl rfl rfl rfl rfl rfl rfl rfl) | dsimp -zeta only)

theorem addRead_quiet (s : State) (slot : Nat) (op : Nat) (set : Nat) (a : FlashAddr) (x : Nat × Need) (hss :
    Quiet s₀ s) : Quiet s₀ (addRead s slot op set a x) := by
  unfold addRead
  repeat' (first
    | (with_reducible assumption)
    | (intro u; first | (refine (fun (_ : Quiet s₀ u) => ?_) ?_; clear_value u; rotate_left; dsimp -zeta only [u]; rotate_right) | clear_value u)
    | intro _ | lift_lets -underBinder | (with_reducible apply Quiet.ite) | (with_reducible apply Quiet.foldl)
    | (with_reducible apply pushCmd_quiet) | split
    | (with_reducible refine Quiet.mk' ?_ rfl rfl rfl rfl rfl rfl rfl rfl rfl rfl rfl) | dsimp -zeta only)

theorem refillSector_quiet (s : State) (k : Nat) (sector : Nat) (data : List Byte) (hss : Quiet s₀ s) : Quiet s₀
    (refillSector s k sector data) := by
  unfold refillSector
  repeat' (first
    | (with_reducible assumption)
    | (intro u; first | (refine (fun (_ : Quiet s₀ u) => ?_) ?_; clear_value u; rotate_left; dsimp -zeta only [u]; rotate_right) | clear_value u)
    | intro _ | lift_lets -underBinder | (with_reducible apply Quiet.ite) | (with_reducible apply Quiet.foldl)
    | (with_reducible apply startPadding_quiet) | split
    | (with_reducible refine Quiet.mk' ?_ rfl rfl rfl rfl rfl rfl rfl rfl rfl rfl rfl) | dsimp -zeta only)

theorem giveSector_quiet (s : State) (x : Need) (data : List Byte) (hss : Quiet s₀ s) : Quiet s₀ (giveSector s x
    data) := by
  unfold giveSector
  repeat' (first
    | (with_reducible assumption)
    | (intro u; first | (refine (fun (_ : Quiet s₀ u) => ?_) ?_; clear_value u; rotate_left; dsimp -zeta only [u]; rotate_right) | clear_value u)
    | intro _ | lift_lets -underBinder | (with_reducible apply Quiet.ite) | (with_reducible apply Quiet.foldl)
    | (with_reducible apply complete_quiet) | (with_reducible apply finishRead_quiet)
    | (with_reducible apply haltCount_quiet) | (with_reducible apply queueJobs_quiet)
    | (with_reducible apply refillSector_quiet) | (with_reducible apply setCmd_quiet)
    | (with_reducible apply stamp_quiet) | split
    | (with_reducible refine Quiet.mk' ?_ rfl rfl rfl rfl rfl rfl rfl rfl rfl rfl rfl) | dsimp -zeta only)

theorem needLost_quiet (s : State) (x : Need) (hss : Quiet s₀ s) : Quiet s₀ (needLost s x) := by
  unfold needLost
  repeat' (first
    | (with_reducible assumption)
    | (intro u; first | (refine (fun (_ : Quiet s₀ u) => ?_) ?_; clear_value u; rotate_left; dsimp -zeta only [u]; rotate_right) | clear_value u)
    | intro _ | lift_lets -underBinder | (with_reducible apply Quiet.ite) | (with_reducible apply Quiet.foldl)
    | (with_reducible apply finishRead_quiet) | (with_reducible apply refillSector_quiet)
    | (with_reducible apply setCmd_quiet) | split
    | (with_reducible refine Quiet.mk' ?_ rfl rfl rfl rfl rfl rfl rfl rfl rfl rfl rfl) | dsimp -zeta only)

theorem needWaits_quiet (s : State) (x : Need) (hss : Quiet s₀ s) : Quiet s₀ (needWaits s x) := by
  unfold needWaits
  repeat' (first
    | (with_reducible assumption)
    | (intro u; first | (refine (fun (_ : Quiet s₀ u) => ?_) ?_; clear_value u; rotate_left; dsimp -zeta only [u]; rotate_right) | clear_value u)
    | intro _ | lift_lets -underBinder | (with_reducible apply Quiet.ite) | (with_reducible apply Quiet.foldl)
    | (with_reducible apply setCmd_quiet) | split
    | (with_reducible refine Quiet.mk' ?_ rfl rfl rfl rfl rfl rfl rfl rfl rfl rfl rfl) | dsimp -zeta only)

theorem loseRow_quiet (s : State) (key : Nat) (t : Stripe) (row : Nat) (cause : Nat) (gone : Nat → Bool) (hss :
    Quiet s₀ s) : Quiet s₀ (loseRow s key t row cause gone) := by
  unfold loseRow
  repeat' (first
    | (with_reducible assumption)
    | (intro u; first | (refine (fun (_ : Quiet s₀ u) => ?_) ?_; clear_value u; rotate_left; dsimp -zeta only [u]; rotate_right) | clear_value u)
    | intro _ | lift_lets -underBinder | (with_reducible apply Quiet.ite) | (with_reducible apply Quiet.foldl)
    | (with_reducible apply loseSector_quiet) | split
    | (with_reducible refine Quiet.mk' ?_ rfl rfl rfl rfl rfl rfl rfl rfl rfl rfl rfl) | dsimp -zeta only)

theorem rowBeyond_quiet (s : State) (hss : Quiet s₀ s) : Quiet s₀ (rowBeyond s) := by
  unfold rowBeyond
  repeat' (first
    | (with_reducible assumption)
    | (intro u; first | (refine (fun (_ : Quiet s₀ u) => ?_) ?_; clear_value u; rotate_left; dsimp -zeta only [u]; rotate_right) | clear_value u)
    | intro _ | lift_lets -underBinder | (with_reducible apply Quiet.ite) | (with_reducible apply Quiet.foldl)
    | (with_reducible apply alert_quiet) | (with_reducible apply bump_quiet) | split
    | (with_reducible refine Quiet.mk' ?_ rfl rfl rfl rfl rfl rfl rfl rfl rfl rfl rfl) | dsimp -zeta only)

theorem dropRow_quiet (s : State) (j : Nat) (hss : Quiet s₀ s) : Quiet s₀ (dropRow s j) := by
  unfold dropRow
  repeat' (first
    | (with_reducible assumption)
    | (intro u; first | (refine (fun (_ : Quiet s₀ u) => ?_) ?_; clear_value u; rotate_left; dsimp -zeta only [u]; rotate_right) | clear_value u)
    | intro _ | lift_lets -underBinder | (with_reducible apply Quiet.ite) | (with_reducible apply Quiet.foldl) | split
    | (with_reducible refine Quiet.mk' ?_ rfl rfl rfl rfl rfl rfl rfl rfl rfl rfl rfl) | dsimp -zeta only)

theorem readRowMember_quiet (j : Nat) (r : RowJob) (s : State) (m : Nat) (hss : Quiet s₀ s) : Quiet s₀
    (readRowMember j r s m) := by
  unfold readRowMember
  repeat' (first
    | (with_reducible assumption)
    | (intro u; first | (refine (fun (_ : Quiet s₀ u) => ?_) ?_; clear_value u; rotate_left; dsimp -zeta only [u]; rotate_right) | clear_value u)
    | intro _ | lift_lets -underBinder | (with_reducible apply Quiet.ite) | (with_reducible apply Quiet.foldl)
    | (with_reducible apply addRead_quiet) | split
    | (with_reducible refine Quiet.mk' ?_ rfl rfl rfl rfl rfl rfl rfl rfl rfl rfl rfl) | dsimp -zeta only)

theorem runRow_quiet (s : State) (j : Nat) (hss : Quiet s₀ s) : Quiet s₀ (runRow s j) := by
  unfold runRow
  repeat' (first
    | (with_reducible assumption)
    | (intro u; first | (refine (fun (_ : Quiet s₀ u) => ?_) ?_; clear_value u; rotate_left; dsimp -zeta only [u]; rotate_right) | clear_value u)
    | intro _ | lift_lets -underBinder | (with_reducible apply Quiet.ite) | (with_reducible apply Quiet.foldl)
    | (with_reducible apply dropRow_quiet) | (with_reducible apply loseRow_quiet)
    | (with_reducible apply needLost_quiet) | (with_reducible apply needWaits_quiet)
    | (with_reducible apply queuePqe_quiet) | (with_reducible apply readRowMember_quiet)
    | (with_reducible apply rowBeyond_quiet) | split
    | (with_reducible refine Quiet.mk' ?_ rfl rfl rfl rfl rfl rfl rfl rfl rfl rfl rfl) | dsimp -zeta only)

theorem startRow_quiet (s : State) (key : Nat) (t : Stripe) (row : Nat) (target : Nat) (bad : List Nat) (x : Need)
    (hss : Quiet s₀ s) : Quiet s₀ (startRow s key t row target bad x) := by
  unfold startRow
  repeat' (first
    | (with_reducible assumption)
    | (intro u; first | (refine (fun (_ : Quiet s₀ u) => ?_) ?_; clear_value u; rotate_left; dsimp -zeta only [u]; rotate_right) | clear_value u)
    | intro _ | lift_lets -underBinder | (with_reducible apply Quiet.ite) | (with_reducible apply Quiet.foldl)
    | (with_reducible apply runRow_quiet) | (with_reducible apply traceFlag_quiet) | split
    | (with_reducible refine Quiet.mk' ?_ rfl rfl rfl rfl rfl rfl rfl rfl rfl rfl rfl) | dsimp -zeta only)

theorem fetchSector_quiet (s : State) (ns : Nat) (zone : Nat) (sector : Nat) (x : Need) (hss : Quiet s₀ s) : Quiet
    s₀ (fetchSector s ns zone sector x) := by
  unfold fetchSector
  repeat' (first
    | (with_reducible assumption)
    | (intro u; first | (refine (fun (_ : Quiet s₀ u) => ?_) ?_; clear_value u; rotate_left; dsimp -zeta only [u]; rotate_right) | clear_value u)
    | intro _ | lift_lets -underBinder | (with_reducible apply Quiet.ite) | (with_reducible apply Quiet.foldl)
    | (with_reducible apply addRead_quiet) | (with_reducible apply loseLogSector_quiet)
    | (with_reducible apply needLost_quiet) | (with_reducible apply needWaits_quiet)
    | (with_reducible apply startRow_quiet) | split
    | (with_reducible refine Quiet.mk' ?_ rfl rfl rfl rfl rfl rfl rfl rfl rfl rfl rfl) | dsimp -zeta only)

theorem startRead_quiet (s : State) (q : Nat) (hss : Quiet s₀ s) : Quiet s₀ (startRead s q) := by
  unfold startRead
  repeat' (first
    | (with_reducible assumption)
    | (intro u; first | (refine (fun (_ : Quiet s₀ u) => ?_) ?_; clear_value u; rotate_left; dsimp -zeta only [u]; rotate_right) | clear_value u)
    | intro _ | lift_lets -underBinder | (with_reducible apply Quiet.ite) | (with_reducible apply Quiet.foldl)
    | (with_reducible apply fetchSector_quiet) | (with_reducible apply finishRead_quiet)
    | (with_reducible apply setCmd_quiet) | (with_reducible apply stamp_quiet) | split
    | (with_reducible refine Quiet.mk' ?_ rfl rfl rfl rfl rfl rfl rfl rfl rfl rfl rfl) | dsimp -zeta only)

theorem startRefill_quiet (s : State) (k : Nat) (hss : Quiet s₀ s) : Quiet s₀ (startRefill s k) := by
  unfold startRefill
  repeat' (first
    | (with_reducible assumption)
    | (intro u; first | (refine (fun (_ : Quiet s₀ u) => ?_) ?_; clear_value u; rotate_left; dsimp -zeta only [u]; rotate_right) | clear_value u)
    | intro _ | lift_lets -underBinder | (with_reducible apply Quiet.ite) | (with_reducible apply Quiet.foldl)
    | (with_reducible apply fetchSector_quiet) | split
    | (with_reducible refine Quiet.mk' ?_ rfl rfl rfl rfl rfl rfl rfl rfl rfl rfl rfl) | dsimp -zeta only)

theorem resumeWaits_quiet (s : State) (hss : Quiet s₀ s) : Quiet s₀ (resumeWaits s) := by
  unfold resumeWaits
  repeat' (first
    | (with_reducible assumption)
    | (intro u; first | (refine (fun (_ : Quiet s₀ u) => ?_) ?_; clear_value u; rotate_left; dsimp -zeta only [u]; rotate_right) | clear_value u)
    | intro _ | lift_lets -underBinder | (with_reducible apply Quiet.ite) | (with_reducible apply Quiet.foldl)
    | (with_reducible apply fetchSector_quiet) | (with_reducible apply finishRead_quiet)
    | (with_reducible apply setCmd_quiet) | (with_reducible apply startRefill_quiet) | split
    | (with_reducible refine Quiet.mk' ?_ rfl rfl rfl rfl rfl rfl rfl rfl rfl rfl rfl) | dsimp -zeta only)

theorem suspectBlock_quiet (s : State) (slot : Nat) (a : FlashAddr) (hss : Quiet s₀ s) : Quiet s₀ (suspectBlock s
    slot a) := by
  unfold suspectBlock
  repeat' (first
    | (with_reducible assumption)
    | (intro u; first | (refine (fun (_ : Quiet s₀ u) => ?_) ?_; clear_value u; rotate_left; dsimp -zeta only [u]; rotate_right) | clear_value u)
    | intro _ | lift_lets -underBinder | (with_reducible apply Quiet.ite) | (with_reducible apply Quiet.foldl)
    | (with_reducible apply setBlock_quiet) | split
    | (with_reducible refine Quiet.mk' ?_ rfl rfl rfl rfl rfl rfl rfl rfl rfl rfl rfl) | dsimp -zeta only)

theorem addScore_quiet (s : State) (slot : Nat) (a : FlashAddr) (k : Nat) (hss : Quiet s₀ s) : Quiet s₀ (addScore
    s slot a k) := by
  unfold addScore
  repeat' (first
    | (with_reducible assumption)
    | (intro u; first | (refine (fun (_ : Quiet s₀ u) => ?_) ?_; clear_value u; rotate_left; dsimp -zeta only [u]; rotate_right) | clear_value u)
    | intro _ | lift_lets -underBinder | (with_reducible apply Quiet.ite) | (with_reducible apply Quiet.foldl)
    | (with_reducible apply setBlock_quiet) | split
    | (with_reducible refine Quiet.mk' ?_ rfl rfl rfl rfl rfl rfl rfl rfl rfl rfl rfl) | dsimp -zeta only)

theorem dropLogPlace_quiet (s : State) (key : Nat) (slot : Nat) (a : FlashAddr) (cw : Nat) (hss : Quiet s₀ s) :
    Quiet s₀ (dropLogPlace s key slot a cw) := by
  unfold dropLogPlace
  repeat' (first
    | (with_reducible assumption)
    | (intro u; first | (refine (fun (_ : Quiet s₀ u) => ?_) ?_; clear_value u; rotate_left; dsimp -zeta only [u]; rotate_right) | clear_value u)
    | intro _ | lift_lets -underBinder | (with_reducible apply Quiet.ite) | (with_reducible apply Quiet.foldl)
    | (with_reducible apply journal_quiet) | split
    | (with_reducible refine Quiet.mk' ?_ rfl rfl rfl rfl rfl rfl rfl rfl rfl rfl rfl) | dsimp -zeta only)

theorem sectorUnreadable_quiet (s : State) (ns : Nat) (zone : Nat) (sector : Nat) (slot : Nat) (a : FlashAddr) (cw
    : Nat) (x : Need) (hss : Quiet s₀ s) : Quiet s₀ (sectorUnreadable s ns zone sector slot a cw x) := by
  unfold sectorUnreadable
  repeat' (first
    | (with_reducible assumption)
    | (intro u; first | (refine (fun (_ : Quiet s₀ u) => ?_) ?_; clear_value u; rotate_left; dsimp -zeta only [u]; rotate_right) | clear_value u)
    | intro _ | lift_lets -underBinder | (with_reducible apply Quiet.ite) | (with_reducible apply Quiet.foldl)
    | (with_reducible apply dropLogPlace_quiet) | (with_reducible apply fetchSector_quiet)
    | (with_reducible apply startRow_quiet) | split
    | (with_reducible refine Quiet.mk' ?_ rfl rfl rfl rfl rfl rfl rfl rfl rfl rfl rfl) | dsimp -zeta only)

theorem needUnreadable_quiet (s : State) (slot : Nat) (a : FlashAddr) (cw : Nat) (x : Need) (hss : Quiet s₀ s) :
    Quiet s₀ (needUnreadable s slot a cw x) := by
  unfold needUnreadable
  repeat' (first
    | (with_reducible assumption)
    | (intro u; first | (refine (fun (_ : Quiet s₀ u) => ?_) ?_; clear_value u; rotate_left; dsimp -zeta only [u]; rotate_right) | clear_value u)
    | intro _ | lift_lets -underBinder | (with_reducible apply Quiet.ite) | (with_reducible apply Quiet.foldl)
    | (with_reducible apply runRow_quiet) | (with_reducible apply sectorUnreadable_quiet) | split
    | (with_reducible refine Quiet.mk' ?_ rfl rfl rfl rfl rfl rfl rfl rfl rfl rfl rfl) | dsimp -zeta only)

theorem unreadable_quiet (s : State) (slot : Nat) (a : FlashAddr) (cw : Nat) (x : Need) (hss : Quiet s₀ s) : Quiet
    s₀ (unreadable s slot a cw x) := by
  unfold unreadable
  repeat' (first
    | (with_reducible assumption)
    | (intro u; first | (refine (fun (_ : Quiet s₀ u) => ?_) ?_; clear_value u; rotate_left; dsimp -zeta only [u]; rotate_right) | clear_value u)
    | intro _ | lift_lets -underBinder | (with_reducible apply Quiet.ite) | (with_reducible apply Quiet.foldl)
    | (with_reducible apply bump_quiet) | (with_reducible apply needUnreadable_quiet)
    | (with_reducible apply suspectBlock_quiet) | split
    | (with_reducible refine Quiet.mk' ?_ rfl rfl rfl rfl rfl rfl rfl rfl rfl rfl rfl) | dsimp -zeta only)

theorem putClimb_quiet (s : State) (c : Climb) (hss : Quiet s₀ s) : Quiet s₀ (putClimb s c) := by
  unfold putClimb
  repeat' (first
    | (with_reducible assumption)
    | (intro u; first | (refine (fun (_ : Quiet s₀ u) => ?_) ?_; clear_value u; rotate_left; dsimp -zeta only [u]; rotate_right) | clear_value u)
    | intro _ | lift_lets -underBinder | (with_reducible apply Quiet.ite) | (with_reducible apply Quiet.foldl) | split
    | (with_reducible refine Quiet.mk' ?_ rfl rfl rfl rfl rfl rfl rfl rfl rfl rfl rfl) | dsimp -zeta only)

theorem ladderStep_quiet (s : State) (c : Climb) (k : Nat) (hss : Quiet s₀ s) : Quiet s₀ (ladderStep s c k) := by
  unfold ladderStep
  repeat' (first
    | (with_reducible assumption)
    | (intro u; first | (refine (fun (_ : Quiet s₀ u) => ?_) ?_; clear_value u; rotate_left; dsimp -zeta only [u]; rotate_right) | clear_value u)
    | intro _ | lift_lets -underBinder | (with_reducible apply Quiet.ite) | (with_reducible apply Quiet.foldl)
    | (with_reducible apply addRead_quiet) | (with_reducible apply pmcEvent_quiet)
    | (with_reducible apply putClimb_quiet) | (with_reducible apply step_quiet)
    | (refine step_quiet_eq ?_ (by with_reducible assumption)) | split
    | (with_reducible refine Quiet.mk' ?_ rfl rfl rfl rfl rfl rfl rfl rfl rfl rfl rfl) | dsimp -zeta only)

theorem softStep_quiet (s : State) (c : Climb) (hss : Quiet s₀ s) : Quiet s₀ (softStep s c) := by
  unfold softStep
  repeat' (first
    | (with_reducible assumption)
    | (intro u; first | (refine (fun (_ : Quiet s₀ u) => ?_) ?_; clear_value u; rotate_left; dsimp -zeta only [u]; rotate_right) | clear_value u)
    | intro _ | lift_lets -underBinder | (with_reducible apply Quiet.ite) | (with_reducible apply Quiet.foldl)
    | (with_reducible apply addRead_quiet) | (with_reducible apply putClimb_quiet) | (with_reducible apply step_quiet)
    | (refine step_quiet_eq ?_ (by with_reducible assumption)) | split
    | (with_reducible refine Quiet.mk' ?_ rfl rfl rfl rfl rfl rfl rfl rfl rfl rfl rfl) | dsimp -zeta only)

theorem nextStep_quiet (s : State) (c : Climb) (hss : Quiet s₀ s) : Quiet s₀ (nextStep s c) := by
  unfold nextStep
  repeat' (first
    | (with_reducible assumption)
    | (intro u; first | (refine (fun (_ : Quiet s₀ u) => ?_) ?_; clear_value u; rotate_left; dsimp -zeta only [u]; rotate_right) | clear_value u)
    | intro _ | lift_lets -underBinder | (with_reducible apply Quiet.ite) | (with_reducible apply Quiet.foldl)
    | (with_reducible apply ladderStep_quiet) | (with_reducible apply softStep_quiet)
    | (with_reducible apply step_quiet) | (refine step_quiet_eq ?_ (by with_reducible assumption))
    | (with_reducible apply unreadable_quiet) | split
    | (with_reducible refine Quiet.mk' ?_ rfl rfl rfl rfl rfl rfl rfl rfl rfl rfl rfl) | dsimp -zeta only)

theorem settleClimb_quiet (s : State) (slot : Nat) (a : FlashAddr) (hss : Quiet s₀ s) : Quiet s₀ (settleClimb s
    slot a) := by
  unfold settleClimb
  repeat' (first
    | (with_reducible assumption)
    | (intro u; first | (refine (fun (_ : Quiet s₀ u) => ?_) ?_; clear_value u; rotate_left; dsimp -zeta only [u]; rotate_right) | clear_value u)
    | intro _ | lift_lets -underBinder | (with_reducible apply Quiet.ite) | (with_reducible apply Quiet.foldl)
    | (with_reducible apply nextStep_quiet) | split
    | (with_reducible refine Quiet.mk' ?_ rfl rfl rfl rfl rfl rfl rfl rfl rfl rfl rfl) | dsimp -zeta only)

theorem stepFailed_quiet (s : State) (slot : Nat) (a : FlashAddr) (cw : Nat) (step : Nat) (tag : Nat) (x : Need)
    (cand : Option (Nat × Nat)) (hss : Quiet s₀ s) : Quiet s₀ (stepFailed s slot a cw step tag x cand) := by
  unfold stepFailed
  repeat' (first
    | (with_reducible assumption)
    | (intro u; first | (refine (fun (_ : Quiet s₀ u) => ?_) ?_; clear_value u; rotate_left; dsimp -zeta only [u]; rotate_right) | clear_value u)
    | intro _ | lift_lets -underBinder | (with_reducible apply Quiet.ite) | (with_reducible apply Quiet.foldl)
    | (with_reducible apply addRead_quiet) | (with_reducible apply nextStep_quiet)
    | (with_reducible apply putClimb_quiet) | (with_reducible apply settleClimb_quiet)
    | (with_reducible apply step_quiet) | (refine step_quiet_eq ?_ (by with_reducible assumption)) | split
    | (with_reducible refine Quiet.mk' ?_ rfl rfl rfl rfl rfl rfl rfl rfl rfl rfl rfl) | dsimp -zeta only)

theorem readFailed_quiet (s : State) (slot : Nat) (tag : Nat) (c : LinkCmd) (hss : Quiet s₀ s) : Quiet s₀
    (readFailed s slot tag c) := by
  unfold readFailed
  repeat' (first
    | (with_reducible assumption)
    | (intro u; first | (refine (fun (_ : Quiet s₀ u) => ?_) ?_; clear_value u; rotate_left; dsimp -zeta only [u]; rotate_right) | clear_value u)
    | intro _ | lift_lets -underBinder | (with_reducible apply Quiet.ite) | (with_reducible apply Quiet.foldl)
    | (with_reducible apply putClimb_quiet) | (with_reducible apply settleClimb_quiet)
    | (with_reducible apply stepFailed_quiet) | (with_reducible apply unreadable_quiet) | split
    | (with_reducible refine Quiet.mk' ?_ rfl rfl rfl rfl rfl rfl rfl rfl rfl rfl rfl) | dsimp -zeta only)

theorem readLost_quiet (s : State) (slot : Nat) (c : LinkCmd) (hss : Quiet s₀ s) : Quiet s₀ (readLost s slot c) :=
    by
  unfold readLost
  repeat' (first
    | (with_reducible assumption)
    | (intro u; first | (refine (fun (_ : Quiet s₀ u) => ?_) ?_; clear_value u; rotate_left; dsimp -zeta only [u]; rotate_right) | clear_value u)
    | intro _ | lift_lets -underBinder | (with_reducible apply Quiet.ite) | (with_reducible apply Quiet.foldl)
    | (with_reducible apply putClimb_quiet) | (with_reducible apply settleClimb_quiet)
    | (with_reducible apply unreadable_quiet) | split
    | (with_reducible refine Quiet.mk' ?_ rfl rfl rfl rfl rfl rfl rfl rfl rfl rfl rfl) | dsimp -zeta only)

theorem readPassed_quiet (s : State) (slot : Nat) (tag : Nat) (c : LinkCmd) (hss : Quiet s₀ s) : Quiet s₀
    (readPassed s slot tag c) := by
  unfold readPassed
  repeat' (first
    | (with_reducible assumption)
    | (intro u; first | (refine (fun (_ : Quiet s₀ u) => ?_) ?_; clear_value u; rotate_left; dsimp -zeta only [u]; rotate_right) | clear_value u)
    | intro _ | lift_lets -underBinder | (with_reducible apply Quiet.ite) | (with_reducible apply Quiet.foldl)
    | (with_reducible apply step_quiet) | (refine step_quiet_eq ?_ (by with_reducible assumption)) | split
    | (with_reducible refine Quiet.mk' ?_ rfl rfl rfl rfl rfl rfl rfl rfl rfl rfl rfl) | dsimp -zeta only)

theorem giveCodeword_quiet (s : State) (x : Need) (data : List Byte) (hss : Quiet s₀ s) : Quiet s₀ (giveCodeword s
    x data) := by
  unfold giveCodeword
  repeat' (first
    | (with_reducible assumption)
    | (intro u; first | (refine (fun (_ : Quiet s₀ u) => ?_) ?_; clear_value u; rotate_left; dsimp -zeta only [u]; rotate_right) | clear_value u)
    | intro _ | lift_lets -underBinder | (with_reducible apply Quiet.ite) | (with_reducible apply Quiet.foldl)
    | (with_reducible apply giveSector_quiet) | (with_reducible apply runRow_quiet) | split
    | (with_reducible refine Quiet.mk' ?_ rfl rfl rfl rfl rfl rfl rfl rfl rfl rfl rfl) | dsimp -zeta only)

theorem decodePassed_quiet (s : State) (j : DecodeJob) (data : List Byte) (hss : Quiet s₀ s) : Quiet s₀
    (decodePassed s j data) := by
  unfold decodePassed
  repeat' (first
    | (with_reducible assumption)
    | (intro u; first | (refine (fun (_ : Quiet s₀ u) => ?_) ?_; clear_value u; rotate_left; dsimp -zeta only [u]; rotate_right) | clear_value u)
    | intro _ | lift_lets -underBinder | (with_reducible apply Quiet.ite) | (with_reducible apply Quiet.foldl)
    | (with_reducible apply addScore_quiet) | (with_reducible apply bump_quiet)
    | (with_reducible apply giveCodeword_quiet) | (with_reducible apply putClimb_quiet)
    | (with_reducible apply settleClimb_quiet) | (with_reducible apply step_quiet)
    | (refine step_quiet_eq ?_ (by with_reducible assumption)) | (with_reducible apply traceFlag_quiet) | split
    | (with_reducible refine Quiet.mk' ?_ rfl rfl rfl rfl rfl rfl rfl rfl rfl rfl rfl) | dsimp -zeta only)

theorem decodeFailed_quiet (s : State) (e : Nat) (j : DecodeJob) (checks : Nat) (hss : Quiet s₀ s) : Quiet s₀
    (decodeFailed s e j checks) := by
  unfold decodeFailed
  repeat' (first
    | (with_reducible assumption)
    | (intro u; first | (refine (fun (_ : Quiet s₀ u) => ?_) ?_; clear_value u; rotate_left; dsimp -zeta only [u]; rotate_right) | clear_value u)
    | intro _ | lift_lets -underBinder | (with_reducible apply Quiet.ite) | (with_reducible apply Quiet.foldl)
    | (with_reducible apply alert_quiet) | (with_reducible apply bump_quiet) | (with_reducible apply pmcEvent_quiet)
    | (with_reducible apply putClimb_quiet) | (with_reducible apply settleClimb_quiet)
    | (with_reducible apply step_quiet) | (refine step_quiet_eq ?_ (by with_reducible assumption))
    | (with_reducible apply stepFailed_quiet) | (with_reducible apply unreadable_quiet) | split
    | (with_reducible refine Quiet.mk' ?_ rfl rfl rfl rfl rfl rfl rfl rfl rfl rfl rfl) | dsimp -zeta only)

theorem codewordDecode_quiet (s : State) (slot : Nat) (tag : Nat) (index : Nat) (r : DecodeResult) (hss : Quiet s₀
    s) : Quiet s₀ (codewordDecode s slot tag index r) := by
  unfold codewordDecode
  repeat' (first
    | (with_reducible assumption)
    | (intro u; first | (refine (fun (_ : Quiet s₀ u) => ?_) ?_; clear_value u; rotate_left; dsimp -zeta only [u]; rotate_right) | clear_value u)
    | intro _ | lift_lets -underBinder | (with_reducible apply Quiet.ite) | (with_reducible apply Quiet.foldl)
    | (with_reducible apply alert_quiet) | (with_reducible apply bump_quiet) | (with_reducible apply bumpBy_quiet)
    | (with_reducible apply decodeFailed_quiet) | (with_reducible apply decodePassed_quiet)
    | (with_reducible apply pmcEvent_quiet) | (with_reducible apply step_quiet)
    | (refine step_quiet_eq ?_ (by with_reducible assumption)) | split
    | (with_reducible refine Quiet.mk' ?_ rfl rfl rfl rfl rfl rfl rfl rfl rfl rfl rfl) | dsimp -zeta only)

theorem pqeWorked_quiet (s : State) (i : Nat) (n : Nat) (hss : Quiet s₀ s) : Quiet s₀ (pqeWorked s i n) := by
  unfold pqeWorked
  repeat' (first
    | (with_reducible assumption)
    | (intro u; first | (refine (fun (_ : Quiet s₀ u) => ?_) ?_; clear_value u; rotate_left; dsimp -zeta only [u]; rotate_right) | clear_value u)
    | intro _ | lift_lets -underBinder | (with_reducible apply Quiet.ite) | (with_reducible apply Quiet.foldl)
    | (with_reducible apply bumpBy_quiet) | (with_reducible apply pmcEvent_quiet) | split
    | (with_reducible refine Quiet.mk' ?_ rfl rfl rfl rfl rfl rfl rfl rfl rfl rfl rfl) | dsimp -zeta only)

theorem parityDone_quiet (s : State) (i : Nat) (key : Nat) (hss : Quiet s₀ s) : Quiet s₀ (parityDone s i key) :=
    by
  unfold parityDone
  repeat' (first
    | (with_reducible assumption)
    | (intro u; first | (refine (fun (_ : Quiet s₀ u) => ?_) ?_; clear_value u; rotate_left; dsimp -zeta only [u]; rotate_right) | clear_value u)
    | intro _ | lift_lets -underBinder | (with_reducible apply Quiet.ite) | (with_reducible apply Quiet.foldl)
    | (with_reducible apply bump_quiet) | (with_reducible apply pqeWorked_quiet) | (with_reducible apply setFold_quiet)
    | (with_reducible apply tryRelease_quiet) | split
    | (with_reducible refine Quiet.mk' ?_ rfl rfl rfl rfl rfl rfl rfl rfl rfl rfl rfl) | dsimp -zeta only)

theorem rowDone_quiet (s : State) (i : Nat) (j : Nat) (hss : Quiet s₀ s) : Quiet s₀ (rowDone s i j) := by
  unfold rowDone
  repeat' (first
    | (with_reducible assumption)
    | (intro u; first | (refine (fun (_ : Quiet s₀ u) => ?_) ?_; clear_value u; rotate_left; dsimp -zeta only [u]; rotate_right) | clear_value u)
    | intro _ | lift_lets -underBinder | (with_reducible apply Quiet.ite) | (with_reducible apply Quiet.foldl)
    | (with_reducible apply bump_quiet) | (with_reducible apply dropRow_quiet) | (with_reducible apply giveSector_quiet)
    | (with_reducible apply pmcEvent_quiet) | (with_reducible apply pqeWorked_quiet) | split
    | (with_reducible refine Quiet.mk' ?_ rfl rfl rfl rfl rfl rfl rfl rfl rfl rfl rfl) | dsimp -zeta only)

theorem pqeFailed_quiet (s : State) (i : Nat) (addr : Nat) (job : PqeJob) (hss : Quiet s₀ s) : Quiet s₀ (pqeFailed
    s i addr job) := by
  unfold pqeFailed
  repeat' (first
    | (with_reducible assumption)
    | (intro u; first | (refine (fun (_ : Quiet s₀ u) => ?_) ?_; clear_value u; rotate_left; dsimp -zeta only [u]; rotate_right) | clear_value u)
    | intro _ | lift_lets -underBinder | (with_reducible apply Quiet.ite) | (with_reducible apply Quiet.foldl)
    | (with_reducible apply abandonStripe_quiet) | (with_reducible apply blockError_quiet)
    | (with_reducible apply complete_quiet) | (with_reducible apply dropRow_quiet) | (with_reducible apply runRow_quiet)
    | split | (with_reducible refine Quiet.mk' ?_ rfl rfl rfl rfl rfl rfl rfl rfl rfl rfl rfl) | dsimp -zeta only)

theorem pqeJobDone_quiet (s : State) (i : Nat) (r : PqeResult) (hss : Quiet s₀ s) : Quiet s₀ (pqeJobDone s i r) :=
    by
  unfold pqeJobDone
  repeat' (first
    | (with_reducible assumption)
    | (intro u; first | (refine (fun (_ : Quiet s₀ u) => ?_) ?_; clear_value u; rotate_left; dsimp -zeta only [u]; rotate_right) | clear_value u)
    | intro _ | lift_lets -underBinder | (with_reducible apply Quiet.ite) | (with_reducible apply Quiet.foldl)
    | (with_reducible apply dispatchPqe_quiet) | (with_reducible apply parityDone_quiet)
    | (with_reducible apply pqeFailed_quiet) | (with_reducible apply rowDone_quiet) | split
    | (with_reducible refine Quiet.mk' ?_ rfl rfl rfl rfl rfl rfl rfl rfl rfl rfl rfl) | dsimp -zeta only)

theorem sectorDecrypted_quiet (s : State) (q : Nat) (key : Nat) (sector : Nat) (hss : Quiet s₀ s) : Quiet s₀
    (sectorDecrypted s q key sector) := by
  unfold sectorDecrypted
  repeat' (first
    | (with_reducible assumption)
    | (intro u; first | (refine (fun (_ : Quiet s₀ u) => ?_) ?_; clear_value u; rotate_left; dsimp -zeta only [u]; rotate_right) | clear_value u)
    | intro _ | lift_lets -underBinder | (with_reducible apply Quiet.ite) | (with_reducible apply Quiet.foldl)
    | (with_reducible apply finishRead_quiet) | (with_reducible apply setCmd_quiet) | split
    | (with_reducible refine Quiet.mk' ?_ rfl rfl rfl rfl rfl rfl rfl rfl rfl rfl rfl) | dsimp -zeta only)

theorem openChunk_quiet (s : State) (c : Command) (key : Nat) (k : Nat) (hss : Quiet s₀ s) : Quiet s₀ (openChunk s
    c key k) := by
  unfold openChunk
  repeat' (first
    | (with_reducible assumption)
    | (intro u; first | (refine (fun (_ : Quiet s₀ u) => ?_) ?_; clear_value u; rotate_left; dsimp -zeta only [u]; rotate_right) | clear_value u)
    | intro _ | lift_lets -underBinder | (with_reducible apply Quiet.ite) | (with_reducible apply Quiet.foldl)
    | (with_reducible apply setRegion_quiet) | split
    | (with_reducible refine Quiet.mk' ?_ rfl rfl rfl rfl rfl rfl rfl rfl rfl rfl rfl) | dsimp -zeta only)

theorem chunkOpened_quiet (s : State) (q : Nat) (key : Nat) (k : Nat) (tagOk : Bool) (hss : Quiet s₀ s) : Quiet s₀
    (chunkOpened s q key k tagOk) := by
  unfold chunkOpened
  repeat' (first
    | (with_reducible assumption)
    | (intro u; first | (refine (fun (_ : Quiet s₀ u) => ?_) ?_; clear_value u; rotate_left; dsimp -zeta only [u]; rotate_right) | (refine (fun (_ : Quiet s₀ u.2) => ?_) ?_; clear_value u; rotate_left; dsimp -zeta only [u]; rotate_right) | (refine (fun (_ : Quiet s₀ u.2.2) => ?_) ?_; clear_value u; rotate_left; dsimp -zeta only [u]; rotate_right) | clear_value u)
    | intro _ | lift_lets -underBinder | (with_reducible apply Quiet.ite) | (with_reducible apply Quiet.foldl)
    | (with_reducible apply dropJobs_quiet) | (refine dropJobs_quiet_eq ?_ (by with_reducible assumption))
    | (with_reducible apply failWrite_quiet) | (with_reducible apply openChunk_quiet)
    | (with_reducible apply setCmd_quiet) | split
    | (with_reducible refine Quiet.mk' ?_ rfl rfl rfl rfl rfl rfl rfl rfl rfl rfl rfl) | dsimp -zeta only)

theorem chunkSealed_quiet (s : State) (q : Nat) (key : Nat) (k : Nat) (hss : Quiet s₀ s) : Quiet s₀ (chunkSealed s
    q key k) := by
  unfold chunkSealed
  repeat' (first
    | (with_reducible assumption)
    | (intro u; first | (refine (fun (_ : Quiet s₀ u) => ?_) ?_; clear_value u; rotate_left; dsimp -zeta only [u]; rotate_right) | clear_value u)
    | intro _ | lift_lets -underBinder | (with_reducible apply Quiet.ite) | (with_reducible apply Quiet.foldl)
    | (with_reducible apply sendPayload_quiet) | (with_reducible apply setCmd_quiet) | split
    | (with_reducible refine Quiet.mk' ?_ rfl rfl rfl rfl rfl rfl rfl rfl rfl rfl rfl) | dsimp -zeta only)

theorem cryptoJobDone_quiet (s : State) (i : Nat) (tagOk : Bool) (hss : Quiet s₀ s) : Quiet s₀ (cryptoJobDone s i
    tagOk) := by
  unfold cryptoJobDone
  repeat' (first
    | (with_reducible assumption)
    | (intro u; first | (refine (fun (_ : Quiet s₀ u) => ?_) ?_; clear_value u; rotate_left; dsimp -zeta only [u]; rotate_right) | clear_value u)
    | intro _ | lift_lets -underBinder | (with_reducible apply Quiet.ite) | (with_reducible apply Quiet.foldl)
    | (with_reducible apply chunkOpened_quiet) | (with_reducible apply chunkSealed_quiet)
    | (with_reducible apply dispatchJobs_quiet) | (with_reducible apply endJob_quiet)
    | (with_reducible apply sectorDecrypted_quiet) | (with_reducible apply sectorEncrypted_quiet) | split
    | (with_reducible refine Quiet.mk' ?_ rfl rfl rfl rfl rfl rfl rfl rfl rfl rfl rfl) | dsimp -zeta only)

theorem haltCommand_quiet (s : State) (q : Nat) (hss : Quiet s₀ s) : Quiet s₀ (haltCommand s q) := by
  unfold haltCommand
  repeat' (first
    | (with_reducible assumption)
    | (intro u; first | (refine (fun (_ : Quiet s₀ u) => ?_) ?_; clear_value u; rotate_left; dsimp -zeta only [u]; rotate_right) | (refine (fun (_ : Quiet s₀ u.2) => ?_) ?_; clear_value u; rotate_left; dsimp -zeta only [u]; rotate_right) | (refine (fun (_ : Quiet s₀ u.2.2) => ?_) ?_; clear_value u; rotate_left; dsimp -zeta only [u]; rotate_right) | clear_value u)
    | intro _ | lift_lets -underBinder | (with_reducible apply Quiet.ite) | (with_reducible apply Quiet.foldl)
    | (with_reducible apply complete_quiet) | (with_reducible apply dropJobs_quiet)
    | (refine dropJobs_quiet_eq ?_ (by with_reducible assumption)) | (with_reducible apply failPadding_quiet)
    | (with_reducible apply failWrite_quiet) | (with_reducible apply failZone_quiet) | split
    | (with_reducible refine Quiet.mk' ?_ rfl rfl rfl rfl rfl rfl rfl rfl rfl rfl rfl) | dsimp -zeta only)

theorem stopCores_quiet (s : State) (p : CryptoJob → Bool) (hss : Quiet s₀ s) : Quiet s₀ (stopCores s p).2 := by
  unfold stopCores
  repeat' (first
    | (with_reducible assumption)
    | (intro u; first | (refine (fun (_ : Quiet s₀ u) => ?_) ?_; clear_value u; rotate_left; dsimp -zeta only [u]; rotate_right) | (refine (fun (_ : Quiet s₀ u.2) => ?_) ?_; clear_value u; rotate_left; dsimp -zeta only [u]; rotate_right) | (refine (fun (_ : Quiet s₀ u.2.2) => ?_) ?_; clear_value u; rotate_left; dsimp -zeta only [u]; rotate_right) | clear_value u)
    | intro _ | lift_lets -underBinder | (with_reducible apply Quiet.ite) | (with_reducible apply Quiet.foldl)
    | (with_reducible apply haltCount_quiet) | (with_reducible apply setCore_quiet) | split
    | (with_reducible refine Quiet.mk' ?_ rfl rfl rfl rfl rfl rfl rfl rfl rfl rfl rfl) | dsimp -zeta only)
theorem stopCores_quiet_eq {s : State} {p : CryptoJob → Bool} {e0 : List Nat} {t : State} (hss : Quiet s₀ s) (e :
    stopCores s p = (e0, t)) : Quiet s₀ t := by
  have := stopCores_quiet s p hss
  rw [e] at this
  exact this

theorem haltJobs_quiet (s : State) (p : CryptoJob → Bool) (hss : Quiet s₀ s) : Quiet s₀ (haltJobs s p) := by
  unfold haltJobs
  repeat' (first
    | (with_reducible assumption)
    | (intro u; first | (refine (fun (_ : Quiet s₀ u) => ?_) ?_; clear_value u; rotate_left; dsimp -zeta only [u]; rotate_right) | (refine (fun (_ : Quiet s₀ u.2) => ?_) ?_; clear_value u; rotate_left; dsimp -zeta only [u]; rotate_right) | (refine (fun (_ : Quiet s₀ u.2.2) => ?_) ?_; clear_value u; rotate_left; dsimp -zeta only [u]; rotate_right) | clear_value u)
    | intro _ | lift_lets -underBinder | (with_reducible apply Quiet.ite) | (with_reducible apply Quiet.foldl)
    | (with_reducible apply dispatchJobs_quiet) | (with_reducible apply dropJobs_quiet)
    | (refine dropJobs_quiet_eq ?_ (by with_reducible assumption)) | (with_reducible apply haltCommand_quiet)
    | (with_reducible apply stopCores_quiet) | (refine stopCores_quiet_eq ?_ (by with_reducible assumption)) | split
    | (with_reducible refine Quiet.mk' ?_ rfl rfl rfl rfl rfl rfl rfl rfl rfl rfl rfl) | dsimp -zeta only)

end Sys2Proof.Machine
end

