-- ==== Sys2Proof/Laws/QuietMembers.lean ====
section
/-! SUPPORT. The operations of Machine/Members.lean that keep `Quiet`. -/
namespace Sys2Proof.Machine
variable {s₀ : State}

theorem replaceProgram_quiet (slot : Nat) (s : State) (c : LinkCmd) (hss : Quiet s₀ s) : Quiet s₀ (replaceProgram
    slot s c) := by
  unfold replaceProgram
  repeat' (first
    | (with_reducible assumption)
    | (intro u; first | (refine (fun (_ : Quiet s₀ u) => ?_) ?_; clear_value u; rotate_left; dsimp -zeta only [u]; rotate_right) | clear_value u)
    | intro _ | lift_lets -underBinder | (with_reducible apply Quiet.ite) | (with_reducible apply Quiet.foldl)
    | (with_reducible apply journal_quiet) | (with_reducible apply replaceJournal_quiet)
    | (with_reducible apply replaceLog_quiet) | (with_reducible apply replaceStrip_quiet) | split
    | (with_reducible refine Quiet.mk' ?_ rfl rfl rfl rfl rfl rfl rfl rfl rfl rfl rfl) | dsimp -zeta only)

theorem retireBlock_quiet (s : State) (slot : Nat) (a : FlashAddr) (hss : Quiet s₀ s) : Quiet s₀ (retireBlock s
    slot a) := by
  unfold retireBlock
  repeat' (first
    | (with_reducible assumption)
    | (intro u; first | (refine (fun (_ : Quiet s₀ u) => ?_) ?_; clear_value u; rotate_left; dsimp -zeta only [u]; rotate_right) | clear_value u)
    | intro _ | lift_lets -underBinder | (with_reducible apply Quiet.ite) | (with_reducible apply Quiet.foldl)
    | (with_reducible apply replaceProgram_quiet) | (with_reducible apply setBlock_quiet) | split
    | (with_reducible refine Quiet.mk' ?_ rfl rfl rfl rfl rfl rfl rfl rfl rfl rfl rfl) | dsimp -zeta only)

theorem programFailed_quiet (s : State) (slot : Nat) (c : LinkCmd) (hss : Quiet s₀ s) : Quiet s₀ (programFailed s
    slot c) := by
  unfold programFailed
  repeat' (first
    | (with_reducible assumption)
    | (intro u; first | (refine (fun (_ : Quiet s₀ u) => ?_) ?_; clear_value u; rotate_left; dsimp -zeta only [u]; rotate_right) | clear_value u)
    | intro _ | lift_lets -underBinder | (with_reducible apply Quiet.ite) | (with_reducible apply Quiet.foldl)
    | (with_reducible apply replaceProgram_quiet) | (with_reducible apply retireBlock_quiet) | split
    | (with_reducible refine Quiet.mk' ?_ rfl rfl rfl rfl rfl rfl rfl rfl rfl rfl rfl) | dsimp -zeta only)

theorem eraseFailed_quiet (s : State) (slot : Nat) (c : LinkCmd) (hss : Quiet s₀ s) : Quiet s₀ (eraseFailed s slot
    c) := by
  unfold eraseFailed
  repeat' (first
    | (with_reducible assumption)
    | (intro u; first | (refine (fun (_ : Quiet s₀ u) => ?_) ?_; clear_value u; rotate_left; dsimp -zeta only [u]; rotate_right) | clear_value u)
    | intro _ | lift_lets -underBinder | (with_reducible apply Quiet.ite) | (with_reducible apply Quiet.foldl)
    | (with_reducible apply retireBlock_quiet) | split
    | (with_reducible refine Quiet.mk' ?_ rfl rfl rfl rfl rfl rfl rfl rfl rfl rfl rfl) | dsimp -zeta only)

theorem rerouteNeed_quiet (s : State) (x : Need) (hss : Quiet s₀ s) : Quiet s₀ (rerouteNeed s x) := by
  unfold rerouteNeed
  repeat' (first
    | (with_reducible assumption)
    | (intro u; first | (refine (fun (_ : Quiet s₀ u) => ?_) ?_; clear_value u; rotate_left; dsimp -zeta only [u]; rotate_right) | clear_value u)
    | intro _ | lift_lets -underBinder | (with_reducible apply Quiet.ite) | (with_reducible apply Quiet.foldl)
    | (with_reducible apply fetchSector_quiet) | (with_reducible apply runRow_quiet) | split
    | (with_reducible refine Quiet.mk' ?_ rfl rfl rfl rfl rfl rfl rfl rfl rfl rfl rfl) | dsimp -zeta only)

theorem rerouteSlot_quiet (s : State) (slot : Nat) (hss : Quiet s₀ s) : Quiet s₀ (rerouteSlot s slot) := by
  unfold rerouteSlot
  repeat' (first
    | (with_reducible assumption)
    | (intro u; first | (refine (fun (_ : Quiet s₀ u) => ?_) ?_; clear_value u; rotate_left; dsimp -zeta only [u]; rotate_right) | clear_value u)
    | intro _ | lift_lets -underBinder | (with_reducible apply Quiet.ite) | (with_reducible apply Quiet.foldl)
    | (with_reducible apply rerouteNeed_quiet) | split
    | (with_reducible refine Quiet.mk' ?_ rfl rfl rfl rfl rfl rfl rfl rfl rfl rfl rfl) | dsimp -zeta only)

theorem endedCommand_quiet (slot : Nat) (s : State) (c : LinkCmd) (hss : Quiet s₀ s) : Quiet s₀ (endedCommand slot
    s c) := by
  unfold endedCommand
  repeat' (first
    | (with_reducible assumption)
    | (intro u; first | (refine (fun (_ : Quiet s₀ u) => ?_) ?_; clear_value u; rotate_left; dsimp -zeta only [u]; rotate_right) | clear_value u)
    | intro _ | lift_lets -underBinder | (with_reducible apply Quiet.ite) | (with_reducible apply Quiet.foldl)
    | (with_reducible apply eraseFailed_quiet) | (with_reducible apply programFailed_quiet) | split
    | (with_reducible refine Quiet.mk' ?_ rfl rfl rfl rfl rfl rfl rfl rfl rfl rfl rfl) | dsimp -zeta only)

theorem countTimeout_quiet (slot : Nat) (s : State) (e : Nat × LinkCmd) (hss : Quiet s₀ s) : Quiet s₀
    (countTimeout slot s e) := by
  unfold countTimeout
  repeat' (first
    | (with_reducible assumption)
    | (intro u; first | (refine (fun (_ : Quiet s₀ u) => ?_) ?_; clear_value u; rotate_left; dsimp -zeta only [u]; rotate_right) | clear_value u)
    | intro _ | lift_lets -underBinder | (with_reducible apply Quiet.ite) | (with_reducible apply Quiet.foldl)
    | (with_reducible apply alert_quiet) | (with_reducible apply blockError_quiet) | (with_reducible apply bump_quiet)
    | split | (with_reducible refine Quiet.mk' ?_ rfl rfl rfl rfl rfl rfl rfl rfl rfl rfl rfl) | dsimp -zeta only)

theorem endSlotCommands_quiet (s : State) (slot : Nat) (hss : Quiet s₀ s) : Quiet s₀ (endSlotCommands s slot) :=
    by
  unfold endSlotCommands
  repeat' (first
    | (with_reducible assumption)
    | (intro u; first | (refine (fun (_ : Quiet s₀ u) => ?_) ?_; clear_value u; rotate_left; dsimp -zeta only [u]; rotate_right) | clear_value u)
    | intro _ | lift_lets -underBinder | (with_reducible apply Quiet.ite) | (with_reducible apply Quiet.foldl)
    | (with_reducible apply countTimeout_quiet) | (with_reducible apply endedCommand_quiet)
    | (with_reducible apply rerouteNeed_quiet) | split
    | (with_reducible refine Quiet.mk' ?_ rfl rfl rfl rfl rfl rfl rfl rfl rfl rfl rfl) | dsimp -zeta only)

theorem seedPage_quiet (g : Nat) (m : Nat) (s : State) (es : List (Nat × Nat)) (hss : Quiet s₀ s) : Quiet s₀
    (seedPage g m s es) := by
  unfold seedPage
  repeat' (first
    | (with_reducible assumption)
    | (intro u; first | (refine (fun (_ : Quiet s₀ u) => ?_) ?_; clear_value u; rotate_left; dsimp -zeta only [u]; rotate_right) | clear_value u)
    | intro _ | lift_lets -underBinder | (with_reducible apply Quiet.ite) | (with_reducible apply Quiet.foldl)
    | (with_reducible apply journalTo_quiet) | (with_reducible apply setGroup_quiet) | split
    | (with_reducible refine Quiet.mk' ?_ rfl rfl rfl rfl rfl rfl rfl rfl rfl rfl rfl) | dsimp -zeta only)

theorem seedRole_quiet (s : State) (g : Nat) (role : Nat) (hss : Quiet s₀ s) : Quiet s₀ (seedRole s g role) := by
  unfold seedRole
  repeat' (first
    | (with_reducible assumption)
    | (intro u; first | (refine (fun (_ : Quiet s₀ u) => ?_) ?_; clear_value u; rotate_left; dsimp -zeta only [u]; rotate_right) | clear_value u)
    | intro _ | lift_lets -underBinder | (with_reducible apply Quiet.ite) | (with_reducible apply Quiet.foldl)
    | (with_reducible apply seedDone_quiet) | (with_reducible apply seedPage_quiet)
    | (with_reducible apply setGroup_quiet) | split
    | (with_reducible refine Quiet.mk' ?_ rfl rfl rfl rfl rfl rfl rfl rfl rfl rfl rfl) | dsimp -zeta only)

theorem replaceJournalMember_quiet (s : State) (g : Nat) (m : Nat) (hss : Quiet s₀ s) : Quiet s₀
    (replaceJournalMember s g m) := by
  unfold replaceJournalMember
  repeat' (first
    | (with_reducible assumption)
    | (intro u; first | (refine (fun (_ : Quiet s₀ u) => ?_) ?_; clear_value u; rotate_left; dsimp -zeta only [u]; rotate_right) | clear_value u)
    | intro _ | lift_lets -underBinder | (with_reducible apply Quiet.ite) | (with_reducible apply Quiet.foldl)
    | (with_reducible apply seedRole_quiet) | (with_reducible apply setGroup_quiet)
    | (with_reducible apply tryReleaseGroup_quiet) | split
    | (with_reducible refine Quiet.mk' ?_ rfl rfl rfl rfl rfl rfl rfl rfl rfl rfl rfl) | dsimp -zeta only)

theorem retryRoles_quiet (s : State) (g : Nat) (hss : Quiet s₀ s) : Quiet s₀ (retryRoles s g) := by
  unfold retryRoles
  repeat' (first
    | (with_reducible assumption)
    | (intro u; first | (refine (fun (_ : Quiet s₀ u) => ?_) ?_; clear_value u; rotate_left; dsimp -zeta only [u]; rotate_right) | clear_value u)
    | intro _ | lift_lets -underBinder | (with_reducible apply Quiet.ite) | (with_reducible apply Quiet.foldl)
    | (with_reducible apply seedRole_quiet) | split
    | (with_reducible refine Quiet.mk' ?_ rfl rfl rfl rfl rfl rfl rfl rfl rfl rfl rfl) | dsimp -zeta only)

theorem retryLogs_quiet (s : State) (g : Nat) (hss : Quiet s₀ s) : Quiet s₀ (retryLogs s g) := by
  unfold retryLogs
  repeat' (first
    | (with_reducible assumption)
    | (intro u; first | (refine (fun (_ : Quiet s₀ u) => ?_) ?_; clear_value u; rotate_left; dsimp -zeta only [u]; rotate_right) | clear_value u)
    | intro _ | lift_lets -underBinder | (with_reducible apply Quiet.ite) | (with_reducible apply Quiet.foldl)
    | (with_reducible apply releaseLog_quiet) | split
    | (with_reducible refine Quiet.mk' ?_ rfl rfl rfl rfl rfl rfl rfl rfl rfl rfl rfl) | dsimp -zeta only)

theorem memberChanged_quiet (s : State) (g : Nat) (hss : Quiet s₀ s) : Quiet s₀ (memberChanged s g) := by
  unfold memberChanged
  repeat' (first
    | (with_reducible assumption)
    | (intro u; first | (refine (fun (_ : Quiet s₀ u) => ?_) ?_; clear_value u; rotate_left; dsimp -zeta only [u]; rotate_right) | clear_value u)
    | intro _ | lift_lets -underBinder | (with_reducible apply Quiet.ite) | (with_reducible apply Quiet.foldl)
    | (with_reducible apply recheckZones_quiet) | (with_reducible apply resumeWaits_quiet)
    | (with_reducible apply retryLogs_quiet) | (with_reducible apply retryRoles_quiet) | split
    | (with_reducible refine Quiet.mk' ?_ rfl rfl rfl rfl rfl rfl rfl rfl rfl rfl rfl) | dsimp -zeta only)

theorem replaceWork_quiet (s : State) (g : Nat) (m : Nat) (slot : Nat) (hss : Quiet s₀ s) : Quiet s₀ (replaceWork
    s g m slot) := by
  unfold replaceWork
  repeat' (first
    | (with_reducible assumption)
    | (intro u; first | (refine (fun (_ : Quiet s₀ u) => ?_) ?_; clear_value u; rotate_left; dsimp -zeta only [u]; rotate_right) | clear_value u)
    | intro _ | lift_lets -underBinder | (with_reducible apply Quiet.ite) | (with_reducible apply Quiet.foldl)
    | (with_reducible apply replaceLog_quiet) | (with_reducible apply replaceStrip_quiet) | split
    | (with_reducible refine Quiet.mk' ?_ rfl rfl rfl rfl rfl rfl rfl rfl rfl rfl rfl) | dsimp -zeta only)

theorem memberOut_quiet (s : State) (g : Nat) (m : Nat) (hss : Quiet s₀ s) : Quiet s₀ (memberOut s g m) := by
  unfold memberOut
  repeat' (first
    | (with_reducible assumption)
    | (intro u; first | (refine (fun (_ : Quiet s₀ u) => ?_) ?_; clear_value u; rotate_left; dsimp -zeta only [u]; rotate_right) | clear_value u)
    | intro _ | lift_lets -underBinder | (with_reducible apply Quiet.ite) | (with_reducible apply Quiet.foldl)
    | (with_reducible apply alertAt_quiet) | (with_reducible apply memberChanged_quiet)
    | (with_reducible apply putMember_quiet) | (with_reducible apply replaceJournalMember_quiet)
    | (with_reducible apply replaceWork_quiet) | (with_reducible apply rerouteSlot_quiet) | split
    | (with_reducible refine Quiet.mk' ?_ rfl rfl rfl rfl rfl rfl rfl rfl rfl rfl rfl) | dsimp -zeta only)

theorem slotLeftActive_quiet (s : State) (slot : Nat) (hss : Quiet s₀ s) : Quiet s₀ (slotLeftActive s slot) := by
  unfold slotLeftActive
  repeat' (first
    | (with_reducible assumption)
    | (intro u; first | (refine (fun (_ : Quiet s₀ u) => ?_) ?_; clear_value u; rotate_left; dsimp -zeta only [u]; rotate_right) | clear_value u)
    | intro _ | lift_lets -underBinder | (with_reducible apply Quiet.ite) | (with_reducible apply Quiet.foldl)
    | (with_reducible apply memberOut_quiet) | split
    | (with_reducible refine Quiet.mk' ?_ rfl rfl rfl rfl rfl rfl rfl rfl rfl rfl rfl) | dsimp -zeta only)

theorem setSpare_quiet (s : State) (slot : Nat) (v : Bool) (hss : Quiet s₀ s) : Quiet s₀ (setSpare s slot v) := by
  unfold setSpare
  repeat' (first
    | (with_reducible assumption)
    | (intro u; first | (refine (fun (_ : Quiet s₀ u) => ?_) ?_; clear_value u; rotate_left; dsimp -zeta only [u]; rotate_right) | clear_value u)
    | intro _ | lift_lets -underBinder | (with_reducible apply Quiet.ite) | (with_reducible apply Quiet.foldl)
    | (with_reducible apply setField_quiet) | split
    | (with_reducible refine Quiet.mk' ?_ rfl rfl rfl rfl rfl rfl rfl rfl rfl rfl rfl) | dsimp -zeta only)

theorem purgeSlot_quiet (s : State) (slot : Nat) (hss : Quiet s₀ s) : Quiet s₀ (purgeSlot s slot) := by
  unfold purgeSlot
  repeat' (first
    | (with_reducible assumption)
    | (intro u; first | (refine (fun (_ : Quiet s₀ u) => ?_) ?_; clear_value u; rotate_left; dsimp -zeta only [u]; rotate_right) | clear_value u)
    | intro _ | lift_lets -underBinder | (with_reducible apply Quiet.ite) | (with_reducible apply Quiet.foldl)
    | (with_reducible apply journal_quiet) | split
    | (with_reducible refine Quiet.mk' ?_ rfl rfl rfl rfl rfl rfl rfl rfl rfl rfl rfl) | dsimp -zeta only)

theorem romOrderOn_quiet (s : State) (g : Nat) (slot : Nat) (hss : Quiet s₀ s) : Quiet s₀ (romOrderOn s g slot) :=
    by
  unfold romOrderOn
  repeat' (first
    | (with_reducible assumption)
    | (intro u; first | (refine (fun (_ : Quiet s₀ u) => ?_) ?_; clear_value u; rotate_left; dsimp -zeta only [u]; rotate_right) | clear_value u)
    | intro _ | lift_lets -underBinder | (with_reducible apply Quiet.ite) | (with_reducible apply Quiet.foldl)
    | (with_reducible apply actOrder_quiet) | split
    | (with_reducible refine Quiet.mk' ?_ rfl rfl rfl rfl rfl rfl rfl rfl rfl rfl rfl) | dsimp -zeta only)

theorem startRebuild_quiet (s : State) (g : Nat) (m : Nat) (hss : Quiet s₀ s) : Quiet s₀ (startRebuild s g m) :=
    by
  unfold startRebuild
  repeat' (first
    | (with_reducible assumption)
    | (intro u; first | (refine (fun (_ : Quiet s₀ u) => ?_) ?_; clear_value u; rotate_left; dsimp -zeta only [u]; rotate_right) | clear_value u)
    | intro _ | lift_lets -underBinder | (with_reducible apply Quiet.ite) | (with_reducible apply Quiet.foldl)
    | (with_reducible apply purgeSlot_quiet) | (with_reducible apply putMember_quiet)
    | (with_reducible apply setChan_quiet) | (with_reducible apply setSpare_quiet) | split
    | (with_reducible refine Quiet.mk' ?_ rfl rfl rfl rfl rfl rfl rfl rfl rfl rfl rfl) | dsimp -zeta only)

theorem loseRows_quiet (s : State) (g : Nat) (hss : Quiet s₀ s) : Quiet s₀ (loseRows s g) := by
  unfold loseRows
  repeat' (first
    | (with_reducible assumption)
    | (intro u; first | (refine (fun (_ : Quiet s₀ u) => ?_) ?_; clear_value u; rotate_left; dsimp -zeta only [u]; rotate_right) | clear_value u)
    | intro _ | lift_lets -underBinder | (with_reducible apply Quiet.ite) | (with_reducible apply Quiet.foldl)
    | (with_reducible apply loseRow_quiet) | split
    | (with_reducible refine Quiet.mk' ?_ rfl rfl rfl rfl rfl rfl rfl rfl rfl rfl rfl) | dsimp -zeta only)

theorem memberFailed_quiet (s : State) (g : Nat) (m : Nat) (hss : Quiet s₀ s) : Quiet s₀ (memberFailed s g m) :=
    by
  unfold memberFailed
  repeat' (first
    | (with_reducible assumption)
    | (intro u; first | (refine (fun (_ : Quiet s₀ u) => ?_) ?_; clear_value u; rotate_left; dsimp -zeta only [u]; rotate_right) | clear_value u)
    | intro _ | lift_lets -underBinder | (with_reducible apply Quiet.ite) | (with_reducible apply Quiet.foldl)
    | (with_reducible apply alertAt_quiet) | (with_reducible apply endSlotCommands_quiet)
    | (with_reducible apply groupLost_quiet) | (with_reducible apply loseRows_quiet)
    | (with_reducible apply memberChanged_quiet) | (with_reducible apply putMember_quiet)
    | (with_reducible apply replaceJournalMember_quiet) | (with_reducible apply replaceWork_quiet)
    | (with_reducible apply rerouteSlot_quiet) | (with_reducible apply startRebuild_quiet) | split
    | (with_reducible refine Quiet.mk' ?_ rfl rfl rfl rfl rfl rfl rfl rfl rfl rfl rfl) | dsimp -zeta only)

theorem recordModule_quiet (s : State) (slot : Nat) (m : Module) (fresh : Bool) (hss : Quiet s₀ s) : Quiet s₀
    (recordModule s slot m fresh) := by
  unfold recordModule
  repeat' (first
    | (with_reducible assumption)
    | (intro u; first | (refine (fun (_ : Quiet s₀ u) => ?_) ?_; clear_value u; rotate_left; dsimp -zeta only [u]; rotate_right) | clear_value u)
    | intro _ | lift_lets -underBinder | (with_reducible apply Quiet.ite) | (with_reducible apply Quiet.foldl) | split
    | (with_reducible refine Quiet.mk' ?_ rfl rfl rfl rfl rfl rfl rfl rfl rfl rfl rfl) | dsimp -zeta only)

theorem placeModule_quiet (s : State) (slot : Nat) (m : Module) (fresh : Bool) (hss : Quiet s₀ s) : Quiet s₀
    (placeModule s slot m fresh) := by
  unfold placeModule
  repeat' (first
    | (with_reducible assumption)
    | (intro u; first | (refine (fun (_ : Quiet s₀ u) => ?_) ?_; clear_value u; rotate_left; dsimp -zeta only [u]; rotate_right) | clear_value u)
    | intro _ | lift_lets -underBinder | (with_reducible apply Quiet.ite) | (with_reducible apply Quiet.foldl)
    | (with_reducible apply journal_quiet) | (with_reducible apply recordModule_quiet) | split
    | (with_reducible refine Quiet.mk' ?_ rfl rfl rfl rfl rfl rfl rfl rfl rfl rfl rfl) | dsimp -zeta only)

theorem fillIndex_quiet (s : State) (g : Nat) (m : Nat) (slot : Nat) (mo : Module) (st : MemberState) (hss : Quiet
    s₀ s) : Quiet s₀ (fillIndex s g m slot mo st) := by
  unfold fillIndex
  repeat' (first
    | (with_reducible assumption)
    | (intro u; first | (refine (fun (_ : Quiet s₀ u) => ?_) ?_; clear_value u; rotate_left; dsimp -zeta only [u]; rotate_right) | clear_value u)
    | intro _ | lift_lets -underBinder | (with_reducible apply Quiet.ite) | (with_reducible apply Quiet.foldl)
    | (with_reducible apply memberChanged_quiet) | (with_reducible apply placeModule_quiet)
    | (with_reducible apply purgeSlot_quiet) | (with_reducible apply putMember_quiet) | split
    | (with_reducible refine Quiet.mk' ?_ rfl rfl rfl rfl rfl rfl rfl rfl rfl rfl rfl) | dsimp -zeta only)

theorem resyncDone_quiet (s : State) (g : Nat) (m : Nat) (hss : Quiet s₀ s) : Quiet s₀ (resyncDone s g m) := by
  unfold resyncDone
  repeat' (first
    | (with_reducible assumption)
    | (intro u; first | (refine (fun (_ : Quiet s₀ u) => ?_) ?_; clear_value u; rotate_left; dsimp -zeta only [u]; rotate_right) | clear_value u)
    | intro _ | lift_lets -underBinder | (with_reducible apply Quiet.ite) | (with_reducible apply Quiet.foldl)
    | (with_reducible apply alertAt_quiet) | (with_reducible apply memberChanged_quiet)
    | (with_reducible apply putMember_quiet) | split
    | (with_reducible refine Quiet.mk' ?_ rfl rfl rfl rfl rfl rfl rfl rfl rfl rfl rfl) | dsimp -zeta only)

theorem resumeMember_quiet (s : State) (g : Nat) (m : Nat) (slot : Nat) (y : Member) (mo : Module) (hss : Quiet s₀
    s) : Quiet s₀ (resumeMember s g m slot y mo) := by
  unfold resumeMember
  repeat' (first
    | (with_reducible assumption)
    | (intro u; first | (refine (fun (_ : Quiet s₀ u) => ?_) ?_; clear_value u; rotate_left; dsimp -zeta only [u]; rotate_right) | clear_value u)
    | intro _ | lift_lets -underBinder | (with_reducible apply Quiet.ite) | (with_reducible apply Quiet.foldl)
    | (with_reducible apply memberChanged_quiet) | (with_reducible apply placeModule_quiet)
    | (with_reducible apply putMember_quiet) | (with_reducible apply resyncDone_quiet) | split
    | (with_reducible refine Quiet.mk' ?_ rfl rfl rfl rfl rfl rfl rfl rfl rfl rfl rfl) | dsimp -zeta only)

theorem freeSlotModule_quiet (s : State) (slot : Nat) (mo : Module) (hss : Quiet s₀ s) : Quiet s₀ (freeSlotModule
    s slot mo) := by
  unfold freeSlotModule
  repeat' (first
    | (with_reducible assumption)
    | (intro u; first | (refine (fun (_ : Quiet s₀ u) => ?_) ?_; clear_value u; rotate_left; dsimp -zeta only [u]; rotate_right) | clear_value u)
    | intro _ | lift_lets -underBinder | (with_reducible apply Quiet.ite) | (with_reducible apply Quiet.foldl)
    | (with_reducible apply placeModule_quiet) | (with_reducible apply setSpare_quiet) | split
    | (with_reducible refine Quiet.mk' ?_ rfl rfl rfl rfl rfl rfl rfl rfl rfl rfl rfl) | dsimp -zeta only)

theorem newModule_quiet (s : State) (g : Nat) (m : Nat) (slot : Nat) (mo : Module) (hss : Quiet s₀ s) : Quiet s₀
    (newModule s g m slot mo) := by
  unfold newModule
  repeat' (first
    | (with_reducible assumption)
    | (intro u; first | (refine (fun (_ : Quiet s₀ u) => ?_) ?_; clear_value u; rotate_left; dsimp -zeta only [u]; rotate_right) | clear_value u)
    | intro _ | lift_lets -underBinder | (with_reducible apply Quiet.ite) | (with_reducible apply Quiet.foldl)
    | (with_reducible apply fillIndex_quiet) | (with_reducible apply freeSlotModule_quiet)
    | (with_reducible apply placeModule_quiet) | (with_reducible apply putMember_quiet) | split
    | (with_reducible refine Quiet.mk' ?_ rfl rfl rfl rfl rfl rfl rfl rfl rfl rfl rfl) | dsimp -zeta only)

theorem treatModule_quiet (s : State) (slot : Nat) (mo : Module) (hss : Quiet s₀ s) : Quiet s₀ (treatModule s slot
    mo) := by
  unfold treatModule
  repeat' (first
    | (with_reducible assumption)
    | (intro u; first | (refine (fun (_ : Quiet s₀ u) => ?_) ?_; clear_value u; rotate_left; dsimp -zeta only [u]; rotate_right) | clear_value u)
    | intro _ | lift_lets -underBinder | (with_reducible apply Quiet.ite) | (with_reducible apply Quiet.foldl)
    | (with_reducible apply freeSlotModule_quiet) | (with_reducible apply memberFailed_quiet)
    | (with_reducible apply newModule_quiet) | (with_reducible apply placeModule_quiet)
    | (with_reducible apply putMember_quiet) | (with_reducible apply resumeMember_quiet) | split
    | (with_reducible refine Quiet.mk' ?_ rfl rfl rfl rfl rfl rfl rfl rfl rfl rfl rfl) | dsimp -zeta only)

end Sys2Proof.Machine
end

