-- ==== Sys2Proof/Laws/QuietLink.lean ====
section
/-! SUPPORT. The operations of Machine/Link.lean that keep `Quiet`. -/
namespace Sys2Proof.Machine
variable {s₀ : State}

theorem putLink_quiet (s : State) (n : Nat) (l : Link) (hss : Quiet s₀ s) : Quiet s₀ (putLink s n l) := by
  unfold putLink
  repeat' (first
    | (with_reducible assumption)
    | (intro u; first | (refine (fun (_ : Quiet s₀ u) => ?_) ?_; clear_value u; rotate_left; dsimp -zeta only [u]; rotate_right) | clear_value u)
    | intro _ | lift_lets -underBinder | (with_reducible apply Quiet.ite) | (with_reducible apply Quiet.foldl) | split
    | (with_reducible refine Quiet.mk' ?_ rfl rfl rfl rfl rfl rfl rfl rfl rfl rfl rfl) | dsimp -zeta only)

theorem linkToDown_quiet (s : State) (n : Nat) (reset : Bool) (hss : Quiet s₀ s) : Quiet s₀ (linkToDown s n reset)
    := by
  unfold linkToDown
  repeat' (first
    | (with_reducible assumption)
    | (intro u; first | (refine (fun (_ : Quiet s₀ u) => ?_) ?_; clear_value u; rotate_left; dsimp -zeta only [u]; rotate_right) | clear_value u)
    | intro _ | lift_lets -underBinder | (with_reducible apply Quiet.ite) | (with_reducible apply Quiet.foldl)
    | (with_reducible apply alert_quiet) | (with_reducible apply endSlotCommands_quiet)
    | (with_reducible apply putLink_quiet) | (with_reducible apply slotLeftActive_quiet) | split
    | (with_reducible refine Quiet.mk' ?_ rfl rfl rfl rfl rfl rfl rfl rfl rfl rfl rfl) | dsimp -zeta only)

theorem assertMrst_quiet (s : State) (n : Nat) (hss : Quiet s₀ s) : Quiet s₀ (assertMrst s n) := by
  unfold assertMrst
  repeat' (first
    | (with_reducible assumption)
    | (intro u; first | (refine (fun (_ : Quiet s₀ u) => ?_) ?_; clear_value u; rotate_left; dsimp -zeta only [u]; rotate_right) | clear_value u)
    | intro _ | lift_lets -underBinder | (with_reducible apply Quiet.ite) | (with_reducible apply Quiet.foldl)
    | (with_reducible apply emit_quiet) | (with_reducible apply linkToDown_quiet) | (with_reducible apply putLink_quiet)
    | (with_reducible apply setField_quiet) | split
    | (with_reducible refine Quiet.mk' ?_ rfl rfl rfl rfl rfl rfl rfl rfl rfl rfl rfl) | dsimp -zeta only)

theorem dropMrst_quiet (s : State) (n : Nat) (hss : Quiet s₀ s) : Quiet s₀ (dropMrst s n) := by
  unfold dropMrst
  repeat' (first
    | (with_reducible assumption)
    | (intro u; first | (refine (fun (_ : Quiet s₀ u) => ?_) ?_; clear_value u; rotate_left; dsimp -zeta only [u]; rotate_right) | clear_value u)
    | intro _ | lift_lets -underBinder | (with_reducible apply Quiet.ite) | (with_reducible apply Quiet.foldl)
    | (with_reducible apply emit_quiet) | (with_reducible apply putLink_quiet) | split
    | (with_reducible refine Quiet.mk' ?_ rfl rfl rfl rfl rfl rfl rfl rfl rfl rfl rfl) | dsimp -zeta only)

theorem releaseMrst_quiet (s : State) (n : Nat) (hss : Quiet s₀ s) : Quiet s₀ (releaseMrst s n) := by
  unfold releaseMrst
  repeat' (first
    | (with_reducible assumption)
    | (intro u; first | (refine (fun (_ : Quiet s₀ u) => ?_) ?_; clear_value u; rotate_left; dsimp -zeta only [u]; rotate_right) | clear_value u)
    | intro _ | lift_lets -underBinder | (with_reducible apply Quiet.ite) | (with_reducible apply Quiet.foldl)
    | (with_reducible apply dropMrst_quiet) | (with_reducible apply putLink_quiet)
    | (with_reducible apply setField_quiet) | split
    | (with_reducible refine Quiet.mk' ?_ rfl rfl rfl rfl rfl rfl rfl rfl rfl rfl rfl) | dsimp -zeta only)

theorem mrstEffect_quiet (n : Nat) (x1 : State) (after : State) (hsafter : Quiet s₀ after) : Quiet s₀ (mrstEffect
    n x1 after) := by
  unfold mrstEffect
  repeat' (first
    | (with_reducible assumption)
    | (intro u; first | (refine (fun (_ : Quiet s₀ u) => ?_) ?_; clear_value u; rotate_left; dsimp -zeta only [u]; rotate_right) | clear_value u)
    | intro _ | lift_lets -underBinder | (with_reducible apply Quiet.ite) | (with_reducible apply Quiet.foldl)
    | (with_reducible apply assertMrst_quiet) | (with_reducible apply releaseMrst_quiet) | split
    | (with_reducible refine Quiet.mk' ?_ rfl rfl rfl rfl rfl rfl rfl rfl rfl rfl rfl) | dsimp -zeta only)

theorem mrstRelease_quiet (s : State) (n : Nat) (hss : Quiet s₀ s) : Quiet s₀ (mrstRelease s n) := by
  unfold mrstRelease
  repeat' (first
    | (with_reducible assumption)
    | (intro u; first | (refine (fun (_ : Quiet s₀ u) => ?_) ?_; clear_value u; rotate_left; dsimp -zeta only [u]; rotate_right) | clear_value u)
    | intro _ | lift_lets -underBinder | (with_reducible apply Quiet.ite) | (with_reducible apply Quiet.foldl)
    | (with_reducible apply clockTo_quiet) | (with_reducible apply dropMrst_quiet) | split
    | (with_reducible refine Quiet.mk' ?_ rfl rfl rfl rfl rfl rfl rfl rfl rfl rfl rfl) | dsimp -zeta only)

theorem trainingStart_quiet (s : State) (n : Nat) (hss : Quiet s₀ s) : Quiet s₀ (trainingStart s n) := by
  unfold trainingStart
  repeat' (first
    | (with_reducible assumption)
    | (intro u; first | (refine (fun (_ : Quiet s₀ u) => ?_) ?_; clear_value u; rotate_left; dsimp -zeta only [u]; rotate_right) | clear_value u)
    | intro _ | lift_lets -underBinder | (with_reducible apply Quiet.ite) | (with_reducible apply Quiet.foldl)
    | (with_reducible apply clockTo_quiet) | (with_reducible apply emit_quiet) | (with_reducible apply putLink_quiet)
    | split | (with_reducible refine Quiet.mk' ?_ rfl rfl rfl rfl rfl rfl rfl rfl rfl rfl rfl) | dsimp -zeta only)

theorem trainTimeout_quiet (s : State) (n : Nat) (hss : Quiet s₀ s) : Quiet s₀ (trainTimeout s n) := by
  unfold trainTimeout
  repeat' (first
    | (with_reducible assumption)
    | (intro u; first | (refine (fun (_ : Quiet s₀ u) => ?_) ?_; clear_value u; rotate_left; dsimp -zeta only [u]; rotate_right) | clear_value u)
    | intro _ | lift_lets -underBinder | (with_reducible apply Quiet.ite) | (with_reducible apply Quiet.foldl)
    | (with_reducible apply bump_quiet) | (with_reducible apply clockTo_quiet) | (with_reducible apply putLink_quiet)
    | split | (with_reducible refine Quiet.mk' ?_ rfl rfl rfl rfl rfl rfl rfl rfl rfl rfl rfl) | dsimp -zeta only)

theorem askIdentity_quiet (s : State) (n : Nat) (hss : Quiet s₀ s) : Quiet s₀ (askIdentity s n) := by
  unfold askIdentity
  repeat' (first
    | (with_reducible assumption)
    | (intro u; first | (refine (fun (_ : Quiet s₀ u) => ?_) ?_; clear_value u; rotate_left; dsimp -zeta only [u]; rotate_right) | clear_value u)
    | intro _ | lift_lets -underBinder | (with_reducible apply Quiet.ite) | (with_reducible apply Quiet.foldl)
    | (with_reducible apply pushCmd_quiet) | split
    | (with_reducible refine Quiet.mk' ?_ rfl rfl rfl rfl rfl rfl rfl rfl rfl rfl rfl) | dsimp -zeta only)

theorem serialSeen_quiet (s : State) (n : Nat) (serial : List Byte) (hss : Quiet s₀ s) : Quiet s₀ (serialSeen s n
    serial) := by
  unfold serialSeen
  repeat' (first
    | (with_reducible assumption)
    | (intro u; first | (refine (fun (_ : Quiet s₀ u) => ?_) ?_; clear_value u; rotate_left; dsimp -zeta only [u]; rotate_right) | clear_value u)
    | intro _ | lift_lets -underBinder | (with_reducible apply Quiet.ite) | (with_reducible apply Quiet.foldl)
    | (with_reducible apply memberFailed_quiet) | split
    | (with_reducible refine Quiet.mk' ?_ rfl rfl rfl rfl rfl rfl rfl rfl rfl rfl rfl) | dsimp -zeta only)

theorem linkUpAlert_quiet (s : State) (n : Nat) (hss : Quiet s₀ s) : Quiet s₀ (linkUpAlert s n) := by
  unfold linkUpAlert
  repeat' (first
    | (with_reducible assumption)
    | (intro u; first | (refine (fun (_ : Quiet s₀ u) => ?_) ?_; clear_value u; rotate_left; dsimp -zeta only [u]; rotate_right) | clear_value u)
    | intro _ | lift_lets -underBinder | (with_reducible apply Quiet.ite) | (with_reducible apply Quiet.foldl)
    | (with_reducible apply alert_quiet) | (with_reducible apply askIdentity_quiet) | split
    | (with_reducible refine Quiet.mk' ?_ rfl rfl rfl rfl rfl rfl rfl rfl rfl rfl rfl) | dsimp -zeta only)

theorem linkParam_quiet (s : State) (n : Nat) (p : LinkParam) (hss : Quiet s₀ s) : Quiet s₀ (linkParam s n p) :=
    by
  unfold linkParam
  repeat' (first
    | (with_reducible assumption)
    | (intro u; first | (refine (fun (_ : Quiet s₀ u) => ?_) ?_; clear_value u; rotate_left; dsimp -zeta only [u]; rotate_right) | clear_value u)
    | intro _ | lift_lets -underBinder | (with_reducible apply Quiet.ite) | (with_reducible apply Quiet.foldl)
    | (with_reducible apply emit_quiet) | (with_reducible apply linkUpAlert_quiet)
    | (with_reducible apply putLink_quiet) | (with_reducible apply serialSeen_quiet) | split
    | (with_reducible refine Quiet.mk' ?_ rfl rfl rfl rfl rfl rfl rfl rfl rfl rfl rfl) | dsimp -zeta only)

theorem sendFrame_quiet (s : State) (n : Nat) (tag : Nat) (op : Nat) (hss : Quiet s₀ s) : Quiet s₀ (sendFrame s n
    tag op) := by
  unfold sendFrame
  repeat' (first
    | (with_reducible assumption)
    | (intro u; first | (refine (fun (_ : Quiet s₀ u) => ?_) ?_; clear_value u; rotate_left; dsimp -zeta only [u]; rotate_right) | clear_value u)
    | intro _ | lift_lets -underBinder | (with_reducible apply Quiet.ite) | (with_reducible apply Quiet.foldl)
    | (with_reducible apply countOn_quiet) | (with_reducible apply pmcEvent_quiet)
    | (with_reducible apply putLink_quiet) | split
    | (with_reducible refine Quiet.mk' ?_ rfl rfl rfl rfl rfl rfl rfl rfl rfl rfl rfl) | dsimp -zeta only)

theorem pumpFrames_quiet (n : Nat) (z0 : Nat) (z1 : State) (hsz1 : Quiet s₀ z1) : Quiet s₀ (pumpFrames n z0 z1) :=
    by
  induction z0 generalizing z1 with
  | zero =>
    rw [pumpFrames]
    repeat' (first
      | (with_reducible assumption)
      | (intro u; first | (refine (fun (_ : Quiet s₀ u) => ?_) ?_; clear_value u; rotate_left; dsimp -zeta only [u]; rotate_right) | clear_value u)
      | intro _ | lift_lets -underBinder | (with_reducible apply Quiet.ite) | (with_reducible apply Quiet.foldl)
      | (with_reducible apply putLink_quiet) | (with_reducible apply sendFrame_quiet) | split
      | (with_reducible refine Quiet.mk' ?_ rfl rfl rfl rfl rfl rfl rfl rfl rfl rfl rfl) | dsimp -zeta only)
  | succ z0 ih =>
    rw [pumpFrames]
    repeat' (first
      | (with_reducible apply ih) | (with_reducible assumption)
      | (intro u; first | (refine (fun (_ : Quiet s₀ u) => ?_) ?_; clear_value u; rotate_left; dsimp -zeta only [u]; rotate_right) | clear_value u)
      | intro _ | lift_lets -underBinder | (with_reducible apply Quiet.ite) | (with_reducible apply Quiet.foldl)
      | (with_reducible apply putLink_quiet) | (with_reducible apply sendFrame_quiet) | split
      | (with_reducible refine Quiet.mk' ?_ rfl rfl rfl rfl rfl rfl rfl rfl rfl rfl rfl) | dsimp -zeta only)

theorem pump_quiet (s : State) (n : Nat) (hss : Quiet s₀ s) : Quiet s₀ (pump s n) := by
  unfold pump
  repeat' (first
    | (with_reducible assumption)
    | (intro u; first | (refine (fun (_ : Quiet s₀ u) => ?_) ?_; clear_value u; rotate_left; dsimp -zeta only [u]; rotate_right) | clear_value u)
    | intro _ | lift_lets -underBinder | (with_reducible apply Quiet.ite) | (with_reducible apply Quiet.foldl)
    | (with_reducible apply pumpFrames_quiet) | split
    | (with_reducible refine Quiet.mk' ?_ rfl rfl rfl rfl rfl rfl rfl rfl rfl rfl rfl) | dsimp -zeta only)

theorem ackFrames_quiet (s : State) (n : Nat) (seq : Nat) (hss : Quiet s₀ s) : Quiet s₀ (ackFrames s n seq) := by
  unfold ackFrames
  repeat' (first
    | (with_reducible assumption)
    | (intro u; first | (refine (fun (_ : Quiet s₀ u) => ?_) ?_; clear_value u; rotate_left; dsimp -zeta only [u]; rotate_right) | clear_value u)
    | intro _ | lift_lets -underBinder | (with_reducible apply Quiet.ite) | (with_reducible apply Quiet.foldl)
    | (with_reducible apply pump_quiet) | (with_reducible apply putLink_quiet) | split
    | (with_reducible refine Quiet.mk' ?_ rfl rfl rfl rfl rfl rfl rfl rfl rfl rfl rfl) | dsimp -zeta only)

theorem sendLinkAck_quiet (s : State) (n : Nat) (hss : Quiet s₀ s) : Quiet s₀ (sendLinkAck s n) := by
  unfold sendLinkAck
  repeat' (first
    | (with_reducible assumption)
    | (intro u; first | (refine (fun (_ : Quiet s₀ u) => ?_) ?_; clear_value u; rotate_left; dsimp -zeta only [u]; rotate_right) | clear_value u)
    | intro _ | lift_lets -underBinder | (with_reducible apply Quiet.ite) | (with_reducible apply Quiet.foldl)
    | (with_reducible apply emitAll_quiet) | (with_reducible apply linkAck_quiet) | (with_reducible apply putLink_quiet)
    | split | (with_reducible refine Quiet.mk' ?_ rfl rfl rfl rfl rfl rfl rfl rfl rfl rfl rfl) | dsimp -zeta only)

theorem linkAckTimer_quiet (s : State) (n : Nat) (hss : Quiet s₀ s) : Quiet s₀ (linkAckTimer s n) := by
  unfold linkAckTimer
  repeat' (first
    | (with_reducible assumption)
    | (intro u; first | (refine (fun (_ : Quiet s₀ u) => ?_) ?_; clear_value u; rotate_left; dsimp -zeta only [u]; rotate_right) | clear_value u)
    | intro _ | lift_lets -underBinder | (with_reducible apply Quiet.ite) | (with_reducible apply Quiet.foldl)
    | (with_reducible apply clockTo_quiet) | (with_reducible apply sendLinkAck_quiet) | split
    | (with_reducible refine Quiet.mk' ?_ rfl rfl rfl rfl rfl rfl rfl rfl rfl rfl rfl) | dsimp -zeta only)

theorem replayHeld_quiet (s : State) (n : Nat) (count : Nat → Nat) (hss : Quiet s₀ s) : Quiet s₀ (replayHeld s n
    count) := by
  unfold replayHeld
  repeat' (first
    | (with_reducible assumption)
    | (intro u; first | (refine (fun (_ : Quiet s₀ u) => ?_) ?_; clear_value u; rotate_left; dsimp -zeta only [u]; rotate_right) | clear_value u)
    | intro _ | lift_lets -underBinder | (with_reducible apply Quiet.ite) | (with_reducible apply Quiet.foldl)
    | (with_reducible apply bumpBy_quiet) | (with_reducible apply emitAll_quiet) | (with_reducible apply pmcEvent_quiet)
    | (with_reducible apply putLink_quiet) | split
    | (with_reducible refine Quiet.mk' ?_ rfl rfl rfl rfl rfl rfl rfl rfl rfl rfl rfl) | dsimp -zeta only)

theorem startRetrain_quiet (s : State) (n : Nat) (hss : Quiet s₀ s) : Quiet s₀ (startRetrain s n) := by
  unfold startRetrain
  repeat' (first
    | (with_reducible assumption)
    | (intro u; first | (refine (fun (_ : Quiet s₀ u) => ?_) ?_; clear_value u; rotate_left; dsimp -zeta only [u]; rotate_right) | clear_value u)
    | intro _ | lift_lets -underBinder | (with_reducible apply Quiet.ite) | (with_reducible apply Quiet.foldl)
    | (with_reducible apply bump_quiet) | (with_reducible apply emit_quiet) | (with_reducible apply putLink_quiet)
    | split | (with_reducible refine Quiet.mk' ?_ rfl rfl rfl rfl rfl rfl rfl rfl rfl rfl rfl) | dsimp -zeta only)

theorem enterRetrain_quiet (s : State) (n : Nat) (seq : Nat) (hss : Quiet s₀ s) : Quiet s₀ (enterRetrain s n seq)
    := by
  unfold enterRetrain
  repeat' (first
    | (with_reducible assumption)
    | (intro u; first | (refine (fun (_ : Quiet s₀ u) => ?_) ?_; clear_value u; rotate_left; dsimp -zeta only [u]; rotate_right) | clear_value u)
    | intro _ | lift_lets -underBinder | (with_reducible apply Quiet.ite) | (with_reducible apply Quiet.foldl)
    | (with_reducible apply alert_quiet) | (with_reducible apply blockError_quiet)
    | (with_reducible apply slotLeftActive_quiet) | (with_reducible apply startRetrain_quiet) | split
    | (with_reducible refine Quiet.mk' ?_ rfl rfl rfl rfl rfl rfl rfl rfl rfl rfl rfl) | dsimp -zeta only)

theorem replayAsked_quiet (s : State) (n : Nat) (hss : Quiet s₀ s) : Quiet s₀ (replayAsked s n) := by
  unfold replayAsked
  repeat' (first
    | (with_reducible assumption)
    | (intro u; first | (refine (fun (_ : Quiet s₀ u) => ?_) ?_; clear_value u; rotate_left; dsimp -zeta only [u]; rotate_right) | clear_value u)
    | intro _ | lift_lets -underBinder | (with_reducible apply Quiet.ite) | (with_reducible apply Quiet.foldl)
    | (with_reducible apply enterRetrain_quiet) | (with_reducible apply replayHeld_quiet) | split
    | (with_reducible refine Quiet.mk' ?_ rfl rfl rfl rfl rfl rfl rfl rfl rfl rfl rfl) | dsimp -zeta only)

theorem frameHead_quiet (s : State) (n : Nat) (claim : Nat) (ack : Option Nat) (hss : Quiet s₀ s) : Quiet s₀
    (frameHead s n claim ack) := by
  unfold frameHead
  repeat' (first
    | (with_reducible assumption)
    | (intro u; first | (refine (fun (_ : Quiet s₀ u) => ?_) ?_; clear_value u; rotate_left; dsimp -zeta only [u]; rotate_right) | clear_value u)
    | intro _ | lift_lets -underBinder | (with_reducible apply Quiet.ite) | (with_reducible apply Quiet.foldl)
    | (with_reducible apply ackFrames_quiet) | (with_reducible apply seeClaim_quiet) | split
    | (with_reducible refine Quiet.mk' ?_ rfl rfl rfl rfl rfl rfl rfl rfl rfl rfl rfl) | dsimp -zeta only)

theorem linkAck_quiet (s : State) (n : Nat) (seq : Nat) (claim : Nat) (hss : Quiet s₀ s) : Quiet s₀ (linkAck s n
    seq claim) := by
  unfold linkAck
  repeat' (first
    | (with_reducible assumption)
    | (intro u; first | (refine (fun (_ : Quiet s₀ u) => ?_) ?_; clear_value u; rotate_left; dsimp -zeta only [u]; rotate_right) | clear_value u)
    | intro _ | lift_lets -underBinder | (with_reducible apply Quiet.ite) | (with_reducible apply Quiet.foldl)
    | (with_reducible apply frameHead_quiet) | split
    | (with_reducible refine Quiet.mk' ?_ rfl rfl rfl rfl rfl rfl rfl rfl rfl rfl rfl) | dsimp -zeta only)

theorem linkNak_quiet (s : State) (n : Nat) (seq : Nat) (claim : Nat) (hss : Quiet s₀ s) : Quiet s₀ (linkNak s n
    seq claim) := by
  unfold linkNak
  repeat' (first
    | (with_reducible assumption)
    | (intro u; first | (refine (fun (_ : Quiet s₀ u) => ?_) ?_; clear_value u; rotate_left; dsimp -zeta only [u]; rotate_right) | clear_value u)
    | intro _ | lift_lets -underBinder | (with_reducible apply Quiet.ite) | (with_reducible apply Quiet.foldl)
    | (with_reducible apply putLink_quiet) | (with_reducible apply replayAsked_quiet)
    | (with_reducible apply seeClaim_quiet) | split
    | (with_reducible refine Quiet.mk' ?_ rfl rfl rfl rfl rfl rfl rfl rfl rfl rfl rfl) | dsimp -zeta only)

theorem replayTimer_quiet (s : State) (n : Nat) (hss : Quiet s₀ s) : Quiet s₀ (replayTimer s n) := by
  unfold replayTimer
  repeat' (first
    | (with_reducible assumption)
    | (intro u; first | (refine (fun (_ : Quiet s₀ u) => ?_) ?_; clear_value u; rotate_left; dsimp -zeta only [u]; rotate_right) | clear_value u)
    | intro _ | lift_lets -underBinder | (with_reducible apply Quiet.ite) | (with_reducible apply Quiet.foldl)
    | (with_reducible apply clockTo_quiet) | (with_reducible apply replayAsked_quiet) | split
    | (with_reducible refine Quiet.mk' ?_ rfl rfl rfl rfl rfl rfl rfl rfl rfl rfl rfl) | dsimp -zeta only)

theorem creditFrame_quiet (s : State) (n : Nat) (cmd : Nat) (data : Nat) (_sts : Nat) (claim : Nat) (hss : Quiet
    s₀ s) : Quiet s₀ (creditFrame s n cmd data _sts claim) := by
  unfold creditFrame
  repeat' (first
    | (with_reducible assumption)
    | (intro u; first | (refine (fun (_ : Quiet s₀ u) => ?_) ?_; clear_value u; rotate_left; dsimp -zeta only [u]; rotate_right) | clear_value u)
    | intro _ | lift_lets -underBinder | (with_reducible apply Quiet.ite) | (with_reducible apply Quiet.foldl)
    | (with_reducible apply pump_quiet) | (with_reducible apply putLink_quiet) | (with_reducible apply seeClaim_quiet)
    | split | (with_reducible refine Quiet.mk' ?_ rfl rfl rfl rfl rfl rfl rfl rfl rfl rfl rfl) | dsimp -zeta only)

theorem acceptFrame_quiet (s : State) (n : Nat) (h : LinkHdr) (hss : Quiet s₀ s) : Quiet s₀ (acceptFrame s n h).2
    := by
  unfold acceptFrame
  repeat' (first
    | (with_reducible assumption)
    | (intro u; first | (refine (fun (_ : Quiet s₀ u) => ?_) ?_; clear_value u; rotate_left; dsimp -zeta only [u]; rotate_right) | (refine (fun (_ : Quiet s₀ u.2) => ?_) ?_; clear_value u; rotate_left; dsimp -zeta only [u]; rotate_right) | (refine (fun (_ : Quiet s₀ u.2.2) => ?_) ?_; clear_value u; rotate_left; dsimp -zeta only [u]; rotate_right) | clear_value u)
    | intro _ | lift_lets -underBinder | (with_reducible apply Quiet.ite) | (with_reducible apply Quiet.foldl)
    | (with_reducible apply countOn_quiet) | (with_reducible apply emit_quiet) | (with_reducible apply frameHead_quiet)
    | (with_reducible apply linkAck_quiet) | (with_reducible apply linkNak_quiet)
    | (with_reducible apply pmcEvent_quiet) | (with_reducible apply putLink_quiet)
    | (with_reducible apply sendLinkAck_quiet) | split
    | (with_reducible refine Quiet.mk' ?_ rfl rfl rfl rfl rfl rfl rfl rfl rfl rfl rfl) | dsimp -zeta only)
theorem acceptFrame_quiet_eq {s : State} {n : Nat} {h : LinkHdr} {e0 : Bool} {t : State} (hss : Quiet s₀ s) (e :
    acceptFrame s n h = (e0, t)) : Quiet s₀ t := by
  have := acceptFrame_quiet s n h hss
  rw [e] at this
  exact this

theorem readData_quiet (s : State) (n : Nat) (h : LinkHdr) (_data : List Byte) (hss : Quiet s₀ s) : Quiet s₀
    (readData s n h _data) := by
  unfold readData
  repeat' (first
    | (with_reducible assumption)
    | (intro u; first | (refine (fun (_ : Quiet s₀ u) => ?_) ?_; clear_value u; rotate_left; dsimp -zeta only [u]; rotate_right) | (refine (fun (_ : Quiet s₀ u.2) => ?_) ?_; clear_value u; rotate_left; dsimp -zeta only [u]; rotate_right) | (refine (fun (_ : Quiet s₀ u.2.2) => ?_) ?_; clear_value u; rotate_left; dsimp -zeta only [u]; rotate_right) | clear_value u)
    | intro _ | lift_lets -underBinder | (with_reducible apply Quiet.ite) | (with_reducible apply Quiet.foldl)
    | (with_reducible apply acceptFrame_quiet) | (refine acceptFrame_quiet_eq ?_ (by with_reducible assumption))
    | (with_reducible apply putLink_quiet) | split
    | (with_reducible refine Quiet.mk' ?_ rfl rfl rfl rfl rfl rfl rfl rfl rfl rfl rfl) | dsimp -zeta only)

theorem badCrcFrame_quiet (s : State) (n : Nat) (pair : Bool) (hss : Quiet s₀ s) : Quiet s₀ (badCrcFrame s n pair)
    := by
  unfold badCrcFrame
  repeat' (first
    | (with_reducible assumption)
    | (intro u; first | (refine (fun (_ : Quiet s₀ u) => ?_) ?_; clear_value u; rotate_left; dsimp -zeta only [u]; rotate_right) | clear_value u)
    | intro _ | lift_lets -underBinder | (with_reducible apply Quiet.ite) | (with_reducible apply Quiet.foldl)
    | (with_reducible apply bump_quiet) | split
    | (with_reducible refine Quiet.mk' ?_ rfl rfl rfl rfl rfl rfl rfl rfl rfl rfl rfl) | dsimp -zeta only)

theorem slotFailed_quiet (s : State) (n : Nat) (hss : Quiet s₀ s) : Quiet s₀ (slotFailed s n) := by
  unfold slotFailed
  repeat' (first
    | (with_reducible assumption)
    | (intro u; first | (refine (fun (_ : Quiet s₀ u) => ?_) ?_; clear_value u; rotate_left; dsimp -zeta only [u]; rotate_right) | clear_value u)
    | intro _ | lift_lets -underBinder | (with_reducible apply Quiet.ite) | (with_reducible apply Quiet.foldl)
    | (with_reducible apply memberFailed_quiet) | split
    | (with_reducible refine Quiet.mk' ?_ rfl rfl rfl rfl rfl rfl rfl rfl rfl rfl rfl) | dsimp -zeta only)

theorem retrainResult_quiet (s : State) (n : Nat) (pass : Bool) (hss : Quiet s₀ s) : Quiet s₀ (retrainResult s n
    pass) := by
  unfold retrainResult
  repeat' (first
    | (with_reducible assumption)
    | (intro u; first | (refine (fun (_ : Quiet s₀ u) => ?_) ?_; clear_value u; rotate_left; dsimp -zeta only [u]; rotate_right) | clear_value u)
    | intro _ | lift_lets -underBinder | (with_reducible apply Quiet.ite) | (with_reducible apply Quiet.foldl)
    | (with_reducible apply alert_quiet) | (with_reducible apply blockError_quiet)
    | (with_reducible apply endSlotCommands_quiet) | (with_reducible apply linkUpAlert_quiet)
    | (with_reducible apply pump_quiet) | (with_reducible apply putLink_quiet) | (with_reducible apply replayHeld_quiet)
    | (with_reducible apply slotFailed_quiet) | (with_reducible apply startRetrain_quiet) | split
    | (with_reducible refine Quiet.mk' ?_ rfl rfl rfl rfl rfl rfl rfl rfl rfl rfl rfl) | dsimp -zeta only)

theorem prsntChange_quiet (s : State) (n : Nat) (v : Bool) (hss : Quiet s₀ s) : Quiet s₀ (prsntChange s n v) := by
  unfold prsntChange
  repeat' (first
    | (with_reducible assumption)
    | (intro u; first | (refine (fun (_ : Quiet s₀ u) => ?_) ?_; clear_value u; rotate_left; dsimp -zeta only [u]; rotate_right) | clear_value u)
    | intro _ | lift_lets -underBinder | (with_reducible apply Quiet.ite) | (with_reducible apply Quiet.foldl)
    | (with_reducible apply alert_quiet) | (with_reducible apply putLink_quiet) | split
    | (with_reducible refine Quiet.mk' ?_ rfl rfl rfl rfl rfl rfl rfl rfl rfl rfl rfl) | dsimp -zeta only)

theorem moduleAlert_quiet (s : State) (n : Nat) (hss : Quiet s₀ s) : Quiet s₀ (moduleAlert s n) := by
  unfold moduleAlert
  repeat' (first
    | (with_reducible assumption)
    | (intro u; first | (refine (fun (_ : Quiet s₀ u) => ?_) ?_; clear_value u; rotate_left; dsimp -zeta only [u]; rotate_right) | clear_value u)
    | intro _ | lift_lets -underBinder | (with_reducible apply Quiet.ite) | (with_reducible apply Quiet.foldl)
    | (with_reducible apply alert_quiet) | (with_reducible apply pushCmd_quiet) | (with_reducible apply putLink_quiet)
    | split | (with_reducible refine Quiet.mk' ?_ rfl rfl rfl rfl rfl rfl rfl rfl rfl rfl rfl) | dsimp -zeta only)

theorem programIssued_quiet (s : State) (n : Nat) (c : LinkCmd) (hss : Quiet s₀ s) : Quiet s₀ (programIssued s n
    c) := by
  unfold programIssued
  repeat' (first
    | (with_reducible assumption)
    | (intro u; first | (refine (fun (_ : Quiet s₀ u) => ?_) ?_; clear_value u; rotate_left; dsimp -zeta only [u]; rotate_right) | clear_value u)
    | intro _ | lift_lets -underBinder | (with_reducible apply Quiet.ite) | (with_reducible apply Quiet.foldl)
    | (with_reducible apply bumpBy_quiet) | (with_reducible apply pmcEvent_quiet)
    | (with_reducible apply setBlock_quiet) | split
    | (with_reducible refine Quiet.mk' ?_ rfl rfl rfl rfl rfl rfl rfl rfl rfl rfl rfl) | dsimp -zeta only)

theorem stampRead_quiet (s : State) (x : Nat × Need) (hss : Quiet s₀ s) : Quiet s₀ (stampRead s x) := by
  unfold stampRead
  repeat' (first
    | (with_reducible assumption)
    | (intro u; first | (refine (fun (_ : Quiet s₀ u) => ?_) ?_; clear_value u; rotate_left; dsimp -zeta only [u]; rotate_right) | clear_value u)
    | intro _ | lift_lets -underBinder | (with_reducible apply Quiet.ite) | (with_reducible apply Quiet.foldl)
    | (with_reducible apply stamp_quiet) | split
    | (with_reducible refine Quiet.mk' ?_ rfl rfl rfl rfl rfl rfl rfl rfl rfl rfl rfl) | dsimp -zeta only)

theorem sendCommand_quiet (s : State) (n : Nat) (tag : Nat) (c : LinkCmd) (hss : Quiet s₀ s) : Quiet s₀
    (sendCommand s n tag c) := by
  unfold sendCommand
  repeat' (first
    | (with_reducible assumption)
    | (intro u; first | (refine (fun (_ : Quiet s₀ u) => ?_) ?_; clear_value u; rotate_left; dsimp -zeta only [u]; rotate_right) | clear_value u)
    | intro _ | lift_lets -underBinder | (with_reducible apply Quiet.ite) | (with_reducible apply Quiet.foldl)
    | (with_reducible apply emit_quiet) | (with_reducible apply pmcEvent_quiet)
    | (with_reducible apply programIssued_quiet) | (with_reducible apply pump_quiet)
    | (with_reducible apply putLink_quiet) | (with_reducible apply sendFrame_quiet)
    | (with_reducible apply stampRead_quiet) | split
    | (with_reducible refine Quiet.mk' ?_ rfl rfl rfl rfl rfl rfl rfl rfl rfl rfl rfl) | dsimp -zeta only)

theorem issueCommand_quiet (s : State) (n : Nat) (tag : Nat) (op : Nat) (a : FlashAddr) (arg : Nat) (own : Bool)
    (hss : Quiet s₀ s) : Quiet s₀ (issueCommand s n tag op a arg own) := by
  unfold issueCommand
  repeat' (first
    | (with_reducible assumption)
    | (intro u; first | (refine (fun (_ : Quiet s₀ u) => ?_) ?_; clear_value u; rotate_left; dsimp -zeta only [u]; rotate_right) | clear_value u)
    | intro _ | lift_lets -underBinder | (with_reducible apply Quiet.ite) | (with_reducible apply Quiet.foldl)
    | (with_reducible apply putLink_quiet) | (with_reducible apply sendCommand_quiet) | split
    | (with_reducible refine Quiet.mk' ?_ rfl rfl rfl rfl rfl rfl rfl rfl rfl rfl rfl) | dsimp -zeta only)

theorem ownSpringDone_quiet (s : State) (n : Nat) (hss : Quiet s₀ s) : Quiet s₀ (ownSpringDone s n) := by
  unfold ownSpringDone
  repeat' (first
    | (with_reducible assumption)
    | (intro u; first | (refine (fun (_ : Quiet s₀ u) => ?_) ?_; clear_value u; rotate_left; dsimp -zeta only [u]; rotate_right) | clear_value u)
    | intro _ | lift_lets -underBinder | (with_reducible apply Quiet.ite) | (with_reducible apply Quiet.foldl)
    | (with_reducible apply actOrder_quiet) | (with_reducible apply assertMrst_quiet)
    | (with_reducible apply setChan_quiet) | split
    | (with_reducible refine Quiet.mk' ?_ rfl rfl rfl rfl rfl rfl rfl rfl rfl rfl rfl) | dsimp -zeta only)

theorem identified_quiet (s : State) (n : Nat) (page : List Byte) (hss : Quiet s₀ s) : Quiet s₀ (identified s n
    page) := by
  unfold identified
  repeat' (first
    | (with_reducible assumption)
    | (intro u; first | (refine (fun (_ : Quiet s₀ u) => ?_) ?_; clear_value u; rotate_left; dsimp -zeta only [u]; rotate_right) | clear_value u)
    | intro _ | lift_lets -underBinder | (with_reducible apply Quiet.ite) | (with_reducible apply Quiet.foldl)
    | (with_reducible apply actOrder_quiet) | (with_reducible apply assertMrst_quiet)
    | (with_reducible apply ownSpringDone_quiet) | (with_reducible apply setChan_quiet)
    | (with_reducible apply treatModule_quiet) | split
    | (with_reducible refine Quiet.mk' ?_ rfl rfl rfl rfl rfl rfl rfl rfl rfl rfl rfl) | dsimp -zeta only)

theorem erasePassed_quiet (s : State) (n : Nat) (c : LinkCmd) (hss : Quiet s₀ s) : Quiet s₀ (erasePassed s n c) :=
    by
  unfold erasePassed
  repeat' (first
    | (with_reducible assumption)
    | (intro u; first | (refine (fun (_ : Quiet s₀ u) => ?_) ?_; clear_value u; rotate_left; dsimp -zeta only [u]; rotate_right) | clear_value u)
    | intro _ | lift_lets -underBinder | (with_reducible apply Quiet.ite) | (with_reducible apply Quiet.foldl)
    | (with_reducible apply setBlock_quiet) | split
    | (with_reducible refine Quiet.mk' ?_ rfl rfl rfl rfl rfl rfl rfl rfl rfl rfl rfl) | dsimp -zeta only)

theorem commandPassed_quiet (s : State) (n : Nat) (tag : Nat) (c : LinkCmd) (page : List Byte) (hss : Quiet s₀ s)
    : Quiet s₀ (commandPassed s n tag c page) := by
  unfold commandPassed
  repeat' (first
    | (with_reducible assumption)
    | (intro u; first | (refine (fun (_ : Quiet s₀ u) => ?_) ?_; clear_value u; rotate_left; dsimp -zeta only [u]; rotate_right) | clear_value u)
    | intro _ | lift_lets -underBinder | (with_reducible apply Quiet.ite) | (with_reducible apply Quiet.foldl)
    | (with_reducible apply erasePassed_quiet) | (with_reducible apply identified_quiet)
    | (with_reducible apply journal_quiet) | (with_reducible apply journalPagePassed_quiet)
    | (with_reducible apply logPagePassed_quiet) | (with_reducible apply readPassed_quiet)
    | (with_reducible apply stripPagePassed_quiet) | split
    | (with_reducible refine Quiet.mk' ?_ rfl rfl rfl rfl rfl rfl rfl rfl rfl rfl rfl) | dsimp -zeta only)

theorem readInternal_quiet (n : Nat) (a : FlashAddr) (s : State) (x : Nat × Need) (hss : Quiet s₀ s) : Quiet s₀
    (readInternal n a s x) := by
  unfold readInternal
  repeat' (first
    | (with_reducible assumption)
    | (intro u; first | (refine (fun (_ : Quiet s₀ u) => ?_) ?_; clear_value u; rotate_left; dsimp -zeta only [u]; rotate_right) | clear_value u)
    | intro _ | lift_lets -underBinder | (with_reducible apply Quiet.ite) | (with_reducible apply Quiet.foldl)
    | (with_reducible apply complete_quiet) | (with_reducible apply unreadable_quiet) | split
    | (with_reducible refine Quiet.mk' ?_ rfl rfl rfl rfl rfl rfl rfl rfl rfl rfl rfl) | dsimp -zeta only)

theorem logInternal_quiet (s : State) (g : Nat) (mk : Nat) (num : Nat) (hss : Quiet s₀ s) : Quiet s₀ (logInternal
    s g mk num) := by
  unfold logInternal
  repeat' (first
    | (with_reducible assumption)
    | (intro u; first | (refine (fun (_ : Quiet s₀ u) => ?_) ?_; clear_value u; rotate_left; dsimp -zeta only [u]; rotate_right) | clear_value u)
    | intro _ | lift_lets -underBinder | (with_reducible apply Quiet.ite) | (with_reducible apply Quiet.foldl)
    | (with_reducible apply failZone_quiet) | (with_reducible apply keepMember_quiet) | split
    | (with_reducible refine Quiet.mk' ?_ rfl rfl rfl rfl rfl rfl rfl rfl rfl rfl rfl) | dsimp -zeta only)

theorem commandInvalid_quiet (s : State) (n : Nat) (c : LinkCmd) (hss : Quiet s₀ s) : Quiet s₀ (commandInvalid s n
    c) := by
  unfold commandInvalid
  repeat' (first
    | (with_reducible assumption)
    | (intro u; first | (refine (fun (_ : Quiet s₀ u) => ?_) ?_; clear_value u; rotate_left; dsimp -zeta only [u]; rotate_right) | clear_value u)
    | intro _ | lift_lets -underBinder | (with_reducible apply Quiet.ite) | (with_reducible apply Quiet.foldl)
    | (with_reducible apply abandonStripe_quiet) | (with_reducible apply eraseFailed_quiet)
    | (with_reducible apply journal_quiet) | (with_reducible apply logInternal_quiet)
    | (with_reducible apply readInternal_quiet) | (with_reducible apply replaceJournal_quiet) | split
    | (with_reducible refine Quiet.mk' ?_ rfl rfl rfl rfl rfl rfl rfl rfl rfl rfl rfl) | dsimp -zeta only)

theorem commandWarned_quiet (s : State) (n : Nat) (c : LinkCmd) (hss : Quiet s₀ s) : Quiet s₀ (commandWarned s n
    c) := by
  unfold commandWarned
  repeat' (first
    | (with_reducible assumption)
    | (intro u; first | (refine (fun (_ : Quiet s₀ u) => ?_) ?_; clear_value u; rotate_left; dsimp -zeta only [u]; rotate_right) | clear_value u)
    | intro _ | lift_lets -underBinder | (with_reducible apply Quiet.ite) | (with_reducible apply Quiet.foldl)
    | (with_reducible apply putLink_quiet) | (with_reducible apply replaceProgram_quiet) | split
    | (with_reducible refine Quiet.mk' ?_ rfl rfl rfl rfl rfl rfl rfl rfl rfl rfl rfl) | dsimp -zeta only)

theorem commandFailed_quiet (s : State) (n : Nat) (tag : Nat) (c : LinkCmd) (hss : Quiet s₀ s) : Quiet s₀
    (commandFailed s n tag c) := by
  unfold commandFailed
  repeat' (first
    | (with_reducible assumption)
    | (intro u; first | (refine (fun (_ : Quiet s₀ u) => ?_) ?_; clear_value u; rotate_left; dsimp -zeta only [u]; rotate_right) | clear_value u)
    | intro _ | lift_lets -underBinder | (with_reducible apply Quiet.ite) | (with_reducible apply Quiet.foldl)
    | (with_reducible apply eraseFailed_quiet) | (with_reducible apply programFailed_quiet)
    | (with_reducible apply readFailed_quiet) | split
    | (with_reducible refine Quiet.mk' ?_ rfl rfl rfl rfl rfl rfl rfl rfl rfl rfl rfl) | dsimp -zeta only)

theorem claimRejected_quiet (s : State) (n : Nat) (hss : Quiet s₀ s) : Quiet s₀ (claimRejected s n) := by
  unfold claimRejected
  repeat' (first
    | (with_reducible assumption)
    | (intro u; first | (refine (fun (_ : Quiet s₀ u) => ?_) ?_; clear_value u; rotate_left; dsimp -zeta only [u]; rotate_right) | clear_value u)
    | intro _ | lift_lets -underBinder | (with_reducible apply Quiet.ite) | (with_reducible apply Quiet.foldl)
    | (with_reducible apply alert_quiet) | (with_reducible apply bump_quiet) | (with_reducible apply demote_quiet)
    | split | (with_reducible refine Quiet.mk' ?_ rfl rfl rfl rfl rfl rfl rfl rfl rfl rfl rfl) | dsimp -zeta only)

theorem commandEnded_quiet (s : State) (n : Nat) (tag : Nat) (c : LinkCmd) (code : Nat) (page : List Byte) (hss :
    Quiet s₀ s) : Quiet s₀ (commandEnded s n tag c code page) := by
  unfold commandEnded
  repeat' (first
    | (with_reducible assumption)
    | (intro u; first | (refine (fun (_ : Quiet s₀ u) => ?_) ?_; clear_value u; rotate_left; dsimp -zeta only [u]; rotate_right) | clear_value u)
    | intro _ | lift_lets -underBinder | (with_reducible apply Quiet.ite) | (with_reducible apply Quiet.foldl)
    | (with_reducible apply claimRejected_quiet) | (with_reducible apply commandFailed_quiet)
    | (with_reducible apply commandInvalid_quiet) | (with_reducible apply commandPassed_quiet)
    | (with_reducible apply commandWarned_quiet) | split
    | (with_reducible refine Quiet.mk' ?_ rfl rfl rfl rfl rfl rfl rfl rfl rfl rfl rfl) | dsimp -zeta only)

theorem statusFrame_quiet (s : State) (n : Nat) (h : LinkHdr) (code : Nat) (page : List Byte) (hss : Quiet s₀ s) :
    Quiet s₀ (statusFrame s n h code page) := by
  unfold statusFrame
  repeat' (first
    | (with_reducible assumption)
    | (intro u; first | (refine (fun (_ : Quiet s₀ u) => ?_) ?_; clear_value u; rotate_left; dsimp -zeta only [u]; rotate_right) | (refine (fun (_ : Quiet s₀ u.2) => ?_) ?_; clear_value u; rotate_left; dsimp -zeta only [u]; rotate_right) | (refine (fun (_ : Quiet s₀ u.2.2) => ?_) ?_; clear_value u; rotate_left; dsimp -zeta only [u]; rotate_right) | clear_value u)
    | intro _ | lift_lets -underBinder | (with_reducible apply Quiet.ite) | (with_reducible apply Quiet.foldl)
    | (with_reducible apply acceptFrame_quiet) | (refine acceptFrame_quiet_eq ?_ (by with_reducible assumption))
    | (with_reducible apply bump_quiet) | (with_reducible apply commandEnded_quiet)
    | (with_reducible apply putLink_quiet) | split
    | (with_reducible refine Quiet.mk' ?_ rfl rfl rfl rfl rfl rfl rfl rfl rfl rfl rfl) | dsimp -zeta only)

theorem moduleCmdTimeout_quiet (s : State) (n : Nat) (tag : Nat) (hss : Quiet s₀ s) : Quiet s₀ (moduleCmdTimeout s
    n tag) := by
  unfold moduleCmdTimeout
  repeat' (first
    | (with_reducible assumption)
    | (intro u; first | (refine (fun (_ : Quiet s₀ u) => ?_) ?_; clear_value u; rotate_left; dsimp -zeta only [u]; rotate_right) | clear_value u)
    | intro _ | lift_lets -underBinder | (with_reducible apply Quiet.ite) | (with_reducible apply Quiet.foldl)
    | (with_reducible apply clockTo_quiet) | (with_reducible apply countTimeout_quiet)
    | (with_reducible apply eraseFailed_quiet) | (with_reducible apply programFailed_quiet)
    | (with_reducible apply pushCmd_quiet) | (with_reducible apply putLink_quiet)
    | (with_reducible apply readLost_quiet) | split
    | (with_reducible refine Quiet.mk' ?_ rfl rfl rfl rfl rfl rfl rfl rfl rfl rfl rfl) | dsimp -zeta only)

end Sys2Proof.Machine
end

