-- ==== Sys2Proof/Laws/QuietGroupRows.lean ====
section
/-! SUPPORT. The operations of Machine/GroupRows.lean that keep `Quiet`. -/
namespace Sys2Proof.Machine
variable {s₀ : State}

theorem writeGroup_quiet (s : State) (g : Nat) (x : Group) (hss : Quiet s₀ s) : Quiet s₀ (writeGroup s g x) := by
  unfold writeGroup
  repeat' (first
    | (with_reducible assumption)
    | (intro u; first | (refine (fun (_ : Quiet s₀ u) => ?_) ?_; clear_value u; rotate_left; dsimp -zeta only [u]; rotate_right) | clear_value u)
    | intro _ | lift_lets -underBinder | (with_reducible apply Quiet.ite) | (with_reducible apply Quiet.foldl)
    | (with_reducible apply journal_quiet) | (with_reducible apply setGroup_quiet) | split
    | (with_reducible refine Quiet.mk' ?_ rfl rfl rfl rfl rfl rfl rfl rfl rfl rfl rfl) | dsimp -zeta only)

theorem grpResult_quiet (s : State) (g : Nat) (r : Nat) (hss : Quiet s₀ s) : Quiet s₀ (grpResult s g r) := by
  unfold grpResult
  repeat' (first
    | (with_reducible assumption)
    | (intro u; first | (refine (fun (_ : Quiet s₀ u) => ?_) ?_; clear_value u; rotate_left; dsimp -zeta only [u]; rotate_right) | clear_value u)
    | intro _ | lift_lets -underBinder | (with_reducible apply Quiet.ite) | (with_reducible apply Quiet.foldl)
    | (with_reducible apply blockError_quiet) | (with_reducible apply setReg_quiet) | split
    | (with_reducible refine Quiet.mk' ?_ rfl rfl rfl rfl rfl rfl rfl rfl rfl rfl rfl) | dsimp -zeta only)

theorem releaseBlocks_quiet (g : Nat) (slot : Nat) (s : State) (hss : Quiet s₀ s) : Quiet s₀ (releaseBlocks g slot
    s) := by
  unfold releaseBlocks
  repeat' (first
    | (with_reducible assumption)
    | (intro u; first | (refine (fun (_ : Quiet s₀ u) => ?_) ?_; clear_value u; rotate_left; dsimp -zeta only [u]; rotate_right) | clear_value u)
    | intro _ | lift_lets -underBinder | (with_reducible apply Quiet.ite) | (with_reducible apply Quiet.foldl)
    | (with_reducible apply setBlock_quiet) | split
    | (with_reducible refine Quiet.mk' ?_ rfl rfl rfl rfl rfl rfl rfl rfl rfl rfl rfl) | dsimp -zeta only)

theorem slotToWinter_quiet (s : State) (n : Nat) (hss : Quiet s₀ s) : Quiet s₀ (slotToWinter s n) := by
  unfold slotToWinter
  repeat' (first
    | (with_reducible assumption)
    | (intro u; first | (refine (fun (_ : Quiet s₀ u) => ?_) ?_; clear_value u; rotate_left; dsimp -zeta only [u]; rotate_right) | clear_value u)
    | intro _ | lift_lets -underBinder | (with_reducible apply Quiet.ite) | (with_reducible apply Quiet.foldl)
    | (with_reducible apply assertMrst_quiet) | (with_reducible apply orderSlot_quiet) | split
    | (with_reducible refine Quiet.mk' ?_ rfl rfl rfl rfl rfl rfl rfl rfl rfl rfl rfl) | dsimp -zeta only)

theorem retireGroup_quiet (s : State) (g : Nat) (hss : Quiet s₀ s) : Quiet s₀ (retireGroup s g) := by
  unfold retireGroup
  repeat' (first
    | (with_reducible assumption)
    | (intro u; first | (refine (fun (_ : Quiet s₀ u) => ?_) ?_; clear_value u; rotate_left; dsimp -zeta only [u]; rotate_right) | clear_value u)
    | intro _ | lift_lets -underBinder | (with_reducible apply Quiet.ite) | (with_reducible apply Quiet.foldl)
    | (with_reducible apply grpResult_quiet) | (with_reducible apply journal_quiet)
    | (with_reducible apply releaseBlocks_quiet) | (with_reducible apply slotToWinter_quiet) | split
    | (with_reducible refine Quiet.mk' ?_ rfl rfl rfl rfl rfl rfl rfl rfl rfl rfl rfl) | dsimp -zeta only)

theorem loadSlots_quiet (x : Group) (s : State) (hss : Quiet s₀ s) : Quiet s₀ (loadSlots x s) := by
  unfold loadSlots
  repeat' (first
    | (with_reducible assumption)
    | (intro u; first | (refine (fun (_ : Quiet s₀ u) => ?_) ?_; clear_value u; rotate_left; dsimp -zeta only [u]; rotate_right) | clear_value u)
    | intro _ | lift_lets -underBinder | (with_reducible apply Quiet.ite) | (with_reducible apply Quiet.foldl)
    | (with_reducible apply setReg_quiet) | split
    | (with_reducible refine Quiet.mk' ?_ rfl rfl rfl rfl rfl rfl rfl rfl rfl rfl rfl) | dsimp -zeta only)

theorem queryGroup_quiet (s : State) (g : Nat) (hss : Quiet s₀ s) : Quiet s₀ (queryGroup s g) := by
  unfold queryGroup
  repeat' (first
    | (with_reducible assumption)
    | (intro u; first | (refine (fun (_ : Quiet s₀ u) => ?_) ?_; clear_value u; rotate_left; dsimp -zeta only [u]; rotate_right) | clear_value u)
    | intro _ | lift_lets -underBinder | (with_reducible apply Quiet.ite) | (with_reducible apply Quiet.foldl)
    | (with_reducible apply grpResult_quiet) | (with_reducible apply loadSlots_quiet)
    | (with_reducible apply setReg_quiet) | split
    | (with_reducible refine Quiet.mk' ?_ rfl rfl rfl rfl rfl rfl rfl rfl rfl rfl rfl) | dsimp -zeta only)

theorem setLock_quiet (s : State) (g : Nat) (hss : Quiet s₀ s) : Quiet s₀ (setLock s g) := by
  unfold setLock
  repeat' (first
    | (with_reducible assumption)
    | (intro u; first | (refine (fun (_ : Quiet s₀ u) => ?_) ?_; clear_value u; rotate_left; dsimp -zeta only [u]; rotate_right) | clear_value u)
    | intro _ | lift_lets -underBinder | (with_reducible apply Quiet.ite) | (with_reducible apply Quiet.foldl)
    | (with_reducible apply grpResult_quiet) | (with_reducible apply writeGroup_quiet) | split
    | (with_reducible refine Quiet.mk' ?_ rfl rfl rfl rfl rfl rfl rfl rfl rfl rfl rfl) | dsimp -zeta only)

theorem groupOperation_quiet (s : State) (op : Nat) (hss : Quiet s₀ s) : Quiet s₀ (groupOperation s op) := by
  unfold groupOperation
  repeat' (first
    | (with_reducible assumption)
    | (intro u; first | (refine (fun (_ : Quiet s₀ u) => ?_) ?_; clear_value u; rotate_left; dsimp -zeta only [u]; rotate_right) | clear_value u)
    | intro _ | lift_lets -underBinder | (with_reducible apply Quiet.ite) | (with_reducible apply Quiet.foldl)
    | (with_reducible apply grpResult_quiet) | (with_reducible apply queryGroup_quiet)
    | (with_reducible apply retireGroup_quiet) | (with_reducible apply setLock_quiet)
    | (with_reducible apply writeGroup_quiet) | split
    | (with_reducible refine Quiet.mk' ?_ rfl rfl rfl rfl rfl rfl rfl rfl rfl rfl rfl) | dsimp -zeta only)

theorem grpCmdEffect_quiet (x0 : State) (after : State) (hsafter : Quiet s₀ after) : Quiet s₀ (grpCmdEffect x0
    after) := by
  unfold grpCmdEffect
  repeat' (first
    | (with_reducible assumption)
    | (intro u; first | (refine (fun (_ : Quiet s₀ u) => ?_) ?_; clear_value u; rotate_left; dsimp -zeta only [u]; rotate_right) | clear_value u)
    | intro _ | lift_lets -underBinder | (with_reducible apply Quiet.ite) | (with_reducible apply Quiet.foldl)
    | (with_reducible apply groupOperation_quiet) | (with_reducible apply setReg_quiet) | split
    | (with_reducible refine Quiet.mk' ?_ rfl rfl rfl rfl rfl rfl rfl rfl rfl rfl rfl) | dsimp -zeta only)

theorem groupCommand_quiet (s : State) (req : Nat) (op : Nat) (hss : Quiet s₀ s) : Quiet s₀ (groupCommand s req
    op) := by
  unfold groupCommand
  repeat' (first
    | (with_reducible assumption)
    | (intro u; first | (refine (fun (_ : Quiet s₀ u) => ?_) ?_; clear_value u; rotate_left; dsimp -zeta only [u]; rotate_right) | clear_value u)
    | intro _ | lift_lets -underBinder | (with_reducible apply Quiet.ite) | (with_reducible apply Quiet.foldl)
    | (with_reducible apply grpCmdEffect_quiet) | (with_reducible apply writeBlock_quiet) | split
    | (with_reducible refine Quiet.mk' ?_ rfl rfl rfl rfl rfl rfl rfl rfl rfl rfl rfl) | dsimp -zeta only)

theorem spareConflict_quiet (base : Nat) (s : State) (i : Nat) (hss : Quiet s₀ s) : Quiet s₀ (spareConflict base s
    i) := by
  unfold spareConflict
  repeat' (first
    | (with_reducible assumption)
    | (intro u; first | (refine (fun (_ : Quiet s₀ u) => ?_) ?_; clear_value u; rotate_left; dsimp -zeta only [u]; rotate_right) | clear_value u)
    | intro _ | lift_lets -underBinder | (with_reducible apply Quiet.ite) | (with_reducible apply Quiet.foldl)
    | (with_reducible apply blockError_quiet) | (with_reducible apply setSpare_quiet) | split
    | (with_reducible refine Quiet.mk' ?_ rfl rfl rfl rfl rfl rfl rfl rfl rfl rfl rfl) | dsimp -zeta only)

theorem spareEffect_quiet (base : Nat) (n : Nat) (x2 : State) (after : State) (hsafter : Quiet s₀ after) : Quiet
    s₀ (spareEffect base n x2 after) := by
  unfold spareEffect
  repeat' (first
    | (with_reducible assumption)
    | (intro u; first | (refine (fun (_ : Quiet s₀ u) => ?_) ?_; clear_value u; rotate_left; dsimp -zeta only [u]; rotate_right) | clear_value u)
    | intro _ | lift_lets -underBinder | (with_reducible apply Quiet.ite) | (with_reducible apply Quiet.foldl)
    | (with_reducible apply spareConflict_quiet) | split
    | (with_reducible refine Quiet.mk' ?_ rfl rfl rfl rfl rfl rfl rfl rfl rfl rfl rfl) | dsimp -zeta only)

theorem sendRowPage_quiet (key : Nat) (row : Nat) (f : Fold) (s : State) (e : Nat × Place) (hss : Quiet s₀ s) :
    Quiet s₀ (sendRowPage key row f s e) := by
  unfold sendRowPage
  repeat' (first
    | (with_reducible assumption)
    | (intro u; first | (refine (fun (_ : Quiet s₀ u) => ?_) ?_; clear_value u; rotate_left; dsimp -zeta only [u]; rotate_right) | clear_value u)
    | intro _ | lift_lets -underBinder | (with_reducible apply Quiet.ite) | (with_reducible apply Quiet.foldl)
    | (with_reducible apply sendCommand_quiet) | split
    | (with_reducible refine Quiet.mk' ?_ rfl rfl rfl rfl rfl rfl rfl rfl rfl rfl rfl) | dsimp -zeta only)

theorem lockstepRelease_quiet (s : State) (g : Nat) (n : Nat) (row : Nat) (at_ : Nat) (hss : Quiet s₀ s) : Quiet
    s₀ (lockstepRelease s g n row at_) := by
  unfold lockstepRelease
  repeat' (first
    | (with_reducible assumption)
    | (intro u; first | (refine (fun (_ : Quiet s₀ u) => ?_) ?_; clear_value u; rotate_left; dsimp -zeta only [u]; rotate_right) | clear_value u)
    | intro _ | lift_lets -underBinder | (with_reducible apply Quiet.ite) | (with_reducible apply Quiet.foldl)
    | (with_reducible apply clockTo_quiet) | (with_reducible apply pushCmd_quiet)
    | (with_reducible apply sendRowPage_quiet) | (with_reducible apply setFold_quiet) | split
    | (with_reducible refine Quiet.mk' ?_ rfl rfl rfl rfl rfl rfl rfl rfl rfl rfl rfl) | dsimp -zeta only)

theorem lockTimeout_quiet (s : State) (g : Nat) (n : Nat) (m : Nat) (hss : Quiet s₀ s) : Quiet s₀ (lockTimeout s g
    n m) := by
  unfold lockTimeout
  repeat' (first
    | (with_reducible assumption)
    | (intro u; first | (refine (fun (_ : Quiet s₀ u) => ?_) ?_; clear_value u; rotate_left; dsimp -zeta only [u]; rotate_right) | clear_value u)
    | intro _ | lift_lets -underBinder | (with_reducible apply Quiet.ite) | (with_reducible apply Quiet.foldl)
    | (with_reducible apply clockTo_quiet) | (with_reducible apply pushCmd_quiet) | split
    | (with_reducible refine Quiet.mk' ?_ rfl rfl rfl rfl rfl rfl rfl rfl rfl rfl rfl) | dsimp -zeta only)

theorem freeSlotBlocks_quiet (s : State) (slot : Nat) (hss : Quiet s₀ s) : Quiet s₀ (freeSlotBlocks s slot) := by
  unfold freeSlotBlocks
  repeat' (first
    | (with_reducible assumption)
    | (intro u; first | (refine (fun (_ : Quiet s₀ u) => ?_) ?_; clear_value u; rotate_left; dsimp -zeta only [u]; rotate_right) | clear_value u)
    | intro _ | lift_lets -underBinder | (with_reducible apply Quiet.ite) | (with_reducible apply Quiet.foldl)
    | (with_reducible apply setBlock_quiet) | split
    | (with_reducible refine Quiet.mk' ?_ rfl rfl rfl rfl rfl rfl rfl rfl rfl rfl rfl) | dsimp -zeta only)

theorem freeBlocks_quiet (s : State) (g : Nat) (hss : Quiet s₀ s) : Quiet s₀ (freeBlocks s g) := by
  unfold freeBlocks
  repeat' (first
    | (with_reducible assumption)
    | (intro u; first | (refine (fun (_ : Quiet s₀ u) => ?_) ?_; clear_value u; rotate_left; dsimp -zeta only [u]; rotate_right) | clear_value u)
    | intro _ | lift_lets -underBinder | (with_reducible apply Quiet.ite) | (with_reducible apply Quiet.foldl)
    | (with_reducible apply freeSlotBlocks_quiet) | split
    | (with_reducible refine Quiet.mk' ?_ rfl rfl rfl rfl rfl rfl rfl rfl rfl rfl rfl) | dsimp -zeta only)

theorem moveLog_quiet (slot : Nat) (a : FlashAddr) (dest : Place) (s : State) (key : Nat) (hss : Quiet s₀ s) : Quiet
    s₀ (moveLog slot a dest s key) := by
  unfold moveLog
  repeat' (first
    | (with_reducible assumption)
    | (intro u; first | (refine (fun (_ : Quiet s₀ u) => ?_) ?_; clear_value u; rotate_left; dsimp -zeta only [u]; rotate_right) | clear_value u)
    | intro _ | lift_lets -underBinder | (with_reducible apply Quiet.ite) | (with_reducible apply Quiet.foldl)
    | (with_reducible apply journal_quiet) | split
    | (with_reducible refine Quiet.mk' ?_ rfl rfl rfl rfl rfl rfl rfl rfl rfl rfl rfl) | dsimp -zeta only)

theorem placeLogs_quiet (move : Place → State → Nat → State) (slot cws : Nat) (dest : FlashAddr) (i : Nat) (l : List Nat)
    (s : State) (hm : ∀ p s k, Quiet s₀ s → Quiet s₀ (move p s k)) (hs : Quiet s₀ s) :
    Quiet s₀ (placeLogs move slot cws dest i l s) := by
  induction l generalizing i s with
  | nil => exact hs
  | cons k ks ih => exact ih _ _ (hm _ _ _ hs)

theorem logReclaim_quiet (s : State) (g : Nat) (m : Nat) (pass : Bool) (hss : Quiet s₀ s) : Quiet s₀ (logReclaim s
    g m pass) := by
  unfold logReclaim
  repeat' (first
    | (with_reducible assumption)
    | (intro u; first | (refine (fun (_ : Quiet s₀ u) => ?_) ?_; clear_value u; rotate_left; dsimp -zeta only [u]; rotate_right) | (refine (fun (_ : Quiet.Opt2 s₀ u) => ?_) ?_; clear_value u; rotate_left; dsimp -zeta only [u]; rotate_right) | (refine (fun (_ : Quiet s₀ u.2) => ?_) ?_; clear_value u; rotate_left; dsimp -zeta only [u]; rotate_right) | (refine (fun (_ : Quiet s₀ u.2.2) => ?_) ?_; clear_value u; rotate_left; dsimp -zeta only [u]; rotate_right) | clear_value u)
    | intro _ | lift_lets -underBinder | (with_reducible apply Quiet.ite) | (with_reducible apply Quiet.foldl)
    | (with_reducible apply moveLog_quiet) | (with_reducible apply placeLogs_quiet)
    | (with_reducible apply retireBlock_quiet) | (with_reducible apply setBlock_quiet)
    | (with_reducible apply takePages_quiet) | (refine takePages_quiet_eq ?_ (by with_reducible assumption))
    | (with_reducible exact Quiet.opt2_none) | (with_reducible apply Quiet.opt2_some)
    | (with_reducible apply Quiet.opt2_ite)
    | (exact Quiet.opt2_use (by with_reducible assumption) (by with_reducible assumption))
    | (exact Quiet.opt2_use (by with_reducible assumption) rfl) | split
    | (with_reducible refine Quiet.mk' ?_ rfl rfl rfl rfl rfl rfl rfl rfl rfl rfl rfl) | dsimp -zeta only)

theorem heatDays_quiet (s : State) (n : Nat) (hss : Quiet s₀ s) : Quiet s₀ (heatDays s n).2 := by
  unfold heatDays
  repeat' (first
    | (with_reducible assumption)
    | (intro u; first | (refine (fun (_ : Quiet s₀ u) => ?_) ?_; clear_value u; rotate_left; dsimp -zeta only [u]; rotate_right) | (refine (fun (_ : Quiet s₀ u.2) => ?_) ?_; clear_value u; rotate_left; dsimp -zeta only [u]; rotate_right) | (refine (fun (_ : Quiet s₀ u.2.2) => ?_) ?_; clear_value u; rotate_left; dsimp -zeta only [u]; rotate_right) | clear_value u)
    | intro _ | lift_lets -underBinder | (with_reducible apply Quiet.ite) | (with_reducible apply Quiet.foldl)
    | (with_reducible apply draw_quiet) | (refine draw_quiet_eq ?_ (by with_reducible assumption)) | split
    | (with_reducible refine Quiet.mk' ?_ rfl rfl rfl rfl rfl rfl rfl rfl rfl rfl rfl) | dsimp -zeta only)
theorem heatDays_quiet_eq {s : State} {n : Nat} {e0 : Nat} {t : State} (hss : Quiet s₀ s) (e : heatDays s n = (e0,
    t)) : Quiet s₀ t := by
  have := heatDays_quiet s n hss
  rw [e] at this
  exact this

theorem ageBlocks_quiet (s : State) (slot : Nat) (days : Nat) (hss : Quiet s₀ s) : Quiet s₀ (ageBlocks s slot
    days) := by
  unfold ageBlocks
  repeat' (first
    | (with_reducible assumption)
    | (intro u; first | (refine (fun (_ : Quiet s₀ u) => ?_) ?_; clear_value u; rotate_left; dsimp -zeta only [u]; rotate_right) | clear_value u)
    | intro _ | lift_lets -underBinder | (with_reducible apply Quiet.ite) | (with_reducible apply Quiet.foldl)
    | (with_reducible apply setBlock_quiet) | split
    | (with_reducible refine Quiet.mk' ?_ rfl rfl rfl rfl rfl rfl rfl rfl rfl rfl rfl) | dsimp -zeta only)

theorem heatUpdate_quiet (s : State) (slot : Nat) (temp : Int) (hss : Quiet s₀ s) : Quiet s₀ (heatUpdate s slot
    temp) := by
  unfold heatUpdate
  repeat' (first
    | (with_reducible assumption)
    | (intro u; first | (refine (fun (_ : Quiet s₀ u) => ?_) ?_; clear_value u; rotate_left; dsimp -zeta only [u]; rotate_right) | (refine (fun (_ : Quiet s₀ u.2) => ?_) ?_; clear_value u; rotate_left; dsimp -zeta only [u]; rotate_right) | (refine (fun (_ : Quiet s₀ u.2.2) => ?_) ?_; clear_value u; rotate_left; dsimp -zeta only [u]; rotate_right) | clear_value u)
    | intro _ | lift_lets -underBinder | (with_reducible apply Quiet.ite) | (with_reducible apply Quiet.foldl)
    | (with_reducible apply ageBlocks_quiet) | (with_reducible apply heatDays_quiet)
    | (refine heatDays_quiet_eq ?_ (by with_reducible assumption)) | split
    | (with_reducible refine Quiet.mk' ?_ rfl rfl rfl rfl rfl rfl rfl rfl rfl rfl rfl) | dsimp -zeta only)

theorem loseIfBeyond_quiet (s : State) (key : Nat) (t : Stripe) (row : Nat) (m : Nat) (bad : List Nat) (hss :
    Quiet s₀ s) : Quiet s₀ (loseIfBeyond s key t row m bad) := by
  unfold loseIfBeyond
  repeat' (first
    | (with_reducible assumption)
    | (intro u; first | (refine (fun (_ : Quiet s₀ u) => ?_) ?_; clear_value u; rotate_left; dsimp -zeta only [u]; rotate_right) | clear_value u)
    | intro _ | lift_lets -underBinder | (with_reducible apply Quiet.ite) | (with_reducible apply Quiet.foldl)
    | (with_reducible apply loseRow_quiet) | split
    | (with_reducible refine Quiet.mk' ?_ rfl rfl rfl rfl rfl rfl rfl rfl rfl rfl rfl) | dsimp -zeta only)

theorem patrolUnreadable_quiet (slot : Nat) (l : Nat) (s : State) (c : Nat) (hss : Quiet s₀ s) : Quiet s₀
    (patrolUnreadable slot l s c) := by
  unfold patrolUnreadable
  repeat' (first
    | (with_reducible assumption)
    | (intro u; first | (refine (fun (_ : Quiet s₀ u) => ?_) ?_; clear_value u; rotate_left; dsimp -zeta only [u]; rotate_right) | clear_value u)
    | intro _ | lift_lets -underBinder | (with_reducible apply Quiet.ite) | (with_reducible apply Quiet.foldl)
    | (with_reducible apply loseIfBeyond_quiet) | split
    | (with_reducible refine Quiet.mk' ?_ rfl rfl rfl rfl rfl rfl rfl rfl rfl rfl rfl) | dsimp -zeta only)

theorem patrolVisit_quiet (s : State) (g : Nat) (m : Nat) (l : Nat) (rber : Nat) (bad : List Nat) (hss : Quiet s₀
    s) : Quiet s₀ (patrolVisit s g m l rber bad) := by
  unfold patrolVisit
  repeat' (first
    | (with_reducible assumption)
    | (intro u; first | (refine (fun (_ : Quiet s₀ u) => ?_) ?_; clear_value u; rotate_left; dsimp -zeta only [u]; rotate_right) | clear_value u)
    | intro _ | lift_lets -underBinder | (with_reducible apply Quiet.ite) | (with_reducible apply Quiet.foldl)
    | (with_reducible apply alert_quiet) | (with_reducible apply patrolUnreadable_quiet)
    | (with_reducible apply requestWake_quiet) | (with_reducible apply setBlock_quiet)
    | (with_reducible apply suspectBlock_quiet) | split
    | (with_reducible refine Quiet.mk' ?_ rfl rfl rfl rfl rfl rfl rfl rfl rfl rfl rfl) | dsimp -zeta only)

theorem moveStrip_quiet (dest : Place) (s : State) (key : Nat) (m : Nat) (hss : Quiet s₀ s) : Quiet s₀ (moveStrip dest
    s key m) := by
  unfold moveStrip
  repeat' (first
    | (with_reducible assumption)
    | (intro u; first | (refine (fun (_ : Quiet s₀ u) => ?_) ?_; clear_value u; rotate_left; dsimp -zeta only [u]; rotate_right) | clear_value u)
    | intro _ | lift_lets -underBinder | (with_reducible apply Quiet.ite) | (with_reducible apply Quiet.foldl)
    | (with_reducible apply journal_quiet) | split
    | (with_reducible refine Quiet.mk' ?_ rfl rfl rfl rfl rfl rfl rfl rfl rfl rfl rfl) | dsimp -zeta only)

theorem placeMoved_quiet (slot pages : Nat) (dest : FlashAddr) (i : Nat) (l : List (Nat × Nat)) (s : State)
    (hs : Quiet s₀ s) : Quiet s₀ (placeMoved slot pages dest i l s) := by
  induction l generalizing i s with
  | nil => exact hs
  | cons k ks ih => exact ih _ _ (moveStrip_quiet _ _ _ _ hs)

theorem relocate_quiet (s : State) (g : Nat) (slot : Nat) (l : Nat) (fresh : Nat) (pass : Bool) (hss : Quiet s₀ s)
    : Quiet s₀ (relocate s g slot l fresh pass) := by
  unfold relocate
  repeat' (first
    | (with_reducible assumption)
    | (intro u; first | (refine (fun (_ : Quiet s₀ u) => ?_) ?_; clear_value u; rotate_left; dsimp -zeta only [u]; rotate_right) | (refine (fun (_ : Quiet s₀ u.2) => ?_) ?_; clear_value u; rotate_left; dsimp -zeta only [u]; rotate_right) | (refine (fun (_ : Quiet s₀ u.2.2) => ?_) ?_; clear_value u; rotate_left; dsimp -zeta only [u]; rotate_right) | clear_value u)
    | intro _ | lift_lets -underBinder | (with_reducible apply Quiet.ite) | (with_reducible apply Quiet.foldl)
    | (with_reducible apply moveLog_quiet) | (with_reducible apply placeLogs_quiet)
    | (with_reducible apply placeMoved_quiet) | (with_reducible apply retireBlock_quiet)
    | (with_reducible apply setBlock_quiet) | split
    | (with_reducible refine Quiet.mk' ?_ rfl rfl rfl rfl rfl rfl rfl rfl rfl rfl rfl) | dsimp -zeta only)

theorem blockRefresh_quiet (s : State) (g : Nat) (m : Nat) (l : Nat) (fresh : Nat) (pass : Bool) (hss : Quiet s₀
    s) : Quiet s₀ (blockRefresh s g m l fresh pass) := by
  unfold blockRefresh
  repeat' (first
    | (with_reducible assumption)
    | (intro u; first | (refine (fun (_ : Quiet s₀ u) => ?_) ?_; clear_value u; rotate_left; dsimp -zeta only [u]; rotate_right) | clear_value u)
    | intro _ | lift_lets -underBinder | (with_reducible apply Quiet.ite) | (with_reducible apply Quiet.foldl)
    | (with_reducible apply relocate_quiet) | (with_reducible apply requestWake_quiet) | split
    | (with_reducible refine Quiet.mk' ?_ rfl rfl rfl rfl rfl rfl rfl rfl rfl rfl rfl) | dsimp -zeta only)

theorem wearLevel_quiet (s : State) (g : Nat) (m : Nat) (hss : Quiet s₀ s) : Quiet s₀ (wearLevel s g m) := by
  unfold wearLevel
  repeat' (first
    | (with_reducible assumption)
    | (intro u; first | (refine (fun (_ : Quiet s₀ u) => ?_) ?_; clear_value u; rotate_left; dsimp -zeta only [u]; rotate_right) | clear_value u)
    | intro _ | lift_lets -underBinder | (with_reducible apply Quiet.ite) | (with_reducible apply Quiet.foldl)
    | (with_reducible apply relocate_quiet) | split
    | (with_reducible refine Quiet.mk' ?_ rfl rfl rfl rfl rfl rfl rfl rfl rfl rfl rfl) | dsimp -zeta only)

theorem checkpointCopy_quiet (g : Nat) (s : State) (slot : Nat) (hss : Quiet s₀ s) : Quiet s₀ (checkpointCopy g s
    slot) := by
  unfold checkpointCopy
  repeat' (first
    | (with_reducible assumption)
    | (intro u; first | (refine (fun (_ : Quiet s₀ u) => ?_) ?_; clear_value u; rotate_left; dsimp -zeta only [u]; rotate_right) | (refine (fun (_ : Quiet.Opt2 s₀ u) => ?_) ?_; clear_value u; rotate_left; dsimp -zeta only [u]; rotate_right) | (refine (fun (_ : Quiet s₀ u.2) => ?_) ?_; clear_value u; rotate_left; dsimp -zeta only [u]; rotate_right) | (refine (fun (_ : Quiet s₀ u.2.2) => ?_) ?_; clear_value u; rotate_left; dsimp -zeta only [u]; rotate_right) | clear_value u)
    | intro _ | lift_lets -underBinder | (with_reducible apply Quiet.ite) | (with_reducible apply Quiet.foldl)
    | (with_reducible apply checkpoint_quiet) | (with_reducible apply takePages_quiet)
    | (refine takePages_quiet_eq ?_ (by with_reducible assumption)) | (with_reducible exact Quiet.opt2_none)
    | (with_reducible apply Quiet.opt2_some) | (with_reducible apply Quiet.opt2_ite)
    | (exact Quiet.opt2_use (by with_reducible assumption) (by with_reducible assumption))
    | (exact Quiet.opt2_use (by with_reducible assumption) rfl) | split
    | (with_reducible refine Quiet.mk' ?_ rfl rfl rfl rfl rfl rfl rfl rfl rfl rfl rfl) | dsimp -zeta only)

theorem checkpoint_quiet (s : State) (g : Nat) (a : Nat) (b : Nat) (passA : Bool) (passB : Bool) (hss : Quiet s₀
    s) : Quiet s₀ (checkpoint s g a b passA passB) := by
  unfold checkpoint
  repeat' (first
    | (with_reducible assumption)
    | (intro u; first | (refine (fun (_ : Quiet s₀ u) => ?_) ?_; clear_value u; rotate_left; dsimp -zeta only [u]; rotate_right) | clear_value u)
    | intro _ | lift_lets -underBinder | (with_reducible apply Quiet.ite) | (with_reducible apply Quiet.foldl)
    | (with_reducible apply alert_quiet) | (with_reducible apply checkpointCopy_quiet)
    | (with_reducible apply journal_quiet) | (with_reducible apply setGroup_quiet) | split
    | (with_reducible refine Quiet.mk' ?_ rfl rfl rfl rfl rfl rfl rfl rfl rfl rfl rfl) | dsimp -zeta only)

end Sys2Proof.Machine
end

