-- ==== Sys2Proof/Laws/QuietRebuild.lean ====
section
/-! SUPPORT. The operations of Machine/Rebuild.lean that keep `Quiet`. -/
namespace Sys2Proof.Machine
variable {s₀ : State}

theorem outTimeout_quiet (s : State) (g : Nat) (m : Nat) (hss : Quiet s₀ s) : Quiet s₀ (outTimeout s g m) := by
  unfold outTimeout
  repeat' (first
    | (with_reducible assumption)
    | (intro u; first | (refine (fun (_ : Quiet s₀ u) => ?_) ?_; clear_value u; rotate_left; dsimp -zeta only [u]; rotate_right) | clear_value u)
    | intro _ | lift_lets -underBinder | (with_reducible apply Quiet.ite) | (with_reducible apply Quiet.foldl)
    | (with_reducible apply clockTo_quiet) | (with_reducible apply memberFailed_quiet) | split
    | (with_reducible refine Quiet.mk' ?_ rfl rfl rfl rfl rfl rfl rfl rfl rfl rfl rfl) | dsimp -zeta only)

theorem mbrResult_quiet (s : State) (g : Nat) (m : Nat) (r : Nat) (hss : Quiet s₀ s) : Quiet s₀ (mbrResult s g m
    r) := by
  unfold mbrResult
  repeat' (first
    | (with_reducible assumption)
    | (intro u; first | (refine (fun (_ : Quiet s₀ u) => ?_) ?_; clear_value u; rotate_left; dsimp -zeta only [u]; rotate_right) | clear_value u)
    | intro _ | lift_lets -underBinder | (with_reducible apply Quiet.ite) | (with_reducible apply Quiet.foldl)
    | (with_reducible apply blockError_quiet) | (with_reducible apply setField_quiet) | split
    | (with_reducible refine Quiet.mk' ?_ rfl rfl rfl rfl rfl rfl rfl rfl rfl rfl rfl) | dsimp -zeta only)

theorem queryMember_quiet (s : State) (g : Nat) (m : Nat) (hss : Quiet s₀ s) : Quiet s₀ (queryMember s g m) := by
  unfold queryMember
  repeat' (first
    | (with_reducible assumption)
    | (intro u; first | (refine (fun (_ : Quiet s₀ u) => ?_) ?_; clear_value u; rotate_left; dsimp -zeta only [u]; rotate_right) | clear_value u)
    | intro _ | lift_lets -underBinder | (with_reducible apply Quiet.ite) | (with_reducible apply Quiet.foldl)
    | (with_reducible apply mbrResult_quiet) | (with_reducible apply setReg_quiet) | split
    | (with_reducible refine Quiet.mk' ?_ rfl rfl rfl rfl rfl rfl rfl rfl rfl rfl rfl) | dsimp -zeta only)

theorem failMember_quiet (s : State) (g : Nat) (m : Nat) (force : Bool) (hss : Quiet s₀ s) : Quiet s₀ (failMember
    s g m force) := by
  unfold failMember
  repeat' (first
    | (with_reducible assumption)
    | (intro u; first | (refine (fun (_ : Quiet s₀ u) => ?_) ?_; clear_value u; rotate_left; dsimp -zeta only [u]; rotate_right) | clear_value u)
    | intro _ | lift_lets -underBinder | (with_reducible apply Quiet.ite) | (with_reducible apply Quiet.foldl)
    | (with_reducible apply mbrResult_quiet) | (with_reducible apply memberFailed_quiet) | split
    | (with_reducible refine Quiet.mk' ?_ rfl rfl rfl rfl rfl rfl rfl rfl rfl rfl rfl) | dsimp -zeta only)

theorem mbrCmdEffect_quiet (x0 : State) (after : State) (hsafter : Quiet s₀ after) : Quiet s₀ (mbrCmdEffect x0
    after) := by
  unfold mbrCmdEffect
  repeat' (first
    | (with_reducible assumption)
    | (intro u; first | (refine (fun (_ : Quiet s₀ u) => ?_) ?_; clear_value u; rotate_left; dsimp -zeta only [u]; rotate_right) | clear_value u)
    | intro _ | lift_lets -underBinder | (with_reducible apply Quiet.ite) | (with_reducible apply Quiet.foldl)
    | (with_reducible apply failMember_quiet) | (with_reducible apply queryMember_quiet)
    | (with_reducible apply setReg_quiet) | split
    | (with_reducible refine Quiet.mk' ?_ rfl rfl rfl rfl rfl rfl rfl rfl rfl rfl rfl) | dsimp -zeta only)

theorem memberCommand_quiet (s : State) (req : Nat) (op : Nat) (force : Bool) (hss : Quiet s₀ s) : Quiet s₀
    (memberCommand s req op force) := by
  unfold memberCommand
  repeat' (first
    | (with_reducible assumption)
    | (intro u; first | (refine (fun (_ : Quiet s₀ u) => ?_) ?_; clear_value u; rotate_left; dsimp -zeta only [u]; rotate_right) | clear_value u)
    | intro _ | lift_lets -underBinder | (with_reducible apply Quiet.ite) | (with_reducible apply Quiet.foldl)
    | (with_reducible apply mbrCmdEffect_quiet) | (with_reducible apply writeBlock_quiet) | split
    | (with_reducible refine Quiet.mk' ?_ rfl rfl rfl rfl rfl rfl rfl rfl rfl rfl rfl) | dsimp -zeta only)

theorem addLogPlace_quiet (p : Place) (s : State) (key : Nat) (hss : Quiet s₀ s) : Quiet s₀ (addLogPlace p s key)
    := by
  unfold addLogPlace
  repeat' (first
    | (with_reducible assumption)
    | (intro u; first | (refine (fun (_ : Quiet s₀ u) => ?_) ?_; clear_value u; rotate_left; dsimp -zeta only [u]; rotate_right) | clear_value u)
    | intro _ | lift_lets -underBinder | (with_reducible apply Quiet.ite) | (with_reducible apply Quiet.foldl)
    | (with_reducible apply journal_quiet) | split
    | (with_reducible refine Quiet.mk' ?_ rfl rfl rfl rfl rfl rfl rfl rfl rfl rfl rfl) | dsimp -zeta only)

theorem copyLogs_quiet (s : State) (g : Nat) (slot : Nat) (keys : List Nat) (hss : Quiet s₀ s) : Quiet s₀
    (copyLogs s g slot keys) := by
  unfold copyLogs
  repeat' (first
    | (with_reducible assumption)
    | (intro u; first | (refine (fun (_ : Quiet s₀ u) => ?_) ?_; clear_value u; rotate_left; dsimp -zeta only [u]; rotate_right) | (refine (fun (_ : Quiet.Opt2 s₀ u) => ?_) ?_; clear_value u; rotate_left; dsimp -zeta only [u]; rotate_right) | (refine (fun (_ : Quiet s₀ u.2) => ?_) ?_; clear_value u; rotate_left; dsimp -zeta only [u]; rotate_right) | (refine (fun (_ : Quiet s₀ u.2.2) => ?_) ?_; clear_value u; rotate_left; dsimp -zeta only [u]; rotate_right) | clear_value u)
    | intro _ | lift_lets -underBinder | (with_reducible apply Quiet.ite) | (with_reducible apply Quiet.foldl)
    | (with_reducible apply addLogPlace_quiet) | (with_reducible apply placeLogs_quiet)
    | (with_reducible apply takePages_quiet) | (refine takePages_quiet_eq ?_ (by with_reducible assumption))
    | (with_reducible exact Quiet.opt2_none) | (with_reducible apply Quiet.opt2_some)
    | (with_reducible apply Quiet.opt2_ite)
    | (exact Quiet.opt2_use (by with_reducible assumption) (by with_reducible assumption))
    | (exact Quiet.opt2_use (by with_reducible assumption) rfl) | split
    | (with_reducible refine Quiet.mk' ?_ rfl rfl rfl rfl rfl rfl rfl rfl rfl rfl rfl) | dsimp -zeta only)

theorem restoreLogs_quiet (s : State) (g : Nat) (bad : List Nat) (hss : Quiet s₀ s) : Quiet s₀ (restoreLogs s g
    bad) := by
  unfold restoreLogs
  repeat' (first
    | (with_reducible assumption)
    | (intro u; first | (refine (fun (_ : Quiet s₀ u) => ?_) ?_; clear_value u; rotate_left; dsimp -zeta only [u]; rotate_right) | clear_value u)
    | intro _ | lift_lets -underBinder | (with_reducible apply Quiet.ite) | (with_reducible apply Quiet.foldl)
    | (with_reducible apply copyLogs_quiet) | (with_reducible apply dropLog_quiet)
    | (with_reducible apply loseLogSector_quiet) | split
    | (with_reducible refine Quiet.mk' ?_ rfl rfl rfl rfl rfl rfl rfl rfl rfl rfl rfl) | dsimp -zeta only)

theorem suspectRows_quiet (t : Stripe) (bad : List Nat) (s : State) (hss : Quiet s₀ s) : Quiet s₀ (suspectRows t
    bad s) := by
  unfold suspectRows
  repeat' (first
    | (with_reducible assumption)
    | (intro u; first | (refine (fun (_ : Quiet s₀ u) => ?_) ?_; clear_value u; rotate_left; dsimp -zeta only [u]; rotate_right) | clear_value u)
    | intro _ | lift_lets -underBinder | (with_reducible apply Quiet.ite) | (with_reducible apply Quiet.foldl)
    | (with_reducible apply suspectBlock_quiet) | split
    | (with_reducible refine Quiet.mk' ?_ rfl rfl rfl rfl rfl rfl rfl rfl rfl rfl rfl) | dsimp -zeta only)

theorem cleanStripe_quiet (s : State) (g : Nat) (m : Nat) (n : Nat) (hss : Quiet s₀ s) : Quiet s₀ (cleanStripe s g
    m n) := by
  unfold cleanStripe
  repeat' (first
    | (with_reducible assumption)
    | (intro u; first | (refine (fun (_ : Quiet s₀ u) => ?_) ?_; clear_value u; rotate_left; dsimp -zeta only [u]; rotate_right) | clear_value u)
    | intro _ | lift_lets -underBinder | (with_reducible apply Quiet.ite) | (with_reducible apply Quiet.foldl)
    | (with_reducible apply putMember_quiet) | split
    | (with_reducible refine Quiet.mk' ?_ rfl rfl rfl rfl rfl rfl rfl rfl rfl rfl rfl) | dsimp -zeta only)

theorem rebuildIndex_quiet (s : State) (g : Nat) (m : Nat) (n : Nat) (y : Member) (pass : Bool) (bad : List Nat)
    (hss : Quiet s₀ s) : Quiet.Opt s₀ (rebuildIndex s g m n y pass bad) := by
  unfold rebuildIndex
  repeat' (first
    | (with_reducible assumption)
    | (intro u; first | (refine (fun (_ : Quiet s₀ u) => ?_) ?_; clear_value u; rotate_left; dsimp -zeta only [u]; rotate_right) | (refine (fun (_ : Quiet s₀ u.2) => ?_) ?_; clear_value u; rotate_left; dsimp -zeta only [u]; rotate_right) | (refine (fun (_ : Quiet s₀ u.2.2) => ?_) ?_; clear_value u; rotate_left; dsimp -zeta only [u]; rotate_right) | clear_value u)
    | intro _ | lift_lets -underBinder | (with_reducible apply Quiet.ite) | (with_reducible exact Quiet.opt_none)
    | (with_reducible apply Quiet.opt_some) | (with_reducible apply Quiet.opt_ite) | (with_reducible apply Quiet.foldl)
    | (with_reducible apply bump_quiet) | (with_reducible apply cleanStripe_quiet)
    | (with_reducible apply freeBlocks_quiet) | (with_reducible apply loseIfBeyond_quiet)
    | (with_reducible apply moveStrip_quiet) | (with_reducible apply placeStrip_quiet)
    | (refine placeStrip_quiet_eq ?_ (by with_reducible assumption)) | (with_reducible apply retireBlock_quiet)
    | (with_reducible apply suspectRows_quiet) | split
    | (with_reducible refine Quiet.mk' ?_ rfl rfl rfl rfl rfl rfl rfl rfl rfl rfl rfl) | dsimp -zeta only)
theorem rebuildIndex_quiet_eq {s : State} {g : Nat} {m : Nat} {n : Nat} {y : Member} {pass : Bool} {bad : List
    Nat} {t : State} (hss : Quiet s₀ s) (e : rebuildIndex s g m n y pass bad = some t) : Quiet s₀ t :=
  (rebuildIndex_quiet s g m n y pass bad hss).use t e

theorem sweepEnds_quiet (s : State) (g : Nat) (m : Nat) (hss : Quiet s₀ s) : Quiet s₀ (sweepEnds s g m) := by
  unfold sweepEnds
  repeat' (first
    | (with_reducible assumption)
    | (intro u; first | (refine (fun (_ : Quiet s₀ u) => ?_) ?_; clear_value u; rotate_left; dsimp -zeta only [u]; rotate_right) | clear_value u)
    | intro _ | lift_lets -underBinder | (with_reducible apply Quiet.ite) | (with_reducible apply Quiet.foldl)
    | (with_reducible apply alertAt_quiet) | (with_reducible apply fillIndex_quiet)
    | (with_reducible apply freeBlocks_quiet) | (with_reducible apply memberChanged_quiet)
    | (with_reducible apply putMember_quiet) | split
    | (with_reducible refine Quiet.mk' ?_ rfl rfl rfl rfl rfl rfl rfl rfl rfl rfl rfl) | dsimp -zeta only)

theorem advanceCursor_quiet (s : State) (g : Nat) (m : Nat) (hss : Quiet s₀ s) : Quiet s₀ (advanceCursor s g m) :=
    by
  unfold advanceCursor
  repeat' (first
    | (with_reducible assumption)
    | (intro u; first | (refine (fun (_ : Quiet s₀ u) => ?_) ?_; clear_value u; rotate_left; dsimp -zeta only [u]; rotate_right) | clear_value u)
    | intro _ | lift_lets -underBinder | (with_reducible apply Quiet.ite) | (with_reducible apply Quiet.foldl)
    | (with_reducible apply keepMember_quiet) | (with_reducible apply putMember_quiet)
    | (with_reducible apply sweepEnds_quiet) | split
    | (with_reducible refine Quiet.mk' ?_ rfl rfl rfl rfl rfl rfl rfl rfl rfl rfl rfl) | dsimp -zeta only)

theorem sweepIndex_quiet (g : Nat) (n : Nat) (pass : Bool) (bad : List Nat) (s : State) (e : Nat × Member) (hss :
    Quiet s₀ s) : Quiet s₀ (sweepIndex g n pass bad s e) := by
  unfold sweepIndex
  repeat' (first
    | (with_reducible assumption)
    | (intro u; first | (refine (fun (_ : Quiet s₀ u) => ?_) ?_; clear_value u; rotate_left; dsimp -zeta only [u]; rotate_right) | (refine (fun (_ : Quiet.Opt s₀ u) => ?_) ?_; clear_value u; rotate_left; dsimp -zeta only [u]; rotate_right) | clear_value u)
    | intro _ | lift_lets -underBinder | (with_reducible apply Quiet.ite) | (with_reducible apply Quiet.foldl)
    | (with_reducible apply advanceCursor_quiet) | (with_reducible apply rebuildIndex_quiet)
    | (refine rebuildIndex_quiet_eq ?_ (by with_reducible assumption)) | (with_reducible apply sweepEnds_quiet)
    | (with_reducible exact Quiet.opt_none) | (with_reducible apply Quiet.opt_some)
    | (with_reducible apply Quiet.opt_ite)
    | (exact Quiet.opt_use (by with_reducible assumption) (by with_reducible assumption))
    | (exact Quiet.opt_use (by with_reducible assumption) rfl) | split
    | (with_reducible refine Quiet.mk' ?_ rfl rfl rfl rfl rfl rfl rfl rfl rfl rfl rfl) | dsimp -zeta only)

theorem resyncStripe_quiet (s : State) (g : Nat) (m : Nat) (n : Nat) (y : Member) (pass : Bool) (bad : List Nat)
    (hss : Quiet s₀ s) : Quiet s₀ (resyncStripe s g m n y pass bad) := by
  unfold resyncStripe
  repeat' (first
    | (with_reducible assumption)
    | (intro u; first | (refine (fun (_ : Quiet s₀ u) => ?_) ?_; clear_value u; rotate_left; dsimp -zeta only [u]; rotate_right) | (refine (fun (_ : Quiet.Opt s₀ u) => ?_) ?_; clear_value u; rotate_left; dsimp -zeta only [u]; rotate_right) | clear_value u)
    | intro _ | lift_lets -underBinder | (with_reducible apply Quiet.ite) | (with_reducible apply Quiet.foldl)
    | (with_reducible apply rebuildIndex_quiet) | (refine rebuildIndex_quiet_eq ?_ (by with_reducible assumption))
    | (with_reducible apply resyncDone_quiet) | (with_reducible exact Quiet.opt_none)
    | (with_reducible apply Quiet.opt_some) | (with_reducible apply Quiet.opt_ite)
    | (exact Quiet.opt_use (by with_reducible assumption) (by with_reducible assumption))
    | (exact Quiet.opt_use (by with_reducible assumption) rfl) | split
    | (with_reducible refine Quiet.mk' ?_ rfl rfl rfl rfl rfl rfl rfl rfl rfl rfl rfl) | dsimp -zeta only)

theorem rebuildStripe_quiet (s : State) (g : Nat) (pass : Bool) (bad : List Nat) (hss : Quiet s₀ s) : Quiet s₀
    (rebuildStripe s g pass bad) := by
  unfold rebuildStripe
  repeat' (first
    | (with_reducible assumption)
    | (intro u; first | (refine (fun (_ : Quiet s₀ u) => ?_) ?_; clear_value u; rotate_left; dsimp -zeta only [u]; rotate_right) | clear_value u)
    | intro _ | lift_lets -underBinder | (with_reducible apply Quiet.ite) | (with_reducible apply Quiet.foldl)
    | (with_reducible apply putMember_quiet) | (with_reducible apply restoreLogs_quiet)
    | (with_reducible apply resyncDone_quiet) | (with_reducible apply resyncStripe_quiet)
    | (with_reducible apply sweepIndex_quiet) | split
    | (with_reducible refine Quiet.mk' ?_ rfl rfl rfl rfl rfl rfl rfl rfl rfl rfl rfl) | dsimp -zeta only)

theorem rshResult_quiet (s : State) (g : Nat) (r : Nat) (hss : Quiet s₀ s) : Quiet s₀ (rshResult s g r) := by
  unfold rshResult
  repeat' (first
    | (with_reducible assumption)
    | (intro u; first | (refine (fun (_ : Quiet s₀ u) => ?_) ?_; clear_value u; rotate_left; dsimp -zeta only [u]; rotate_right) | clear_value u)
    | intro _ | lift_lets -underBinder | (with_reducible apply Quiet.ite) | (with_reducible apply Quiet.foldl)
    | (with_reducible apply blockError_quiet) | split
    | (with_reducible refine Quiet.mk' ?_ rfl rfl rfl rfl rfl rfl rfl rfl rfl rfl rfl) | dsimp -zeta only)

theorem reshapeStart_quiet (s : State) (hss : Quiet s₀ s) : Quiet s₀ (reshapeStart s) := by
  unfold reshapeStart
  repeat' (first
    | (with_reducible assumption)
    | (intro u; first | (refine (fun (_ : Quiet s₀ u) => ?_) ?_; clear_value u; rotate_left; dsimp -zeta only [u]; rotate_right) | clear_value u)
    | intro _ | lift_lets -underBinder | (with_reducible apply Quiet.ite) | (with_reducible apply Quiet.foldl)
    | (with_reducible apply journal_quiet) | (with_reducible apply rshResult_quiet)
    | (with_reducible apply writeGroup_quiet) | split
    | (with_reducible refine Quiet.mk' ?_ rfl rfl rfl rfl rfl rfl rfl rfl rfl rfl rfl) | dsimp -zeta only)

theorem rshCmdEffect_quiet (x0 : State) (after : State) (hsafter : Quiet s₀ after) : Quiet s₀ (rshCmdEffect x0
    after) := by
  unfold rshCmdEffect
  repeat' (first
    | (with_reducible assumption)
    | (intro u; first | (refine (fun (_ : Quiet s₀ u) => ?_) ?_; clear_value u; rotate_left; dsimp -zeta only [u]; rotate_right) | clear_value u)
    | intro _ | lift_lets -underBinder | (with_reducible apply Quiet.ite) | (with_reducible apply Quiet.foldl)
    | (with_reducible apply reshapeStart_quiet) | (with_reducible apply rshResult_quiet)
    | (with_reducible apply setReg_quiet) | split
    | (with_reducible refine Quiet.mk' ?_ rfl rfl rfl rfl rfl rfl rfl rfl rfl rfl rfl) | dsimp -zeta only)

theorem reshapeCommand_quiet (s : State) (req : Nat) (op : Nat) (hss : Quiet s₀ s) : Quiet s₀ (reshapeCommand s
    req op) := by
  unfold reshapeCommand
  repeat' (first
    | (with_reducible assumption)
    | (intro u; first | (refine (fun (_ : Quiet s₀ u) => ?_) ?_; clear_value u; rotate_left; dsimp -zeta only [u]; rotate_right) | clear_value u)
    | intro _ | lift_lets -underBinder | (with_reducible apply Quiet.ite) | (with_reducible apply Quiet.foldl)
    | (with_reducible apply rshCmdEffect_quiet) | (with_reducible apply writeBlock_quiet) | split
    | (with_reducible refine Quiet.mk' ?_ rfl rfl rfl rfl rfl rfl rfl rfl rfl rfl rfl) | dsimp -zeta only)

theorem dropStripe_quiet (s : State) (key : Nat) (hss : Quiet s₀ s) : Quiet s₀ (dropStripe s key) := by
  unfold dropStripe
  repeat' (first
    | (with_reducible assumption)
    | (intro u; first | (refine (fun (_ : Quiet s₀ u) => ?_) ?_; clear_value u; rotate_left; dsimp -zeta only [u]; rotate_right) | clear_value u)
    | intro _ | lift_lets -underBinder | (with_reducible apply Quiet.ite) | (with_reducible apply Quiet.foldl)
    | (with_reducible apply journal_quiet) | split
    | (with_reducible refine Quiet.mk' ?_ rfl rfl rfl rfl rfl rfl rfl rfl rfl rfl rfl) | dsimp -zeta only)

theorem reshapeCheckpoint_quiet (s : State) (hss : Quiet s₀ s) : Quiet s₀ (reshapeCheckpoint s) := by
  unfold reshapeCheckpoint
  repeat' (first
    | (with_reducible assumption)
    | (intro u; first | (refine (fun (_ : Quiet s₀ u) => ?_) ?_; clear_value u; rotate_left; dsimp -zeta only [u]; rotate_right) | clear_value u)
    | intro _ | lift_lets -underBinder | (with_reducible apply Quiet.ite) | (with_reducible apply Quiet.foldl)
    | (with_reducible apply dropStripe_quiet) | (with_reducible apply freeBlocks_quiet)
    | (with_reducible apply journal_quiet) | (with_reducible apply setZone_quiet) | split
    | (with_reducible refine Quiet.mk' ?_ rfl rfl rfl rfl rfl rfl rfl rfl rfl rfl rfl) | dsimp -zeta only)

theorem reshapeSuspend_quiet (s : State) (r : Reshape) (hss : Quiet s₀ s) : Quiet s₀ (reshapeSuspend s r) := by
  unfold reshapeSuspend
  repeat' (first
    | (with_reducible assumption)
    | (intro u; first | (refine (fun (_ : Quiet s₀ u) => ?_) ?_; clear_value u; rotate_left; dsimp -zeta only [u]; rotate_right) | clear_value u)
    | intro _ | lift_lets -underBinder | (with_reducible apply Quiet.ite) | (with_reducible apply Quiet.foldl)
    | (with_reducible apply alertAt_quiet) | (with_reducible apply reshapeCheckpoint_quiet) | split
    | (with_reducible refine Quiet.mk' ?_ rfl rfl rfl rfl rfl rfl rfl rfl rfl rfl rfl) | dsimp -zeta only)

theorem newZoneStripe_quiet (s : State) (r : Reshape) (k : Nat) (q : Nat) (pass : Bool) (lost : List Nat) (hss :
    Quiet s₀ s) : Quiet s₀ (newZoneStripe s r k q pass lost) := by
  unfold newZoneStripe
  repeat' (first
    | (with_reducible assumption)
    | (intro u; first | (refine (fun (_ : Quiet s₀ u) => ?_) ?_; clear_value u; rotate_left; dsimp -zeta only [u]; rotate_right) | (refine (fun (_ : Quiet s₀ u.2) => ?_) ?_; clear_value u; rotate_left; dsimp -zeta only [u]; rotate_right) | (refine (fun (_ : Quiet s₀ u.2.2) => ?_) ?_; clear_value u; rotate_left; dsimp -zeta only [u]; rotate_right) | clear_value u)
    | intro _ | lift_lets -underBinder | (with_reducible apply Quiet.ite) | (with_reducible apply Quiet.foldl)
    | (with_reducible apply bump_quiet) | (with_reducible apply dropLog_quiet) | (with_reducible apply journal_quiet)
    | (with_reducible apply loseSector_quiet) | (with_reducible apply placeStrips_quiet)
    | (refine placeStrips_quiet_eq ?_ (by with_reducible assumption)) | (with_reducible apply reshapeCheckpoint_quiet)
    | (with_reducible apply retireBlock_quiet) | (with_reducible apply setGroup_quiet) | split
    | (with_reducible refine Quiet.mk' ?_ rfl rfl rfl rfl rfl rfl rfl rfl rfl rfl rfl) | dsimp -zeta only)

theorem relogTail_quiet (s : State) (r : Reshape) (k : Nat) (from_ : Nat) (hss : Quiet s₀ s) : Quiet s₀ (relogTail
    s r k from_) := by
  unfold relogTail
  repeat' (first
    | (with_reducible assumption)
    | (intro u; first | (refine (fun (_ : Quiet s₀ u) => ?_) ?_; clear_value u; rotate_left; dsimp -zeta only [u]; rotate_right) | clear_value u)
    | intro _ | lift_lets -underBinder | (with_reducible apply Quiet.ite) | (with_reducible apply Quiet.foldl)
    | (with_reducible apply copyLogs_quiet) | split
    | (with_reducible refine Quiet.mk' ?_ rfl rfl rfl rfl rfl rfl rfl rfl rfl rfl rfl) | dsimp -zeta only)

theorem rebuffer_quiet (s : State) (r : Reshape) (k : Nat) (oldSpan : Nat) (hss : Quiet s₀ s) : Quiet s₀ (rebuffer
    s r k oldSpan) := by
  unfold rebuffer
  repeat' (first
    | (with_reducible assumption)
    | (intro u; first | (refine (fun (_ : Quiet s₀ u) => ?_) ?_; clear_value u; rotate_left; dsimp -zeta only [u]; rotate_right) | clear_value u)
    | intro _ | lift_lets -underBinder | (with_reducible apply Quiet.ite) | (with_reducible apply Quiet.foldl)
    | (with_reducible apply startRefill_quiet) | split
    | (with_reducible refine Quiet.mk' ?_ rfl rfl rfl rfl rfl rfl rfl rfl rfl rfl rfl) | dsimp -zeta only)

theorem zoneReshaped_quiet (s : State) (r : Reshape) (k : Nat) (rest : List Nat) (hss : Quiet s₀ s) : Quiet s₀
    (zoneReshaped s r k rest) := by
  unfold zoneReshaped
  repeat' (first
    | (with_reducible assumption)
    | (intro u; first | (refine (fun (_ : Quiet s₀ u) => ?_) ?_; clear_value u; rotate_left; dsimp -zeta only [u]; rotate_right) | clear_value u)
    | intro _ | lift_lets -underBinder | (with_reducible apply Quiet.ite) | (with_reducible apply Quiet.foldl)
    | (with_reducible apply dropStripe_quiet) | (with_reducible apply freeBlocks_quiet)
    | (with_reducible apply journalZone_quiet) | (with_reducible apply rebuffer_quiet)
    | (with_reducible apply relogTail_quiet) | (with_reducible apply reshapeCheckpoint_quiet)
    | (with_reducible apply setZone_quiet) | split
    | (with_reducible refine Quiet.mk' ?_ rfl rfl rfl rfl rfl rfl rfl rfl rfl rfl rfl) | dsimp -zeta only)

theorem reshapeDone_quiet (s : State) (r : Reshape) (hss : Quiet s₀ s) : Quiet s₀ (reshapeDone s r) := by
  unfold reshapeDone
  repeat' (first
    | (with_reducible assumption)
    | (intro u; first | (refine (fun (_ : Quiet s₀ u) => ?_) ?_; clear_value u; rotate_left; dsimp -zeta only [u]; rotate_right) | clear_value u)
    | intro _ | lift_lets -underBinder | (with_reducible apply Quiet.ite) | (with_reducible apply Quiet.foldl)
    | (with_reducible apply alertAt_quiet) | (with_reducible apply journal_quiet)
    | (with_reducible apply releaseBlocks_quiet) | (with_reducible apply seedRole_quiet)
    | (with_reducible apply slotToWinter_quiet) | (with_reducible apply writeGroup_quiet) | split
    | (with_reducible refine Quiet.mk' ?_ rfl rfl rfl rfl rfl rfl rfl rfl rfl rfl rfl) | dsimp -zeta only)

theorem holdZone_quiet (s : State) (k : Nat) (on : Bool) (hss : Quiet s₀ s) : Quiet s₀ (holdZone s k on) := by
  unfold holdZone
  repeat' (first
    | (with_reducible assumption)
    | (intro u; first | (refine (fun (_ : Quiet s₀ u) => ?_) ?_; clear_value u; rotate_left; dsimp -zeta only [u]; rotate_right) | clear_value u)
    | intro _ | lift_lets -underBinder | (with_reducible apply Quiet.ite) | (with_reducible apply Quiet.foldl)
    | (with_reducible apply setZone_quiet) | split
    | (with_reducible refine Quiet.mk' ?_ rfl rfl rfl rfl rfl rfl rfl rfl rfl rfl rfl) | dsimp -zeta only)

theorem reshapeStripe_quiet (s : State) (pass : Bool) (lost : List Nat) (hss : Quiet s₀ s) : Quiet s₀
    (reshapeStripe s pass lost) := by
  unfold reshapeStripe
  repeat' (first
    | (with_reducible assumption)
    | (intro u; first | (refine (fun (_ : Quiet s₀ u) => ?_) ?_; clear_value u; rotate_left; dsimp -zeta only [u]; rotate_right) | clear_value u)
    | intro _ | lift_lets -underBinder | (with_reducible apply Quiet.ite) | (with_reducible apply Quiet.foldl)
    | (with_reducible apply holdZone_quiet) | (with_reducible apply newZoneStripe_quiet)
    | (with_reducible apply reshapeCheckpoint_quiet) | (with_reducible apply reshapeDone_quiet)
    | (with_reducible apply reshapeSuspend_quiet) | (with_reducible apply zoneReshaped_quiet) | split
    | (with_reducible refine Quiet.mk' ?_ rfl rfl rfl rfl rfl rfl rfl rfl rfl rfl rfl) | dsimp -zeta only)

end Sys2Proof.Machine
end

