-- ==== Sys2Proof/Laws/QuietCapsules.lean ====
section
/-! SUPPORT. The operations of Machine/Capsules.lean that keep `Quiet`. -/
namespace Sys2Proof.Machine
variable {s₀ : State}

theorem accept_quiet (s : State) (n : Nat) (number : Nat) (k : Capsule) (phase : Phase) (hss : Quiet s₀ s) : Quiet
    s₀ (accept s n number k phase).2 := by
  unfold accept
  repeat' (first
    | (with_reducible assumption)
    | (intro u; first | (refine (fun (_ : Quiet s₀ u) => ?_) ?_; clear_value u; rotate_left; dsimp -zeta only [u]; rotate_right) | (refine (fun (_ : Quiet s₀ u.2) => ?_) ?_; clear_value u; rotate_left; dsimp -zeta only [u]; rotate_right) | (refine (fun (_ : Quiet s₀ u.2.2) => ?_) ?_; clear_value u; rotate_left; dsimp -zeta only [u]; rotate_right) | clear_value u)
    | intro _ | lift_lets -underBinder | (with_reducible apply Quiet.ite) | (with_reducible apply Quiet.foldl)
    | (with_reducible apply stamp_quiet) | (with_reducible apply traceFlag_quiet)
    | (with_reducible apply traceTarget_quiet) | split
    | (with_reducible refine Quiet.mk' ?_ rfl rfl rfl rfl rfl rfl rfl rfl rfl rfl rfl) | dsimp -zeta only)
theorem accept_quiet_eq {s : State} {n : Nat} {number : Nat} {k : Capsule} {phase : Phase} {e0 : Nat} {t : State}
    (hss : Quiet s₀ s) (e : accept s n number k phase = (e0, t)) : Quiet s₀ t := by
  have := accept_quiet s n number k phase hss
  rw [e] at this
  exact this

theorem checkCapsule_quiet (act : State → Nat → Capsule → State) (s : State) (n : Nat) (number : Nat) (k :
    Capsule) (hact : ∀ y0 y1 y2, Quiet s₀ y0 → Quiet s₀ (act y0 y1 y2)) (hss : Quiet s₀ s) : Quiet s₀ (checkCapsule
    act s n number k) := by
  unfold checkCapsule
  repeat' (first
    | (with_reducible assumption)
    | (intro u; first | (refine (fun (_ : Quiet s₀ u) => ?_) ?_; clear_value u; rotate_left; dsimp -zeta only [u]; rotate_right) | (refine (fun (_ : Quiet s₀ u.2) => ?_) ?_; clear_value u; rotate_left; dsimp -zeta only [u]; rotate_right) | (refine (fun (_ : Quiet s₀ u.2.2) => ?_) ?_; clear_value u; rotate_left; dsimp -zeta only [u]; rotate_right) | clear_value u)
    | intro _ | lift_lets -underBinder | (with_reducible apply Quiet.ite) | (with_reducible apply Quiet.foldl)
    | (with_reducible apply hact) | (with_reducible apply accept_quiet)
    | (refine accept_quiet_eq ?_ (by with_reducible assumption)) | (with_reducible apply complete_quiet)
    | (with_reducible apply reject_quiet) | split
    | (with_reducible refine Quiet.mk' ?_ rfl rfl rfl rfl rfl rfl rfl rfl rfl rfl rfl) | dsimp -zeta only)

theorem takeSlot_quiet (s : State) (n : Nat) (trig : Tick) (k : Capsule) (hss : Quiet s₀ s) : Quiet s₀ (takeSlot s
    n trig k) := by
  unfold takeSlot
  repeat' (first
    | (with_reducible assumption)
    | (intro u; first | (refine (fun (_ : Quiet s₀ u) => ?_) ?_; clear_value u; rotate_left; dsimp -zeta only [u]; rotate_right) | (refine (fun (_ : Quiet s₀ u.2) => ?_) ?_; clear_value u; rotate_left; dsimp -zeta only [u]; rotate_right) | (refine (fun (_ : Quiet s₀ u.2.2) => ?_) ?_; clear_value u; rotate_left; dsimp -zeta only [u]; rotate_right) | clear_value u)
    | intro _ | lift_lets -underBinder | (with_reducible apply Quiet.ite) | (with_reducible apply Quiet.foldl)
    | (with_reducible apply pmcEvent_quiet) | (with_reducible apply setConn_quiet)
    | (with_reducible apply tagCapsule_quiet) | (refine tagCapsule_quiet_eq ?_ (by with_reducible assumption)) | split
    | (with_reducible refine Quiet.mk' ?_ rfl rfl rfl rfl rfl rfl rfl rfl rfl rfl rfl) | dsimp -zeta only)

theorem intake_parse_quiet (fits : Capsule → Bool) (act : State → Nat → Capsule → State) (n : Nat) (s : State) (c : Conn)
    (hact : ∀ x q k, Quiet s₀ x → Quiet s₀ (act x q k)) (hs : Quiet s₀ s) :
    Quiet s₀ (intake.parse fits act n s c) := by
  unfold intake.parse
  repeat' (first
    | (with_reducible assumption)
    | (intro u; first | (refine (fun (_ : Quiet s₀ u) => ?_) ?_; clear_value u; rotate_left; dsimp -zeta only [u]; rotate_right) | clear_value u)
    | intro _ | lift_lets -underBinder | (with_reducible apply Quiet.ite) | (with_reducible apply Quiet.foldl)
    | (with_reducible apply hact) | (with_reducible apply checkCapsule_quiet) | (with_reducible apply connError_quiet) | (with_reducible apply setConn_quiet) | (with_reducible apply takeSlot_quiet) | split
    | dsimp -zeta only)

theorem intake_quiet (fits : Capsule → Bool) (act : State → Nat → Capsule → State) (n : Nat) (s : State)
    (hact : ∀ x q k, Quiet s₀ x → Quiet s₀ (act x q k)) (hs : Quiet s₀ s) : Quiet s₀ (intake fits act n s) := by
  unfold intake
  repeat' (first
    | (with_reducible assumption)
    | (intro u; first | (refine (fun (_ : Quiet s₀ u) => ?_) ?_; clear_value u; rotate_left; dsimp -zeta only [u]; rotate_right) | clear_value u)
    | intro _ | lift_lets -underBinder | (with_reducible apply Quiet.ite) | (with_reducible apply Quiet.foldl)
    | (with_reducible apply intake_parse_quiet) | (with_reducible apply hact) | (with_reducible apply checkCapsule_quiet) | (with_reducible apply setConn_quiet) | split
    | dsimp -zeta only)

theorem holdOverrun_quiet (s : State) (n : Nat) (hss : Quiet s₀ s) : Quiet s₀ (holdOverrun s n) := by
  unfold holdOverrun
  repeat' (first
    | (with_reducible assumption)
    | (intro u; first | (refine (fun (_ : Quiet s₀ u) => ?_) ?_; clear_value u; rotate_left; dsimp -zeta only [u]; rotate_right) | clear_value u)
    | intro _ | lift_lets -underBinder | (with_reducible apply Quiet.ite) | (with_reducible apply Quiet.foldl)
    | (with_reducible apply addError_quiet) | (with_reducible apply alert_quiet) | (with_reducible apply clockTo_quiet)
    | (with_reducible apply postEntry_quiet) | (with_reducible apply setConn_quiet) | split
    | (with_reducible refine Quiet.mk' ?_ rfl rfl rfl rfl rfl rfl rfl rfl rfl rfl rfl) | dsimp -zeta only)

end Sys2Proof.Machine
end

