-- ==== Sys2Proof/Laws/QuietCommands.lean ====
section
/-! SUPPORT. The operations of Machine/Commands.lean that keep `Quiet`. -/
namespace Sys2Proof.Machine
variable {s₀ : State}

theorem setPhase_quiet (s : State) (q : Nat) (p : Phase) (hss : Quiet s₀ s) : Quiet s₀ (setPhase s q p) := by
  unfold setPhase
  repeat' (first
    | (with_reducible assumption)
    | (intro u; first | (refine (fun (_ : Quiet s₀ u) => ?_) ?_; clear_value u; rotate_left; dsimp -zeta only [u]; rotate_right) | clear_value u)
    | intro _ | lift_lets -underBinder | (with_reducible apply Quiet.ite) | (with_reducible apply Quiet.foldl)
    | (with_reducible apply setCmd_quiet) | split
    | (with_reducible refine Quiet.mk' ?_ rfl rfl rfl rfl rfl rfl rfl rfl rfl rfl rfl) | dsimp -zeta only)

theorem waitForSummer_quiet (s : State) (q : Nat) (g : Nat) (hss : Quiet s₀ s) : Quiet s₀ (waitForSummer s q g) :=
    by
  unfold waitForSummer
  repeat' (first
    | (with_reducible assumption)
    | (intro u; first | (refine (fun (_ : Quiet s₀ u) => ?_) ?_; clear_value u; rotate_left; dsimp -zeta only [u]; rotate_right) | clear_value u)
    | intro _ | lift_lets -underBinder | (with_reducible apply Quiet.ite) | (with_reducible apply Quiet.foldl)
    | (with_reducible apply requestWake_quiet) | (with_reducible apply setCmd_quiet)
    | (with_reducible apply traceFlag_quiet) | split
    | (with_reducible refine Quiet.mk' ?_ rfl rfl rfl rfl rfl rfl rfl rfl rfl rfl rfl) | dsimp -zeta only)

theorem acceptRead_quiet (s : State) (q : Nat) (k : Capsule) (hss : Quiet s₀ s) : Quiet s₀ (acceptRead s q k) :=
    by
  unfold acceptRead
  repeat' (first
    | (with_reducible assumption)
    | (intro u; first | (refine (fun (_ : Quiet s₀ u) => ?_) ?_; clear_value u; rotate_left; dsimp -zeta only [u]; rotate_right) | clear_value u)
    | intro _ | lift_lets -underBinder | (with_reducible apply Quiet.ite) | (with_reducible apply Quiet.foldl)
    | (with_reducible apply complete_quiet) | (with_reducible apply requestWake_quiet)
    | (with_reducible apply startRead_quiet) | (with_reducible apply touchGroup_quiet)
    | (with_reducible apply waitForSummer_quiet) | split
    | (with_reducible refine Quiet.mk' ?_ rfl rfl rfl rfl rfl rfl rfl rfl rfl rfl rfl) | dsimp -zeta only)

theorem takeWrite_quiet (s : State) (q : Nat) (k : Capsule) (g : Option Nat) (hss : Quiet s₀ s) : Quiet s₀
    (takeWrite s q k g) := by
  unfold takeWrite
  repeat' (first
    | (with_reducible assumption)
    | (intro u; first | (refine (fun (_ : Quiet s₀ u) => ?_) ?_; clear_value u; rotate_left; dsimp -zeta only [u]; rotate_right) | clear_value u)
    | intro _ | lift_lets -underBinder | (with_reducible apply Quiet.ite) | (with_reducible apply Quiet.foldl)
    | (with_reducible apply openZone_quiet) | (with_reducible apply pmcEvent_quiet)
    | (with_reducible apply setCmd_quiet) | (with_reducible apply setZone_quiet) | (with_reducible apply stamp_quiet)
    | (with_reducible apply startRefill_quiet) | (with_reducible apply touchGroup_quiet)
    | (with_reducible apply waitForSummer_quiet) | split
    | (with_reducible refine Quiet.mk' ?_ rfl rfl rfl rfl rfl rfl rfl rfl rfl rfl rfl) | dsimp -zeta only)

theorem acceptWrite_quiet (s : State) (q : Nat) (k : Capsule) (hss : Quiet s₀ s) : Quiet s₀ (acceptWrite s q k) :=
    by
  unfold acceptWrite
  repeat' (first
    | (with_reducible assumption)
    | (intro u; first | (refine (fun (_ : Quiet s₀ u) => ?_) ?_; clear_value u; rotate_left; dsimp -zeta only [u]; rotate_right) | (refine (fun (_ : Quiet s₀ u.2) => ?_) ?_; clear_value u; rotate_left; dsimp -zeta only [u]; rotate_right) | (refine (fun (_ : Quiet s₀ u.2.2) => ?_) ?_; clear_value u; rotate_left; dsimp -zeta only [u]; rotate_right) | clear_value u)
    | intro _ | lift_lets -underBinder | (with_reducible apply Quiet.ite) | (with_reducible apply Quiet.foldl)
    | (with_reducible apply accept_quiet) | (refine accept_quiet_eq ?_ (by with_reducible assumption))
    | (with_reducible apply complete_quiet) | (with_reducible apply openRefused_quiet)
    | (with_reducible apply takeWrite_quiet) | split
    | (with_reducible refine Quiet.mk' ?_ rfl rfl rfl rfl rfl rfl rfl rfl rfl rfl rfl) | dsimp -zeta only)

theorem giveWindows_quiet (s : State) (q : Nat) (c : Command) (ks : List Nat) (hss : Quiet s₀ s) : Quiet s₀
    (giveWindows s q c ks) := by
  unfold giveWindows
  repeat' (first
    | (with_reducible assumption)
    | (intro u; first | (refine (fun (_ : Quiet s₀ u) => ?_) ?_; clear_value u; rotate_left; dsimp -zeta only [u]; rotate_right) | clear_value u)
    | intro _ | lift_lets -underBinder | (with_reducible apply Quiet.ite) | (with_reducible apply Quiet.foldl)
    | (with_reducible apply pmcEvent_quiet) | (with_reducible apply postEntry_quiet)
    | (with_reducible apply register_quiet) | (with_reducible apply setCmd_quiet) | split
    | (with_reducible refine Quiet.mk' ?_ rfl rfl rfl rfl rfl rfl rfl rfl rfl rfl rfl) | dsimp -zeta only)

theorem windowAllocate_quiet (s : State) (ks : List Nat) (hss : Quiet s₀ s) : Quiet s₀ (windowAllocate s ks) := by
  unfold windowAllocate
  repeat' (first
    | (with_reducible assumption)
    | (intro u; first | (refine (fun (_ : Quiet s₀ u) => ?_) ?_; clear_value u; rotate_left; dsimp -zeta only [u]; rotate_right) | clear_value u)
    | intro _ | lift_lets -underBinder | (with_reducible apply Quiet.ite) | (with_reducible apply Quiet.foldl)
    | (with_reducible apply giveWindows_quiet) | split
    | (with_reducible refine Quiet.mk' ?_ rfl rfl rfl rfl rfl rfl rfl rfl rfl rfl rfl) | dsimp -zeta only)

theorem acceptDataDone_quiet (n : Nat) (s : State) (x2 : Nat) (k : Capsule) (hss : Quiet s₀ s) : Quiet s₀
    (acceptDataDone n s x2 k) := by
  unfold acceptDataDone
  repeat' (first
    | (with_reducible assumption)
    | (intro u; first | (refine (fun (_ : Quiet s₀ u) => ?_) ?_; clear_value u; rotate_left; dsimp -zeta only [u]; rotate_right) | clear_value u)
    | intro _ | lift_lets -underBinder | (with_reducible apply Quiet.ite) | (with_reducible apply Quiet.foldl)
    | (with_reducible apply setCmd_quiet) | (with_reducible apply stamp_quiet) | split
    | (with_reducible refine Quiet.mk' ?_ rfl rfl rfl rfl rfl rfl rfl rfl rfl rfl rfl) | dsimp -zeta only)

theorem dataDoneDrained_quiet (s : State) (n : Nat) (cid : Nat) (hss : Quiet s₀ s) : Quiet s₀ (dataDoneDrained s n
    cid) := by
  unfold dataDoneDrained
  repeat' (first
    | (with_reducible assumption)
    | (intro u; first | (refine (fun (_ : Quiet s₀ u) => ?_) ?_; clear_value u; rotate_left; dsimp -zeta only [u]; rotate_right) | clear_value u)
    | intro _ | lift_lets -underBinder | (with_reducible apply Quiet.ite) | (with_reducible apply Quiet.foldl)
    | (with_reducible apply failWrite_quiet) | (with_reducible apply queueJobs_quiet)
    | (with_reducible apply setCmd_quiet) | split
    | (with_reducible refine Quiet.mk' ?_ rfl rfl rfl rfl rfl rfl rfl rfl rfl rfl rfl) | dsimp -zeta only)

theorem dataTimeout_quiet (s : State) (n : Nat) (cid : Nat) (hss : Quiet s₀ s) : Quiet s₀ (dataTimeout s n cid) :=
    by
  unfold dataTimeout
  repeat' (first
    | (with_reducible assumption)
    | (intro u; first | (refine (fun (_ : Quiet s₀ u) => ?_) ?_; clear_value u; rotate_left; dsimp -zeta only [u]; rotate_right) | clear_value u)
    | intro _ | lift_lets -underBinder | (with_reducible apply Quiet.ite) | (with_reducible apply Quiet.foldl)
    | (with_reducible apply alert_quiet) | (with_reducible apply bump_quiet) | (with_reducible apply clockToOpt_quiet)
    | (with_reducible apply failWrite_quiet) | split
    | (with_reducible refine Quiet.mk' ?_ rfl rfl rfl rfl rfl rfl rfl rfl rfl rfl rfl) | dsimp -zeta only)

theorem wakeLimitExpiry_quiet (s : State) (n : Nat) (cid : Nat) (hss : Quiet s₀ s) : Quiet s₀ (wakeLimitExpiry s n
    cid) := by
  unfold wakeLimitExpiry
  repeat' (first
    | (with_reducible assumption)
    | (intro u; first | (refine (fun (_ : Quiet s₀ u) => ?_) ?_; clear_value u; rotate_left; dsimp -zeta only [u]; rotate_right) | clear_value u)
    | intro _ | lift_lets -underBinder | (with_reducible apply Quiet.ite) | (with_reducible apply Quiet.foldl)
    | (with_reducible apply clockTo_quiet) | (with_reducible apply complete_quiet)
    | (with_reducible apply failWrite_quiet) | split
    | (with_reducible refine Quiet.mk' ?_ rfl rfl rfl rfl rfl rfl rfl rfl rfl rfl rfl) | dsimp -zeta only)

theorem acceptFlush_quiet (n : Nat) (s : State) (q : Nat) (x3 : Capsule) (hss : Quiet s₀ s) : Quiet s₀
    (acceptFlush n s q x3) := by
  unfold acceptFlush
  repeat' (first
    | (with_reducible assumption)
    | (intro u; first | (refine (fun (_ : Quiet s₀ u) => ?_) ?_; clear_value u; rotate_left; dsimp -zeta only [u]; rotate_right) | clear_value u)
    | intro _ | lift_lets -underBinder | (with_reducible apply Quiet.ite) | (with_reducible apply Quiet.foldl)
    | (with_reducible apply barrierReady_quiet) | (with_reducible apply drain_quiet)
    | (with_reducible apply setCmd_quiet) | split
    | (with_reducible refine Quiet.mk' ?_ rfl rfl rfl rfl rfl rfl rfl rfl rfl rfl rfl) | dsimp -zeta only)

theorem markAborted_quiet (n : Nat) (s : State) (q : Nat) (hss : Quiet s₀ s) : Quiet s₀ (markAborted n s q) := by
  unfold markAborted
  repeat' (first
    | (with_reducible assumption)
    | (intro u; first | (refine (fun (_ : Quiet s₀ u) => ?_) ?_; clear_value u; rotate_left; dsimp -zeta only [u]; rotate_right) | clear_value u)
    | intro _ | lift_lets -underBinder | (with_reducible apply Quiet.ite) | (with_reducible apply Quiet.foldl)
    | (with_reducible apply aborted_quiet) | (with_reducible apply setCmd_quiet) | (with_reducible apply setMark_quiet)
    | split | (with_reducible refine Quiet.mk' ?_ rfl rfl rfl rfl rfl rfl rfl rfl rfl rfl rfl) | dsimp -zeta only)

theorem abortQueued_quiet (s : State) (q : Nat) (hss : Quiet s₀ s) : Quiet s₀ (abortQueued s q) := by
  unfold abortQueued
  repeat' (first
    | (with_reducible assumption)
    | (intro u; first | (refine (fun (_ : Quiet s₀ u) => ?_) ?_; clear_value u; rotate_left; dsimp -zeta only [u]; rotate_right) | clear_value u)
    | intro _ | lift_lets -underBinder | (with_reducible apply Quiet.ite) | (with_reducible apply Quiet.foldl)
    | (with_reducible apply complete_quiet) | (with_reducible apply failWrite_quiet) | split
    | (with_reducible refine Quiet.mk' ?_ rfl rfl rfl rfl rfl rfl rfl rfl rfl rfl rfl) | dsimp -zeta only)

theorem acceptQueueReset_quiet (n : Nat) (s : State) (q : Nat) (x3 : Capsule) (hss : Quiet s₀ s) : Quiet s₀
    (acceptQueueReset n s q x3) := by
  unfold acceptQueueReset
  repeat' (first
    | (with_reducible assumption)
    | (intro u; first | (refine (fun (_ : Quiet s₀ u) => ?_) ?_; clear_value u; rotate_left; dsimp -zeta only [u]; rotate_right) | clear_value u)
    | intro _ | lift_lets -underBinder | (with_reducible apply Quiet.ite) | (with_reducible apply Quiet.foldl)
    | (with_reducible apply abortQueued_quiet) | (with_reducible apply barrierReady_quiet)
    | (with_reducible apply drain_quiet) | (with_reducible apply markAborted_quiet)
    | (with_reducible apply setCmd_quiet) | (with_reducible apply setConn_quiet) | split
    | (with_reducible refine Quiet.mk' ?_ rfl rfl rfl rfl rfl rfl rfl rfl rfl rfl rfl) | dsimp -zeta only)

end Sys2Proof.Machine
end

