-- ==== Sys2Proof/Laws/QuietZoneOps.lean ====
section
/-! SUPPORT. The operations of Machine/ZoneOps.lean that keep `Quiet`. -/
namespace Sys2Proof.Machine
variable {s₀ : State}

theorem retireLeft_quiet (g : Nat) (s : State) (p : Place) (hss : Quiet s₀ s) : Quiet s₀ (retireLeft g s p) := by
  unfold retireLeft
  repeat' (first
    | (with_reducible assumption)
    | (intro u; first | (refine (fun (_ : Quiet s₀ u) => ?_) ?_; clear_value u; rotate_left; dsimp -zeta only [u]; rotate_right) | clear_value u)
    | intro _ | lift_lets -underBinder | (with_reducible apply Quiet.ite) | (with_reducible apply Quiet.foldl)
    | (with_reducible apply setBlock_quiet) | split
    | (with_reducible refine Quiet.mk' ?_ rfl rfl rfl rfl rfl rfl rfl rfl rfl rfl rfl) | dsimp -zeta only)

theorem unmapZone_quiet (s : State) (ns : Nat) (zi : Nat) (g : Nat) (hss : Quiet s₀ s) : Quiet s₀ (unmapZone s ns
    zi g) := by
  unfold unmapZone
  repeat' (first
    | (with_reducible assumption)
    | (intro u; first | (refine (fun (_ : Quiet s₀ u) => ?_) ?_; clear_value u; rotate_left; dsimp -zeta only [u]; rotate_right) | clear_value u)
    | intro _ | lift_lets -underBinder | (with_reducible apply Quiet.ite) | (with_reducible apply Quiet.foldl)
    | (with_reducible apply abandonFold_quiet) | (with_reducible apply dropLogsFrom_quiet)
    | (with_reducible apply dropStripe_quiet) | (with_reducible apply freeBlocks_quiet)
    | (with_reducible apply retireLeft_quiet) | (with_reducible apply trimLogs_quiet) | split
    | (with_reducible refine Quiet.mk' ?_ rfl rfl rfl rfl rfl rfl rfl rfl rfl rfl rfl) | dsimp -zeta only)

theorem clearZone_quiet (s : State) (ns : Nat) (zi : Nat) (hss : Quiet s₀ s) : Quiet s₀ (clearZone s ns zi) := by
  unfold clearZone
  repeat' (first
    | (with_reducible assumption)
    | (intro u; first | (refine (fun (_ : Quiet s₀ u) => ?_) ?_; clear_value u; rotate_left; dsimp -zeta only [u]; rotate_right) | clear_value u)
    | intro _ | lift_lets -underBinder | (with_reducible apply Quiet.ite) | (with_reducible apply Quiet.foldl)
    | (with_reducible apply dropLosses_quiet) | (with_reducible apply journalZone_quiet)
    | (with_reducible apply setZone_quiet) | (with_reducible apply unmapZone_quiet) | split
    | (with_reducible refine Quiet.mk' ?_ rfl rfl rfl rfl rfl rfl rfl rfl rfl rfl rfl) | dsimp -zeta only)

theorem finishZone_quiet (s : State) (ns : Nat) (zi : Nat) (hss : Quiet s₀ s) : Quiet s₀ (finishZone s ns zi) :=
    by
  unfold finishZone
  repeat' (first
    | (with_reducible assumption)
    | (intro u; first | (refine (fun (_ : Quiet s₀ u) => ?_) ?_; clear_value u; rotate_left; dsimp -zeta only [u]; rotate_right) | clear_value u)
    | intro _ | lift_lets -underBinder | (with_reducible apply Quiet.ite) | (with_reducible apply Quiet.foldl)
    | (with_reducible apply journalZone_quiet) | (with_reducible apply setZone_quiet) | split
    | (with_reducible refine Quiet.mk' ?_ rfl rfl rfl rfl rfl rfl rfl rfl rfl rfl rfl) | dsimp -zeta only)

theorem finishEmpty_quiet (s : State) (ns : Nat) (zi : Nat) (hss : Quiet s₀ s) : Quiet s₀ (finishEmpty s ns zi) :=
    by
  unfold finishEmpty
  repeat' (first
    | (with_reducible assumption)
    | (intro u; first | (refine (fun (_ : Quiet s₀ u) => ?_) ?_; clear_value u; rotate_left; dsimp -zeta only [u]; rotate_right) | clear_value u)
    | intro _ | lift_lets -underBinder | (with_reducible apply Quiet.ite) | (with_reducible apply Quiet.foldl)
    | (with_reducible apply journalZone_quiet) | (with_reducible apply setZone_quiet) | split
    | (with_reducible refine Quiet.mk' ?_ rfl rfl rfl rfl rfl rfl rfl rfl rfl rfl rfl) | dsimp -zeta only)

theorem mgmtDone_quiet (s : State) (q : Nat) (status : Nat) (c : Command) (hss : Quiet s₀ s) : Quiet s₀ (mgmtDone
    s q status c) := by
  unfold mgmtDone
  repeat' (first
    | (with_reducible assumption)
    | (intro u; first | (refine (fun (_ : Quiet s₀ u) => ?_) ?_; clear_value u; rotate_left; dsimp -zeta only [u]; rotate_right) | clear_value u)
    | intro _ | lift_lets -underBinder | (with_reducible apply Quiet.ite) | (with_reducible apply Quiet.foldl)
    | (with_reducible apply complete_quiet) | (with_reducible apply releaseBuffer_quiet) | split
    | (with_reducible refine Quiet.mk' ?_ rfl rfl rfl rfl rfl rfl rfl rfl rfl rfl rfl) | dsimp -zeta only)

theorem applyClose_quiet (s : State) (q : Nat) (c : Command) (hss : Quiet s₀ s) : Quiet s₀ (applyClose s q c) :=
    by
  unfold applyClose
  repeat' (first
    | (with_reducible assumption)
    | (intro u; first | (refine (fun (_ : Quiet s₀ u) => ?_) ?_; clear_value u; rotate_left; dsimp -zeta only [u]; rotate_right) | clear_value u)
    | intro _ | lift_lets -underBinder | (with_reducible apply Quiet.ite) | (with_reducible apply Quiet.foldl)
    | (with_reducible apply clearZone_quiet) | (with_reducible apply mgmtDone_quiet)
    | (with_reducible apply zoneEnter_quiet) | split
    | (with_reducible refine Quiet.mk' ?_ rfl rfl rfl rfl rfl rfl rfl rfl rfl rfl rfl) | dsimp -zeta only)

theorem applyFinish_quiet (s : State) (q : Nat) (c : Command) (hss : Quiet s₀ s) : Quiet s₀ (applyFinish s q c) :=
    by
  unfold applyFinish
  repeat' (first
    | (with_reducible assumption)
    | (intro u; first | (refine (fun (_ : Quiet s₀ u) => ?_) ?_; clear_value u; rotate_left; dsimp -zeta only [u]; rotate_right) | clear_value u)
    | intro _ | lift_lets -underBinder | (with_reducible apply Quiet.ite) | (with_reducible apply Quiet.foldl)
    | (with_reducible apply finishZone_quiet) | (with_reducible apply mgmtDone_quiet)
    | (with_reducible apply startPadding_quiet) | split
    | (with_reducible refine Quiet.mk' ?_ rfl rfl rfl rfl rfl rfl rfl rfl rfl rfl rfl) | dsimp -zeta only)

theorem applyReset_quiet (s : State) (q : Nat) (c : Command) (hss : Quiet s₀ s) : Quiet s₀ (applyReset s q c) :=
    by
  unfold applyReset
  repeat' (first
    | (with_reducible assumption)
    | (intro u; first | (refine (fun (_ : Quiet s₀ u) => ?_) ?_; clear_value u; rotate_left; dsimp -zeta only [u]; rotate_right) | clear_value u)
    | intro _ | lift_lets -underBinder | (with_reducible apply Quiet.ite) | (with_reducible apply Quiet.foldl)
    | (with_reducible apply clearZone_quiet) | (with_reducible apply mgmtDone_quiet)
    | (with_reducible apply setCmd_quiet) | split
    | (with_reducible refine Quiet.mk' ?_ rfl rfl rfl rfl rfl rfl rfl rfl rfl rfl rfl) | dsimp -zeta only)

theorem advanceMgmt_quiet (s : State) (q : Nat) (hss : Quiet s₀ s) : Quiet s₀ (advanceMgmt s q) := by
  unfold advanceMgmt
  repeat' (first
    | (with_reducible assumption)
    | (intro u; first | (refine (fun (_ : Quiet s₀ u) => ?_) ?_; clear_value u; rotate_left; dsimp -zeta only [u]; rotate_right) | clear_value u)
    | intro _ | lift_lets -underBinder | (with_reducible apply Quiet.ite) | (with_reducible apply Quiet.foldl)
    | (with_reducible apply applyClose_quiet) | (with_reducible apply applyFinish_quiet)
    | (with_reducible apply applyReset_quiet) | split
    | (with_reducible refine Quiet.mk' ?_ rfl rfl rfl rfl rfl rfl rfl rfl rfl rfl rfl) | dsimp -zeta only)

theorem holdMgmt_quiet (s : State) (q : Nat) (k : Capsule) (hss : Quiet s₀ s) : Quiet s₀ (holdMgmt s q k) := by
  unfold holdMgmt
  repeat' (first
    | (with_reducible assumption)
    | (intro u; first | (refine (fun (_ : Quiet s₀ u) => ?_) ?_; clear_value u; rotate_left; dsimp -zeta only [u]; rotate_right) | clear_value u)
    | intro _ | lift_lets -underBinder | (with_reducible apply Quiet.ite) | (with_reducible apply Quiet.foldl)
    | (with_reducible apply setPhase_quiet) | (with_reducible apply setZone_quiet) | split
    | (with_reducible refine Quiet.mk' ?_ rfl rfl rfl rfl rfl rfl rfl rfl rfl rfl rfl) | dsimp -zeta only)

theorem bufferForFinish_quiet (s : State) (ns : Nat) (zi : Nat) (hss : Quiet s₀ s) : Quiet s₀ (bufferForFinish s
    ns zi) := by
  unfold bufferForFinish
  repeat' (first
    | (with_reducible assumption)
    | (intro u; first | (refine (fun (_ : Quiet s₀ u) => ?_) ?_; clear_value u; rotate_left; dsimp -zeta only [u]; rotate_right) | clear_value u)
    | intro _ | lift_lets -underBinder | (with_reducible apply Quiet.ite) | (with_reducible apply Quiet.foldl)
    | (with_reducible apply startRefill_quiet) | split
    | (with_reducible refine Quiet.mk' ?_ rfl rfl rfl rfl rfl rfl rfl rfl rfl rfl rfl) | dsimp -zeta only)

theorem mgmtOpen_quiet (s : State) (q : Nat) (k : Capsule) (hss : Quiet s₀ s) : Quiet s₀ (mgmtOpen s q k) := by
  unfold mgmtOpen
  repeat' (first
    | (with_reducible assumption)
    | (intro u; first | (refine (fun (_ : Quiet s₀ u) => ?_) ?_; clear_value u; rotate_left; dsimp -zeta only [u]; rotate_right) | clear_value u)
    | intro _ | lift_lets -underBinder | (with_reducible apply Quiet.ite) | (with_reducible apply Quiet.foldl)
    | (with_reducible apply complete_quiet) | (with_reducible apply openRefused_quiet)
    | (with_reducible apply openZone_quiet) | (with_reducible apply startRefill_quiet) | split
    | (with_reducible refine Quiet.mk' ?_ rfl rfl rfl rfl rfl rfl rfl rfl rfl rfl rfl) | dsimp -zeta only)

theorem mgmtClose_quiet (s : State) (q : Nat) (k : Capsule) (hss : Quiet s₀ s) : Quiet s₀ (mgmtClose s q k) := by
  unfold mgmtClose
  repeat' (first
    | (with_reducible assumption)
    | (intro u; first | (refine (fun (_ : Quiet s₀ u) => ?_) ?_; clear_value u; rotate_left; dsimp -zeta only [u]; rotate_right) | clear_value u)
    | intro _ | lift_lets -underBinder | (with_reducible apply Quiet.ite) | (with_reducible apply Quiet.foldl)
    | (with_reducible apply complete_quiet) | (with_reducible apply holdMgmt_quiet) | split
    | (with_reducible refine Quiet.mk' ?_ rfl rfl rfl rfl rfl rfl rfl rfl rfl rfl rfl) | dsimp -zeta only)

theorem mgmtFinish_quiet (s : State) (q : Nat) (k : Capsule) (hss : Quiet s₀ s) : Quiet s₀ (mgmtFinish s q k) :=
    by
  unfold mgmtFinish
  repeat' (first
    | (with_reducible assumption)
    | (intro u; first | (refine (fun (_ : Quiet s₀ u) => ?_) ?_; clear_value u; rotate_left; dsimp -zeta only [u]; rotate_right) | clear_value u)
    | intro _ | lift_lets -underBinder | (with_reducible apply Quiet.ite) | (with_reducible apply Quiet.foldl)
    | (with_reducible apply bufferForFinish_quiet) | (with_reducible apply complete_quiet)
    | (with_reducible apply finishEmpty_quiet) | (with_reducible apply holdMgmt_quiet)
    | (with_reducible apply requestWake_quiet) | (with_reducible apply startPadding_quiet) | split
    | (with_reducible refine Quiet.mk' ?_ rfl rfl rfl rfl rfl rfl rfl rfl rfl rfl rfl) | dsimp -zeta only)

theorem mgmtReset_quiet (s : State) (q : Nat) (k : Capsule) (hss : Quiet s₀ s) : Quiet s₀ (mgmtReset s q k) := by
  unfold mgmtReset
  repeat' (first
    | (with_reducible assumption)
    | (intro u; first | (refine (fun (_ : Quiet s₀ u) => ?_) ?_; clear_value u; rotate_left; dsimp -zeta only [u]; rotate_right) | clear_value u)
    | intro _ | lift_lets -underBinder | (with_reducible apply Quiet.ite) | (with_reducible apply Quiet.foldl)
    | (with_reducible apply advanceMgmt_quiet) | (with_reducible apply complete_quiet)
    | (with_reducible apply holdMgmt_quiet) | split
    | (with_reducible refine Quiet.mk' ?_ rfl rfl rfl rfl rfl rfl rfl rfl rfl rfl rfl) | dsimp -zeta only)

theorem acceptMgmt_quiet (act : State → Nat → Capsule → State) (s : State) (q : Nat) (k : Capsule) (hact : ∀ y0 y1
    y2, Quiet s₀ y0 → Quiet s₀ (act y0 y1 y2)) (hss : Quiet s₀ s) : Quiet s₀ (acceptMgmt act s q k) := by
  unfold acceptMgmt
  repeat' (first
    | (with_reducible assumption)
    | (intro u; first | (refine (fun (_ : Quiet s₀ u) => ?_) ?_; clear_value u; rotate_left; dsimp -zeta only [u]; rotate_right) | clear_value u)
    | intro _ | lift_lets -underBinder | (with_reducible apply Quiet.ite) | (with_reducible apply Quiet.foldl)
    | (with_reducible apply hact) | (with_reducible apply complete_quiet) | (with_reducible apply touchGroup_quiet)
    | split | (with_reducible refine Quiet.mk' ?_ rfl rfl rfl rfl rfl rfl rfl rfl rfl rfl rfl) | dsimp -zeta only)

theorem enterNs_quiet (s : State) (ns : Nat) (st : NsState) (hss : Quiet s₀ s) : Quiet s₀ (enterNs s ns st) := by
  unfold enterNs
  repeat' (first
    | (with_reducible assumption)
    | (intro u; first | (refine (fun (_ : Quiet s₀ u) => ?_) ?_; clear_value u; rotate_left; dsimp -zeta only [u]; rotate_right) | clear_value u)
    | intro _ | lift_lets -underBinder | (with_reducible apply Quiet.ite) | (with_reducible apply Quiet.foldl)
    | (with_reducible apply journal_quiet) | split
    | (with_reducible refine Quiet.mk' ?_ rfl rfl rfl rfl rfl rfl rfl rfl rfl rfl rfl) | dsimp -zeta only)

theorem nsZoneRelease_quiet (s : State) (ns : Nat) (hss : Quiet s₀ s) : Quiet s₀ (nsZoneRelease s ns) := by
  unfold nsZoneRelease
  repeat' (first
    | (with_reducible assumption)
    | (intro u; first | (refine (fun (_ : Quiet s₀ u) => ?_) ?_; clear_value u; rotate_left; dsimp -zeta only [u]; rotate_right) | clear_value u)
    | intro _ | lift_lets -underBinder | (with_reducible apply Quiet.ite) | (with_reducible apply Quiet.foldl)
    | (with_reducible apply clearZone_quiet) | (with_reducible apply journal_quiet) | split
    | (with_reducible refine Quiet.mk' ?_ rfl rfl rfl rfl rfl rfl rfl rfl rfl rfl rfl) | dsimp -zeta only)

end Sys2Proof.Machine
end

