-- ==== Sys2Proof/Laws/QuietTransport.lean ====
section
/-! SUPPORT. The operations of Machine/Transport.lean that keep `Quiet`. -/
namespace Sys2Proof.Machine
variable {s₀ : State}

theorem fireTrigger_quiet (n : Nat) (s : State) (slot : Nat) (hss : Quiet s₀ s) : Quiet s₀ (fireTrigger n s slot)
    := by
  unfold fireTrigger
  repeat' (first
    | (with_reducible assumption)
    | (intro u; first | (refine (fun (_ : Quiet s₀ u) => ?_) ?_; clear_value u; rotate_left; dsimp -zeta only [u]; rotate_right) | clear_value u)
    | intro _ | lift_lets -underBinder | (with_reducible apply Quiet.ite) | (with_reducible apply Quiet.foldl)
    | (with_reducible apply addError_quiet) | (with_reducible apply alert_quiet)
    | (with_reducible apply blockError_quiet) | (with_reducible apply bump_quiet) | (with_reducible apply setConn_quiet)
    | split | (with_reducible refine Quiet.mk' ?_ rfl rfl rfl rfl rfl rfl rfl rfl rfl rfl rfl) | dsimp -zeta only)

theorem cqHeadUpdate_quiet (s : State) (n : Nat) (v : Nat) (hss : Quiet s₀ s) : Quiet s₀ (cqHeadUpdate s n v) :=
    by
  unfold cqHeadUpdate
  repeat' (first
    | (with_reducible assumption)
    | (intro u; first | (refine (fun (_ : Quiet s₀ u) => ?_) ?_; clear_value u; rotate_left; dsimp -zeta only [u]; rotate_right) | clear_value u)
    | intro _ | lift_lets -underBinder | (with_reducible apply Quiet.ite) | (with_reducible apply Quiet.foldl)
    | (with_reducible apply addError_quiet) | (with_reducible apply alert_quiet)
    | (with_reducible apply blockError_quiet) | (with_reducible apply bump_quiet) | (with_reducible apply drain_quiet)
    | (with_reducible apply setConn_quiet) | split
    | (with_reducible refine Quiet.mk' ?_ rfl rfl rfl rfl rfl rfl rfl rfl rfl rfl rfl) | dsimp -zeta only)

theorem ringPlace_quiet (s : State) (n : Nat) (off : Nat) (data : List Byte) (hss : Quiet s₀ s) : Quiet s₀
    (ringPlace s n off data) := by
  unfold ringPlace
  repeat' (first
    | (with_reducible assumption)
    | (intro u; first | (refine (fun (_ : Quiet s₀ u) => ?_) ?_; clear_value u; rotate_left; dsimp -zeta only [u]; rotate_right) | clear_value u)
    | intro _ | lift_lets -underBinder | (with_reducible apply Quiet.ite) | (with_reducible apply Quiet.foldl)
    | (with_reducible apply cqHeadUpdate_quiet) | (with_reducible apply fireTrigger_quiet)
    | (with_reducible apply setConn_quiet) | split
    | (with_reducible refine Quiet.mk' ?_ rfl rfl rfl rfl rfl rfl rfl rfl rfl rfl rfl) | dsimp -zeta only)

theorem sendAck_quiet (s : State) (n : Nat) (hss : Quiet s₀ s) : Quiet s₀ (sendAck s n) := by
  unfold sendAck
  repeat' (first
    | (with_reducible assumption)
    | (intro u; first | (refine (fun (_ : Quiet s₀ u) => ?_) ?_; clear_value u; rotate_left; dsimp -zeta only [u]; rotate_right) | clear_value u)
    | intro _ | lift_lets -underBinder | (with_reducible apply Quiet.ite) | (with_reducible apply Quiet.foldl)
    | (with_reducible apply emit_quiet) | (with_reducible apply queueFrames_quiet)
    | (with_reducible apply setConn_quiet) | split
    | (with_reducible refine Quiet.mk' ?_ rfl rfl rfl rfl rfl rfl rfl rfl rfl rfl rfl) | dsimp -zeta only)

theorem notePacket_quiet (s : State) (n : Nat) (atOnce : Bool) (hss : Quiet s₀ s) : Quiet s₀ (notePacket s n
    atOnce) := by
  unfold notePacket
  repeat' (first
    | (with_reducible assumption)
    | (intro u; first | (refine (fun (_ : Quiet s₀ u) => ?_) ?_; clear_value u; rotate_left; dsimp -zeta only [u]; rotate_right) | clear_value u)
    | intro _ | lift_lets -underBinder | (with_reducible apply Quiet.ite) | (with_reducible apply Quiet.foldl)
    | (with_reducible apply sendAck_quiet) | (with_reducible apply setConn_quiet) | split
    | (with_reducible refine Quiet.mk' ?_ rfl rfl rfl rfl rfl rfl rfl rfl rfl rfl rfl) | dsimp -zeta only)

theorem sendNak_quiet (s : State) (n : Nat) (psn : Nat) (kind : Nat) (hss : Quiet s₀ s) : Quiet s₀ (sendNak s n
    psn kind) := by
  unfold sendNak
  repeat' (first
    | (with_reducible assumption)
    | (intro u; first | (refine (fun (_ : Quiet s₀ u) => ?_) ?_; clear_value u; rotate_left; dsimp -zeta only [u]; rotate_right) | clear_value u)
    | intro _ | lift_lets -underBinder | (with_reducible apply Quiet.ite) | (with_reducible apply Quiet.foldl)
    | (with_reducible apply emit_quiet) | (with_reducible apply queueFrames_quiet) | split
    | (with_reducible refine Quiet.mk' ?_ rfl rfl rfl rfl rfl rfl rfl rfl rfl rfl rfl) | dsimp -zeta only)

theorem remoteAccessNak_quiet (s : State) (n : Nat) (psn : Nat) (hss : Quiet s₀ s) : Quiet s₀ (remoteAccessNak s n
    psn) := by
  unfold remoteAccessNak
  repeat' (first
    | (with_reducible assumption)
    | (intro u; first | (refine (fun (_ : Quiet s₀ u) => ?_) ?_; clear_value u; rotate_left; dsimp -zeta only [u]; rotate_right) | clear_value u)
    | intro _ | lift_lets -underBinder | (with_reducible apply Quiet.ite) | (with_reducible apply Quiet.foldl)
    | (with_reducible apply alert_quiet) | (with_reducible apply bump_quiet) | (with_reducible apply connError_quiet)
    | (with_reducible apply emit_quiet) | split
    | (with_reducible refine Quiet.mk' ?_ rfl rfl rfl rfl rfl rfl rfl rfl rfl rfl rfl) | dsimp -zeta only)

theorem invalidRequestNak_quiet (s : State) (n : Nat) (psn : Nat) (hss : Quiet s₀ s) : Quiet s₀ (invalidRequestNak
    s n psn) := by
  unfold invalidRequestNak
  repeat' (first
    | (with_reducible assumption)
    | (intro u; first | (refine (fun (_ : Quiet s₀ u) => ?_) ?_; clear_value u; rotate_left; dsimp -zeta only [u]; rotate_right) | clear_value u)
    | intro _ | lift_lets -underBinder | (with_reducible apply Quiet.ite) | (with_reducible apply Quiet.foldl)
    | (with_reducible apply connError_quiet) | (with_reducible apply emit_quiet) | split
    | (with_reducible refine Quiet.mk' ?_ rfl rfl rfl rfl rfl rfl rfl rfl rfl rfl rfl) | dsimp -zeta only)

theorem congestionNotice_quiet (s : State) (n : Nat) (hss : Quiet s₀ s) : Quiet s₀ (congestionNotice s n) := by
  unfold congestionNotice
  repeat' (first
    | (with_reducible assumption)
    | (intro u; first | (refine (fun (_ : Quiet s₀ u) => ?_) ?_; clear_value u; rotate_left; dsimp -zeta only [u]; rotate_right) | clear_value u)
    | intro _ | lift_lets -underBinder | (with_reducible apply Quiet.ite) | (with_reducible apply Quiet.foldl)
    | (with_reducible apply bump_quiet) | (with_reducible apply emit_quiet) | (with_reducible apply queueFrames_quiet)
    | (with_reducible apply setConn_quiet) | split
    | (with_reducible refine Quiet.mk' ?_ rfl rfl rfl rfl rfl rfl rfl rfl rfl rfl rfl) | dsimp -zeta only)

theorem placeBytes_quiet (s : State) (n : Nat) (i : Nat) (off : Nat) (data : List Byte) (hss : Quiet s₀ s) : Quiet
    s₀ (placeBytes s n i off data) := by
  unfold placeBytes
  repeat' (first
    | (with_reducible assumption)
    | (intro u; first | (refine (fun (_ : Quiet s₀ u) => ?_) ?_; clear_value u; rotate_left; dsimp -zeta only [u]; rotate_right) | clear_value u)
    | intro _ | lift_lets -underBinder | (with_reducible apply Quiet.ite) | (with_reducible apply Quiet.foldl)
    | (with_reducible apply dramWrite_quiet) | (with_reducible apply ringPlace_quiet)
    | (with_reducible apply setConn_quiet) | (with_reducible apply setRegion_quiet) | split
    | (with_reducible refine Quiet.mk' ?_ rfl rfl rfl rfl rfl rfl rfl rfl rfl rfl rfl) | dsimp -zeta only)

theorem outOfSequence_quiet (s : State) (n : Nat) (hss : Quiet s₀ s) : Quiet s₀ (outOfSequence s n) := by
  unfold outOfSequence
  repeat' (first
    | (with_reducible assumption)
    | (intro u; first | (refine (fun (_ : Quiet s₀ u) => ?_) ?_; clear_value u; rotate_left; dsimp -zeta only [u]; rotate_right) | clear_value u)
    | intro _ | lift_lets -underBinder | (with_reducible apply Quiet.ite) | (with_reducible apply Quiet.foldl)
    | (with_reducible apply bump_quiet) | (with_reducible apply sendNak_quiet) | (with_reducible apply setConn_quiet)
    | split | (with_reducible refine Quiet.mk' ?_ rfl rfl rfl rfl rfl rfl rfl rfl rfl rfl rfl) | dsimp -zeta only)

theorem becomeReady_quiet (s : State) (n : Nat) (hss : Quiet s₀ s) : Quiet s₀ (becomeReady s n) := by
  unfold becomeReady
  repeat' (first
    | (with_reducible assumption)
    | (intro u; first | (refine (fun (_ : Quiet s₀ u) => ?_) ?_; clear_value u; rotate_left; dsimp -zeta only [u]; rotate_right) | clear_value u)
    | intro _ | lift_lets -underBinder | (with_reducible apply Quiet.ite) | (with_reducible apply Quiet.foldl)
    | (with_reducible apply setConn_quiet) | split
    | (with_reducible refine Quiet.mk' ?_ rfl rfl rfl rfl rfl rfl rfl rfl rfl rfl rfl) | dsimp -zeta only)

theorem advancePsn_quiet (s : State) (n : Nat) (packets : Nat) (hss : Quiet s₀ s) : Quiet s₀ (advancePsn s n
    packets) := by
  unfold advancePsn
  repeat' (first
    | (with_reducible assumption)
    | (intro u; first | (refine (fun (_ : Quiet s₀ u) => ?_) ?_; clear_value u; rotate_left; dsimp -zeta only [u]; rotate_right) | clear_value u)
    | intro _ | lift_lets -underBinder | (with_reducible apply Quiet.ite) | (with_reducible apply Quiet.foldl)
    | (with_reducible apply becomeReady_quiet) | (with_reducible apply setConn_quiet) | split
    | (with_reducible refine Quiet.mk' ?_ rfl rfl rfl rfl rfl rfl rfl rfl rfl rfl rfl) | dsimp -zeta only)

theorem keyFails_quiet (s : State) (n : Nat) (psn : Nat) (hss : Quiet s₀ s) : Quiet s₀ (keyFails s n psn) := by
  unfold keyFails
  repeat' (first
    | (with_reducible assumption)
    | (intro u; first | (refine (fun (_ : Quiet s₀ u) => ?_) ?_; clear_value u; rotate_left; dsimp -zeta only [u]; rotate_right) | clear_value u)
    | intro _ | lift_lets -underBinder | (with_reducible apply Quiet.ite) | (with_reducible apply Quiet.foldl)
    | (with_reducible apply alert_quiet) | (with_reducible apply bump_quiet) | (with_reducible apply emit_quiet)
    | (with_reducible apply remoteAccessNak_quiet) | split
    | (with_reducible refine Quiet.mk' ?_ rfl rfl rfl rfl rfl rfl rfl rfl rfl rfl rfl) | dsimp -zeta only)

theorem doWrite_quiet (s : State) (n : Nat) (p : Packet) (data : List Byte) (hs : Quiet s₀ s) :
    Quiet s₀ (doWrite s n p data) := by
  unfold doWrite
  generalize psnPlace (connOf s n) p.psn = place
  dsimp only
  generalize keyCheck s n p.key .write p.off data.length = key
  cases place <;> cases key
  all_goals dsimp only
  all_goals repeat' (first
    | (with_reducible assumption)
    | (intro u; first | (refine (fun (_ : Quiet s₀ u) => ?_) ?_; clear_value u; rotate_left; dsimp -zeta only [u]; rotate_right) | clear_value u)
    | intro _ | lift_lets -underBinder | (with_reducible apply Quiet.ite) | (with_reducible apply Quiet.foldl)
    | (with_reducible apply outOfSequence_quiet) | (with_reducible apply sendAck_quiet) | (with_reducible apply keyFails_quiet) | (with_reducible apply notePacket_quiet) | (with_reducible apply placeBytes_quiet) | (with_reducible apply advancePsn_quiet) | split
    | dsimp -zeta only)

theorem answerRead_quiet (s : State) (n : Nat) (psn : Nat) (i : Nat) (off : Nat) (len : Nat) (hss : Quiet s₀ s) :
    Quiet s₀ (answerRead s n psn i off len) := by
  unfold answerRead
  repeat' (first
    | (with_reducible assumption)
    | (intro u; first | (refine (fun (_ : Quiet s₀ u) => ?_) ?_; clear_value u; rotate_left; dsimp -zeta only [u]; rotate_right) | clear_value u)
    | intro _ | lift_lets -underBinder | (with_reducible apply Quiet.ite) | (with_reducible apply Quiet.foldl)
    | (with_reducible apply emit_quiet) | (with_reducible apply queueFrames_quiet)
    | (with_reducible apply setConn_quiet) | split
    | (with_reducible refine Quiet.mk' ?_ rfl rfl rfl rfl rfl rfl rfl rfl rfl rfl rfl) | dsimp -zeta only)

theorem answerFlush_quiet (s : State) (n : Nat) (psn : Nat) (hss : Quiet s₀ s) : Quiet s₀ (answerFlush s n psn) :=
    by
  unfold answerFlush
  repeat' (first
    | (with_reducible assumption)
    | (intro u; first | (refine (fun (_ : Quiet s₀ u) => ?_) ?_; clear_value u; rotate_left; dsimp -zeta only [u]; rotate_right) | clear_value u)
    | intro _ | lift_lets -underBinder | (with_reducible apply Quiet.ite) | (with_reducible apply Quiet.foldl)
    | (with_reducible apply emit_quiet) | (with_reducible apply flushResponse_quiet)
    | (with_reducible apply queueFrames_quiet) | (with_reducible apply setConn_quiet) | split
    | (with_reducible refine Quiet.mk' ?_ rfl rfl rfl rfl rfl rfl rfl rfl rfl rfl rfl) | dsimp -zeta only)

theorem takeResource_quiet (s : State) (n : Nat) (psn : Nat) (i : Nat) (off : Nat) (len : Nat) (isFlush : Bool)
    (hss : Quiet s₀ s) : Quiet s₀ (takeResource s n psn i off len isFlush) := by
  unfold takeResource
  repeat' (first
    | (with_reducible assumption)
    | (intro u; first | (refine (fun (_ : Quiet s₀ u) => ?_) ?_; clear_value u; rotate_left; dsimp -zeta only [u]; rotate_right) | clear_value u)
    | intro _ | lift_lets -underBinder | (with_reducible apply Quiet.ite) | (with_reducible apply Quiet.foldl)
    | (with_reducible apply setConn_quiet) | split
    | (with_reducible refine Quiet.mk' ?_ rfl rfl rfl rfl rfl rfl rfl rfl rfl rfl rfl) | dsimp -zeta only)

theorem repeatRequest_quiet (s : State) (n : Nat) (psn : Nat) (hss : Quiet s₀ s) : Quiet s₀ (repeatRequest s n
    psn) := by
  unfold repeatRequest
  repeat' (first
    | (with_reducible assumption)
    | (intro u; first | (refine (fun (_ : Quiet s₀ u) => ?_) ?_; clear_value u; rotate_left; dsimp -zeta only [u]; rotate_right) | clear_value u)
    | intro _ | lift_lets -underBinder | (with_reducible apply Quiet.ite) | (with_reducible apply Quiet.foldl)
    | (with_reducible apply answerFlush_quiet) | (with_reducible apply answerRead_quiet) | split
    | (with_reducible refine Quiet.mk' ?_ rfl rfl rfl rfl rfl rfl rfl rfl rfl rfl rfl) | dsimp -zeta only)

theorem doRead_quiet (s : State) (n : Nat) (p : Packet) (len : Nat) (hs : Quiet s₀ s) :
    Quiet s₀ (doRead s n p len) := by
  unfold doRead
  generalize psnPlace (connOf s n) p.psn = place
  dsimp only
  generalize keyCheck s n p.key .read p.off len = key
  cases place <;> cases key
  all_goals dsimp only
  all_goals repeat' (first
    | (with_reducible assumption)
    | (intro u; first | (refine (fun (_ : Quiet s₀ u) => ?_) ?_; clear_value u; rotate_left; dsimp -zeta only [u]; rotate_right) | clear_value u)
    | intro _ | lift_lets -underBinder | (with_reducible apply Quiet.ite) | (with_reducible apply Quiet.foldl)
    | (with_reducible apply outOfSequence_quiet) | (with_reducible apply repeatRequest_quiet) | (with_reducible apply keyFails_quiet) | (with_reducible apply takeResource_quiet) | (with_reducible apply answerRead_quiet) | (with_reducible apply advancePsn_quiet) | split
    | dsimp -zeta only)

theorem doFlush_quiet (s : State) (n : Nat) (p : Packet) (len : Nat) (whole persist : Bool) (hs : Quiet s₀ s) :
    Quiet s₀ (doFlush s n p len whole persist) := by
  unfold doFlush
  generalize psnPlace (connOf s n) p.psn = place
  dsimp only
  generalize keyCheck s n p.key .flush (if whole then 0 else p.off) (if whole then 0 else len) = key
  cases place <;> cases key
  all_goals dsimp only
  all_goals repeat' (first
    | (with_reducible assumption)
    | (intro u; first | (refine (fun (_ : Quiet s₀ u) => ?_) ?_; clear_value u; rotate_left; dsimp -zeta only [u]; rotate_right) | clear_value u)
    | intro _ | lift_lets -underBinder | (with_reducible apply Quiet.ite) | (with_reducible apply Quiet.foldl)
    | (with_reducible apply outOfSequence_quiet) | (with_reducible apply repeatRequest_quiet) | (with_reducible apply keyFails_quiet) | (with_reducible apply invalidRequestNak_quiet) | (with_reducible apply takeResource_quiet) | (with_reducible apply answerFlush_quiet) | (with_reducible apply advancePsn_quiet) | split
    | dsimp -zeta only)

theorem doPacket_quiet (s : State) (n : Nat) (i : Instr) (hss : Quiet s₀ s) : Quiet s₀ (doPacket s n i) := by
  unfold doPacket
  repeat' (first
    | (with_reducible assumption)
    | (intro u; first | (refine (fun (_ : Quiet s₀ u) => ?_) ?_; clear_value u; rotate_left; dsimp -zeta only [u]; rotate_right) | clear_value u)
    | intro _ | lift_lets -underBinder | (with_reducible apply Quiet.ite) | (with_reducible apply Quiet.foldl)
    | (with_reducible apply congestionNotice_quiet) | (with_reducible apply doFlush_quiet)
    | (with_reducible apply doRead_quiet) | (with_reducible apply doWrite_quiet) | split
    | (with_reducible refine Quiet.mk' ?_ rfl rfl rfl rfl rfl rfl rfl rfl rfl rfl rfl) | dsimp -zeta only)

theorem park_quiet (s : State) (n : Nat) (i : Instr) (hss : Quiet s₀ s) : Quiet s₀ (park s n i) := by
  unfold park
  repeat' (first
    | (with_reducible assumption)
    | (intro u; first | (refine (fun (_ : Quiet s₀ u) => ?_) ?_; clear_value u; rotate_left; dsimp -zeta only [u]; rotate_right) | clear_value u)
    | intro _ | lift_lets -underBinder | (with_reducible apply Quiet.ite) | (with_reducible apply Quiet.foldl)
    | (with_reducible apply alert_quiet) | (with_reducible apply bump_quiet) | (with_reducible apply setConn_quiet)
    | split | (with_reducible refine Quiet.mk' ?_ rfl rfl rfl rfl rfl rfl rfl rfl rfl rfl rfl) | dsimp -zeta only)

theorem freeCells_quiet (s : State) (n : Nat) (hss : Quiet s₀ s) : Quiet s₀ (freeCells s n) := by
  unfold freeCells
  repeat' (first
    | (with_reducible assumption)
    | (intro u; first | (refine (fun (_ : Quiet s₀ u) => ?_) ?_; clear_value u; rotate_left; dsimp -zeta only [u]; rotate_right) | clear_value u)
    | intro _ | lift_lets -underBinder | (with_reducible apply Quiet.ite) | (with_reducible apply Quiet.foldl) | split
    | (with_reducible refine Quiet.mk' ?_ rfl rfl rfl rfl rfl rfl rfl rfl rfl rfl rfl) | dsimp -zeta only)

theorem packetArrives_quiet (s : State) (qpn : Nat) (i : Instr) (hss : Quiet s₀ s) : Quiet s₀ (packetArrives s qpn
    i) := by
  unfold packetArrives
  repeat' (first
    | (with_reducible assumption)
    | (intro u; first | (refine (fun (_ : Quiet s₀ u) => ?_) ?_; clear_value u; rotate_left; dsimp -zeta only [u]; rotate_right) | clear_value u)
    | intro _ | lift_lets -underBinder | (with_reducible apply Quiet.ite) | (with_reducible apply Quiet.foldl)
    | (with_reducible apply alert_quiet) | (with_reducible apply bump_quiet) | (with_reducible apply cacheContext_quiet)
    | (with_reducible apply doPacket_quiet) | (with_reducible apply park_quiet) | (with_reducible apply pmcEvent_quiet)
    | split | (with_reducible refine Quiet.mk' ?_ rfl rfl rfl rfl rfl rfl rfl rfl rfl rfl rfl) | dsimp -zeta only)

theorem takeConnFrame_quiet (s : State) (n : Nat) (hss : Quiet s₀ s) : Quiet s₀ (takeConnFrame s n) := by
  unfold takeConnFrame
  repeat' (first
    | (with_reducible assumption)
    | (intro u; first | (refine (fun (_ : Quiet s₀ u) => ?_) ?_; clear_value u; rotate_left; dsimp -zeta only [u]; rotate_right) | clear_value u)
    | intro _ | lift_lets -underBinder | (with_reducible apply Quiet.ite) | (with_reducible apply Quiet.foldl)
    | (with_reducible apply takeFrame_quiet) | split
    | (with_reducible refine Quiet.mk' ?_ rfl rfl rfl rfl rfl rfl rfl rfl rfl rfl rfl) | dsimp -zeta only)

theorem unsupportedPacket_quiet (s : State) (qpn : Nat) (opcode : Nat) (psn : Nat) (hss : Quiet s₀ s) : Quiet s₀
    (unsupportedPacket s qpn opcode psn) := by
  unfold unsupportedPacket
  repeat' (first
    | (with_reducible assumption)
    | (intro u; first | (refine (fun (_ : Quiet s₀ u) => ?_) ?_; clear_value u; rotate_left; dsimp -zeta only [u]; rotate_right) | clear_value u)
    | intro _ | lift_lets -underBinder | (with_reducible apply Quiet.ite) | (with_reducible apply Quiet.foldl)
    | (with_reducible apply bump_quiet) | (with_reducible apply invalidRequestNak_quiet) | split
    | (with_reducible refine Quiet.mk' ?_ rfl rfl rfl rfl rfl rfl rfl rfl rfl rfl rfl) | dsimp -zeta only)

theorem unpark_quiet (n : Nat) (s : State) (i : Instr) (hss : Quiet s₀ s) : Quiet s₀ (unpark n s i) := by
  unfold unpark
  repeat' (first
    | (with_reducible assumption)
    | (intro u; first | (refine (fun (_ : Quiet s₀ u) => ?_) ?_; clear_value u; rotate_left; dsimp -zeta only [u]; rotate_right) | clear_value u)
    | intro _ | lift_lets -underBinder | (with_reducible apply Quiet.ite) | (with_reducible apply Quiet.foldl)
    | (with_reducible apply bump_quiet) | (with_reducible apply doPacket_quiet) | split
    | (with_reducible refine Quiet.mk' ?_ rfl rfl rfl rfl rfl rfl rfl rfl rfl rfl rfl) | dsimp -zeta only)

theorem contextFetched_quiet (s : State) (n : Nat) (eccBad : Bool) (hss : Quiet s₀ s) : Quiet s₀ (contextFetched s
    n eccBad) := by
  unfold contextFetched
  repeat' (first
    | (with_reducible assumption)
    | (intro u; first | (refine (fun (_ : Quiet s₀ u) => ?_) ?_; clear_value u; rotate_left; dsimp -zeta only [u]; rotate_right) | clear_value u)
    | intro _ | lift_lets -underBinder | (with_reducible apply Quiet.ite) | (with_reducible apply Quiet.foldl)
    | (with_reducible apply alert_quiet) | (with_reducible apply blockError_quiet)
    | (with_reducible apply cacheContext_quiet) | (with_reducible apply connError_quiet)
    | (with_reducible apply freeCells_quiet) | (with_reducible apply setConn_quiet)
    | (with_reducible apply unpark_quiet) | split
    | (with_reducible refine Quiet.mk' ?_ rfl rfl rfl rfl rfl rfl rfl rfl rfl rfl rfl) | dsimp -zeta only)

theorem ackTimer_quiet (s : State) (n : Nat) (hss : Quiet s₀ s) : Quiet s₀ (ackTimer s n) := by
  unfold ackTimer
  repeat' (first
    | (with_reducible assumption)
    | (intro u; first | (refine (fun (_ : Quiet s₀ u) => ?_) ?_; clear_value u; rotate_left; dsimp -zeta only [u]; rotate_right) | clear_value u)
    | intro _ | lift_lets -underBinder | (with_reducible apply Quiet.ite) | (with_reducible apply Quiet.foldl)
    | (with_reducible apply clockTo_quiet) | (with_reducible apply sendAck_quiet) | split
    | (with_reducible refine Quiet.mk' ?_ rfl rfl rfl rfl rfl rfl rfl rfl rfl rfl rfl) | dsimp -zeta only)

theorem goBack_quiet (s : State) (n : Nat) (psn : Nat) (hss : Quiet s₀ s) : Quiet s₀ (goBack s n psn) := by
  unfold goBack
  repeat' (first
    | (with_reducible assumption)
    | (intro u; first | (refine (fun (_ : Quiet s₀ u) => ?_) ?_; clear_value u; rotate_left; dsimp -zeta only [u]; rotate_right) | clear_value u)
    | intro _ | lift_lets -underBinder | (with_reducible apply Quiet.ite) | (with_reducible apply Quiet.foldl)
    | (with_reducible apply bumpBy_quiet) | (with_reducible apply connError_quiet) | (with_reducible apply emit_quiet)
    | (with_reducible apply setConn_quiet) | split
    | (with_reducible refine Quiet.mk' ?_ rfl rfl rfl rfl rfl rfl rfl rfl rfl rfl rfl) | dsimp -zeta only)

theorem ackReceived_quiet (s : State) (n : Nat) (psn : Nat) (hss : Quiet s₀ s) : Quiet s₀ (ackReceived s n psn) :=
    by
  unfold ackReceived
  repeat' (first
    | (with_reducible assumption)
    | (intro u; first | (refine (fun (_ : Quiet s₀ u) => ?_) ?_; clear_value u; rotate_left; dsimp -zeta only [u]; rotate_right) | clear_value u)
    | intro _ | lift_lets -underBinder | (with_reducible apply Quiet.ite) | (with_reducible apply Quiet.foldl)
    | (with_reducible apply setConn_quiet) | split
    | (with_reducible refine Quiet.mk' ?_ rfl rfl rfl rfl rfl rfl rfl rfl rfl rfl rfl) | dsimp -zeta only)

theorem nakReceived_quiet (s : State) (n : Nat) (psn : Nat) (sequence : Bool) (hss : Quiet s₀ s) : Quiet s₀
    (nakReceived s n psn sequence) := by
  unfold nakReceived
  repeat' (first
    | (with_reducible assumption)
    | (intro u; first | (refine (fun (_ : Quiet s₀ u) => ?_) ?_; clear_value u; rotate_left; dsimp -zeta only [u]; rotate_right) | clear_value u)
    | intro _ | lift_lets -underBinder | (with_reducible apply Quiet.ite) | (with_reducible apply Quiet.foldl)
    | (with_reducible apply connError_quiet) | (with_reducible apply goBack_quiet) | split
    | (with_reducible refine Quiet.mk' ?_ rfl rfl rfl rfl rfl rfl rfl rfl rfl rfl rfl) | dsimp -zeta only)

theorem retxTimeout_quiet (s : State) (n : Nat) (hss : Quiet s₀ s) : Quiet s₀ (retxTimeout s n) := by
  unfold retxTimeout
  repeat' (first
    | (with_reducible assumption)
    | (intro u; first | (refine (fun (_ : Quiet s₀ u) => ?_) ?_; clear_value u; rotate_left; dsimp -zeta only [u]; rotate_right) | clear_value u)
    | intro _ | lift_lets -underBinder | (with_reducible apply Quiet.ite) | (with_reducible apply Quiet.foldl)
    | (with_reducible apply clockTo_quiet) | (with_reducible apply goBack_quiet) | split
    | (with_reducible refine Quiet.mk' ?_ rfl rfl rfl rfl rfl rfl rfl rfl rfl rfl rfl) | dsimp -zeta only)

theorem responseTaken_quiet (s : State) (n : Nat) (q : Nat) (kind : SentKind) (hss : Quiet s₀ s) : Quiet s₀
    (responseTaken s n q kind) := by
  unfold responseTaken
  repeat' (first
    | (with_reducible assumption)
    | (intro u; first | (refine (fun (_ : Quiet s₀ u) => ?_) ?_; clear_value u; rotate_left; dsimp -zeta only [u]; rotate_right) | clear_value u)
    | intro _ | lift_lets -underBinder | (with_reducible apply Quiet.ite) | (with_reducible apply Quiet.foldl)
    | (with_reducible apply issueHeld_quiet) | (with_reducible apply setConn_quiet) | split
    | (with_reducible refine Quiet.mk' ?_ rfl rfl rfl rfl rfl rfl rfl rfl rfl rfl rfl) | dsimp -zeta only)

theorem writeDone_quiet (s : State) (n : Nat) (cid : Nat) (hss : Quiet s₀ s) : Quiet s₀ (writeDone s n cid) := by
  unfold writeDone
  repeat' (first
    | (with_reducible assumption)
    | (intro u; first | (refine (fun (_ : Quiet s₀ u) => ?_) ?_; clear_value u; rotate_left; dsimp -zeta only [u]; rotate_right) | clear_value u)
    | intro _ | lift_lets -underBinder | (with_reducible apply Quiet.ite) | (with_reducible apply Quiet.foldl)
    | (with_reducible apply complete_quiet) | (with_reducible apply emit_quiet) | (with_reducible apply issue_quiet)
    | (with_reducible apply setCmd_quiet) | (with_reducible apply stamp_quiet) | split
    | (with_reducible refine Quiet.mk' ?_ rfl rfl rfl rfl rfl rfl rfl rfl rfl rfl rfl) | dsimp -zeta only)

theorem flushResponse_quiet (s : State) (n : Nat) (cid : Nat) (hss : Quiet s₀ s) : Quiet s₀ (flushResponse s n
    cid) := by
  unfold flushResponse
  repeat' (first
    | (with_reducible assumption)
    | (intro u; first | (refine (fun (_ : Quiet s₀ u) => ?_) ?_; clear_value u; rotate_left; dsimp -zeta only [u]; rotate_right) | clear_value u)
    | intro _ | lift_lets -underBinder | (with_reducible apply Quiet.ite) | (with_reducible apply Quiet.foldl)
    | (with_reducible apply complete_quiet) | (with_reducible apply responseTaken_quiet)
    | (with_reducible apply setCmd_quiet) | (with_reducible apply stamp_quiet) | split
    | (with_reducible refine Quiet.mk' ?_ rfl rfl rfl rfl rfl rfl rfl rfl rfl rfl rfl) | dsimp -zeta only)

theorem cnpReceived_quiet (s : State) (n : Nat) (hss : Quiet s₀ s) : Quiet s₀ (cnpReceived s n) := by
  unfold cnpReceived
  repeat' (first
    | (with_reducible assumption)
    | (intro u; first | (refine (fun (_ : Quiet s₀ u) => ?_) ?_; clear_value u; rotate_left; dsimp -zeta only [u]; rotate_right) | clear_value u)
    | intro _ | lift_lets -underBinder | (with_reducible apply Quiet.ite) | (with_reducible apply Quiet.foldl)
    | (with_reducible apply bump_quiet) | (with_reducible apply setConn_quiet) | (with_reducible apply step_quiet)
    | (refine step_quiet_eq ?_ (by with_reducible assumption)) | split
    | (with_reducible refine Quiet.mk' ?_ rfl rfl rfl rfl rfl rfl rfl rfl rfl rfl rfl) | dsimp -zeta only)

theorem rateRise_quiet (s : State) (n : Nat) (hss : Quiet s₀ s) : Quiet s₀ (rateRise s n) := by
  unfold rateRise
  repeat' (first
    | (with_reducible assumption)
    | (intro u; first | (refine (fun (_ : Quiet s₀ u) => ?_) ?_; clear_value u; rotate_left; dsimp -zeta only [u]; rotate_right) | clear_value u)
    | intro _ | lift_lets -underBinder | (with_reducible apply Quiet.ite) | (with_reducible apply Quiet.foldl)
    | (with_reducible apply clockTo_quiet) | (with_reducible apply setConn_quiet) | (with_reducible apply step_quiet)
    | (refine step_quiet_eq ?_ (by with_reducible assumption)) | split
    | (with_reducible refine Quiet.mk' ?_ rfl rfl rfl rfl rfl rfl rfl rfl rfl rfl rfl) | dsimp -zeta only)

theorem numberReuse_quiet (s : State) (n : Nat) (hss : Quiet s₀ s) : Quiet s₀ (numberReuse s n) := by
  unfold numberReuse
  repeat' (first
    | (with_reducible assumption)
    | (intro u; first | (refine (fun (_ : Quiet s₀ u) => ?_) ?_; clear_value u; rotate_left; dsimp -zeta only [u]; rotate_right) | clear_value u)
    | intro _ | lift_lets -underBinder | (with_reducible apply Quiet.ite) | (with_reducible apply Quiet.foldl)
    | (with_reducible apply clockToOpt_quiet) | (with_reducible apply setConn_quiet) | split
    | (with_reducible refine Quiet.mk' ?_ rfl rfl rfl rfl rfl rfl rfl rfl rfl rfl rfl) | dsimp -zeta only)

theorem rtStat_quiet (s : State) (page : Nat) (i : Nat) (result : Nat) (busy : Bool) (hss : Quiet s₀ s) : Quiet s₀
    (rtStat s page i result busy) := by
  unfold rtStat
  repeat' (first
    | (with_reducible assumption)
    | (intro u; first | (refine (fun (_ : Quiet s₀ u) => ?_) ?_; clear_value u; rotate_left; dsimp -zeta only [u]; rotate_right) | clear_value u)
    | intro _ | lift_lets -underBinder | (with_reducible apply Quiet.ite) | (with_reducible apply Quiet.foldl)
    | (with_reducible apply setReg_quiet) | split
    | (with_reducible refine Quiet.mk' ?_ rfl rfl rfl rfl rfl rfl rfl rfl rfl rfl rfl) | dsimp -zeta only)

theorem rtOperation_quiet (s : State) (e op : Nat) (hs : Quiet s₀ s) : Quiet s₀ (rtOperation s e op) := by
  have hk : ∀ (p i : Nat) (v : State), Quiet s₀ v → Quiet s₀ (setField v p O.XPT_RT_KEY 0 8 (regionOf v i).gen) :=
    fun p i v h => setField_quiet _ _ _ _ _ _ h
  unfold rtOperation
  dsimp only
  repeat' (first
    | (with_reducible assumption)
    | (intro u; first | (refine (fun (_ : Quiet s₀ u) => ?_) ?_; clear_value u; rotate_left; dsimp -zeta only [u]; rotate_right) | clear_value u)
    | intro _ | lift_lets -underBinder | (with_reducible apply Quiet.ite) | (with_reducible apply Quiet.foldl)
    | (with_reducible apply hk) | (with_reducible apply setField_quiet) | (with_reducible apply blockError_quiet) | (with_reducible apply rtStat_quiet) | (with_reducible apply register_quiet) | (with_reducible apply setRegion_quiet) | split
    | dsimp -zeta only)

theorem xptEffect_quiet (e : Nat) (off : Nat) (before : State) (after : State) (hsafter : Quiet s₀ after) : Quiet
    s₀ (xptEffect e off before after) := by
  unfold xptEffect
  repeat' (first
    | (with_reducible assumption)
    | (intro u; first | (refine (fun (_ : Quiet s₀ u) => ?_) ?_; clear_value u; rotate_left; dsimp -zeta only [u]; rotate_right) | clear_value u)
    | intro _ | lift_lets -underBinder | (with_reducible apply Quiet.ite) | (with_reducible apply Quiet.foldl)
    | (with_reducible apply rtOperation_quiet) | (with_reducible apply setReg_quiet) | split
    | (with_reducible refine Quiet.mk' ?_ rfl rfl rfl rfl rfl rfl rfl rfl rfl rfl rfl) | dsimp -zeta only)

theorem rtCommand_quiet (s : State) (req : Nat) (e : Nat) (op : Nat) (hss : Quiet s₀ s) : Quiet s₀ (rtCommand s
    req e op) := by
  unfold rtCommand
  repeat' (first
    | (with_reducible assumption)
    | (intro u; first | (refine (fun (_ : Quiet s₀ u) => ?_) ?_; clear_value u; rotate_left; dsimp -zeta only [u]; rotate_right) | clear_value u)
    | intro _ | lift_lets -underBinder | (with_reducible apply Quiet.ite) | (with_reducible apply Quiet.foldl)
    | (with_reducible apply writeBlock_quiet) | (with_reducible apply xptEffect_quiet) | split
    | (with_reducible refine Quiet.mk' ?_ rfl rfl rfl rfl rfl rfl rfl rfl rfl rfl rfl) | dsimp -zeta only)

theorem revokeDone_quiet (s : State) (i : Nat) (hss : Quiet s₀ s) : Quiet s₀ (revokeDone s i) := by
  unfold revokeDone
  repeat' (first
    | (with_reducible assumption)
    | (intro u; first | (refine (fun (_ : Quiet s₀ u) => ?_) ?_; clear_value u; rotate_left; dsimp -zeta only [u]; rotate_right) | clear_value u)
    | intro _ | lift_lets -underBinder | (with_reducible apply Quiet.ite) | (with_reducible apply Quiet.foldl)
    | (with_reducible apply alert_quiet) | (with_reducible apply freeRegion_quiet) | (with_reducible apply rtStat_quiet)
    | (with_reducible apply setField_quiet) | split
    | (with_reducible refine Quiet.mk' ?_ rfl rfl rfl rfl rfl rfl rfl rfl rfl rfl rfl) | dsimp -zeta only)

end Sys2Proof.Machine
end

