-- ==== Sys2Proof/Laws/QuietReports.lean ====
section
/-! SUPPORT. The operations of Machine/Reports.lean that keep `Quiet`. -/
namespace Sys2Proof.Machine
variable {s₀ : State}

theorem reportZone_quiet (n : Nat) (ns : Nat) (s : State) (zi : Nat) (hss : Quiet s₀ s) : Quiet s₀ (reportZone n
    ns s zi) := by
  unfold reportZone
  repeat' (first
    | (with_reducible assumption)
    | (intro u; first | (refine (fun (_ : Quiet s₀ u) => ?_) ?_; clear_value u; rotate_left; dsimp -zeta only [u]; rotate_right) | clear_value u)
    | intro _ | lift_lets -underBinder | (with_reducible apply Quiet.ite) | (with_reducible apply Quiet.foldl)
    | (with_reducible apply setZone_quiet) | (with_reducible apply touchGroup_quiet) | split
    | (with_reducible refine Quiet.mk' ?_ rfl rfl rfl rfl rfl rfl rfl rfl rfl rfl rfl) | dsimp -zeta only)

theorem acceptReport_quiet (n : Nat) (s : State) (q : Nat) (k : Capsule) (hss : Quiet s₀ s) : Quiet s₀
    (acceptReport n s q k) := by
  unfold acceptReport
  repeat' (first
    | (with_reducible assumption)
    | (intro u; first | (refine (fun (_ : Quiet s₀ u) => ?_) ?_; clear_value u; rotate_left; dsimp -zeta only [u]; rotate_right) | clear_value u)
    | intro _ | lift_lets -underBinder | (with_reducible apply Quiet.ite) | (with_reducible apply Quiet.foldl)
    | (with_reducible apply deliver_quiet) | (with_reducible apply reportZone_quiet) | split
    | (with_reducible refine Quiet.mk' ?_ rfl rfl rfl rfl rfl rfl rfl rfl rfl rfl rfl) | dsimp -zeta only)

theorem namespaceData_quiet (s : State) (n : Nat) (hss : Quiet s₀ s) : Quiet s₀ (namespaceData s n).2 := by
  unfold namespaceData
  repeat' (first
    | (with_reducible assumption)
    | (intro u; first | (refine (fun (_ : Quiet s₀ u) => ?_) ?_; clear_value u; rotate_left; dsimp -zeta only [u]; rotate_right) | (refine (fun (_ : Quiet s₀ u.2) => ?_) ?_; clear_value u; rotate_left; dsimp -zeta only [u]; rotate_right) | (refine (fun (_ : Quiet s₀ u.2.2) => ?_) ?_; clear_value u; rotate_left; dsimp -zeta only [u]; rotate_right) | clear_value u)
    | intro _ | lift_lets -underBinder | (with_reducible apply Quiet.ite) | (with_reducible apply Quiet.foldl) | split
    | (with_reducible refine Quiet.mk' ?_ rfl rfl rfl rfl rfl rfl rfl rfl rfl rfl rfl) | dsimp -zeta only)
theorem namespaceData_quiet_eq {s : State} {n : Nat} {e0 : List Byte} {t : State} (hss : Quiet s₀ s) (e :
    namespaceData s n = (e0, t)) : Quiet s₀ t := by
  have := namespaceData_quiet s n hss
  rw [e] at this
  exact this

theorem deliverLog_quiet (log : State → Nat → List Byte) (s : State) (q : Nat) (k : Capsule) (hss : Quiet s₀ s) :
    Quiet s₀ (deliverLog log s q k) := by
  unfold deliverLog
  repeat' (first
    | (with_reducible assumption)
    | (intro u; first | (refine (fun (_ : Quiet s₀ u) => ?_) ?_; clear_value u; rotate_left; dsimp -zeta only [u]; rotate_right) | clear_value u)
    | intro _ | lift_lets -underBinder | (with_reducible apply Quiet.ite) | (with_reducible apply Quiet.foldl)
    | (with_reducible apply deliver_quiet) | (with_reducible apply setCmd_quiet) | split
    | (with_reducible refine Quiet.mk' ?_ rfl rfl rfl rfl rfl rfl rfl rfl rfl rfl rfl) | dsimp -zeta only)

theorem acceptToken_quiet (n : Nat) (s : State) (q : Nat) (k : Capsule) (hss : Quiet s₀ s) : Quiet s₀ (acceptToken
    n s q k) := by
  unfold acceptToken
  repeat' (first
    | (with_reducible assumption)
    | (intro u; first | (refine (fun (_ : Quiet s₀ u) => ?_) ?_; clear_value u; rotate_left; dsimp -zeta only [u]; rotate_right) | clear_value u)
    | intro _ | lift_lets -underBinder | (with_reducible apply Quiet.ite) | (with_reducible apply Quiet.foldl)
    | (with_reducible apply complete_quiet) | (with_reducible apply emit_quiet) | (with_reducible apply issue_quiet)
    | (with_reducible apply setPhase_quiet) | (with_reducible apply tokenRead_quiet) | split
    | (with_reducible refine Quiet.mk' ?_ rfl rfl rfl rfl rfl rfl rfl rfl rfl rfl rfl) | dsimp -zeta only)

theorem tokenRead_quiet (s : State) (n : Nat) (cid : Nat) (data : List Byte) (tagOk : Bool) (hss : Quiet s₀ s) :
    Quiet s₀ (tokenRead s n cid data tagOk) := by
  unfold tokenRead
  repeat' (first
    | (with_reducible assumption)
    | (intro u; first | (refine (fun (_ : Quiet s₀ u) => ?_) ?_; clear_value u; rotate_left; dsimp -zeta only [u]; rotate_right) | (refine (fun (_ : Quiet s₀ u.2) => ?_) ?_; clear_value u; rotate_left; dsimp -zeta only [u]; rotate_right) | (refine (fun (_ : Quiet s₀ u.2.2) => ?_) ?_; clear_value u; rotate_left; dsimp -zeta only [u]; rotate_right) | clear_value u)
    | intro _ | lift_lets -underBinder | (with_reducible apply Quiet.ite) | (with_reducible apply Quiet.foldl)
    | (with_reducible apply addError_quiet) | (with_reducible apply complete_quiet) | (with_reducible apply draw_quiet)
    | (refine draw_quiet_eq ?_ (by with_reducible assumption)) | (with_reducible apply responseTaken_quiet)
    | (with_reducible apply setConn_quiet) | split
    | (with_reducible refine Quiet.mk' ?_ rfl rfl rfl rfl rfl rfl rfl rfl rfl rfl rfl) | dsimp -zeta only)

end Sys2Proof.Machine
end

