-- ==== Sys2Proof/Laws/QuietSecurity.lean ====
section
/-! SUPPORT. The operations of Machine/Security.lean that keep `Quiet`. -/
namespace Sys2Proof.Machine
variable {s₀ : State}

theorem failQueued_quiet (s : State) (p : CryptoJob → Bool) (hss : Quiet s₀ s) : Quiet s₀ (failQueued s p) := by
  unfold failQueued
  repeat' (first
    | (with_reducible assumption)
    | (intro u; first | (refine (fun (_ : Quiet s₀ u) => ?_) ?_; clear_value u; rotate_left; dsimp -zeta only [u]; rotate_right) | (refine (fun (_ : Quiet s₀ u.2) => ?_) ?_; clear_value u; rotate_left; dsimp -zeta only [u]; rotate_right) | (refine (fun (_ : Quiet s₀ u.2.2) => ?_) ?_; clear_value u; rotate_left; dsimp -zeta only [u]; rotate_right) | clear_value u)
    | intro _ | lift_lets -underBinder | (with_reducible apply Quiet.ite) | (with_reducible apply Quiet.foldl)
    | (with_reducible apply dispatchJobs_quiet) | (with_reducible apply dropJobs_quiet)
    | (refine dropJobs_quiet_eq ?_ (by with_reducible assumption)) | (with_reducible apply haltCommand_quiet) | split
    | (with_reducible refine Quiet.mk' ?_ rfl rfl rfl rfl rfl rfl rfl rfl rfl rfl rfl) | dsimp -zeta only)

theorem endRequest_quiet (s : State) (op : Nat) (status : Nat) (response : List Nat) (hss : Quiet s₀ s) : Quiet s₀
    (endRequest s op status response) := by
  unfold endRequest
  repeat' (first
    | (with_reducible assumption)
    | (intro u; first | (refine (fun (_ : Quiet s₀ u) => ?_) ?_; clear_value u; rotate_left; dsimp -zeta only [u]; rotate_right) | clear_value u)
    | intro _ | lift_lets -underBinder | (with_reducible apply Quiet.ite) | (with_reducible apply Quiet.foldl)
    | (with_reducible apply addError_quiet) | (with_reducible apply alert_quiet) | (with_reducible apply bump_quiet)
    | (with_reducible apply emit_quiet) | split
    | (with_reducible refine Quiet.mk' ?_ rfl rfl rfl rfl rfl rfl rfl rfl rfl rfl rfl) | dsimp -zeta only)

theorem keepNonce_quiet (s : State) (nonce : Nat) (hss : Quiet s₀ s) : Quiet s₀ (keepNonce s nonce) := by
  unfold keepNonce
  repeat' (first
    | (with_reducible assumption)
    | (intro u; first | (refine (fun (_ : Quiet s₀ u) => ?_) ?_; clear_value u; rotate_left; dsimp -zeta only [u]; rotate_right) | clear_value u)
    | intro _ | lift_lets -underBinder | (with_reducible apply Quiet.ite) | (with_reducible apply Quiet.foldl)
    | (with_reducible apply journal_quiet) | split
    | (with_reducible refine Quiet.mk' ?_ rfl rfl rfl rfl rfl rfl rfl rfl rfl rfl rfl) | dsimp -zeta only)

/-- What a request answers keeps `Quiet`. -/
structure Quiet.Ans (a : State) (x : Answer) : Prop where
  running : ∀ t, x = .running t → Quiet a t
  done : ∀ st r t, x = .done st r t → Quiet a t

theorem Quiet.ans_waits : Quiet.Ans s₀ .waits := ⟨fun _ h => (nomatch h), fun _ _ _ h => (nomatch h)⟩
theorem Quiet.ans_running {t : State} (h : Quiet s₀ t) : Quiet.Ans s₀ (.running t) :=
  ⟨fun _ e => Answer.running.inj e ▸ h, fun _ _ _ e => (nomatch e)⟩
theorem Quiet.ans_done {st : Nat} {r : List Nat} {t : State} (h : Quiet s₀ t) : Quiet.Ans s₀ (.done st r t) :=
  ⟨fun _ e => (nomatch e), fun _ _ _ e => (Answer.done.inj e).2.2 ▸ h⟩
theorem Quiet.ans_ite {c : Prop} [Decidable c] {x y : Answer} (hx : Quiet.Ans s₀ x) (hy : Quiet.Ans s₀ y) :
    Quiet.Ans s₀ (if c then x else y) := by
  split <;> assumption

theorem serveWith_quiet (s : State) (op : Nat) (signed keep vault : Bool) (r : SecReq) (body : State → Answer)
    (hb : ∀ x, Quiet s₀ x → Quiet.Ans s₀ (body x)) (hs : Quiet s₀ s) :
    Quiet.Opt s₀ (serveWith s op signed keep vault r body) := by
  unfold serveWith
  split
  · exact Quiet.opt_some (endRequest_quiet _ _ _ _ hs)
  · split
    · exact Quiet.opt_none
    · next t e => exact Quiet.opt_some (Quiet.mk' ((hb s hs).running t e) rfl rfl rfl rfl rfl rfl rfl rfl rfl rfl rfl)
    · next st r' t e =>
      have ht := (hb s hs).done _ _ _ e
      apply Quiet.opt_ite
      · apply Quiet.opt_some
        apply endRequest_quiet
        apply Quiet.ite
        · exact keepNonce_quiet _ _ ht
        · exact ht
      · exact Quiet.opt_some (endRequest_quiet _ _ _ _ hs)

theorem serveSigned_quiet (s : State) (op : Nat) (vault : Bool) (r : SecReq) (body : State → Answer)
    (hb : ∀ x, Quiet s₀ x → Quiet.Ans s₀ (body x)) (hs : Quiet s₀ s) :
    Quiet.Opt s₀ (serveSigned s op vault r body) := serveWith_quiet _ _ _ _ _ _ _ hb hs

theorem identityRequest_quiet (r : SecReq) (s : State) (hss : Quiet s₀ s) : Quiet.Opt s₀ (identityRequest r s) :=
    by
  unfold identityRequest
  repeat' (first
    | (with_reducible assumption)
    | (intro u; first | (refine (fun (_ : Quiet s₀ u) => ?_) ?_; clear_value u; rotate_left; dsimp -zeta only [u]; rotate_right) | clear_value u)
    | intro _ | lift_lets -underBinder | (with_reducible apply Quiet.ite) | (with_reducible exact Quiet.opt_none)
    | (with_reducible apply Quiet.opt_some) | (with_reducible apply Quiet.opt_ite) | (with_reducible apply Quiet.foldl)
    | (with_reducible apply serveWith_quiet) | (refine serveWith_quiet_eq ?_ (by with_reducible assumption))
    | (with_reducible exact Quiet.ans_waits) | (with_reducible apply Quiet.ans_running)
    | (with_reducible apply Quiet.ans_done) | (with_reducible apply Quiet.ans_ite) | split
    | (with_reducible refine Quiet.mk' ?_ rfl rfl rfl rfl rfl rfl rfl rfl rfl rfl rfl) | dsimp -zeta only)
theorem identityRequest_quiet_eq {r : SecReq} {s : State} {t : State} (hss : Quiet s₀ s) (e : identityRequest r s
    = some t) : Quiet s₀ t :=
  (identityRequest_quiet r s hss).use t e

theorem ensurePwk_quiet (s : State) (hss : Quiet s₀ s) : Quiet s₀ (ensurePwk s) := by
  unfold ensurePwk
  repeat' (first
    | (with_reducible assumption)
    | (intro u; first | (refine (fun (_ : Quiet s₀ u) => ?_) ?_; clear_value u; rotate_left; dsimp -zeta only [u]; rotate_right) | (refine (fun (_ : Quiet s₀ u.2) => ?_) ?_; clear_value u; rotate_left; dsimp -zeta only [u]; rotate_right) | (refine (fun (_ : Quiet s₀ u.2.2) => ?_) ?_; clear_value u; rotate_left; dsimp -zeta only [u]; rotate_right) | clear_value u)
    | intro _ | lift_lets -underBinder | (with_reducible apply Quiet.ite) | (with_reducible apply Quiet.foldl)
    | (with_reducible apply draw_quiet) | (refine draw_quiet_eq ?_ (by with_reducible assumption)) | split
    | (with_reducible refine Quiet.mk' ?_ rfl rfl rfl rfl rfl rfl rfl rfl rfl rfl rfl) | dsimp -zeta only)

theorem bindOwnerRequest_quiet (r : SecReq) (key : Nat) (s : State) (hss : Quiet s₀ s) : Quiet.Opt s₀
    (bindOwnerRequest r key s) := by
  unfold bindOwnerRequest
  repeat' (first
    | (with_reducible assumption)
    | (intro u; first | (refine (fun (_ : Quiet s₀ u) => ?_) ?_; clear_value u; rotate_left; dsimp -zeta only [u]; rotate_right) | clear_value u)
    | intro _ | lift_lets -underBinder | (with_reducible apply Quiet.ite) | (with_reducible exact Quiet.opt_none)
    | (with_reducible apply Quiet.opt_some) | (with_reducible apply Quiet.opt_ite) | (with_reducible apply Quiet.foldl)
    | (with_reducible apply ensurePwk_quiet) | (with_reducible apply journal_quiet)
    | (with_reducible apply serveWith_quiet) | (refine serveWith_quiet_eq ?_ (by with_reducible assumption))
    | (with_reducible exact Quiet.ans_waits) | (with_reducible apply Quiet.ans_running)
    | (with_reducible apply Quiet.ans_done) | (with_reducible apply Quiet.ans_ite) | split
    | (with_reducible refine Quiet.mk' ?_ rfl rfl rfl rfl rfl rfl rfl rfl rfl rfl rfl) | dsimp -zeta only)
theorem bindOwnerRequest_quiet_eq {r : SecReq} {key : Nat} {s : State} {t : State} (hss : Quiet s₀ s) (e :
    bindOwnerRequest r key s = some t) : Quiet s₀ t :=
  (bindOwnerRequest_quiet r key s hss).use t e

theorem pairBindRequest_quiet (r : SecReq) (b : PairBind) (s : State) (hss : Quiet s₀ s) : Quiet.Opt s₀
    (pairBindRequest r b s) := by
  unfold pairBindRequest
  repeat' (first
    | (with_reducible assumption)
    | (intro u; first | (refine (fun (_ : Quiet s₀ u) => ?_) ?_; clear_value u; rotate_left; dsimp -zeta only [u]; rotate_right) | clear_value u)
    | intro _ | lift_lets -underBinder | (with_reducible apply Quiet.ite) | (with_reducible exact Quiet.opt_none)
    | (with_reducible apply Quiet.opt_some) | (with_reducible apply Quiet.opt_ite) | (with_reducible apply Quiet.foldl)
    | (with_reducible apply emit_quiet) | (with_reducible apply serveSigned_quiet)
    | (refine serveSigned_quiet_eq ?_ (by with_reducible assumption)) | (with_reducible exact Quiet.ans_waits)
    | (with_reducible apply Quiet.ans_running) | (with_reducible apply Quiet.ans_done)
    | (with_reducible apply Quiet.ans_ite) | split
    | (with_reducible refine Quiet.mk' ?_ rfl rfl rfl rfl rfl rfl rfl rfl rfl rfl rfl) | dsimp -zeta only)
theorem pairBindRequest_quiet_eq {r : SecReq} {b : PairBind} {s : State} {t : State} (hss : Quiet s₀ s) (e :
    pairBindRequest r b s = some t) : Quiet s₀ t :=
  (pairBindRequest_quiet r b s hss).use t e

theorem nsSetRequest_quiet (r : SecReq) (a : NsChange) (s : State) (hss : Quiet s₀ s) : Quiet.Opt s₀ (nsSetRequest
    r a s) := by
  unfold nsSetRequest
  repeat' (first
    | (with_reducible assumption)
    | (intro u; first | (refine (fun (_ : Quiet s₀ u) => ?_) ?_; clear_value u; rotate_left; dsimp -zeta only [u]; rotate_right) | clear_value u)
    | intro _ | lift_lets -underBinder | (with_reducible apply Quiet.ite) | (with_reducible exact Quiet.opt_none)
    | (with_reducible apply Quiet.opt_some) | (with_reducible apply Quiet.opt_ite) | (with_reducible apply Quiet.foldl)
    | (with_reducible apply journal_quiet) | (with_reducible apply serveSigned_quiet)
    | (refine serveSigned_quiet_eq ?_ (by with_reducible assumption)) | (with_reducible exact Quiet.ans_waits)
    | (with_reducible apply Quiet.ans_running) | (with_reducible apply Quiet.ans_done)
    | (with_reducible apply Quiet.ans_ite) | split
    | (with_reducible refine Quiet.mk' ?_ rfl rfl rfl rfl rfl rfl rfl rfl rfl rfl rfl) | dsimp -zeta only)
theorem nsSetRequest_quiet_eq {r : SecReq} {a : NsChange} {s : State} {t : State} (hss : Quiet s₀ s) (e :
    nsSetRequest r a s = some t) : Quiet s₀ t :=
  (nsSetRequest_quiet r a s hss).use t e

theorem tvkSetRequest_quiet (r : SecReq) (k : Nat) (key : Nat) (s : State) (hss : Quiet s₀ s) : Quiet.Opt s₀
    (tvkSetRequest r k key s) := by
  unfold tvkSetRequest
  repeat' (first
    | (with_reducible assumption)
    | (intro u; first | (refine (fun (_ : Quiet s₀ u) => ?_) ?_; clear_value u; rotate_left; dsimp -zeta only [u]; rotate_right) | clear_value u)
    | intro _ | lift_lets -underBinder | (with_reducible apply Quiet.ite) | (with_reducible exact Quiet.opt_none)
    | (with_reducible apply Quiet.opt_some) | (with_reducible apply Quiet.opt_ite) | (with_reducible apply Quiet.foldl)
    | (with_reducible apply journal_quiet) | (with_reducible apply serveSigned_quiet)
    | (refine serveSigned_quiet_eq ?_ (by with_reducible assumption)) | (with_reducible exact Quiet.ans_waits)
    | (with_reducible apply Quiet.ans_running) | (with_reducible apply Quiet.ans_done)
    | (with_reducible apply Quiet.ans_ite) | split
    | (with_reducible refine Quiet.mk' ?_ rfl rfl rfl rfl rfl rfl rfl rfl rfl rfl rfl) | dsimp -zeta only)
theorem tvkSetRequest_quiet_eq {r : SecReq} {k : Nat} {key : Nat} {s : State} {t : State} (hss : Quiet s₀ s) (e :
    tvkSetRequest r k key s = some t) : Quiet s₀ t :=
  (tvkSetRequest_quiet r k key s hss).use t e

theorem tvkRemoveRequest_quiet (r : SecReq) (k : Nat) (s : State) (hss : Quiet s₀ s) : Quiet.Opt s₀
    (tvkRemoveRequest r k s) := by
  unfold tvkRemoveRequest
  repeat' (first
    | (with_reducible assumption)
    | (intro u; first | (refine (fun (_ : Quiet s₀ u) => ?_) ?_; clear_value u; rotate_left; dsimp -zeta only [u]; rotate_right) | clear_value u)
    | intro _ | lift_lets -underBinder | (with_reducible apply Quiet.ite) | (with_reducible exact Quiet.opt_none)
    | (with_reducible apply Quiet.opt_some) | (with_reducible apply Quiet.opt_ite) | (with_reducible apply Quiet.foldl)
    | (with_reducible apply journal_quiet) | (with_reducible apply serveSigned_quiet)
    | (refine serveSigned_quiet_eq ?_ (by with_reducible assumption)) | (with_reducible exact Quiet.ans_waits)
    | (with_reducible apply Quiet.ans_running) | (with_reducible apply Quiet.ans_done)
    | (with_reducible apply Quiet.ans_ite) | split
    | (with_reducible refine Quiet.mk' ?_ rfl rfl rfl rfl rfl rfl rfl rfl rfl rfl rfl) | dsimp -zeta only)
theorem tvkRemoveRequest_quiet_eq {r : SecReq} {k : Nat} {s : State} {t : State} (hss : Quiet s₀ s) (e :
    tvkRemoveRequest r k s = some t) : Quiet s₀ t :=
  (tvkRemoveRequest_quiet r k s hss).use t e

theorem denyAddRequest_quiet (r : SecReq) (serial : Nat) (s : State) (hss : Quiet s₀ s) : Quiet.Opt s₀
    (denyAddRequest r serial s) := by
  unfold denyAddRequest
  repeat' (first
    | (with_reducible assumption)
    | (intro u; first | (refine (fun (_ : Quiet s₀ u) => ?_) ?_; clear_value u; rotate_left; dsimp -zeta only [u]; rotate_right) | clear_value u)
    | intro _ | lift_lets -underBinder | (with_reducible apply Quiet.ite) | (with_reducible exact Quiet.opt_none)
    | (with_reducible apply Quiet.opt_some) | (with_reducible apply Quiet.opt_ite) | (with_reducible apply Quiet.foldl)
    | (with_reducible apply serveSigned_quiet) | (refine serveSigned_quiet_eq ?_ (by with_reducible assumption))
    | (with_reducible exact Quiet.ans_waits) | (with_reducible apply Quiet.ans_running)
    | (with_reducible apply Quiet.ans_done) | (with_reducible apply Quiet.ans_ite) | split
    | (with_reducible refine Quiet.mk' ?_ rfl rfl rfl rfl rfl rfl rfl rfl rfl rfl rfl) | dsimp -zeta only)
theorem denyAddRequest_quiet_eq {r : SecReq} {serial : Nat} {s : State} {t : State} (hss : Quiet s₀ s) (e :
    denyAddRequest r serial s = some t) : Quiet s₀ t :=
  (denyAddRequest_quiet r serial s hss).use t e

theorem denyRemoveRequest_quiet (r : SecReq) (serial : Nat) (s : State) (hss : Quiet s₀ s) : Quiet.Opt s₀
    (denyRemoveRequest r serial s) := by
  unfold denyRemoveRequest
  repeat' (first
    | (with_reducible assumption)
    | (intro u; first | (refine (fun (_ : Quiet s₀ u) => ?_) ?_; clear_value u; rotate_left; dsimp -zeta only [u]; rotate_right) | clear_value u)
    | intro _ | lift_lets -underBinder | (with_reducible apply Quiet.ite) | (with_reducible exact Quiet.opt_none)
    | (with_reducible apply Quiet.opt_some) | (with_reducible apply Quiet.opt_ite) | (with_reducible apply Quiet.foldl)
    | (with_reducible apply serveSigned_quiet) | (refine serveSigned_quiet_eq ?_ (by with_reducible assumption))
    | (with_reducible exact Quiet.ans_waits) | (with_reducible apply Quiet.ans_running)
    | (with_reducible apply Quiet.ans_done) | (with_reducible apply Quiet.ans_ite) | split
    | (with_reducible refine Quiet.mk' ?_ rfl rfl rfl rfl rfl rfl rfl rfl rfl rfl rfl) | dsimp -zeta only)
theorem denyRemoveRequest_quiet_eq {r : SecReq} {serial : Nat} {s : State} {t : State} (hss : Quiet s₀ s) (e :
    denyRemoveRequest r serial s = some t) : Quiet s₀ t :=
  (denyRemoveRequest_quiet r serial s hss).use t e

theorem orderedAddRequest_quiet (r : SecReq) (hostId : Nat) (s : State) (hss : Quiet s₀ s) : Quiet.Opt s₀
    (orderedAddRequest r hostId s) := by
  unfold orderedAddRequest
  repeat' (first
    | (with_reducible assumption)
    | (intro u; first | (refine (fun (_ : Quiet s₀ u) => ?_) ?_; clear_value u; rotate_left; dsimp -zeta only [u]; rotate_right) | clear_value u)
    | intro _ | lift_lets -underBinder | (with_reducible apply Quiet.ite) | (with_reducible exact Quiet.opt_none)
    | (with_reducible apply Quiet.opt_some) | (with_reducible apply Quiet.opt_ite) | (with_reducible apply Quiet.foldl)
    | (with_reducible apply serveSigned_quiet) | (refine serveSigned_quiet_eq ?_ (by with_reducible assumption))
    | (with_reducible exact Quiet.ans_waits) | (with_reducible apply Quiet.ans_running)
    | (with_reducible apply Quiet.ans_done) | (with_reducible apply Quiet.ans_ite) | split
    | (with_reducible refine Quiet.mk' ?_ rfl rfl rfl rfl rfl rfl rfl rfl rfl rfl rfl) | dsimp -zeta only)
theorem orderedAddRequest_quiet_eq {r : SecReq} {hostId : Nat} {s : State} {t : State} (hss : Quiet s₀ s) (e :
    orderedAddRequest r hostId s = some t) : Quiet s₀ t :=
  (orderedAddRequest_quiet r hostId s hss).use t e

theorem orderedRemoveRequest_quiet (r : SecReq) (hostId : Nat) (s : State) (hss : Quiet s₀ s) : Quiet.Opt s₀
    (orderedRemoveRequest r hostId s) := by
  unfold orderedRemoveRequest
  repeat' (first
    | (with_reducible assumption)
    | (intro u; first | (refine (fun (_ : Quiet s₀ u) => ?_) ?_; clear_value u; rotate_left; dsimp -zeta only [u]; rotate_right) | clear_value u)
    | intro _ | lift_lets -underBinder | (with_reducible apply Quiet.ite) | (with_reducible exact Quiet.opt_none)
    | (with_reducible apply Quiet.opt_some) | (with_reducible apply Quiet.opt_ite) | (with_reducible apply Quiet.foldl)
    | (with_reducible apply serveSigned_quiet) | (refine serveSigned_quiet_eq ?_ (by with_reducible assumption))
    | (with_reducible exact Quiet.ans_waits) | (with_reducible apply Quiet.ans_running)
    | (with_reducible apply Quiet.ans_done) | (with_reducible apply Quiet.ans_ite) | split
    | (with_reducible refine Quiet.mk' ?_ rfl rfl rfl rfl rfl rfl rfl rfl rfl rfl rfl) | dsimp -zeta only)
theorem orderedRemoveRequest_quiet_eq {r : SecReq} {hostId : Nat} {s : State} {t : State} (hss : Quiet s₀ s) (e :
    orderedRemoveRequest r hostId s = some t) : Quiet s₀ t :=
  (orderedRemoveRequest_quiet r hostId s hss).use t e

theorem clearKeyData_quiet (s : State) (hss : Quiet s₀ s) : Quiet s₀ (clearKeyData s) := by
  unfold clearKeyData
  repeat' (first
    | (with_reducible assumption)
    | (intro u; first | (refine (fun (_ : Quiet s₀ u) => ?_) ?_; clear_value u; rotate_left; dsimp -zeta only [u]; rotate_right) | clear_value u)
    | intro _ | lift_lets -underBinder | (with_reducible apply Quiet.ite) | (with_reducible apply Quiet.foldl)
    | (with_reducible apply setReg_quiet) | split
    | (with_reducible refine Quiet.mk' ?_ rfl rfl rfl rfl rfl rfl rfl rfl rfl rfl rfl) | dsimp -zeta only)

theorem almCfgEffect_quiet (x0 : State) (after : State) (hsafter : Quiet s₀ after) : Quiet s₀ (almCfgEffect x0
    after) := by
  unfold almCfgEffect
  repeat' (first
    | (with_reducible assumption)
    | (intro u; first | (refine (fun (_ : Quiet s₀ u) => ?_) ?_; clear_value u; rotate_left; dsimp -zeta only [u]; rotate_right) | clear_value u)
    | intro _ | lift_lets -underBinder | (with_reducible apply Quiet.ite) | (with_reducible apply Quiet.foldl)
    | (with_reducible apply setReg_quiet) | split
    | (with_reducible refine Quiet.mk' ?_ rfl rfl rfl rfl rfl rfl rfl rfl rfl rfl rfl) | dsimp -zeta only)

theorem sealedError_quiet (s : State) (n : Nat) (hss : Quiet s₀ s) : Quiet s₀ (sealedError s n) := by
  unfold sealedError
  repeat' (first
    | (with_reducible assumption)
    | (intro u; first | (refine (fun (_ : Quiet s₀ u) => ?_) ?_; clear_value u; rotate_left; dsimp -zeta only [u]; rotate_right) | clear_value u)
    | intro _ | lift_lets -underBinder | (with_reducible apply Quiet.ite) | (with_reducible apply Quiet.foldl)
    | (with_reducible apply connError_quiet) | (with_reducible apply setConn_quiet) | split
    | (with_reducible refine Quiet.mk' ?_ rfl rfl rfl rfl rfl rfl rfl rfl rfl rfl rfl) | dsimp -zeta only)

theorem sendZeroize_quiet (s : State) (hss : Quiet s₀ s) : Quiet s₀ (sendZeroize s) := by
  unfold sendZeroize
  repeat' (first
    | (with_reducible assumption)
    | (intro u; first | (refine (fun (_ : Quiet s₀ u) => ?_) ?_; clear_value u; rotate_left; dsimp -zeta only [u]; rotate_right) | clear_value u)
    | intro _ | lift_lets -underBinder | (with_reducible apply Quiet.ite) | (with_reducible apply Quiet.foldl)
    | (with_reducible apply emitAll_quiet) | split
    | (with_reducible refine Quiet.mk' ?_ rfl rfl rfl rfl rfl rfl rfl rfl rfl rfl rfl) | dsimp -zeta only)

theorem zeroizeRepeat_quiet (s : State) (hss : Quiet s₀ s) : Quiet s₀ (zeroizeRepeat s) := by
  unfold zeroizeRepeat
  repeat' (first
    | (with_reducible assumption)
    | (intro u; first | (refine (fun (_ : Quiet s₀ u) => ?_) ?_; clear_value u; rotate_left; dsimp -zeta only [u]; rotate_right) | clear_value u)
    | intro _ | lift_lets -underBinder | (with_reducible apply Quiet.ite) | (with_reducible apply Quiet.foldl)
    | (with_reducible apply clockTo_quiet) | (with_reducible apply sendZeroize_quiet) | split
    | (with_reducible refine Quiet.mk' ?_ rfl rfl rfl rfl rfl rfl rfl rfl rfl rfl rfl) | dsimp -zeta only)

theorem zackReceived_quiet (s : State) (hss : Quiet s₀ s) : Quiet s₀ (zackReceived s) := by
  unfold zackReceived
  repeat' (first
    | (with_reducible assumption)
    | (intro u; first | (refine (fun (_ : Quiet s₀ u) => ?_) ?_; clear_value u; rotate_left; dsimp -zeta only [u]; rotate_right) | clear_value u)
    | intro _ | lift_lets -underBinder | (with_reducible apply Quiet.ite) | (with_reducible apply Quiet.foldl) | split
    | (with_reducible refine Quiet.mk' ?_ rfl rfl rfl rfl rfl rfl rfl rfl rfl rfl rfl) | dsimp -zeta only)

end Sys2Proof.Machine
end

