-- ==== Sys2Proof/Laws/QuietEgress.lean ====
section
/-! SUPPORT. The operations of Machine/Egress.lean that keep `Quiet`. -/
namespace Sys2Proof.Machine
variable {s₀ : State}

theorem updateEgress_quiet (s : State) (n : Nat) (f : Egress → Egress) (hss : Quiet s₀ s) : Quiet s₀ (updateEgress
    s n f) := by
  unfold updateEgress
  repeat' (first
    | (with_reducible assumption)
    | (intro u; first | (refine (fun (_ : Quiet s₀ u) => ?_) ?_; clear_value u; rotate_left; dsimp -zeta only [u]; rotate_right) | clear_value u)
    | intro _ | lift_lets -underBinder | (with_reducible apply Quiet.ite) | (with_reducible apply Quiet.foldl) | split
    | (with_reducible refine Quiet.mk' ?_ rfl rfl rfl rfl rfl rfl rfl rfl rfl rfl rfl) | dsimp -zeta only)

theorem updateQueue_quiet (s : State) (n : Nat) (q : Nat) (f : EgressQueue → EgressQueue) (hss : Quiet s₀ s) :
    Quiet s₀ (updateQueue s n q f) := by
  unfold updateQueue
  repeat' (first
    | (with_reducible assumption)
    | (intro u; first | (refine (fun (_ : Quiet s₀ u) => ?_) ?_; clear_value u; rotate_left; dsimp -zeta only [u]; rotate_right) | clear_value u)
    | intro _ | lift_lets -underBinder | (with_reducible apply Quiet.ite) | (with_reducible apply Quiet.foldl)
    | (with_reducible apply updateEgress_quiet) | split
    | (with_reducible refine Quiet.mk' ?_ rfl rfl rfl rfl rfl rfl rfl rfl rfl rfl rfl) | dsimp -zeta only)

theorem refillShapers_quiet (s : State) (n : Nat) (hss : Quiet s₀ s) : Quiet s₀ (refillShapers s n) := by
  unfold refillShapers
  repeat' (first
    | (with_reducible assumption)
    | (intro u; first | (refine (fun (_ : Quiet s₀ u) => ?_) ?_; clear_value u; rotate_left; dsimp -zeta only [u]; rotate_right) | clear_value u)
    | intro _ | lift_lets -underBinder | (with_reducible apply Quiet.ite) | (with_reducible apply Quiet.foldl) | split
    | (with_reducible refine Quiet.mk' ?_ rfl rfl rfl rfl rfl rfl rfl rfl rfl rfl rfl) | dsimp -zeta only)

theorem guardTest_quiet (n : Nat) (q : Nat) (z0 : Nat) (z1 : State) (hsz1 : Quiet s₀ z1) : Quiet s₀ (guardTest n q
    z0 z1) := by
  induction z0 generalizing z1 with
  | zero =>
    rw [guardTest]
    repeat' (first
      | (with_reducible assumption)
      | (intro u; first | (refine (fun (_ : Quiet s₀ u) => ?_) ?_; clear_value u; rotate_left; dsimp -zeta only [u]; rotate_right) | clear_value u)
      | intro _ | lift_lets -underBinder | (with_reducible apply Quiet.ite) | (with_reducible apply Quiet.foldl)
      | (with_reducible apply bump_quiet) | (with_reducible apply guardDrop_quiet) | (with_reducible apply pmcEvent_quiet)
      | (with_reducible apply setFrames_quiet) | split
      | (with_reducible refine Quiet.mk' ?_ rfl rfl rfl rfl rfl rfl rfl rfl rfl rfl rfl) | dsimp -zeta only)
  | succ z0 ih =>
    rw [guardTest]
    repeat' (first
      | (with_reducible apply ih) | (with_reducible assumption)
      | (intro u; first | (refine (fun (_ : Quiet s₀ u) => ?_) ?_; clear_value u; rotate_left; dsimp -zeta only [u]; rotate_right) | clear_value u)
      | intro _ | lift_lets -underBinder | (with_reducible apply Quiet.ite) | (with_reducible apply Quiet.foldl)
      | (with_reducible apply bump_quiet) | (with_reducible apply guardDrop_quiet) | (with_reducible apply pmcEvent_quiet)
      | (with_reducible apply setFrames_quiet) | split
      | (with_reducible refine Quiet.mk' ?_ rfl rfl rfl rfl rfl rfl rfl rfl rfl rfl rfl) | dsimp -zeta only)

theorem tagQueue_quiet (s : State) (n : Nat) (k : Nat) (q : Nat) (hss : Quiet s₀ s) : Quiet s₀ (tagQueue s n k q)
    := by
  unfold tagQueue
  repeat' (first
    | (with_reducible assumption)
    | (intro u; first | (refine (fun (_ : Quiet s₀ u) => ?_) ?_; clear_value u; rotate_left; dsimp -zeta only [u]; rotate_right) | clear_value u)
    | intro _ | lift_lets -underBinder | (with_reducible apply Quiet.ite) | (with_reducible apply Quiet.foldl)
    | (with_reducible apply updateQueue_quiet) | split
    | (with_reducible refine Quiet.mk' ?_ rfl rfl rfl rfl rfl rfl rfl rfl rfl rfl rfl) | dsimp -zeta only)

theorem settleSub_quiet (s : State) (n : Nat) (k : Nat) (hss : Quiet s₀ s) : Quiet s₀ (settleSub s n k) := by
  unfold settleSub
  repeat' (first
    | (with_reducible assumption)
    | (intro u; first | (refine (fun (_ : Quiet s₀ u) => ?_) ?_; clear_value u; rotate_left; dsimp -zeta only [u]; rotate_right) | clear_value u)
    | intro _ | lift_lets -underBinder | (with_reducible apply Quiet.ite) | (with_reducible apply Quiet.foldl)
    | (with_reducible apply gatesTo_quiet) | (with_reducible apply guardTest_quiet)
    | (with_reducible apply refillShapers_quiet) | (with_reducible apply tagQueue_quiet) | split
    | (with_reducible refine Quiet.mk' ?_ rfl rfl rfl rfl rfl rfl rfl rfl rfl rfl rfl) | dsimp -zeta only)

theorem settlePort_quiet (s : State) (n : Nat) (hss : Quiet s₀ s) : Quiet s₀ (settlePort s n) := by
  unfold settlePort
  repeat' (first
    | (with_reducible assumption)
    | (intro u; first | (refine (fun (_ : Quiet s₀ u) => ?_) ?_; clear_value u; rotate_left; dsimp -zeta only [u]; rotate_right) | clear_value u)
    | intro _ | lift_lets -underBinder | (with_reducible apply Quiet.ite) | (with_reducible apply Quiet.foldl)
    | (with_reducible apply settleSub_quiet) | split
    | (with_reducible refine Quiet.mk' ?_ rfl rfl rfl rfl rfl rfl rfl rfl rfl rfl rfl) | dsimp -zeta only)

theorem stampFrame_quiet (s : State) (n : Nat) (k : Nat) (m : TxMark) (hss : Quiet s₀ s) : Quiet s₀ (stampFrame s
    n k m) := by
  unfold stampFrame
  dsimp only
  repeat' (first
    | (with_reducible assumption)
    | (intro u; first | (refine (fun (_ : Quiet s₀ u) => ?_) ?_; clear_value u; rotate_left; dsimp -zeta only [u]; rotate_right) | clear_value u)
    | intro _ | lift_lets -underBinder | (with_reducible apply Quiet.ite) | (with_reducible apply Quiet.foldl)
    | (with_reducible apply alert_quiet) | (with_reducible apply emit_quiet) | split
    | (with_reducible refine Quiet.mk' ?_ rfl rfl rfl rfl rfl rfl rfl rfl rfl rfl rfl) | dsimp -zeta only)

theorem startFrame_quiet (s : State) (n : Nat) (k : Nat) (q : Nat) (tag : Nat) (hss : Quiet s₀ s) : Quiet s₀
    (startFrame s n k q tag) := by
  unfold startFrame
  repeat' (first
    | (with_reducible assumption)
    | (intro u; first | (refine (fun (_ : Quiet s₀ u) => ?_) ?_; clear_value u; rotate_left; dsimp -zeta only [u]; rotate_right) | clear_value u)
    | intro _ | lift_lets -underBinder | (with_reducible apply Quiet.ite) | (with_reducible apply Quiet.foldl)
    | (with_reducible apply emit_quiet) | (with_reducible apply netCount_quiet) | (with_reducible apply pmcEvent_quiet)
    | (with_reducible apply removeFrame_quiet) | (with_reducible apply stampFrame_quiet)
    | (with_reducible apply updateEgress_quiet) | (with_reducible apply updateQueue_quiet)
    | (with_reducible apply updateSub_quiet) | split
    | (with_reducible refine Quiet.mk' ?_ rfl rfl rfl rfl rfl rfl rfl rfl rfl rfl rfl) | dsimp -zeta only)

theorem pumpConn_quiet (n : Nat) (k : Nat) (s : State) (c : Nat) (hss : Quiet s₀ s) : Quiet s₀ (pumpConn n k s c)
    := by
  unfold pumpConn
  repeat' (first
    | (with_reducible assumption)
    | (intro u; first | (refine (fun (_ : Quiet s₀ u) => ?_) ?_; clear_value u; rotate_left; dsimp -zeta only [u]; rotate_right) | clear_value u)
    | intro _ | lift_lets -underBinder | (with_reducible apply Quiet.ite) | (with_reducible apply Quiet.foldl)
    | (with_reducible apply admitFrame_quiet) | (with_reducible apply pmcEvent_quiet)
    | (with_reducible apply setConn_quiet) | split
    | (with_reducible refine Quiet.mk' ?_ rfl rfl rfl rfl rfl rfl rfl rfl rfl rfl rfl) | dsimp -zeta only)

theorem pumpSub_quiet (s : State) (n : Nat) (k : Nat) (hss : Quiet s₀ s) : Quiet s₀ (pumpSub s n k) := by
  unfold pumpSub
  repeat' (first
    | (with_reducible assumption)
    | (intro u; first | (refine (fun (_ : Quiet s₀ u) => ?_) ?_; clear_value u; rotate_left; dsimp -zeta only [u]; rotate_right) | clear_value u)
    | intro _ | lift_lets -underBinder | (with_reducible apply Quiet.ite) | (with_reducible apply Quiet.foldl)
    | (with_reducible apply pumpConn_quiet) | split
    | (with_reducible refine Quiet.mk' ?_ rfl rfl rfl rfl rfl rfl rfl rfl rfl rfl rfl) | dsimp -zeta only)

theorem selectFrame_quiet (s : State) (n : Nat) (k : Nat) (hss : Quiet s₀ s) : Quiet s₀ (selectFrame s n k) := by
  unfold selectFrame
  repeat' (first
    | (with_reducible assumption)
    | (intro u; first | (refine (fun (_ : Quiet s₀ u) => ?_) ?_; clear_value u; rotate_left; dsimp -zeta only [u]; rotate_right) | clear_value u)
    | intro _ | lift_lets -underBinder | (with_reducible apply Quiet.ite) | (with_reducible apply Quiet.foldl)
    | (with_reducible apply pumpSub_quiet) | (with_reducible apply sendPauses_quiet)
    | (with_reducible apply settleSub_quiet) | (with_reducible apply startFrame_quiet)
    | (with_reducible apply updateSub_quiet) | split
    | (with_reducible refine Quiet.mk' ?_ rfl rfl rfl rfl rfl rfl rfl rfl rfl rfl rfl) | dsimp -zeta only)

theorem egressEnabled_quiet (s : State) (n : Nat) (hss : Quiet s₀ s) : Quiet s₀ (egressEnabled s n) := by
  unfold egressEnabled
  repeat' (first
    | (with_reducible assumption)
    | (intro u; first | (refine (fun (_ : Quiet s₀ u) => ?_) ?_; clear_value u; rotate_left; dsimp -zeta only [u]; rotate_right) | clear_value u)
    | intro _ | lift_lets -underBinder | (with_reducible apply Quiet.ite) | (with_reducible apply Quiet.foldl)
    | (with_reducible apply updateEgress_quiet) | split
    | (with_reducible refine Quiet.mk' ?_ rfl rfl rfl rfl rfl rfl rfl rfl rfl rfl rfl) | dsimp -zeta only)

theorem subShaperEffect_quiet (n : Nat) (off : Nat) (v : Word) (s : State) (hss : Quiet s₀ s) : Quiet s₀
    (subShaperEffect n off v s) := by
  unfold subShaperEffect
  repeat' (first
    | (with_reducible assumption)
    | (intro u; first | (refine (fun (_ : Quiet s₀ u) => ?_) ?_; clear_value u; rotate_left; dsimp -zeta only [u]; rotate_right) | clear_value u)
    | intro _ | lift_lets -underBinder | (with_reducible apply Quiet.ite) | (with_reducible apply Quiet.foldl)
    | (with_reducible apply refillShapers_quiet) | (with_reducible apply updateEgress_quiet) | split
    | (with_reducible refine Quiet.mk' ?_ rfl rfl rfl rfl rfl rfl rfl rfl rfl rfl rfl) | dsimp -zeta only)

theorem queueRegEffect_quiet (n : Nat) (off : Nat) (before : State) (after : State) (hsafter : Quiet s₀ after) :
    Quiet s₀ (queueRegEffect n off before after) := by
  unfold queueRegEffect
  repeat' (first
    | (with_reducible assumption)
    | (intro u; first | (refine (fun (_ : Quiet s₀ u) => ?_) ?_; clear_value u; rotate_left; dsimp -zeta only [u]; rotate_right) | clear_value u)
    | intro _ | lift_lets -underBinder | (with_reducible apply Quiet.ite) | (with_reducible apply Quiet.foldl)
    | (with_reducible apply refillShapers_quiet) | (with_reducible apply settlePort_quiet)
    | (with_reducible apply updateQueue_quiet) | split
    | (with_reducible refine Quiet.mk' ?_ rfl rfl rfl rfl rfl rfl rfl rfl rfl rfl rfl) | dsimp -zeta only)

theorem shaperRefill_quiet (s : State) (n : Nat) (hss : Quiet s₀ s) : Quiet s₀ (shaperRefill s n) := by
  unfold shaperRefill
  repeat' (first
    | (with_reducible assumption)
    | (intro u; first | (refine (fun (_ : Quiet s₀ u) => ?_) ?_; clear_value u; rotate_left; dsimp -zeta only [u]; rotate_right) | clear_value u)
    | intro _ | lift_lets -underBinder | (with_reducible apply Quiet.ite) | (with_reducible apply Quiet.foldl)
    | (with_reducible apply elapse_quiet) | (with_reducible apply refillShapers_quiet) | split
    | (with_reducible refine Quiet.mk' ?_ rfl rfl rfl rfl rfl rfl rfl rfl rfl rfl rfl) | dsimp -zeta only)

theorem swapEffect_quiet (page : Nat) (before : State) (after : State) (hsafter : Quiet s₀ after) : Quiet s₀
    (swapEffect page before after) := by
  unfold swapEffect
  repeat' (first
    | (with_reducible assumption)
    | (intro u; first | (refine (fun (_ : Quiet s₀ u) => ?_) ?_; clear_value u; rotate_left; dsimp -zeta only [u]; rotate_right) | clear_value u)
    | intro _ | lift_lets -underBinder | (with_reducible apply Quiet.ite) | (with_reducible apply Quiet.foldl)
    | (with_reducible apply alert_quiet) | (with_reducible apply blockError_quiet)
    | (with_reducible apply gatesTo_quiet) | (with_reducible apply setGate_quiet) | split
    | (with_reducible refine Quiet.mk' ?_ rfl rfl rfl rfl rfl rfl rfl rfl rfl rfl rfl) | dsimp -zeta only)

theorem swapDone_quiet (s : State) (page : Nat) (hss : Quiet s₀ s) : Quiet s₀ (swapDone s page) := by
  unfold swapDone
  repeat' (first
    | (with_reducible assumption)
    | (intro u; first | (refine (fun (_ : Quiet s₀ u) => ?_) ?_; clear_value u; rotate_left; dsimp -zeta only [u]; rotate_right) | clear_value u)
    | intro _ | lift_lets -underBinder | (with_reducible apply Quiet.ite) | (with_reducible apply Quiet.foldl)
    | (with_reducible apply deviceTo_quiet) | (with_reducible apply gatesTo_quiet) | split
    | (with_reducible refine Quiet.mk' ?_ rfl rfl rfl rfl rfl rfl rfl rfl rfl rfl rfl) | dsimp -zeta only)

theorem entryBoundary_quiet (s : State) (page : Nat) (hss : Quiet s₀ s) : Quiet s₀ (entryBoundary s page) := by
  unfold entryBoundary
  repeat' (first
    | (with_reducible assumption)
    | (intro u; first | (refine (fun (_ : Quiet s₀ u) => ?_) ?_; clear_value u; rotate_left; dsimp -zeta only [u]; rotate_right) | clear_value u)
    | intro _ | lift_lets -underBinder | (with_reducible apply Quiet.ite) | (with_reducible apply Quiet.foldl)
    | (with_reducible apply deviceTo_quiet) | (with_reducible apply gatesTo_quiet)
    | (with_reducible apply settlePort_quiet) | split
    | (with_reducible refine Quiet.mk' ?_ rfl rfl rfl rfl rfl rfl rfl rfl rfl rfl rfl) | dsimp -zeta only)

theorem gateCmdEffect_quiet (page : Nat) (x1 : State) (after : State) (hsafter : Quiet s₀ after) : Quiet s₀
    (gateCmdEffect page x1 after) := by
  unfold gateCmdEffect
  repeat' (first
    | (with_reducible assumption)
    | (intro u; first | (refine (fun (_ : Quiet s₀ u) => ?_) ?_; clear_value u; rotate_left; dsimp -zeta only [u]; rotate_right) | clear_value u)
    | intro _ | lift_lets -underBinder | (with_reducible apply Quiet.ite) | (with_reducible apply Quiet.foldl)
    | (with_reducible apply blockError_quiet) | (with_reducible apply gatesTo_quiet)
    | (with_reducible apply setGate_quiet) | (with_reducible apply setReg_quiet) | split
    | (with_reducible refine Quiet.mk' ?_ rfl rfl rfl rfl rfl rfl rfl rfl rfl rfl rfl) | dsimp -zeta only)

theorem gateCommand_quiet (s : State) (req : Nat) (page : Nat) (op : Nat) (hss : Quiet s₀ s) : Quiet s₀
    (gateCommand s req page op) := by
  unfold gateCommand
  repeat' (first
    | (with_reducible assumption)
    | (intro u; first | (refine (fun (_ : Quiet s₀ u) => ?_) ?_; clear_value u; rotate_left; dsimp -zeta only [u]; rotate_right) | clear_value u)
    | intro _ | lift_lets -underBinder | (with_reducible apply Quiet.ite) | (with_reducible apply Quiet.foldl)
    | (with_reducible apply gateCmdEffect_quiet) | (with_reducible apply writeBlock_quiet) | split
    | (with_reducible refine Quiet.mk' ?_ rfl rfl rfl rfl rfl rfl rfl rfl rfl rfl rfl) | dsimp -zeta only)

theorem pendingRegEffect_quiet (page : Nat) (o : Nat) (before : State) (after : State) (hsafter : Quiet s₀ after)
    : Quiet s₀ (pendingRegEffect page o before after) := by
  unfold pendingRegEffect
  repeat' (first
    | (with_reducible assumption)
    | (intro u; first | (refine (fun (_ : Quiet s₀ u) => ?_) ?_; clear_value u; rotate_left; dsimp -zeta only [u]; rotate_right) | clear_value u)
    | intro _ | lift_lets -underBinder | (with_reducible apply Quiet.ite) | (with_reducible apply Quiet.foldl)
    | (with_reducible apply blockError_quiet) | (with_reducible apply gatesTo_quiet)
    | (with_reducible apply setGate_quiet) | split
    | (with_reducible refine Quiet.mk' ?_ rfl rfl rfl rfl rfl rfl rfl rfl rfl rfl rfl) | dsimp -zeta only)

theorem gateRegEffect_quiet (page : Nat) (off : Nat) (before : State) (after : State) (hsafter : Quiet s₀ after) :
    Quiet s₀ (gateRegEffect page off before after) := by
  unfold gateRegEffect
  repeat' (first
    | (with_reducible assumption)
    | (intro u; first | (refine (fun (_ : Quiet s₀ u) => ?_) ?_; clear_value u; rotate_left; dsimp -zeta only [u]; rotate_right) | clear_value u)
    | intro _ | lift_lets -underBinder | (with_reducible apply Quiet.ite) | (with_reducible apply Quiet.foldl)
    | (with_reducible apply gateCmdEffect_quiet) | (with_reducible apply pendingRegEffect_quiet)
    | (with_reducible apply swapEffect_quiet) | split
    | (with_reducible refine Quiet.mk' ?_ rfl rfl rfl rfl rfl rfl rfl rfl rfl rfl rfl) | dsimp -zeta only)

theorem takeSample_quiet (s : State) (n : Nat) (hss : Quiet s₀ s) : Quiet s₀ (takeSample s n) := by
  unfold takeSample
  repeat' (first
    | (with_reducible assumption)
    | (intro u; first | (refine (fun (_ : Quiet s₀ u) => ?_) ?_; clear_value u; rotate_left; dsimp -zeta only [u]; rotate_right) | clear_value u)
    | intro _ | lift_lets -underBinder | (with_reducible apply Quiet.ite) | (with_reducible apply Quiet.foldl)
    | (with_reducible apply updateEgress_quiet) | split
    | (with_reducible refine Quiet.mk' ?_ rfl rfl rfl rfl rfl rfl rfl rfl rfl rfl rfl) | dsimp -zeta only)

theorem histSample_quiet (s : State) (n : Nat) (hss : Quiet s₀ s) : Quiet s₀ (histSample s n) := by
  unfold histSample
  repeat' (first
    | (with_reducible assumption)
    | (intro u; first | (refine (fun (_ : Quiet s₀ u) => ?_) ?_; clear_value u; rotate_left; dsimp -zeta only [u]; rotate_right) | clear_value u)
    | intro _ | lift_lets -underBinder | (with_reducible apply Quiet.ite) | (with_reducible apply Quiet.foldl)
    | (with_reducible apply elapse_quiet) | (with_reducible apply step_quiet)
    | (refine step_quiet_eq ?_ (by with_reducible assumption)) | (with_reducible apply takeSample_quiet) | split
    | (with_reducible refine Quiet.mk' ?_ rfl rfl rfl rfl rfl rfl rfl rfl rfl rfl rfl) | dsimp -zeta only)

theorem zeroSelected_quiet (s : State) (n : Nat) (hss : Quiet s₀ s) : Quiet s₀ (zeroSelected s n) := by
  unfold zeroSelected
  repeat' (first
    | (with_reducible assumption)
    | (intro u; first | (refine (fun (_ : Quiet s₀ u) => ?_) ?_; clear_value u; rotate_left; dsimp -zeta only [u]; rotate_right) | clear_value u)
    | intro _ | lift_lets -underBinder | (with_reducible apply Quiet.ite) | (with_reducible apply Quiet.foldl)
    | (with_reducible apply updateEgress_quiet) | split
    | (with_reducible refine Quiet.mk' ?_ rfl rfl rfl rfl rfl rfl rfl rfl rfl rfl rfl) | dsimp -zeta only)

theorem histCmdEffect_quiet (n : Nat) (x1 : State) (after : State) (hsafter : Quiet s₀ after) : Quiet s₀
    (histCmdEffect n x1 after) := by
  unfold histCmdEffect
  repeat' (first
    | (with_reducible assumption)
    | (intro u; first | (refine (fun (_ : Quiet s₀ u) => ?_) ?_; clear_value u; rotate_left; dsimp -zeta only [u]; rotate_right) | clear_value u)
    | intro _ | lift_lets -underBinder | (with_reducible apply Quiet.ite) | (with_reducible apply Quiet.foldl)
    | (with_reducible apply setReg_quiet) | (with_reducible apply updateEgress_quiet)
    | (with_reducible apply zeroSelected_quiet) | split
    | (with_reducible refine Quiet.mk' ?_ rfl rfl rfl rfl rfl rfl rfl rfl rfl rfl rfl) | dsimp -zeta only)

theorem histCommand_quiet (s : State) (req : Nat) (n : Nat) (op : Nat) (hss : Quiet s₀ s) : Quiet s₀ (histCommand
    s req n op) := by
  unfold histCommand
  repeat' (first
    | (with_reducible assumption)
    | (intro u; first | (refine (fun (_ : Quiet s₀ u) => ?_) ?_; clear_value u; rotate_left; dsimp -zeta only [u]; rotate_right) | clear_value u)
    | intro _ | lift_lets -underBinder | (with_reducible apply Quiet.ite) | (with_reducible apply Quiet.foldl)
    | (with_reducible apply histCmdEffect_quiet) | (with_reducible apply writeBlock_quiet) | split
    | (with_reducible refine Quiet.mk' ?_ rfl rfl rfl rfl rfl rfl rfl rfl rfl rfl rfl) | dsimp -zeta only)

theorem egsEffect_quiet (n : Nat) (off : Nat) (before : State) (after : State) (hsafter : Quiet s₀ after) : Quiet
    s₀ (egsEffect n off before after) := by
  unfold egsEffect
  repeat' (first
    | (with_reducible assumption)
    | (intro u; first | (refine (fun (_ : Quiet s₀ u) => ?_) ?_; clear_value u; rotate_left; dsimp -zeta only [u]; rotate_right) | clear_value u)
    | intro _ | lift_lets -underBinder | (with_reducible apply Quiet.ite) | (with_reducible apply Quiet.foldl)
    | (with_reducible apply gateRegEffect_quiet) | (with_reducible apply histCmdEffect_quiet)
    | (with_reducible apply queueRegEffect_quiet) | (with_reducible apply settlePort_quiet)
    | (with_reducible apply subShaperEffect_quiet) | split
    | (with_reducible refine Quiet.mk' ?_ rfl rfl rfl rfl rfl rfl rfl rfl rfl rfl rfl) | dsimp -zeta only)

theorem mlxEffect_quiet (k : Nat) (off : Nat) (before : State) (after : State) (hsafter : Quiet s₀ after) : Quiet
    s₀ (mlxEffect k off before after) := by
  unfold mlxEffect
  repeat' (first
    | (with_reducible assumption)
    | (intro u; first | (refine (fun (_ : Quiet s₀ u) => ?_) ?_; clear_value u; rotate_left; dsimp -zeta only [u]; rotate_right) | clear_value u)
    | intro _ | lift_lets -underBinder | (with_reducible apply Quiet.ite) | (with_reducible apply Quiet.foldl)
    | (with_reducible apply gateRegEffect_quiet) | split
    | (with_reducible refine Quiet.mk' ?_ rfl rfl rfl rfl rfl rfl rfl rfl rfl rfl rfl) | dsimp -zeta only)

end Sys2Proof.Machine
end

