-- ==== Sys2Proof/Laws/QuietRegisters.lean ====
section
/-! SUPPORT. The operations of Machine/Registers.lean that keep `Quiet`. -/
namespace Sys2Proof.Machine
variable {s₀ : State}

theorem mgtEffect_quiet (off : Nat) (v : Word) (before : State) (after : State) (hsafter : Quiet s₀ after) : Quiet
    s₀ (mgtEffect off v before after) := by
  unfold mgtEffect
  repeat' (first
    | (with_reducible assumption)
    | (intro u; first | (refine (fun (_ : Quiet s₀ u) => ?_) ?_; clear_value u; rotate_left; dsimp -zeta only [u]; rotate_right) | clear_value u)
    | intro _ | lift_lets -underBinder | (with_reducible apply Quiet.ite) | (with_reducible apply Quiet.foldl)
    | (with_reducible apply causeSetEffect_quiet) | (with_reducible apply clearCauses_quiet)
    | (with_reducible apply notePin_quiet) | (with_reducible apply snapEffect_quiet)
    | (with_reducible apply snapStore_quiet) | split
    | (with_reducible refine Quiet.mk' ?_ rfl rfl rfl rfl rfl rfl rfl rfl rfl rfl rfl) | dsimp -zeta only)

theorem pmtEffect_quiet (off : Nat) (before : State) (after : State) (hsafter : Quiet s₀ after) : Quiet s₀
    (pmtEffect off before after) := by
  unfold pmtEffect
  repeat' (first
    | (with_reducible assumption)
    | (intro u; first | (refine (fun (_ : Quiet s₀ u) => ?_) ?_; clear_value u; rotate_left; dsimp -zeta only [u]; rotate_right) | clear_value u)
    | intro _ | lift_lets -underBinder | (with_reducible apply Quiet.ite) | (with_reducible apply Quiet.foldl)
    | (with_reducible apply seedEffect_quiet) | split
    | (with_reducible refine Quiet.mk' ?_ rfl rfl rfl rfl rfl rfl rfl rfl rfl rfl rfl) | dsimp -zeta only)

theorem zsqEffect_quiet (off : Nat) (before : State) (after : State) (hsafter : Quiet s₀ after) : Quiet s₀
    (zsqEffect off before after) := by
  unfold zsqEffect
  repeat' (first
    | (with_reducible assumption)
    | (intro u; first | (refine (fun (_ : Quiet s₀ u) => ?_) ?_; clear_value u; rotate_left; dsimp -zeta only [u]; rotate_right) | clear_value u)
    | intro _ | lift_lets -underBinder | (with_reducible apply Quiet.ite) | (with_reducible apply Quiet.foldl)
    | (with_reducible apply grpCmdEffect_quiet) | (with_reducible apply mbrCmdEffect_quiet)
    | (with_reducible apply rshCmdEffect_quiet) | (with_reducible apply seasonCfgEffect_quiet)
    | (with_reducible apply seasonCmdEffect_quiet) | (with_reducible apply spareEffect_quiet) | split
    | (with_reducible refine Quiet.mk' ?_ rfl rfl rfl rfl rfl rfl rfl rfl rfl rfl rfl) | dsimp -zeta only)

theorem decodeError_quiet (s : State) (req : Nat) (addr : Nat) (hss : Quiet s₀ s) : Quiet s₀ (decodeError s req
    addr) := by
  unfold decodeError
  repeat' (first
    | (with_reducible assumption)
    | (intro u; first | (refine (fun (_ : Quiet s₀ u) => ?_) ?_; clear_value u; rotate_left; dsimp -zeta only [u]; rotate_right) | clear_value u)
    | intro _ | lift_lets -underBinder | (with_reducible apply Quiet.ite) | (with_reducible apply Quiet.foldl)
    | (with_reducible apply alert_quiet) | (with_reducible apply emit_quiet) | (with_reducible apply logError_quiet)
    | split | (with_reducible refine Quiet.mk' ?_ rfl rfl rfl rfl rfl rfl rfl rfl rfl rfl rfl) | dsimp -zeta only)

theorem badAccess_quiet (s : State) (req : Nat) (addr : Nat) (size : Nat) (write : Bool) (hss : Quiet s₀ s) :
    Quiet s₀ (badAccess s req addr size write) := by
  unfold badAccess
  repeat' (first
    | (with_reducible assumption)
    | (intro u; first | (refine (fun (_ : Quiet s₀ u) => ?_) ?_; clear_value u; rotate_left; dsimp -zeta only [u]; rotate_right) | clear_value u)
    | intro _ | lift_lets -underBinder | (with_reducible apply Quiet.ite) | (with_reducible apply Quiet.foldl)
    | (with_reducible apply emit_quiet) | (with_reducible apply fabError_quiet) | split
    | (with_reducible refine Quiet.mk' ?_ rfl rfl rfl rfl rfl rfl rfl rfl rfl rfl rfl) | dsimp -zeta only)

theorem quietWrite_quiet (s : State) (x : BusAccess) (hs : Quiet s₀ s) : Quiet s₀ (quietWrite s x) := by
  unfold quietWrite
  split
  · exact hs
  · next page off _ =>
    dsimp only
    split
    · next e => exact judgeWrite_quiet _ _ _ _ hs (.inl e)
    · next t e =>
      have ht : Quiet s₀ t := judgeWrite_quiet _ _ _ _ hs (.inr e)
      split
      · split
        · exact logError_quiet _ _ _ _ _ ht
        · exact ht
      · exact Quiet.mk' (storeBlock_quiet _ _ _ _ _ ht) rfl rfl rfl rfl rfl rfl rfl rfl rfl rfl rfl

theorem presentAccess_quiet (s : State) (a : BusAccess) (hss : Quiet s₀ s) : Quiet s₀ (presentAccess s a) := by
  unfold presentAccess
  repeat' (first
    | (with_reducible assumption)
    | (intro u; first | (refine (fun (_ : Quiet s₀ u) => ?_) ?_; clear_value u; rotate_left; dsimp -zeta only [u]; rotate_right) | clear_value u)
    | intro _ | lift_lets -underBinder | (with_reducible apply Quiet.ite) | (with_reducible apply Quiet.foldl)
    | (with_reducible apply setRequester_quiet) | split
    | (with_reducible refine Quiet.mk' ?_ rfl rfl rfl rfl rfl rfl rfl rfl rfl rfl rfl) | dsimp -zeta only)

theorem chooseBus_quiet (n : Nat) (s : State) (cs : List Nat) (hs : Quiet s₀ s) : Quiet s₀ (chooseBus n s cs).2 := by
  induction n generalizing s cs with
  | zero => exact hs
  | succ n ih =>
    unfold chooseBus
    dsimp only
    split
    · exact hs
    · exact ih _ _ (setArbiter_quiet _ _ _ hs)

theorem chooseBus_quiet_eq {n : Nat} {s : State} {cs e0 : List Nat} {t : State} (hs : Quiet s₀ s)
    (e : chooseBus n s cs = (e0, t)) : Quiet s₀ t := by
  have := chooseBus_quiet n s cs hs
  rw [e] at this
  exact this

theorem grantBus_quiet (s : State) (c : Nat) (hss : Quiet s₀ s) : Quiet s₀ (grantBus s c) := by
  unfold grantBus
  repeat' (first
    | (with_reducible assumption)
    | (intro u; first | (refine (fun (_ : Quiet s₀ u) => ?_) ?_; clear_value u; rotate_left; dsimp -zeta only [u]; rotate_right) | clear_value u)
    | intro _ | lift_lets -underBinder | (with_reducible apply Quiet.ite) | (with_reducible apply Quiet.foldl)
    | (with_reducible apply pmcEvent_quiet) | (with_reducible apply setRequester_quiet) | split
    | (with_reducible refine Quiet.mk' ?_ rfl rfl rfl rfl rfl rfl rfl rfl rfl rfl rfl) | dsimp -zeta only)

end Sys2Proof.Machine
end

