-- ==== Sys2Proof/Laws/QuietDma.lean ====
section
/-! SUPPORT. The operations of Machine/Dma.lean that keep `Quiet`. -/
namespace Sys2Proof.Machine
variable {s₀ : State}

theorem dramFetch_quiet (s : State) (req : Nat) (a : Nat) (n : Nat) (hss : Quiet s₀ s) : Quiet s₀ (dramFetch s req
    a n).2 := by
  unfold dramFetch
  repeat' (first
    | (with_reducible assumption)
    | (intro u; first | (refine (fun (_ : Quiet s₀ u) => ?_) ?_; clear_value u; rotate_left; dsimp -zeta only [u]; rotate_right) | (refine (fun (_ : Quiet s₀ u.2) => ?_) ?_; clear_value u; rotate_left; dsimp -zeta only [u]; rotate_right) | (refine (fun (_ : Quiet s₀ u.2.2) => ?_) ?_; clear_value u; rotate_left; dsimp -zeta only [u]; rotate_right) | clear_value u)
    | intro _ | lift_lets -underBinder | (with_reducible apply Quiet.ite) | (with_reducible apply Quiet.foldl)
    | (with_reducible apply alert_quiet) | (with_reducible apply bump_quiet) | (with_reducible apply logError_quiet)
    | (with_reducible apply pmcEvent_quiet) | split
    | (with_reducible refine Quiet.mk' ?_ rfl rfl rfl rfl rfl rfl rfl rfl rfl rfl rfl) | dsimp -zeta only)
theorem dramFetch_quiet_eq {s : State} {req : Nat} {a : Nat} {n : Nat} {e0 : Option (List Byte)} {t : State} (hss
    : Quiet s₀ s) (e : dramFetch s req a n = (e0, t)) : Quiet s₀ t := by
  have := dramFetch_quiet s req a n hss
  rw [e] at this
  exact this

theorem dramStore_quiet (s : State) (a : Nat) (bs : List Byte) (hss : Quiet s₀ s) : Quiet s₀ (dramStore s a bs) :=
    by
  unfold dramStore
  repeat' (first
    | (with_reducible assumption)
    | (intro u; first | (refine (fun (_ : Quiet s₀ u) => ?_) ?_; clear_value u; rotate_left; dsimp -zeta only [u]; rotate_right) | clear_value u)
    | intro _ | lift_lets -underBinder | (with_reducible apply Quiet.ite) | (with_reducible apply Quiet.foldl)
    | (with_reducible apply dramWrite_quiet) | (with_reducible apply pmcEvent_quiet) | split
    | (with_reducible refine Quiet.mk' ?_ rfl rfl rfl rfl rfl rfl rfl rfl rfl rfl rfl) | dsimp -zeta only)

theorem outboundWrite_quiet (s : State) (a : Nat) (data : List Byte) (hss : Quiet s₀ s) : Quiet s₀ (outboundWrite
    s a data) := by
  unfold outboundWrite
  repeat' (first
    | (with_reducible assumption)
    | (intro u; first | (refine (fun (_ : Quiet s₀ u) => ?_) ?_; clear_value u; rotate_left; dsimp -zeta only [u]; rotate_right) | clear_value u)
    | intro _ | lift_lets -underBinder | (with_reducible apply Quiet.ite) | (with_reducible apply Quiet.foldl)
    | (with_reducible apply leaveL1_quiet) | (with_reducible apply sendTlp_quiet) | split
    | (with_reducible refine Quiet.mk' ?_ rfl rfl rfl rfl rfl rfl rfl rfl rfl rfl rfl) | dsimp -zeta only)

theorem outboundRead_quiet (s : State) (who : OutReq) (a : Nat) (len : Nat) (tag : Nat) (hss : Quiet s₀ s) : Quiet
    s₀ (outboundRead s who a len tag) := by
  unfold outboundRead
  repeat' (first
    | (with_reducible assumption)
    | (intro u; first | (refine (fun (_ : Quiet s₀ u) => ?_) ?_; clear_value u; rotate_left; dsimp -zeta only [u]; rotate_right) | clear_value u)
    | intro _ | lift_lets -underBinder | (with_reducible apply Quiet.ite) | (with_reducible apply Quiet.foldl)
    | (with_reducible apply leaveL1_quiet) | (with_reducible apply sendTlp_quiet)
    | (with_reducible apply updateSvp_quiet) | split
    | (with_reducible refine Quiet.mk' ?_ rfl rfl rfl rfl rfl rfl rfl rfl rfl rfl rfl) | dsimp -zeta only)

theorem descResult_quiet (s : State) (d : DmaDesc) (st : Nat) (hss : Quiet s₀ s) : Quiet s₀ (descResult s d st).2
    := by
  unfold descResult
  repeat' (first
    | (with_reducible assumption)
    | (intro u; first | (refine (fun (_ : Quiet s₀ u) => ?_) ?_; clear_value u; rotate_left; dsimp -zeta only [u]; rotate_right) | (refine (fun (_ : Quiet s₀ u.2) => ?_) ?_; clear_value u; rotate_left; dsimp -zeta only [u]; rotate_right) | (refine (fun (_ : Quiet s₀ u.2.2) => ?_) ?_; clear_value u; rotate_left; dsimp -zeta only [u]; rotate_right) | clear_value u)
    | intro _ | lift_lets -underBinder | (with_reducible apply Quiet.ite) | (with_reducible apply Quiet.foldl)
    | (with_reducible apply draw_quiet) | (refine draw_quiet_eq ?_ (by with_reducible assumption)) | split
    | (with_reducible refine Quiet.mk' ?_ rfl rfl rfl rfl rfl rfl rfl rfl rfl rfl rfl) | dsimp -zeta only)
theorem descResult_quiet_eq {s : State} {d : DmaDesc} {st : Nat} {e0 : Nat} {t : State} (hss : Quiet s₀ s) (e :
    descResult s d st = (e0, t)) : Quiet s₀ t := by
  have := descResult_quiet s d st hss
  rw [e] at this
  exact this

theorem noteBad_quiet (s : State) (chan : Nat) (d : DmaDesc) (st : Nat) (hss : Quiet s₀ s) : Quiet s₀ (noteBad s
    chan d st) := by
  unfold noteBad
  repeat' (first
    | (with_reducible assumption)
    | (intro u; first | (refine (fun (_ : Quiet s₀ u) => ?_) ?_; clear_value u; rotate_left; dsimp -zeta only [u]; rotate_right) | clear_value u)
    | intro _ | lift_lets -underBinder | (with_reducible apply Quiet.ite) | (with_reducible apply Quiet.foldl)
    | (with_reducible apply alert_quiet) | (with_reducible apply bump_quiet) | (with_reducible apply logError_quiet)
    | split | (with_reducible refine Quiet.mk' ?_ rfl rfl rfl rfl rfl rfl rfl rfl rfl rfl rfl) | dsimp -zeta only)

end Sys2Proof.Machine
end

