-- ==== Sys2Proof/Laws/QuietSvp.lean ====
section
/-! SUPPORT. The operations of Machine/Svp.lean that keep `Quiet`. -/
namespace Sys2Proof.Machine
variable {s₀ : State}

theorem tlpIn_quiet (s : State) (hss : Quiet s₀ s) : Quiet s₀ (tlpIn s) := by
  unfold tlpIn
  repeat' (first
    | (with_reducible assumption)
    | (intro u; first | (refine (fun (_ : Quiet s₀ u) => ?_) ?_; clear_value u; rotate_left; dsimp -zeta only [u]; rotate_right) | clear_value u)
    | intro _ | lift_lets -underBinder | (with_reducible apply Quiet.ite) | (with_reducible apply Quiet.foldl)
    | (with_reducible apply leaveL1_quiet) | (with_reducible apply pmcEvent_quiet) | split
    | (with_reducible refine Quiet.mk' ?_ rfl rfl rfl rfl rfl rfl rfl rfl rfl rfl rfl) | dsimp -zeta only)

theorem writeCommand_quiet (s : State) (v : Word) (hss : Quiet s₀ s) : Quiet s₀ (writeCommand s v) := by
  unfold writeCommand
  repeat' (first
    | (with_reducible assumption)
    | (intro u; first | (refine (fun (_ : Quiet s₀ u) => ?_) ?_; clear_value u; rotate_left; dsimp -zeta only [u]; rotate_right) | clear_value u)
    | intro _ | lift_lets -underBinder | (with_reducible apply Quiet.ite) | (with_reducible apply Quiet.foldl)
    | (with_reducible apply clearBme_quiet) | (with_reducible apply settleVectors_quiet)
    | (with_reducible apply updateSvp_quiet) | split
    | (with_reducible refine Quiet.mk' ?_ rfl rfl rfl rfl rfl rfl rfl rfl rfl rfl rfl) | dsimp -zeta only)

theorem bar4Write_quiet (s : State) (o : Nat) (w : Word) (hss : Quiet s₀ s) : Quiet s₀ (bar4Write s o w) := by
  unfold bar4Write
  repeat' (first
    | (with_reducible assumption)
    | (intro u; first | (refine (fun (_ : Quiet s₀ u) => ?_) ?_; clear_value u; rotate_left; dsimp -zeta only [u]; rotate_right) | clear_value u)
    | intro _ | lift_lets -underBinder | (with_reducible apply Quiet.ite) | (with_reducible apply Quiet.foldl)
    | (with_reducible apply setVector_quiet) | (with_reducible apply settleVector_quiet) | split
    | (with_reducible refine Quiet.mk' ?_ rfl rfl rfl rfl rfl rfl rfl rfl rfl rfl rfl) | dsimp -zeta only)

theorem bar4Writes_quiet (z0 : List Word) (z1 : Nat) (z2 : State) (hsz2 : Quiet s₀ z2) : Quiet s₀ (bar4Writes z0
    z1 z2) := by
  induction z0 generalizing z1 z2 with
  | nil =>
    rw [bar4Writes]
    repeat' (first
      | (with_reducible assumption)
      | (intro u; first | (refine (fun (_ : Quiet s₀ u) => ?_) ?_; clear_value u; rotate_left; dsimp -zeta only [u]; rotate_right) | clear_value u)
      | intro _ | lift_lets -underBinder | (with_reducible apply Quiet.ite) | (with_reducible apply Quiet.foldl)
      | (with_reducible apply bar4Write_quiet) | split
      | (with_reducible refine Quiet.mk' ?_ rfl rfl rfl rfl rfl rfl rfl rfl rfl rfl rfl) | dsimp -zeta only)
  | cons w0 z0 ih =>
    rw [bar4Writes]
    repeat' (first
      | (with_reducible apply ih) | (with_reducible assumption)
      | (intro u; first | (refine (fun (_ : Quiet s₀ u) => ?_) ?_; clear_value u; rotate_left; dsimp -zeta only [u]; rotate_right) | clear_value u)
      | intro _ | lift_lets -underBinder | (with_reducible apply Quiet.ite) | (with_reducible apply Quiet.foldl)
      | (with_reducible apply bar4Write_quiet) | split
      | (with_reducible refine Quiet.mk' ?_ rfl rfl rfl rfl rfl rfl rfl rfl rfl rfl rfl) | dsimp -zeta only)

theorem bar4Request_quiet (s : State) (write : Bool) (o : Nat) (values : List Word) (hss : Quiet s₀ s) : Quiet s₀
    (bar4Request s write o values) := by
  unfold bar4Request
  repeat' (first
    | (with_reducible assumption)
    | (intro u; first | (refine (fun (_ : Quiet s₀ u) => ?_) ?_; clear_value u; rotate_left; dsimp -zeta only [u]; rotate_right) | clear_value u)
    | intro _ | lift_lets -underBinder | (with_reducible apply Quiet.ite) | (with_reducible apply Quiet.foldl)
    | (with_reducible apply bar4Writes_quiet) | (with_reducible apply sendTlp_quiet) | split
    | (with_reducible refine Quiet.mk' ?_ rfl rfl rfl rfl rfl rfl rfl rfl rfl rfl rfl) | dsimp -zeta only)

theorem bar2Request_quiet (s : State) (write : Bool) (o : Nat) (len : Nat) (data : List Byte) (ep : Bool) (hss :
    Quiet s₀ s) : Quiet s₀ (bar2Request s write o len data ep) := by
  unfold bar2Request
  repeat' (first
    | (with_reducible assumption)
    | (intro u; first | (refine (fun (_ : Quiet s₀ u) => ?_) ?_; clear_value u; rotate_left; dsimp -zeta only [u]; rotate_right) | (refine (fun (_ : Quiet s₀ u.2) => ?_) ?_; clear_value u; rotate_left; dsimp -zeta only [u]; rotate_right) | (refine (fun (_ : Quiet s₀ u.2.2) => ?_) ?_; clear_value u; rotate_left; dsimp -zeta only [u]; rotate_right) | clear_value u)
    | intro _ | lift_lets -underBinder | (with_reducible apply Quiet.ite) | (with_reducible apply Quiet.foldl)
    | (with_reducible apply aborted_quiet) | (with_reducible apply dramFetch_quiet)
    | (refine dramFetch_quiet_eq ?_ (by with_reducible assumption)) | (with_reducible apply dramStore_quiet)
    | (with_reducible apply poisonedTlp_quiet) | (with_reducible apply sendTlp_quiet)
    | (with_reducible apply tlpIn_quiet) | (with_reducible apply unsupported_quiet) | split
    | (with_reducible refine Quiet.mk' ?_ rfl rfl rfl rfl rfl rfl rfl rfl rfl rfl rfl) | dsimp -zeta only)

theorem coreFails_quiet (s : State) (core : Nat) (a : Nat) (len : Nat) (write : Bool) (hss : Quiet s₀ s) : Quiet
    s₀ (coreFails s core a len write) := by
  unfold coreFails
  repeat' (first
    | (with_reducible assumption)
    | (intro u; first | (refine (fun (_ : Quiet s₀ u) => ?_) ?_; clear_value u; rotate_left; dsimp -zeta only [u]; rotate_right) | clear_value u)
    | intro _ | lift_lets -underBinder | (with_reducible apply Quiet.ite) | (with_reducible apply Quiet.foldl)
    | (with_reducible apply emit_quiet) | split
    | (with_reducible refine Quiet.mk' ?_ rfl rfl rfl rfl rfl rfl rfl rfl rfl rfl rfl) | dsimp -zeta only)

theorem outboundRequest_quiet (s : State) (core : Nat) (a : Nat) (len : Nat) (write : Bool) (data : List Byte)
    (tags : List Nat) (hss : Quiet s₀ s) : Quiet s₀ (outboundRequest s core a len write data tags) := by
  unfold outboundRequest
  repeat' (first
    | (with_reducible assumption)
    | (intro u; first | (refine (fun (_ : Quiet s₀ u) => ?_) ?_; clear_value u; rotate_left; dsimp -zeta only [u]; rotate_right) | clear_value u)
    | intro _ | lift_lets -underBinder | (with_reducible apply Quiet.ite) | (with_reducible apply Quiet.foldl)
    | (with_reducible apply coreFails_quiet) | (with_reducible apply outboundRead_quiet)
    | (with_reducible apply outboundWrite_quiet) | split
    | (with_reducible refine Quiet.mk' ?_ rfl rfl rfl rfl rfl rfl rfl rfl rfl rfl rfl) | dsimp -zeta only)

theorem strayCompletion_quiet (s : State) (tag : Nat) (hss : Quiet s₀ s) : Quiet s₀ (strayCompletion s tag) := by
  unfold strayCompletion
  repeat' (first
    | (with_reducible assumption)
    | (intro u; first | (refine (fun (_ : Quiet s₀ u) => ?_) ?_; clear_value u; rotate_left; dsimp -zeta only [u]; rotate_right) | clear_value u)
    | intro _ | lift_lets -underBinder | (with_reducible apply Quiet.ite) | (with_reducible apply Quiet.foldl)
    | (with_reducible apply aerReport_quiet) | (with_reducible apply alert_quiet) | (with_reducible apply bump_quiet)
    | split | (with_reducible refine Quiet.mk' ?_ rfl rfl rfl rfl rfl rfl rfl rfl rfl rfl rfl) | dsimp -zeta only)

end Sys2Proof.Machine
end

