-- ==== Sys2Proof/Laws/QuietRows1.lean ====
section
/-! SUPPORT. Commands that keep `Quiet`, part 1. -/
namespace Sys2Proof.Machine
variable {s₀ : State}

/-- A result whose next state, if it has one, keeps `Quiet`. -/
structure Quiet.Out (a : State) (r : Res) : Prop where
  use : ∀ t, r = .next t → Quiet a t

theorem Quiet.out_next {u : State} (h : Quiet s₀ u) : Quiet.Out s₀ (.next u) := ⟨fun t e => by cases e; exact h⟩
theorem Quiet.out_fault {f : Fault} : Quiet.Out s₀ (.fault f) := ⟨fun t e => by cases e⟩
theorem Quiet.out_onUnit {w : String} {i n : Nat} {u : State} (h : Quiet s₀ u) : Quiet.Out s₀ (onUnit w i n u) := by
  unfold onUnit
  split
  · exact Quiet.out_next h
  · exact Quiet.out_fault
theorem Quiet.out_ite {c : Prop} [Decidable c] {x y : Res} (hx : Quiet.Out s₀ x) (hy : Quiet.Out s₀ y) :
    Quiet.Out s₀ (if c then x else y) := by
  split <;> assumption

theorem execArbiterDecision_quiet (arb : Nat) (arrivals : List Presented) (s : State) : Quiet.Out s
    (execArbiterDecision arb arrivals s) := by
  have hs := Quiet.refl s
  unfold execArbiterDecision
  repeat' (first
    | (with_reducible assumption) | (with_reducible apply Quiet.out_next) | (with_reducible apply Quiet.out_onUnit)
    | (with_reducible apply decide__quiet) | intro _ | split)

theorem execBackoffExpiry_quiet (arb : Nat) (req : Nat) (s : State) : Quiet.Out s (execBackoffExpiry arb req s) :=
    by
  have hs := Quiet.refl s
  unfold execBackoffExpiry
  repeat' (first
    | (with_reducible assumption) | (with_reducible apply Quiet.out_next) | (with_reducible apply Quiet.out_onUnit)
    | (with_reducible apply backoffEnd_quiet) | intro _ | split)

theorem execPrivilegedPreempt_quiet (arb : Nat) (req : Nat) (len : Nat) (s : State) : Quiet.Out s
    (execPrivilegedPreempt arb req len s) := by
  have hs := Quiet.refl s
  unfold execPrivilegedPreempt
  repeat' (first
    | (with_reducible assumption) | (with_reducible apply Quiet.out_next) | (with_reducible apply Quiet.out_onUnit)
    | (with_reducible apply privileged_quiet) | intro _ | split)

theorem execMramScrub_quiet (w : WordCheck) (raced : Bool) (s : State) : Quiet.Out s (execMramScrub w raced s) :=
    by
  have hs := Quiet.refl s
  unfold execMramScrub
  repeat' (first
    | (with_reducible assumption) | (with_reducible apply Quiet.out_next) | (with_reducible apply Quiet.out_onUnit)
    | (with_reducible apply mramScrub_quiet) | intro _ | split)

theorem execRefclkLost_quiet (s : State) : Quiet.Out s (execRefclkLost s) := by
  have hs := Quiet.refl s
  unfold execRefclkLost
  repeat' (first
    | (with_reducible assumption) | (with_reducible apply Quiet.out_next) | (with_reducible apply Quiet.out_onUnit)
    | (with_reducible apply refclkLost_quiet) | (with_reducible apply settleSigns_quiet) | intro _ | split)

theorem execPllUnlock_quiet (s : State) : Quiet.Out s (execPllUnlock s) := by
  have hs := Quiet.refl s
  unfold execPllUnlock
  repeat' (first
    | (with_reducible assumption) | (with_reducible apply Quiet.out_next) | (with_reducible apply Quiet.out_onUnit)
    | (with_reducible apply pllUnlocked_quiet) | (with_reducible apply settleSigns_quiet) | intro _ | split)

theorem execTrimWindow_quiet (count : Nat) (s : State) : Quiet.Out s (execTrimWindow count s) := by
  have hs := Quiet.refl s
  unfold execTrimWindow
  repeat' (first
    | (with_reducible assumption) | (with_reducible apply Quiet.out_next) | (with_reducible apply Quiet.out_onUnit)
    | (with_reducible apply settleVectors_quiet) | (with_reducible apply trimWindow_quiet) | intro _ | split)

theorem execInvalidOpcodeCapsule_quiet (n : Nat) (s : State) : Quiet.Out s (execInvalidOpcodeCapsule n s) := by
  have hs := Quiet.refl s
  unfold execInvalidOpcodeCapsule
  unfold capsuleRow
  unfold onConn
  repeat' (first
    | (with_reducible assumption) | (with_reducible apply Quiet.out_next) | (with_reducible apply Quiet.out_onUnit)
    | (with_reducible apply intake_quiet) | intro _ | split)

theorem execHoldOverrun_quiet (n : Nat) (s : State) : Quiet.Out s (execHoldOverrun n s) := by
  have hs := Quiet.refl s
  unfold execHoldOverrun
  unfold onConn
  repeat' (first
    | (with_reducible assumption) | (with_reducible apply Quiet.out_next) | (with_reducible apply Quiet.out_onUnit)
    | (with_reducible apply holdOverrun_quiet) | intro _ | split)

theorem execRead_quiet (n : Nat) (s : State) : Quiet.Out s (execRead n s) := by
  have hs := Quiet.refl s
  unfold execRead
  unfold capsuleRow
  unfold onConn
  repeat' (first
    | (with_reducible assumption) | (with_reducible apply Quiet.out_next) | (with_reducible apply Quiet.out_onUnit)
    | (with_reducible apply acceptRead_quiet) | (with_reducible apply intake_quiet) | intro _ | split)

theorem execWrite_quiet (n : Nat) (s : State) : Quiet.Out s (execWrite n s) := by
  have hs := Quiet.refl s
  unfold execWrite
  unfold capsuleRow
  unfold onConn
  repeat' (first
    | (with_reducible assumption) | (with_reducible apply Quiet.out_next) | (with_reducible apply Quiet.out_onUnit)
    | (with_reducible apply acceptWrite_quiet) | (with_reducible apply intake_quiet) | intro _ | split)

theorem execAppend_quiet (n : Nat) (s : State) : Quiet.Out s (execAppend n s) := by
  have hs := Quiet.refl s
  unfold execAppend
  unfold capsuleRow
  unfold onConn
  repeat' (first
    | (with_reducible assumption) | (with_reducible apply Quiet.out_next) | (with_reducible apply Quiet.out_onUnit)
    | (with_reducible apply acceptWrite_quiet) | (with_reducible apply intake_quiet) | intro _ | split)

theorem execWindowAllocate_quiet (ks : List Nat) (s : State) : Quiet.Out s (execWindowAllocate ks s) := by
  have hs := Quiet.refl s
  unfold execWindowAllocate
  repeat' (first
    | (with_reducible assumption) | (with_reducible apply Quiet.out_next) | (with_reducible apply Quiet.out_onUnit)
    | (with_reducible apply windowAllocate_quiet) | intro _ | split)

theorem execDataDone_quiet (n : Nat) (s : State) : Quiet.Out s (execDataDone n s) := by
  have hs := Quiet.refl s
  unfold execDataDone
  unfold capsuleRow
  unfold onConn
  repeat' (first
    | (with_reducible assumption) | (with_reducible apply Quiet.out_next) | (with_reducible apply Quiet.out_onUnit)
    | (with_reducible apply acceptDataDone_quiet) | (with_reducible apply intake_quiet) | intro _ | split)

theorem execDataDoneDrained_quiet (n : Nat) (cid : Nat) (s : State) : Quiet.Out s (execDataDoneDrained n cid s) :=
    by
  have hs := Quiet.refl s
  unfold execDataDoneDrained
  unfold onConn
  repeat' (first
    | (with_reducible assumption) | (with_reducible apply Quiet.out_next) | (with_reducible apply Quiet.out_onUnit)
    | (with_reducible apply dataDoneDrained_quiet) | intro _ | split)

theorem execDataTimeout_quiet (n : Nat) (cid : Nat) (s : State) : Quiet.Out s (execDataTimeout n cid s) := by
  have hs := Quiet.refl s
  unfold execDataTimeout
  unfold onConn
  repeat' (first
    | (with_reducible assumption) | (with_reducible apply Quiet.out_next) | (with_reducible apply Quiet.out_onUnit)
    | (with_reducible apply dataTimeout_quiet) | intro _ | split)

theorem execWakeLimitExpiry_quiet (n : Nat) (cid : Nat) (s : State) : Quiet.Out s (execWakeLimitExpiry n cid s) :=
    by
  have hs := Quiet.refl s
  unfold execWakeLimitExpiry
  unfold onConn
  repeat' (first
    | (with_reducible assumption) | (with_reducible apply Quiet.out_next) | (with_reducible apply Quiet.out_onUnit)
    | (with_reducible apply wakeLimitExpiry_quiet) | intro _ | split)

theorem execFlush_quiet (n : Nat) (s : State) : Quiet.Out s (execFlush n s) := by
  have hs := Quiet.refl s
  unfold execFlush
  unfold capsuleRow
  unfold onConn
  repeat' (first
    | (with_reducible assumption) | (with_reducible apply Quiet.out_next) | (with_reducible apply Quiet.out_onUnit)
    | (with_reducible apply acceptFlush_quiet) | (with_reducible apply intake_quiet) | intro _ | split)

theorem execQueueReset_quiet (n : Nat) (s : State) : Quiet.Out s (execQueueReset n s) := by
  have hs := Quiet.refl s
  unfold execQueueReset
  unfold capsuleRow
  unfold onConn
  repeat' (first
    | (with_reducible assumption) | (with_reducible apply Quiet.out_next) | (with_reducible apply Quiet.out_onUnit)
    | (with_reducible apply acceptQueueReset_quiet) | (with_reducible apply intake_quiet) | intro _ | split)

theorem execEgressSelect_quiet (port : Nat) (sub : Nat) (at_ : Nat) (s : State) : Quiet.Out s (execEgressSelect
    port sub at_ s) := by
  have hs := Quiet.refl s
  unfold execEgressSelect
  repeat' (first
    | (with_reducible assumption) | (with_reducible apply Quiet.out_next) | (with_reducible apply Quiet.out_onUnit)
    | (with_reducible apply clockTo_quiet) | (with_reducible apply selectFrame_quiet) | intro _ | split)

theorem execShaperRefill_quiet (port : Nat) (s : State) : Quiet.Out s (execShaperRefill port s) := by
  have hs := Quiet.refl s
  unfold execShaperRefill
  repeat' (first
    | (with_reducible assumption) | (with_reducible apply Quiet.out_next) | (with_reducible apply Quiet.out_onUnit)
    | (with_reducible apply shaperRefill_quiet) | intro _ | split)

theorem execGclSwap_quiet (req : Nat) (page : Nat) (s : State) : Quiet.Out s (execGclSwap req page s) := by
  have hs := Quiet.refl s
  unfold execGclSwap
  unfold onGates
  repeat' (first
    | (with_reducible apply Quiet.out_next) | (with_reducible apply Quiet.out_onUnit)
    | (with_reducible apply Quiet.out_ite) | (with_reducible exact Quiet.out_fault) | (with_reducible assumption)
    | (intro u; first | (refine (fun (_ : Quiet s₀ u) => ?_) ?_; clear_value u; rotate_left; dsimp -zeta only [u]; rotate_right) | clear_value u)
    | intro _ | lift_lets -underBinder | (with_reducible apply Quiet.ite) | (with_reducible apply Quiet.foldl)
    | (with_reducible apply swapEffect_quiet) | (with_reducible apply writeBlock_quiet) | split
    | (with_reducible refine Quiet.mk' ?_ rfl rfl rfl rfl rfl rfl rfl rfl rfl rfl rfl) | dsimp -zeta only)

theorem execSwapDone_quiet (page : Nat) (s : State) : Quiet.Out s (execSwapDone page s) := by
  have hs := Quiet.refl s
  unfold execSwapDone
  unfold onGates
  repeat' (first
    | (with_reducible apply Quiet.out_next) | (with_reducible apply Quiet.out_onUnit)
    | (with_reducible apply Quiet.out_ite) | (with_reducible exact Quiet.out_fault) | (with_reducible assumption)
    | (intro u; first | (refine (fun (_ : Quiet s₀ u) => ?_) ?_; clear_value u; rotate_left; dsimp -zeta only [u]; rotate_right) | clear_value u)
    | intro _ | lift_lets -underBinder | (with_reducible apply Quiet.ite) | (with_reducible apply Quiet.foldl)
    | (with_reducible apply swapDone_quiet) | split
    | (with_reducible refine Quiet.mk' ?_ rfl rfl rfl rfl rfl rfl rfl rfl rfl rfl rfl) | dsimp -zeta only)

theorem execGateEntryBoundary_quiet (page : Nat) (s : State) : Quiet.Out s (execGateEntryBoundary page s) := by
  have hs := Quiet.refl s
  unfold execGateEntryBoundary
  unfold onGates
  repeat' (first
    | (with_reducible apply Quiet.out_next) | (with_reducible apply Quiet.out_onUnit)
    | (with_reducible apply Quiet.out_ite) | (with_reducible exact Quiet.out_fault) | (with_reducible assumption)
    | (intro u; first | (refine (fun (_ : Quiet s₀ u) => ?_) ?_; clear_value u; rotate_left; dsimp -zeta only [u]; rotate_right) | clear_value u)
    | intro _ | lift_lets -underBinder | (with_reducible apply Quiet.ite) | (with_reducible apply Quiet.foldl)
    | (with_reducible apply entryBoundary_quiet) | split
    | (with_reducible refine Quiet.mk' ?_ rfl rfl rfl rfl rfl rfl rfl rfl rfl rfl rfl) | dsimp -zeta only)

theorem execGclRead_quiet (req : Nat) (page : Nat) (s : State) : Quiet.Out s (execGclRead req page s) := by
  have hs := Quiet.refl s
  unfold execGclRead
  unfold onGates
  repeat' (first
    | (with_reducible apply Quiet.out_next) | (with_reducible apply Quiet.out_onUnit)
    | (with_reducible apply Quiet.out_ite) | (with_reducible exact Quiet.out_fault) | (with_reducible assumption)
    | (intro u; first | (refine (fun (_ : Quiet s₀ u) => ?_) ?_; clear_value u; rotate_left; dsimp -zeta only [u]; rotate_right) | clear_value u)
    | intro _ | lift_lets -underBinder | (with_reducible apply Quiet.ite) | (with_reducible apply Quiet.foldl)
    | (with_reducible apply gateCommand_quiet) | split
    | (with_reducible refine Quiet.mk' ?_ rfl rfl rfl rfl rfl rfl rfl rfl rfl rfl rfl) | dsimp -zeta only)

theorem execGclWrite_quiet (req : Nat) (page : Nat) (s : State) : Quiet.Out s (execGclWrite req page s) := by
  have hs := Quiet.refl s
  unfold execGclWrite
  unfold onGates
  repeat' (first
    | (with_reducible apply Quiet.out_next) | (with_reducible apply Quiet.out_onUnit)
    | (with_reducible apply Quiet.out_ite) | (with_reducible exact Quiet.out_fault) | (with_reducible assumption)
    | (intro u; first | (refine (fun (_ : Quiet s₀ u) => ?_) ?_; clear_value u; rotate_left; dsimp -zeta only [u]; rotate_right) | clear_value u)
    | intro _ | lift_lets -underBinder | (with_reducible apply Quiet.ite) | (with_reducible apply Quiet.foldl)
    | (with_reducible apply gateCommand_quiet) | split
    | (with_reducible refine Quiet.mk' ?_ rfl rfl rfl rfl rfl rfl rfl rfl rfl rfl rfl) | dsimp -zeta only)

theorem execHistSample_quiet (port : Nat) (s : State) : Quiet.Out s (execHistSample port s) := by
  have hs := Quiet.refl s
  unfold execHistSample
  repeat' (first
    | (with_reducible assumption) | (with_reducible apply Quiet.out_next) | (with_reducible apply Quiet.out_onUnit)
    | (with_reducible apply histSample_quiet) | intro _ | split)

theorem execHistSnap_quiet (req : Nat) (port : Nat) (s : State) : Quiet.Out s (execHistSnap req port s) := by
  have hs := Quiet.refl s
  unfold execHistSnap
  repeat' (first
    | (with_reducible assumption) | (with_reducible apply Quiet.out_next) | (with_reducible apply Quiet.out_onUnit)
    | (with_reducible apply histCommand_quiet) | intro _ | split)

theorem execHistSnapClear_quiet (req : Nat) (port : Nat) (s : State) : Quiet.Out s (execHistSnapClear req port s)
    := by
  have hs := Quiet.refl s
  unfold execHistSnapClear
  repeat' (first
    | (with_reducible assumption) | (with_reducible apply Quiet.out_next) | (with_reducible apply Quiet.out_onUnit)
    | (with_reducible apply histCommand_quiet) | intro _ | split)

theorem execHistClearAll_quiet (req : Nat) (port : Nat) (s : State) : Quiet.Out s (execHistClearAll req port s) :=
    by
  have hs := Quiet.refl s
  unfold execHistClearAll
  repeat' (first
    | (with_reducible assumption) | (with_reducible apply Quiet.out_next) | (with_reducible apply Quiet.out_onUnit)
    | (with_reducible apply histCommand_quiet) | intro _ | split)

theorem execGroupDefine_quiet (req : Nat) (s : State) : Quiet.Out s (execGroupDefine req s) := by
  have hs := Quiet.refl s
  unfold execGroupDefine
  repeat' (first
    | (with_reducible assumption) | (with_reducible apply Quiet.out_next) | (with_reducible apply Quiet.out_onUnit)
    | (with_reducible apply groupCommand_quiet) | intro _ | split)

theorem execGroupRetire_quiet (req : Nat) (s : State) : Quiet.Out s (execGroupRetire req s) := by
  have hs := Quiet.refl s
  unfold execGroupRetire
  repeat' (first
    | (with_reducible assumption) | (with_reducible apply Quiet.out_next) | (with_reducible apply Quiet.out_onUnit)
    | (with_reducible apply groupCommand_quiet) | (with_reducible apply noteStatus_quiet) | intro _ | split)

theorem execGroupQuery_quiet (req : Nat) (s : State) : Quiet.Out s (execGroupQuery req s) := by
  have hs := Quiet.refl s
  unfold execGroupQuery
  repeat' (first
    | (with_reducible assumption) | (with_reducible apply Quiet.out_next) | (with_reducible apply Quiet.out_onUnit)
    | (with_reducible apply groupCommand_quiet) | intro _ | split)

theorem execGroupSetlock_quiet (req : Nat) (s : State) : Quiet.Out s (execGroupSetlock req s) := by
  have hs := Quiet.refl s
  unfold execGroupSetlock
  repeat' (first
    | (with_reducible assumption) | (with_reducible apply Quiet.out_next) | (with_reducible apply Quiet.out_onUnit)
    | (with_reducible apply groupCommand_quiet) | intro _ | split)

theorem execSpareMaskWrite_quiet (req : Nat) (high : Bool) (v : Word) (s : State) : Quiet.Out s
    (execSpareMaskWrite req high v s) := by
  have hs := Quiet.refl s
  unfold execSpareMaskWrite
  repeat' (first
    | (with_reducible assumption) | (with_reducible apply Quiet.out_next) | (with_reducible apply Quiet.out_onUnit)
    | (with_reducible apply spareEffect_quiet) | (with_reducible apply writeBlock_quiet) | intro _ | split)

theorem execLogReclaim_quiet (g : Nat) (m : Nat) (pass : Bool) (s : State) : Quiet.Out s (execLogReclaim g m pass
    s) := by
  have hs := Quiet.refl s
  unfold execLogReclaim
  unfold onGroup
  repeat' (first
    | (with_reducible assumption) | (with_reducible apply Quiet.out_next) | (with_reducible apply Quiet.out_onUnit)
    | (with_reducible apply background_quiet) | (with_reducible apply logReclaim_quiet) | intro _ | split)

theorem execLockstepRelease_quiet (g : Nat) (n : Nat) (row : Nat) (at_ : Nat) (s : State) : Quiet.Out s
    (execLockstepRelease g n row at_ s) := by
  have hs := Quiet.refl s
  unfold execLockstepRelease
  unfold onGroup
  repeat' (first
    | (with_reducible assumption) | (with_reducible apply Quiet.out_next) | (with_reducible apply Quiet.out_onUnit)
    | (with_reducible apply lockstepRelease_quiet) | intro _ | split)

theorem execLockTimeout_quiet (g : Nat) (n : Nat) (m : Nat) (s : State) : Quiet.Out s (execLockTimeout g n m s) :=
    by
  have hs := Quiet.refl s
  unfold execLockTimeout
  unfold onGroup
  repeat' (first
    | (with_reducible assumption) | (with_reducible apply Quiet.out_next) | (with_reducible apply Quiet.out_onUnit)
    | (with_reducible apply lockTimeout_quiet) | intro _ | split)

theorem execHeatUpdate_quiet (slot : Nat) (temp : Int) (s : State) : Quiet.Out s (execHeatUpdate slot temp s) :=
    by
  have hs := Quiet.refl s
  unfold execHeatUpdate
  unfold onSlot
  repeat' (first
    | (with_reducible assumption) | (with_reducible apply Quiet.out_next) | (with_reducible apply Quiet.out_onUnit)
    | (with_reducible apply heatUpdate_quiet) | intro _ | split)

theorem execPatrolVisit_quiet (g : Nat) (m : Nat) (l : Nat) (rber : Nat) (bad : List Nat) (s : State) : Quiet.Out
    s (execPatrolVisit g m l rber bad s) := by
  have hs := Quiet.refl s
  unfold execPatrolVisit
  unfold onGroup
  repeat' (first
    | (with_reducible assumption) | (with_reducible apply Quiet.out_next) | (with_reducible apply Quiet.out_onUnit)
    | (with_reducible apply background_quiet) | (with_reducible apply patrolVisit_quiet) | intro _ | split)

theorem execBlockRefresh_quiet (g : Nat) (m : Nat) (l : Nat) (fresh : Nat) (pass : Bool) (s : State) : Quiet.Out s
    (execBlockRefresh g m l fresh pass s) := by
  have hs := Quiet.refl s
  unfold execBlockRefresh
  unfold onGroup
  repeat' (first
    | (with_reducible assumption) | (with_reducible apply Quiet.out_next) | (with_reducible apply Quiet.out_onUnit)
    | (with_reducible apply background_quiet) | (with_reducible apply blockRefresh_quiet) | intro _ | split)

theorem execWearLevel_quiet (g : Nat) (m : Nat) (s : State) : Quiet.Out s (execWearLevel g m s) := by
  have hs := Quiet.refl s
  unfold execWearLevel
  unfold onGroup
  repeat' (first
    | (with_reducible assumption) | (with_reducible apply Quiet.out_next) | (with_reducible apply Quiet.out_onUnit)
    | (with_reducible apply background_quiet) | (with_reducible apply wearLevel_quiet) | intro _ | split)

theorem execCheckpoint_quiet (g : Nat) (a : Nat) (b : Nat) (passA : Bool) (passB : Bool) (s : State) : Quiet.Out s
    (execCheckpoint g a b passA passB s) := by
  have hs := Quiet.refl s
  unfold execCheckpoint
  unfold onGroup
  repeat' (first
    | (with_reducible assumption) | (with_reducible apply Quiet.out_next) | (with_reducible apply Quiet.out_onUnit)
    | (with_reducible apply background_quiet) | (with_reducible apply checkpoint_quiet) | intro _ | split)

theorem execPmtSeed_quiet (req : Nat) (v : Word) (s : State) : Quiet.Out s (execPmtSeed req v s) := by
  have hs := Quiet.refl s
  unfold execPmtSeed
  repeat' (first
    | (with_reducible assumption) | (with_reducible apply Quiet.out_next) | (with_reducible apply Quiet.out_onUnit)
    | (with_reducible apply seedEffect_quiet) | (with_reducible apply writeBlock_quiet) | intro _ | split)

theorem execPmtGlobal_quiet (req : Nat) (v : Word) (s : State) : Quiet.Out s (execPmtGlobal req v s) := by
  have hs := Quiet.refl s
  unfold execPmtGlobal
  repeat' (first
    | (with_reducible assumption) | (with_reducible apply Quiet.out_next) | (with_reducible apply Quiet.out_onUnit)
    | (with_reducible apply writeBlock_quiet) | intro _ | split)

theorem execTrainingStart_quiet (slot : Nat) (s : State) : Quiet.Out s (execTrainingStart slot s) := by
  have hs := Quiet.refl s
  unfold execTrainingStart
  unfold onSlot
  repeat' (first
    | (with_reducible assumption) | (with_reducible apply Quiet.out_next) | (with_reducible apply Quiet.out_onUnit)
    | (with_reducible apply trainingStart_quiet) | intro _ | split)

theorem execTrainTimeout_quiet (slot : Nat) (s : State) : Quiet.Out s (execTrainTimeout slot s) := by
  have hs := Quiet.refl s
  unfold execTrainTimeout
  unfold onSlot
  repeat' (first
    | (with_reducible assumption) | (with_reducible apply Quiet.out_next) | (with_reducible apply Quiet.out_onUnit)
    | (with_reducible apply trainTimeout_quiet) | intro _ | split)

theorem execLinkParam_quiet (slot : Nat) (p : LinkParam) (s : State) : Quiet.Out s (execLinkParam slot p s) := by
  have hs := Quiet.refl s
  unfold execLinkParam
  unfold onSlot
  repeat' (first
    | (with_reducible assumption) | (with_reducible apply Quiet.out_next) | (with_reducible apply Quiet.out_onUnit)
    | (with_reducible apply linkParam_quiet) | (with_reducible apply noteStatus_quiet) | intro _ | split)

theorem execReadData_quiet (slot : Nat) (h : LinkHdr) (data : List Byte) (s : State) : Quiet.Out s (execReadData
    slot h data s) := by
  have hs := Quiet.refl s
  unfold execReadData
  unfold onSlot
  repeat' (first
    | (with_reducible assumption) | (with_reducible apply Quiet.out_next) | (with_reducible apply Quiet.out_onUnit)
    | (with_reducible apply noteStatus_quiet) | (with_reducible apply readData_quiet) | intro _ | split)

theorem execLinkAck_quiet (slot : Nat) (seq : Nat) (claim : Nat) (s : State) : Quiet.Out s (execLinkAck slot seq
    claim s) := by
  have hs := Quiet.refl s
  unfold execLinkAck
  unfold onSlot
  repeat' (first
    | (with_reducible assumption) | (with_reducible apply Quiet.out_next) | (with_reducible apply Quiet.out_onUnit)
    | (with_reducible apply linkAck_quiet) | (with_reducible apply noteStatus_quiet) | intro _ | split)

theorem execLinkNak_quiet (slot : Nat) (seq : Nat) (claim : Nat) (s : State) : Quiet.Out s (execLinkNak slot seq
    claim s) := by
  have hs := Quiet.refl s
  unfold execLinkNak
  unfold onSlot
  repeat' (first
    | (with_reducible assumption) | (with_reducible apply Quiet.out_next) | (with_reducible apply Quiet.out_onUnit)
    | (with_reducible apply linkNak_quiet) | (with_reducible apply noteStatus_quiet) | intro _ | split)

theorem execCredit_quiet (slot : Nat) (cmd : Nat) (data : Nat) (sts : Nat) (claim : Nat) (s : State) : Quiet.Out s
    (execCredit slot cmd data sts claim s) := by
  have hs := Quiet.refl s
  unfold execCredit
  unfold onSlot
  repeat' (first
    | (with_reducible assumption) | (with_reducible apply Quiet.out_next) | (with_reducible apply Quiet.out_onUnit)
    | (with_reducible apply creditFrame_quiet) | (with_reducible apply noteStatus_quiet) | intro _ | split)

theorem execLinkAckTimer_quiet (slot : Nat) (s : State) : Quiet.Out s (execLinkAckTimer slot s) := by
  have hs := Quiet.refl s
  unfold execLinkAckTimer
  unfold onSlot
  repeat' (first
    | (with_reducible assumption) | (with_reducible apply Quiet.out_next) | (with_reducible apply Quiet.out_onUnit)
    | (with_reducible apply linkAckTimer_quiet) | intro _ | split)

theorem execReplayTimer_quiet (slot : Nat) (s : State) : Quiet.Out s (execReplayTimer slot s) := by
  have hs := Quiet.refl s
  unfold execReplayTimer
  unfold onSlot
  repeat' (first
    | (with_reducible assumption) | (with_reducible apply Quiet.out_next) | (with_reducible apply Quiet.out_onUnit)
    | (with_reducible apply replayTimer_quiet) | intro _ | split)

theorem execRetrainResult_quiet (slot : Nat) (pass : Bool) (s : State) : Quiet.Out s (execRetrainResult slot pass
    s) := by
  have hs := Quiet.refl s
  unfold execRetrainResult
  unfold onSlot
  repeat' (first
    | (with_reducible assumption) | (with_reducible apply Quiet.out_next) | (with_reducible apply Quiet.out_onUnit)
    | (with_reducible apply noteStatus_quiet) | (with_reducible apply retrainResult_quiet) | intro _ | split)

theorem execBadCrcFrame_quiet (slot : Nat) (pair : Bool) (s : State) : Quiet.Out s (execBadCrcFrame slot pair s)
    := by
  have hs := Quiet.refl s
  unfold execBadCrcFrame
  unfold onSlot
  repeat' (first
    | (with_reducible assumption) | (with_reducible apply Quiet.out_next) | (with_reducible apply Quiet.out_onUnit)
    | (with_reducible apply badCrcFrame_quiet) | intro _ | split)

theorem execPrsntChange_quiet (slot : Nat) (asserted : Bool) (s : State) : Quiet.Out s (execPrsntChange slot
    asserted s) := by
  have hs := Quiet.refl s
  unfold execPrsntChange
  unfold onSlot
  repeat' (first
    | (with_reducible assumption) | (with_reducible apply Quiet.out_next) | (with_reducible apply Quiet.out_onUnit)
    | (with_reducible apply prsntChange_quiet) | intro _ | split)

theorem execModuleAlert_quiet (slot : Nat) (s : State) : Quiet.Out s (execModuleAlert slot s) := by
  have hs := Quiet.refl s
  unfold execModuleAlert
  unfold onSlot
  repeat' (first
    | (with_reducible assumption) | (with_reducible apply Quiet.out_next) | (with_reducible apply Quiet.out_onUnit)
    | (with_reducible apply moduleAlert_quiet) | intro _ | split)

theorem execMrstWrite_quiet (req : Nat) (slot : Nat) (assert : Bool) (s : State) : Quiet.Out s (execMrstWrite req
    slot assert s) := by
  have hs := Quiet.refl s
  unfold execMrstWrite
  unfold onSlot
  repeat' (first
    | (with_reducible assumption) | (with_reducible apply Quiet.out_next) | (with_reducible apply Quiet.out_onUnit)
    | (with_reducible apply mrstEffect_quiet) | (with_reducible apply noteStatus_quiet)
    | (with_reducible apply writeBlock_quiet) | intro _ | split)

end Sys2Proof.Machine
end

