-- ==== Sys2Proof/Laws/QuietRows2.lean ====
section
/-! SUPPORT. Commands that keep `Quiet`, part 2. -/
namespace Sys2Proof.Machine
variable {s₀ : State}

theorem execMrstRelease_quiet (slot : Nat) (s : State) : Quiet.Out s (execMrstRelease slot s) := by
  have hs := Quiet.refl s
  unfold execMrstRelease
  unfold onSlot
  repeat' (first
    | (with_reducible assumption) | (with_reducible apply Quiet.out_next) | (with_reducible apply Quiet.out_onUnit)
    | (with_reducible apply mrstRelease_quiet) | intro _ | split)

theorem execReadPage_quiet (slot : Nat) (tag : Nat) (a : FlashAddr) (level : Nat) (s : State) : Quiet.Out s
    (execReadPage slot tag a level s) := by
  have hs := Quiet.refl s
  unfold execReadPage
  unfold onSlot
  repeat' (first
    | (with_reducible assumption) | (with_reducible apply Quiet.out_next) | (with_reducible apply Quiet.out_onUnit)
    | (with_reducible apply issueCommand_quiet) | intro _ | split)

theorem execReadSoft_quiet (slot : Nat) (tag : Nat) (a : FlashAddr) (level : Nat) (s : State) : Quiet.Out s
    (execReadSoft slot tag a level s) := by
  have hs := Quiet.refl s
  unfold execReadSoft
  unfold onSlot
  repeat' (first
    | (with_reducible assumption) | (with_reducible apply Quiet.out_next) | (with_reducible apply Quiet.out_onUnit)
    | (with_reducible apply issueCommand_quiet) | intro _ | split)

theorem execProgramPage_quiet (slot : Nat) (tag : Nat) (a : FlashAddr) (slc : Bool) (s : State) : Quiet.Out s
    (execProgramPage slot tag a slc s) := by
  have hs := Quiet.refl s
  unfold execProgramPage
  unfold onSlot
  repeat' (first
    | (with_reducible assumption) | (with_reducible apply Quiet.out_next) | (with_reducible apply Quiet.out_onUnit)
    | (with_reducible apply issueCommand_quiet) | intro _ | split)

theorem execEraseBlock_quiet (slot : Nat) (tag : Nat) (a : FlashAddr) (slc : Bool) (s : State) : Quiet.Out s
    (execEraseBlock slot tag a slc s) := by
  have hs := Quiet.refl s
  unfold execEraseBlock
  unfold onSlot
  repeat' (first
    | (with_reducible assumption) | (with_reducible apply Quiet.out_next) | (with_reducible apply Quiet.out_onUnit)
    | (with_reducible apply issueCommand_quiet) | intro _ | split)

theorem execReadStatus_quiet (slot : Nat) (tag : Nat) (a : FlashAddr) (s : State) : Quiet.Out s (execReadStatus
    slot tag a s) := by
  have hs := Quiet.refl s
  unfold execReadStatus
  unfold onSlot
  repeat' (first
    | (with_reducible assumption) | (with_reducible apply Quiet.out_next) | (with_reducible apply Quiet.out_onUnit)
    | (with_reducible apply issueCommand_quiet) | intro _ | split)

theorem execSetReadLevels_quiet (slot : Nat) (tag : Nat) (a : FlashAddr) (set : Nat) (_offsets : List Int) (s :
    State) : Quiet.Out s (execSetReadLevels slot tag a set _offsets s) := by
  have hs := Quiet.refl s
  unfold execSetReadLevels
  unfold onSlot
  repeat' (first
    | (with_reducible assumption) | (with_reducible apply Quiet.out_next) | (with_reducible apply Quiet.out_onUnit)
    | (with_reducible apply issueCommand_quiet) | intro _ | split)

theorem execDieReset_quiet (slot : Nat) (tag : Nat) (a : FlashAddr) (s : State) : Quiet.Out s (execDieReset slot
    tag a s) := by
  have hs := Quiet.refl s
  unfold execDieReset
  unfold onSlot
  repeat' (first
    | (with_reducible assumption) | (with_reducible apply Quiet.out_next) | (with_reducible apply Quiet.out_onUnit)
    | (with_reducible apply issueCommand_quiet) | intro _ | split)

theorem execTelemetry_quiet (slot : Nat) (tag : Nat) (page : Nat) (s : State) : Quiet.Out s (execTelemetry slot
    tag page s) := by
  have hs := Quiet.refl s
  unfold execTelemetry
  unfold onSlot
  repeat' (first
    | (with_reducible assumption) | (with_reducible apply Quiet.out_next) | (with_reducible apply Quiet.out_onUnit)
    | (with_reducible apply issueCommand_quiet) | intro _ | split)

theorem execModuleCmdTimeout_quiet (slot : Nat) (tag : Nat) (s : State) : Quiet.Out s (execModuleCmdTimeout slot
    tag s) := by
  have hs := Quiet.refl s
  unfold execModuleCmdTimeout
  unfold onSlot
  repeat' (first
    | (with_reducible assumption) | (with_reducible apply Quiet.out_next) | (with_reducible apply Quiet.out_onUnit)
    | (with_reducible apply moduleCmdTimeout_quiet) | (with_reducible apply noteStatus_quiet) | intro _ | split)

theorem execFrameReceive_quiet (f : Frame) (at_ : Nat) (s : State) : Quiet.Out s (execFrameReceive f at_ s) := by
  have hs := Quiet.refl s
  unfold execFrameReceive
  repeat' (first
    | (with_reducible assumption) | (with_reducible apply Quiet.out_next) | (with_reducible apply Quiet.out_onUnit)
    | (with_reducible apply clockTo_quiet) | (with_reducible apply receiveFrame_quiet) | intro _ | split)

theorem execPauseFrame_quiet (port : Nat) (sub : Nat) (quanta : Nat) (at_ : Nat) (s : State) : Quiet.Out s
    (execPauseFrame port sub quanta at_ s) := by
  have hs := Quiet.refl s
  unfold execPauseFrame
  repeat' (first
    | (with_reducible assumption) | (with_reducible apply Quiet.out_next) | (with_reducible apply Quiet.out_onUnit)
    | (with_reducible apply clockTo_quiet) | (with_reducible apply pauseReceived_quiet) | intro _ | split)

theorem execPfcFrame_quiet (port : Nat) (sub : Nat) (enable : Nat) (quanta : List Nat) (at_ : Nat) (s : State) :
    Quiet.Out s (execPfcFrame port sub enable quanta at_ s) := by
  have hs := Quiet.refl s
  unfold execPfcFrame
  repeat' (first
    | (with_reducible assumption) | (with_reducible apply Quiet.out_next) | (with_reducible apply Quiet.out_onUnit)
    | (with_reducible apply clockTo_quiet) | (with_reducible apply pfcReceived_quiet) | intro _ | split)

theorem execPauseExpiry_quiet (port : Nat) (sub : Nat) (prio : Nat) (s : State) : Quiet.Out s (execPauseExpiry
    port sub prio s) := by
  have hs := Quiet.refl s
  unfold execPauseExpiry
  repeat' (first
    | (with_reducible assumption) | (with_reducible apply Quiet.out_next) | (with_reducible apply Quiet.out_onUnit)
    | (with_reducible apply pauseExpires_quiet) | intro _ | split)

theorem execPauseRefresh_quiet (port : Nat) (sub : Nat) (cls : Nat) (s : State) : Quiet.Out s (execPauseRefresh
    port sub cls s) := by
  have hs := Quiet.refl s
  unfold execPauseRefresh
  repeat' (first
    | (with_reducible assumption) | (with_reducible apply Quiet.out_next) | (with_reducible apply Quiet.out_onUnit)
    | (with_reducible apply pauseRefresh_quiet) | intro _ | split)

theorem execLinkUp_quiet (port : Nat) (sub : Nat) (s : State) : Quiet.Out s (execLinkUp port sub s) := by
  have hs := Quiet.refl s
  unfold execLinkUp
  repeat' (first
    | (with_reducible assumption) | (with_reducible apply Quiet.out_next) | (with_reducible apply Quiet.out_onUnit)
    | (with_reducible apply netLinkUp_quiet) | intro _ | split)

theorem execLinkDown_quiet (port : Nat) (sub : Nat) (s : State) : Quiet.Out s (execLinkDown port sub s) := by
  have hs := Quiet.refl s
  unfold execLinkDown
  repeat' (first
    | (with_reducible assumption) | (with_reducible apply Quiet.out_next) | (with_reducible apply Quiet.out_onUnit)
    | (with_reducible apply netLinkDown_quiet) | intro _ | split)

theorem execTimeStep_quiet (req : Nat) (s : State) : Quiet.Out s (execTimeStep req s) := by
  have hs := Quiet.refl s
  unfold execTimeStep
  repeat' (first
    | (with_reducible assumption) | (with_reducible apply Quiet.out_next) | (with_reducible apply Quiet.out_onUnit)
    | (with_reducible apply timeCmdEffect_quiet) | (with_reducible apply writeBlock_quiet) | intro _ | split)

theorem execTimeLoad_quiet (req : Nat) (s : State) : Quiet.Out s (execTimeLoad req s) := by
  have hs := Quiet.refl s
  unfold execTimeLoad
  repeat' (first
    | (with_reducible assumption) | (with_reducible apply Quiet.out_next) | (with_reducible apply Quiet.out_onUnit)
    | (with_reducible apply timeCmdEffect_quiet) | (with_reducible apply writeBlock_quiet) | intro _ | split)

theorem execTimeFreqWrite_quiet (req : Nat) (value : Word) (s : State) : Quiet.Out s (execTimeFreqWrite req value
    s) := by
  have hs := Quiet.refl s
  unfold execTimeFreqWrite
  repeat' (first
    | (with_reducible assumption) | (with_reducible apply Quiet.out_next) | (with_reducible apply Quiet.out_onUnit)
    | (with_reducible apply freqEffect_quiet) | (with_reducible apply writeBlock_quiet) | intro _ | split)

theorem execTimeNsRead_quiet (req : Nat) (s : State) : Quiet.Out s (execTimeNsRead req s) := by
  have hs := Quiet.refl s
  unfold execTimeNsRead
  repeat' (first
    | (with_reducible assumption) | (with_reducible apply Quiet.out_next) | (with_reducible apply Quiet.out_onUnit)
    | (with_reducible apply readTimeReg_quiet) | intro _ | split)

theorem execPpsInEdge_quiet (at_ : Nat) (s : State) : Quiet.Out s (execPpsInEdge at_ s) := by
  have hs := Quiet.refl s
  unfold execPpsInEdge
  repeat' (first
    | (with_reducible assumption) | (with_reducible apply Quiet.out_next) | (with_reducible apply Quiet.out_onUnit)
    | (with_reducible apply clockTo_quiet) | (with_reducible apply ppsEdge_quiet) | intro _ | split)

theorem execPpsCapture_quiet (stayedHigh : Bool) (s : State) : Quiet.Out s (execPpsCapture stayedHigh s) := by
  have hs := Quiet.refl s
  unfold execPpsCapture
  repeat' (first
    | (with_reducible assumption) | (with_reducible apply Quiet.out_next) | (with_reducible apply Quiet.out_onUnit)
    | (with_reducible apply ppsCapture_quiet) | intro _ | split)

theorem execPpsNsRead_quiet (req : Nat) (s : State) : Quiet.Out s (execPpsNsRead req s) := by
  have hs := Quiet.refl s
  unfold execPpsNsRead
  repeat' (first
    | (with_reducible assumption) | (with_reducible apply Quiet.out_next) | (with_reducible apply Quiet.out_onUnit)
    | (with_reducible apply readTimeReg_quiet) | intro _ | split)

theorem execPpsOutPulse_quiet (s : State) : Quiet.Out s (execPpsOutPulse s) := by
  have hs := Quiet.refl s
  unfold execPpsOutPulse
  repeat' (first
    | (with_reducible assumption) | (with_reducible apply Quiet.out_next) | (with_reducible apply Quiet.out_onUnit)
    | (with_reducible apply ppsPulse_quiet) | intro _ | split)

theorem execPpsOutEnd_quiet (s : State) : Quiet.Out s (execPpsOutEnd s) := by
  have hs := Quiet.refl s
  unfold execPpsOutEnd
  repeat' (first
    | (with_reducible assumption) | (with_reducible apply Quiet.out_next) | (with_reducible apply Quiet.out_onUnit)
    | (with_reducible apply ppsPulseEnds_quiet) | intro _ | split)

theorem execTxtsRead_quiet (req : Nat) (s : State) : Quiet.Out s (execTxtsRead req s) := by
  have hs := Quiet.refl s
  unfold execTxtsRead
  repeat' (first
    | (with_reducible assumption) | (with_reducible apply Quiet.out_next) | (with_reducible apply Quiet.out_onUnit)
    | (with_reducible apply readTimeReg_quiet) | intro _ | split)

theorem execPolRead_quiet (req : Nat) (s : State) : Quiet.Out s (execPolRead req s) := by
  have hs := Quiet.refl s
  unfold execPolRead
  repeat' (first
    | (with_reducible assumption) | (with_reducible apply Quiet.out_next) | (with_reducible apply Quiet.out_onUnit)
    | (with_reducible apply polCommand_quiet) | intro _ | split)

theorem execPolWrite_quiet (req : Nat) (s : State) : Quiet.Out s (execPolWrite req s) := by
  have hs := Quiet.refl s
  unfold execPolWrite
  repeat' (first
    | (with_reducible assumption) | (with_reducible apply Quiet.out_next) | (with_reducible apply Quiet.out_onUnit)
    | (with_reducible apply polCommand_quiet) | intro _ | split)

theorem execPolClear_quiet (req : Nat) (s : State) : Quiet.Out s (execPolClear req s) := by
  have hs := Quiet.refl s
  unfold execPolClear
  repeat' (first
    | (with_reducible assumption) | (with_reducible apply Quiet.out_next) | (with_reducible apply Quiet.out_onUnit)
    | (with_reducible apply polCommand_quiet) | intro _ | split)

theorem execWredRead_quiet (req : Nat) (s : State) : Quiet.Out s (execWredRead req s) := by
  have hs := Quiet.refl s
  unfold execWredRead
  repeat' (first
    | (with_reducible assumption) | (with_reducible apply Quiet.out_next) | (with_reducible apply Quiet.out_onUnit)
    | (with_reducible apply wredCommand_quiet) | intro _ | split)

theorem execWredWrite_quiet (req : Nat) (s : State) : Quiet.Out s (execWredWrite req s) := by
  have hs := Quiet.refl s
  unfold execWredWrite
  repeat' (first
    | (with_reducible assumption) | (with_reducible apply Quiet.out_next) | (with_reducible apply Quiet.out_onUnit)
    | (with_reducible apply wredCommand_quiet) | intro _ | split)

theorem execQprofWrite_quiet (req : Nat) (value : Word) (s : State) : Quiet.Out s (execQprofWrite req value s) :=
    by
  have hs := Quiet.refl s
  unfold execQprofWrite
  repeat' (first
    | (with_reducible assumption) | (with_reducible apply Quiet.out_next) | (with_reducible apply Quiet.out_onUnit)
    | (with_reducible apply qprofEffect_quiet) | (with_reducible apply writeBlock_quiet) | intro _ | split)

theorem execHeartbeatSend_quiet (s : State) : Quiet.Out s (execHeartbeatSend s) := by
  have hs := Quiet.refl s
  unfold execHeartbeatSend
  repeat' (first
    | (with_reducible assumption) | (with_reducible apply Quiet.out_next) | (with_reducible apply Quiet.out_onUnit)
    | (with_reducible apply heartbeatSend_quiet) | (with_reducible apply noteStatus_quiet) | intro _ | split)

theorem execPairKick_quiet (req : Nat) (value : Word) (s : State) : Quiet.Out s (execPairKick req value s) := by
  have hs := Quiet.refl s
  unfold execPairKick
  repeat' (first
    | (with_reducible assumption) | (with_reducible apply Quiet.out_next) | (with_reducible apply Quiet.out_onUnit)
    | (with_reducible apply kickEffect_quiet) | (with_reducible apply writeBlock_quiet) | intro _ | split)

theorem execWatchdogExpiry_quiet (s : State) : Quiet.Out s (execWatchdogExpiry s) := by
  have hs := Quiet.refl s
  unfold execWatchdogExpiry
  repeat' (first
    | (with_reducible assumption) | (with_reducible apply Quiet.out_next) | (with_reducible apply Quiet.out_onUnit)
    | (with_reducible apply watchdogExpiry_quiet) | intro _ | split)

theorem execRecord_quiet (claim : Nat) (first : Nat) (records : List JournalRecord) (s : State) : Quiet.Out s
    (execRecord claim first records s) := by
  have hs := Quiet.refl s
  unfold execRecord
  unfold onPairLink
  repeat' (first
    | (with_reducible assumption) | (with_reducible apply Quiet.out_next) | (with_reducible apply Quiet.out_onUnit)
    | (with_reducible apply recordFrame_quiet) | (with_reducible apply noteStatus_quiet) | intro _ | split)

theorem execMirrorAck_quiet (claim : Nat) (seq : Nat) (s : State) : Quiet.Out s (execMirrorAck claim seq s) := by
  have hs := Quiet.refl s
  unfold execMirrorAck
  unfold onPairLink
  repeat' (first
    | (with_reducible assumption) | (with_reducible apply Quiet.out_next) | (with_reducible apply Quiet.out_onUnit)
    | (with_reducible apply mirrorAckFrame_quiet) | (with_reducible apply noteStatus_quiet) | intro _ | split)

theorem execSync_quiet (claim : Nat) (seq : Nat) (last : Bool) (image : SyncImage) (s : State) : Quiet.Out s
    (execSync claim seq last image s) := by
  have hs := Quiet.refl s
  unfold execSync
  unfold onPairLink
  repeat' (first
    | (with_reducible assumption) | (with_reducible apply Quiet.out_next) | (with_reducible apply Quiet.out_onUnit)
    | (with_reducible apply syncFrame_quiet) | (with_reducible apply noteStatus_quiet) | intro _ | split)

theorem execFenceProbe_quiet (spcClaim : Nat) (bridges : List Nat) (s : State) : Quiet.Out s (execFenceProbe
    spcClaim bridges s) := by
  have hs := Quiet.refl s
  unfold execFenceProbe
  repeat' (first
    | (with_reducible assumption) | (with_reducible apply Quiet.out_next) | (with_reducible apply Quiet.out_onUnit)
    | (with_reducible apply fenceProbe_quiet) | (with_reducible apply noteStatus_quiet) | intro _ | split)

theorem execDrillDrainTimeout_quiet (s : State) : Quiet.Out s (execDrillDrainTimeout s) := by
  have hs := Quiet.refl s
  unfold execDrillDrainTimeout
  repeat' (first
    | (with_reducible assumption) | (with_reducible apply Quiet.out_next) | (with_reducible apply Quiet.out_onUnit)
    | (with_reducible apply drillDrainTimeout_quiet) | (with_reducible apply noteStatus_quiet) | intro _ | split)

theorem execDrillDwellEnd_quiet (s : State) : Quiet.Out s (execDrillDwellEnd s) := by
  have hs := Quiet.refl s
  unfold execDrillDwellEnd
  repeat' (first
    | (with_reducible assumption) | (with_reducible apply Quiet.out_next) | (with_reducible apply Quiet.out_onUnit)
    | (with_reducible apply drillDwellEnd_quiet) | (with_reducible apply noteStatus_quiet) | intro _ | split)

theorem execDrillDay_quiet (s : State) : Quiet.Out s (execDrillDay s) := by
  have hs := Quiet.refl s
  unfold execDrillDay
  repeat' (first
    | (with_reducible assumption) | (with_reducible apply Quiet.out_next) | (with_reducible apply Quiet.out_onUnit)
    | (with_reducible apply drillDay_quiet) | intro _ | split)

theorem execSpwOn_quiet (slot : Nat) (claim : Nat) (s : State) : Quiet.Out s (execSpwOn slot claim s) := by
  have hs := Quiet.refl s
  unfold execSpwOn
  unfold onSlot
  repeat' (first
    | (with_reducible assumption) | (with_reducible apply Quiet.out_next) | (with_reducible apply Quiet.out_onUnit)
    | (with_reducible apply noteStatus_quiet) | (with_reducible apply orderSlot_quiet) | intro _ | split)

theorem execSpwOff_quiet (slot : Nat) (claim : Nat) (s : State) : Quiet.Out s (execSpwOff slot claim s) := by
  have hs := Quiet.refl s
  unfold execSpwOff
  unfold onSlot
  repeat' (first
    | (with_reducible assumption) | (with_reducible apply Quiet.out_next) | (with_reducible apply Quiet.out_onUnit)
    | (with_reducible apply noteStatus_quiet) | (with_reducible apply orderSlot_quiet) | intro _ | split)

theorem execSpwClear_quiet (slot : Nat) (claim : Nat) (s : State) : Quiet.Out s (execSpwClear slot claim s) := by
  have hs := Quiet.refl s
  unfold execSpwClear
  unfold onSlot
  repeat' (first
    | (with_reducible assumption) | (with_reducible apply Quiet.out_next) | (with_reducible apply Quiet.out_onUnit)
    | (with_reducible apply noteStatus_quiet) | (with_reducible apply orderSlot_quiet) | intro _ | split)

theorem execPresenceAssert_quiet (slot : Nat) (s : State) : Quiet.Out s (execPresenceAssert slot s) := by
  have hs := Quiet.refl s
  unfold execPresenceAssert
  unfold channelEvent
  unfold onSlot
  repeat' (first
    | (with_reducible assumption) | (with_reducible apply Quiet.out_next) | (with_reducible apply Quiet.out_onUnit)
    | (with_reducible apply presenceAsserted_quiet) | (with_reducible apply present_quiet)
    | (with_reducible apply setChan_quiet) | (with_reducible apply channelChanged_quiet)
    | (with_reducible apply noteStatus_quiet) | intro _ | split)

theorem execPresenceLoss_quiet (slot : Nat) (s : State) : Quiet.Out s (execPresenceLoss slot s) := by
  have hs := Quiet.refl s
  unfold execPresenceLoss
  unfold channelEvent
  unfold onSlot
  repeat' (first
    | (with_reducible assumption) | (with_reducible apply Quiet.out_next) | (with_reducible apply Quiet.out_onUnit)
    | (with_reducible apply identified_quiet) | (with_reducible apply presenceLost_quiet)
    | (with_reducible apply present_quiet) | (with_reducible apply setChan_quiet)
    | (with_reducible apply channelChanged_quiet) | (with_reducible apply noteStatus_quiet) | intro _ | split)

theorem execInsertDelayEnd_quiet (slot : Nat) (s : State) : Quiet.Out s (execInsertDelayEnd slot s) := by
  have hs := Quiet.refl s
  unfold execInsertDelayEnd
  unfold channelEvent
  unfold onSlot
  repeat' (first
    | (with_reducible assumption) | (with_reducible apply Quiet.out_next) | (with_reducible apply Quiet.out_onUnit)
    | (with_reducible apply insertEnds_quiet) | (with_reducible apply channelChanged_quiet)
    | (with_reducible apply noteStatus_quiet) | intro _ | split)

theorem execFeedWindowChange_quiet (slot : Nat) (feedB : Bool) (mv : Nat) (s : State) : Quiet.Out s
    (execFeedWindowChange slot feedB mv s) := by
  have hs := Quiet.refl s
  unfold execFeedWindowChange
  unfold onSlot
  repeat' (first
    | (with_reducible assumption) | (with_reducible apply Quiet.out_next) | (with_reducible apply Quiet.out_onUnit)
    | (with_reducible apply channelChanged_quiet) | (with_reducible apply feedChange_quiet)
    | (with_reducible apply noteStatus_quiet) | intro _ | split)

theorem execReverseCurrent_quiet (slot : Nat) (feedB : Bool) (mv : Nat) (s : State) : Quiet.Out s
    (execReverseCurrent slot feedB mv s) := by
  have hs := Quiet.refl s
  unfold execReverseCurrent
  unfold channelEvent
  unfold onSlot
  repeat' (first
    | (with_reducible assumption) | (with_reducible apply Quiet.out_next) | (with_reducible apply Quiet.out_onUnit)
    | (with_reducible apply feedReverse_quiet) | (with_reducible apply channelChanged_quiet)
    | (with_reducible apply noteStatus_quiet) | intro _ | split)

theorem execFeedFetTurnOn_quiet (slot : Nat) (feedB : Bool) (mv : Nat) (s : State) : Quiet.Out s
    (execFeedFetTurnOn slot feedB mv s) := by
  have hs := Quiet.refl s
  unfold execFeedFetTurnOn
  unfold channelEvent
  unfold onSlot
  repeat' (first
    | (with_reducible assumption) | (with_reducible apply Quiet.out_next) | (with_reducible apply Quiet.out_onUnit)
    | (with_reducible apply feedTurnOn_quiet) | (with_reducible apply channelChanged_quiet)
    | (with_reducible apply noteStatus_quiet) | intro _ | split)

theorem execFeedWarning_quiet (slot : Nat) (mv : Nat) (fall : Nat) (s : State) : Quiet.Out s (execFeedWarning slot
    mv fall s) := by
  have hs := Quiet.refl s
  unfold execFeedWarning
  unfold channelEvent
  unfold onSlot
  repeat' (first
    | (with_reducible assumption) | (with_reducible apply Quiet.out_next) | (with_reducible apply Quiet.out_onUnit)
    | (with_reducible apply feedWarning_quiet) | (with_reducible apply channelChanged_quiet)
    | (with_reducible apply noteStatus_quiet) | intro _ | split)

theorem execPwarnDeassert_quiet (slot : Nat) (s : State) : Quiet.Out s (execPwarnDeassert slot s) := by
  have hs := Quiet.refl s
  unfold execPwarnDeassert
  unfold channelEvent
  unfold onSlot
  repeat' (first
    | (with_reducible assumption) | (with_reducible apply Quiet.out_next) | (with_reducible apply Quiet.out_onUnit)
    | (with_reducible apply pwarnEnds_quiet) | (with_reducible apply channelChanged_quiet)
    | (with_reducible apply noteStatus_quiet) | intro _ | split)

theorem execFeedLossTimeout_quiet (slot : Nat) (s : State) : Quiet.Out s (execFeedLossTimeout slot s) := by
  have hs := Quiet.refl s
  unfold execFeedLossTimeout
  unfold channelEvent
  unfold onSlot
  repeat' (first
    | (with_reducible assumption) | (with_reducible apply Quiet.out_next) | (with_reducible apply Quiet.out_onUnit)
    | (with_reducible apply feedsGone_quiet) | (with_reducible apply channelChanged_quiet)
    | (with_reducible apply noteStatus_quiet) | intro _ | split)

theorem execRampEnd_quiet (slot : Nat) (outMv : Nat) (senseUv : Nat) (s : State) : Quiet.Out s (execRampEnd slot
    outMv senseUv s) := by
  have hs := Quiet.refl s
  unfold execRampEnd
  unfold channelEvent
  unfold onSlot
  repeat' (first
    | (with_reducible assumption) | (with_reducible apply Quiet.out_next) | (with_reducible apply Quiet.out_onUnit)
    | (with_reducible apply rampEnds_quiet) | (with_reducible apply channelChanged_quiet)
    | (with_reducible apply noteStatus_quiet) | intro _ | split)

theorem execRampTimeout_quiet (slot : Nat) (s : State) : Quiet.Out s (execRampTimeout slot s) := by
  have hs := Quiet.refl s
  unfold execRampTimeout
  unfold channelEvent
  unfold onSlot
  repeat' (first
    | (with_reducible assumption) | (with_reducible apply Quiet.out_next) | (with_reducible apply Quiet.out_onUnit)
    | (with_reducible apply rampLate_quiet) | (with_reducible apply channelChanged_quiet)
    | (with_reducible apply noteStatus_quiet) | intro _ | split)

theorem execFastTrip_quiet (slot : Nat) (senseUv : Nat) (s : State) : Quiet.Out s (execFastTrip slot senseUv s) :=
    by
  have hs := Quiet.refl s
  unfold execFastTrip
  unfold channelEvent
  unfold onSlot
  repeat' (first
    | (with_reducible assumption) | (with_reducible apply Quiet.out_next) | (with_reducible apply Quiet.out_onUnit)
    | (with_reducible apply fastTrip_quiet) | (with_reducible apply channelChanged_quiet)
    | (with_reducible apply noteStatus_quiet) | intro _ | split)

theorem execBreakerCrossing_quiet (slot : Nat) (senseUv : Nat) (at_ : Nat) (s : State) : Quiet.Out s
    (execBreakerCrossing slot senseUv at_ s) := by
  have hs := Quiet.refl s
  unfold execBreakerCrossing
  unfold channelEvent
  unfold onSlot
  repeat' (first
    | (with_reducible assumption) | (with_reducible apply Quiet.out_next) | (with_reducible apply Quiet.out_onUnit)
    | (with_reducible apply breakerCrossed_quiet) | (with_reducible apply clockTo_quiet)
    | (with_reducible apply channelChanged_quiet) | (with_reducible apply noteStatus_quiet) | intro _ | split)

theorem execBreakerRelease_quiet (slot : Nat) (senseUv : Nat) (at_ : Nat) (s : State) : Quiet.Out s
    (execBreakerRelease slot senseUv at_ s) := by
  have hs := Quiet.refl s
  unfold execBreakerRelease
  unfold channelEvent
  unfold onSlot
  repeat' (first
    | (with_reducible assumption) | (with_reducible apply Quiet.out_next) | (with_reducible apply Quiet.out_onUnit)
    | (with_reducible apply breakerReleased_quiet) | (with_reducible apply clockTo_quiet)
    | (with_reducible apply channelChanged_quiet) | (with_reducible apply noteStatus_quiet) | intro _ | split)

end Sys2Proof.Machine
end

