-- ==== Sys2Proof/Laws/QuietRows3.lean ====
section
/-! SUPPORT. Commands that keep `Quiet`, part 3. -/
namespace Sys2Proof.Machine
variable {s₀ : State}

theorem execFaultTimerExpiry_quiet (slot : Nat) (s : State) : Quiet.Out s (execFaultTimerExpiry slot s) := by
  have hs := Quiet.refl s
  unfold execFaultTimerExpiry
  unfold channelEvent
  unfold onSlot
  repeat' (first
    | (with_reducible assumption) | (with_reducible apply Quiet.out_next) | (with_reducible apply Quiet.out_onUnit)
    | (with_reducible apply faultTimerEnds_quiet) | (with_reducible apply channelChanged_quiet)
    | (with_reducible apply noteStatus_quiet) | intro _ | split)

theorem execFaultTimerReset_quiet (slot : Nat) (s : State) : Quiet.Out s (execFaultTimerReset slot s) := by
  have hs := Quiet.refl s
  unfold execFaultTimerReset
  unfold channelEvent
  unfold onSlot
  repeat' (first
    | (with_reducible assumption) | (with_reducible apply Quiet.out_next) | (with_reducible apply Quiet.out_onUnit)
    | (with_reducible apply faultTimerClears_quiet) | (with_reducible apply channelChanged_quiet)
    | (with_reducible apply noteStatus_quiet) | intro _ | split)

theorem execRetryTimerEnd_quiet (slot : Nat) (s : State) : Quiet.Out s (execRetryTimerEnd slot s) := by
  have hs := Quiet.refl s
  unfold execRetryTimerEnd
  unfold channelEvent
  unfold onSlot
  repeat' (first
    | (with_reducible assumption) | (with_reducible apply Quiet.out_next) | (with_reducible apply Quiet.out_onUnit)
    | (with_reducible apply retryEnds_quiet) | (with_reducible apply channelChanged_quiet)
    | (with_reducible apply noteStatus_quiet) | intro _ | split)

theorem execOtCool_quiet (slot : Nat) (temp : Int) (s : State) : Quiet.Out s (execOtCool slot temp s) := by
  have hs := Quiet.refl s
  unfold execOtCool
  unfold channelEvent
  unfold onSlot
  repeat' (first
    | (with_reducible assumption) | (with_reducible apply Quiet.out_next) | (with_reducible apply Quiet.out_onUnit)
    | (with_reducible apply otCools_quiet) | (with_reducible apply channelChanged_quiet)
    | (with_reducible apply noteStatus_quiet) | intro _ | split)

theorem execRetryCountReset_quiet (slot : Nat) (s : State) : Quiet.Out s (execRetryCountReset slot s) := by
  have hs := Quiet.refl s
  unfold execRetryCountReset
  unfold channelEvent
  unfold onSlot
  repeat' (first
    | (with_reducible assumption) | (with_reducible apply Quiet.out_next) | (with_reducible apply Quiet.out_onUnit)
    | (with_reducible apply retriesClear_quiet) | (with_reducible apply channelChanged_quiet)
    | (with_reducible apply noteStatus_quiet) | intro _ | split)

theorem execOverTemperature_quiet (slot : Nat) (temp : Int) (s : State) : Quiet.Out s (execOverTemperature slot
    temp s) := by
  have hs := Quiet.refl s
  unfold execOverTemperature
  unfold channelEvent
  unfold onSlot
  repeat' (first
    | (with_reducible assumption) | (with_reducible apply Quiet.out_next) | (with_reducible apply Quiet.out_onUnit)
    | (with_reducible apply overTemp_quiet) | (with_reducible apply channelChanged_quiet)
    | (with_reducible apply noteStatus_quiet) | intro _ | split)

theorem execMeasurementSample_quiet (slot : Nat) (m : Measurement) (s : State) : Quiet.Out s
    (execMeasurementSample slot m s) := by
  have hs := Quiet.refl s
  unfold execMeasurementSample
  unfold channelEvent
  unfold onSlot
  repeat' (first
    | (with_reducible assumption) | (with_reducible apply Quiet.out_next) | (with_reducible apply Quiet.out_onUnit)
    | (with_reducible apply noteDraw_quiet) | (with_reducible apply sampleTaken_quiet)
    | (with_reducible apply channelChanged_quiet) | (with_reducible apply noteStatus_quiet) | intro _ | split)

theorem execD2dLinkDown_quiet (s : State) : Quiet.Out s (execD2dLinkDown s) := by
  have hs := Quiet.refl s
  unfold execD2dLinkDown
  repeat' (first
    | (with_reducible apply Quiet.out_next) | (with_reducible apply Quiet.out_onUnit)
    | (with_reducible apply Quiet.out_ite) | (with_reducible exact Quiet.out_fault) | (with_reducible assumption)
    | (intro u; first | (refine (fun (_ : Quiet s₀ u) => ?_) ?_; clear_value u; rotate_left; dsimp -zeta only [u]; rotate_right) | clear_value u)
    | intro _ | lift_lets -underBinder | (with_reducible apply Quiet.ite) | (with_reducible apply Quiet.foldl)
    | (with_reducible apply noteStatus_quiet) | split
    | (with_reducible refine Quiet.mk' ?_ rfl rfl rfl rfl rfl rfl rfl rfl rfl rfl rfl) | dsimp -zeta only)

theorem execLinkRestored_quiet (s : State) : Quiet.Out s (execLinkRestored s) := by
  have hs := Quiet.refl s
  unfold execLinkRestored
  repeat' (first
    | (with_reducible assumption) | (with_reducible apply Quiet.out_next) | (with_reducible apply Quiet.out_onUnit)
    | (with_reducible apply dieLinkUp_quiet) | (with_reducible apply noteStatus_quiet) | intro _ | split)

theorem execSpUvloRecover_quiet (vcc : Nat) (vin : Nat) (s : State) : Quiet.Out s (execSpUvloRecover vcc vin s) :=
    by
  have hs := Quiet.refl s
  unfold execSpUvloRecover
  repeat' (first
    | (with_reducible assumption) | (with_reducible apply Quiet.out_next) | (with_reducible apply Quiet.out_onUnit)
    | (with_reducible apply noteStatus_quiet) | (with_reducible apply spUvloRecover_quiet) | intro _ | split)

theorem execDieOt_quiet (temp : Int) (s : State) : Quiet.Out s (execDieOt temp s) := by
  have hs := Quiet.refl s
  unfold execDieOt
  repeat' (first
    | (with_reducible assumption) | (with_reducible apply Quiet.out_next) | (with_reducible apply Quiet.out_onUnit)
    | (with_reducible apply dieTemp_quiet) | (with_reducible apply noteStatus_quiet) | intro _ | split)

theorem execDriveRelease_quiet (s : State) : Quiet.Out s (execDriveRelease s) := by
  have hs := Quiet.refl s
  unfold execDriveRelease
  repeat' (first
    | (with_reducible assumption) | (with_reducible apply Quiet.out_next) | (with_reducible apply Quiet.out_onUnit)
    | (with_reducible apply driveRelease_quiet) | intro _ | split)

theorem execCodewordDecode_quiet (slot : Nat) (tag : Nat) (index : Nat) (r : DecodeResult) (s : State) : Quiet.Out
    s (execCodewordDecode slot tag index r s) := by
  have hs := Quiet.refl s
  unfold execCodewordDecode
  repeat' (first
    | (with_reducible assumption) | (with_reducible apply Quiet.out_next) | (with_reducible apply Quiet.out_onUnit)
    | (with_reducible apply codewordDecode_quiet) | intro _ | split)

theorem execPqeJobDone_quiet (i : Nat) (r : PqeResult) (s : State) : Quiet.Out s (execPqeJobDone i r s) := by
  have hs := Quiet.refl s
  unfold execPqeJobDone
  repeat' (first
    | (with_reducible assumption) | (with_reducible apply Quiet.out_next) | (with_reducible apply Quiet.out_onUnit)
    | (with_reducible apply pqeJobDone_quiet) | intro _ | split)

theorem execCryptoJobDone_quiet (i : Nat) (tagOk : Bool) (s : State) : Quiet.Out s (execCryptoJobDone i tagOk s)
    := by
  have hs := Quiet.refl s
  unfold execCryptoJobDone
  repeat' (first
    | (with_reducible assumption) | (with_reducible apply Quiet.out_next) | (with_reducible apply Quiet.out_onUnit)
    | (with_reducible apply cryptoJobDone_quiet) | intro _ | split)

theorem execOutTimeout_quiet (g : Nat) (m : Nat) (s : State) : Quiet.Out s (execOutTimeout g m s) := by
  have hs := Quiet.refl s
  unfold execOutTimeout
  unfold onGroup
  repeat' (first
    | (with_reducible assumption) | (with_reducible apply Quiet.out_next) | (with_reducible apply Quiet.out_onUnit)
    | (with_reducible apply outTimeout_quiet) | intro _ | split)

theorem execMemberQuery_quiet (req : Nat) (s : State) : Quiet.Out s (execMemberQuery req s) := by
  have hs := Quiet.refl s
  unfold execMemberQuery
  repeat' (first
    | (with_reducible assumption) | (with_reducible apply Quiet.out_next) | (with_reducible apply Quiet.out_onUnit)
    | (with_reducible apply memberCommand_quiet) | intro _ | split)

theorem execMemberFail_quiet (req : Nat) (force : Bool) (s : State) : Quiet.Out s (execMemberFail req force s) :=
    by
  have hs := Quiet.refl s
  unfold execMemberFail
  repeat' (first
    | (with_reducible assumption) | (with_reducible apply Quiet.out_next) | (with_reducible apply Quiet.out_onUnit)
    | (with_reducible apply memberCommand_quiet) | (with_reducible apply noteStatus_quiet) | intro _ | split)

theorem execRebuildStripe_quiet (g : Nat) (pass : Bool) (bad : List Nat) (s : State) : Quiet.Out s
    (execRebuildStripe g pass bad s) := by
  have hs := Quiet.refl s
  unfold execRebuildStripe
  unfold onGroup
  repeat' (first
    | (with_reducible assumption) | (with_reducible apply Quiet.out_next) | (with_reducible apply Quiet.out_onUnit)
    | (with_reducible apply background_quiet) | (with_reducible apply rebuildStripe_quiet) | intro _ | split)

theorem execReshapeStart_quiet (req : Nat) (s : State) : Quiet.Out s (execReshapeStart req s) := by
  have hs := Quiet.refl s
  unfold execReshapeStart
  repeat' (first
    | (with_reducible assumption) | (with_reducible apply Quiet.out_next) | (with_reducible apply Quiet.out_onUnit)
    | (with_reducible apply reshapeCommand_quiet) | intro _ | split)

theorem execReshapeQuery_quiet (req : Nat) (s : State) : Quiet.Out s (execReshapeQuery req s) := by
  have hs := Quiet.refl s
  unfold execReshapeQuery
  repeat' (first
    | (with_reducible assumption) | (with_reducible apply Quiet.out_next) | (with_reducible apply Quiet.out_onUnit)
    | (with_reducible apply reshapeCommand_quiet) | intro _ | split)

theorem execReshapeStripe_quiet (pass : Bool) (lost : List Nat) (s : State) : Quiet.Out s (execReshapeStripe pass
    lost s) := by
  have hs := Quiet.refl s
  unfold execReshapeStripe
  repeat' (first
    | (with_reducible assumption) | (with_reducible apply Quiet.out_next) | (with_reducible apply Quiet.out_onUnit)
    | (with_reducible apply background_quiet) | (with_reducible apply noteStatus_quiet)
    | (with_reducible apply reshapeStripe_quiet) | intro _ | split)

theorem execInvalidRegisterAccess_quiet (req : Nat) (addr : Nat) (size : Nat) (write : Bool) (s : State) :
    Quiet.Out s (execInvalidRegisterAccess req addr size write s) := by
  have hs := Quiet.refl s
  unfold execInvalidRegisterAccess
  repeat' (first
    | (with_reducible assumption) | (with_reducible apply Quiet.out_next) | (with_reducible apply Quiet.out_onUnit)
    | (with_reducible apply badAccess_quiet) | intro _ | split)

theorem execZoneReport_quiet (n : Nat) (s : State) : Quiet.Out s (execZoneReport n s) := by
  have hs := Quiet.refl s
  unfold execZoneReport
  unfold capsuleRow
  unfold onConn
  repeat' (first
    | (with_reducible assumption) | (with_reducible apply Quiet.out_next) | (with_reducible apply Quiet.out_onUnit)
    | (with_reducible apply acceptReport_quiet) | (with_reducible apply intake_quiet) | intro _ | split)

theorem execIdentifyController_quiet (n : Nat) (s : State) : Quiet.Out s (execIdentifyController n s) := by
  have hs := Quiet.refl s
  unfold execIdentifyController
  unfold capsuleRow
  unfold onConn
  repeat' (first
    | (with_reducible assumption) | (with_reducible apply Quiet.out_next) | (with_reducible apply Quiet.out_onUnit)
    | (with_reducible apply deliver_quiet) | (with_reducible apply intake_quiet) | intro _ | split)

theorem execIdentifyNamespace_quiet (n : Nat) (s : State) : Quiet.Out s (execIdentifyNamespace n s) := by
  have hs := Quiet.refl s
  unfold execIdentifyNamespace
  unfold capsuleRow
  unfold onConn
  repeat' (first
    | (with_reducible assumption) | (with_reducible apply Quiet.out_next) | (with_reducible apply Quiet.out_onUnit)
    | (with_reducible apply deliver_quiet) | (with_reducible apply namespaceData_quiet)
    | (with_reducible apply intake_quiet) | intro _ | split)

theorem execIdentifyNsList_quiet (n : Nat) (s : State) : Quiet.Out s (execIdentifyNsList n s) := by
  have hs := Quiet.refl s
  unfold execIdentifyNsList
  unfold capsuleRow
  unfold onConn
  repeat' (first
    | (with_reducible assumption) | (with_reducible apply Quiet.out_next) | (with_reducible apply Quiet.out_onUnit)
    | (with_reducible apply deliver_quiet) | (with_reducible apply intake_quiet) | intro _ | split)

theorem execGetLogError_quiet (n : Nat) (s : State) : Quiet.Out s (execGetLogError n s) := by
  have hs := Quiet.refl s
  unfold execGetLogError
  unfold capsuleRow
  unfold onConn
  repeat' (first
    | (with_reducible assumption) | (with_reducible apply Quiet.out_next) | (with_reducible apply Quiet.out_onUnit)
    | (with_reducible apply deliverLog_quiet) | (with_reducible apply intake_quiet) | intro _ | split)

theorem execGetLogHealth_quiet (n : Nat) (s : State) : Quiet.Out s (execGetLogHealth n s) := by
  have hs := Quiet.refl s
  unfold execGetLogHealth
  unfold capsuleRow
  unfold onConn
  repeat' (first
    | (with_reducible assumption) | (with_reducible apply Quiet.out_next) | (with_reducible apply Quiet.out_onUnit)
    | (with_reducible apply deliverLog_quiet) | (with_reducible apply intake_quiet) | intro _ | split)

theorem execGetLogLoss_quiet (n : Nat) (s : State) : Quiet.Out s (execGetLogLoss n s) := by
  have hs := Quiet.refl s
  unfold execGetLogLoss
  unfold capsuleRow
  unfold onConn
  repeat' (first
    | (with_reducible assumption) | (with_reducible apply Quiet.out_next) | (with_reducible apply Quiet.out_onUnit)
    | (with_reducible apply deliverLog_quiet) | (with_reducible apply intake_quiet) | intro _ | split)

theorem execTokenAttach_quiet (n : Nat) (s : State) : Quiet.Out s (execTokenAttach n s) := by
  have hs := Quiet.refl s
  unfold execTokenAttach
  unfold capsuleRow
  unfold onConn
  repeat' (first
    | (with_reducible assumption) | (with_reducible apply Quiet.out_next) | (with_reducible apply Quiet.out_onUnit)
    | (with_reducible apply acceptToken_quiet) | (with_reducible apply intake_quiet) | intro _ | split)

theorem execTokenDetach_quiet (n : Nat) (s : State) : Quiet.Out s (execTokenDetach n s) := by
  have hs := Quiet.refl s
  unfold execTokenDetach
  unfold capsuleRow
  unfold onConn
  repeat' (first
    | (with_reducible assumption) | (with_reducible apply Quiet.out_next) | (with_reducible apply Quiet.out_onUnit)
    | (with_reducible apply complete_quiet) | (with_reducible apply setConn_quiet) | (with_reducible apply intake_quiet)
    | intro _ | split)

theorem execRdmaReadResponse_quiet (n : Nat) (cid : Nat) (data : List Byte) (tagOk : Bool) (s : State) : Quiet.Out
    s (execRdmaReadResponse n cid data tagOk s) := by
  have hs := Quiet.refl s
  unfold execRdmaReadResponse
  unfold onConn
  repeat' (first
    | (with_reducible assumption) | (with_reducible apply Quiet.out_next) | (with_reducible apply Quiet.out_onUnit)
    | (with_reducible apply takeConnFrame_quiet) | (with_reducible apply tokenRead_quiet) | intro _ | split)

theorem execWakeAdmit_quiet (s : State) : Quiet.Out s (execWakeAdmit s) := by
  have hs := Quiet.refl s
  unfold execWakeAdmit
  repeat' (first
    | (with_reducible assumption) | (with_reducible apply Quiet.out_next) | (with_reducible apply Quiet.out_onUnit)
    | (with_reducible apply noteStatus_quiet) | (with_reducible apply wakeAdmit_quiet) | intro _ | split)

theorem execSpringStagger_quiet (g : Nat) (s : State) : Quiet.Out s (execSpringStagger g s) := by
  have hs := Quiet.refl s
  unfold execSpringStagger
  unfold onGroup
  repeat' (first
    | (with_reducible assumption) | (with_reducible apply Quiet.out_next) | (with_reducible apply Quiet.out_onUnit)
    | (with_reducible apply noteStatus_quiet) | (with_reducible apply springStagger_quiet) | intro _ | split)

theorem execSpringEnd_quiet (g : Nat) (s : State) : Quiet.Out s (execSpringEnd g s) := by
  have hs := Quiet.refl s
  unfold execSpringEnd
  unfold onGroup
  repeat' (first
    | (with_reducible assumption) | (with_reducible apply Quiet.out_next) | (with_reducible apply Quiet.out_onUnit)
    | (with_reducible apply noteStatus_quiet) | (with_reducible apply springEnd_quiet) | intro _ | split)

theorem execIdleTimeout_quiet (g : Nat) (s : State) : Quiet.Out s (execIdleTimeout g s) := by
  have hs := Quiet.refl s
  unfold execIdleTimeout
  unfold onGroup
  repeat' (first
    | (with_reducible assumption) | (with_reducible apply Quiet.out_next) | (with_reducible apply Quiet.out_onUnit)
    | (with_reducible apply idleTimeout_quiet) | intro _ | split)

theorem execAutumnChoice_quiet (s : State) : Quiet.Out s (execAutumnChoice s) := by
  have hs := Quiet.refl s
  unfold execAutumnChoice
  repeat' (first
    | (with_reducible assumption) | (with_reducible apply Quiet.out_next) | (with_reducible apply Quiet.out_onUnit)
    | (with_reducible apply autumnChoice_quiet) | intro _ | split)

theorem execAutumnEnd_quiet (g : Nat) (s : State) : Quiet.Out s (execAutumnEnd g s) := by
  have hs := Quiet.refl s
  unfold execAutumnEnd
  unfold onGroup
  repeat' (first
    | (with_reducible assumption) | (with_reducible apply Quiet.out_next) | (with_reducible apply Quiet.out_onUnit)
    | (with_reducible apply autumnEnd_quiet) | (with_reducible apply noteStatus_quiet) | intro _ | split)

theorem execSeasonWake_quiet (req : Nat) (g : Nat) (s : State) : Quiet.Out s (execSeasonWake req g s) := by
  have hs := Quiet.refl s
  unfold execSeasonWake
  repeat' (first
    | (with_reducible assumption) | (with_reducible apply Quiet.out_next) | (with_reducible apply Quiet.out_onUnit)
    | (with_reducible apply seasonCommand_quiet) | intro _ | split)

theorem execSeasonSleep_quiet (req : Nat) (g : Nat) (s : State) : Quiet.Out s (execSeasonSleep req g s) := by
  have hs := Quiet.refl s
  unfold execSeasonSleep
  repeat' (first
    | (with_reducible assumption) | (with_reducible apply Quiet.out_next) | (with_reducible apply Quiet.out_onUnit)
    | (with_reducible apply seasonCommand_quiet) | intro _ | split)

theorem execZeroizeRepeat_quiet (s : State) : Quiet.Out s (execZeroizeRepeat s) := by
  have hs := Quiet.refl s
  unfold execZeroizeRepeat
  repeat' (first
    | (with_reducible assumption) | (with_reducible apply Quiet.out_next) | (with_reducible apply Quiet.out_onUnit)
    | (with_reducible apply zeroizeRepeat_quiet) | intro _ | split)

theorem execZack_quiet (wire : Bool) (s : State) : Quiet.Out s (execZack wire s) := by
  have hs := Quiet.refl s
  unfold execZack
  repeat' (first
    | (with_reducible assumption) | (with_reducible apply Quiet.out_next) | (with_reducible apply Quiet.out_onUnit)
    | (with_reducible apply zackReceived_quiet) | intro _ | split)

theorem execMsixCauseEdge_quiet (v : Nat) (s : State) : Quiet.Out s (execMsixCauseEdge v s) := by
  have hs := Quiet.refl s
  unfold execMsixCauseEdge
  repeat' (first
    | (with_reducible assumption) | (with_reducible apply Quiet.out_next) | (with_reducible apply Quiet.out_onUnit)
    | (with_reducible apply causeEdge_quiet) | intro _ | split)

theorem execSvpEoi_quiet (req : Nat) (value : Word) (s : State) : Quiet.Out s (execSvpEoi req value s) := by
  have hs := Quiet.refl s
  unfold execSvpEoi
  repeat' (first
    | (with_reducible assumption) | (with_reducible apply Quiet.out_next) | (with_reducible apply Quiet.out_onUnit)
    | (with_reducible apply eoiEffect_quiet) | (with_reducible apply writeBlock_quiet) | intro _ | split)

theorem execSvpSwi_quiet (req : Nat) (value : Word) (s : State) : Quiet.Out s (execSvpSwi req value s) := by
  have hs := Quiet.refl s
  unfold execSvpSwi
  repeat' (first
    | (with_reducible assumption) | (with_reducible apply Quiet.out_next) | (with_reducible apply Quiet.out_onUnit)
    | (with_reducible apply swiEffect_quiet) | (with_reducible apply writeBlock_quiet) | intro _ | split)

theorem execBar0EntryWrite_quiet (req : Nat) (value : Word) (s : State) : Quiet.Out s (execBar0EntryWrite req
    value s) := by
  have hs := Quiet.refl s
  unfold execBar0EntryWrite
  repeat' (first
    | (with_reducible assumption) | (with_reducible apply Quiet.out_next) | (with_reducible apply Quiet.out_onUnit)
    | (with_reducible apply w0Effect_quiet) | (with_reducible apply writeBlock_quiet) | intro _ | split)

theorem execBar2EntryWrite_quiet (req : Nat) (value : Word) (s : State) : Quiet.Out s (execBar2EntryWrite req
    value s) := by
  have hs := Quiet.refl s
  unfold execBar2EntryWrite
  repeat' (first
    | (with_reducible assumption) | (with_reducible apply Quiet.out_next) | (with_reducible apply Quiet.out_onUnit)
    | (with_reducible apply w2Effect_quiet) | (with_reducible apply writeBlock_quiet) | intro _ | split)

theorem execDataLinkDown_quiet (s : State) : Quiet.Out s (execDataLinkDown s) := by
  have hs := Quiet.refl s
  unfold execDataLinkDown
  repeat' (first
    | (with_reducible assumption) | (with_reducible apply Quiet.out_next) | (with_reducible apply Quiet.out_onUnit)
    | (with_reducible apply portDown_quiet) | intro _ | split)

theorem execDataLinkUp_quiet (speed : Nat) (width : Nat) (s : State) : Quiet.Out s (execDataLinkUp speed width s)
    := by
  have hs := Quiet.refl s
  unfold execDataLinkUp
  repeat' (first
    | (with_reducible assumption) | (with_reducible apply Quiet.out_next) | (with_reducible apply Quiet.out_onUnit)
    | (with_reducible apply portUp_quiet) | intro _ | split)

theorem execL1Entry_quiet (s : State) : Quiet.Out s (execL1Entry s) := by
  have hs := Quiet.refl s
  unfold execL1Entry
  repeat' (first
    | (with_reducible assumption) | (with_reducible apply Quiet.out_next) | (with_reducible apply Quiet.out_onUnit)
    | (with_reducible apply enterL1_quiet) | intro _ | split)

theorem execL1Exit_quiet (s : State) : Quiet.Out s (execL1Exit s) := by
  have hs := Quiet.refl s
  unfold execL1Exit
  repeat' (first
    | (with_reducible assumption) | (with_reducible apply Quiet.out_next) | (with_reducible apply Quiet.out_onUnit)
    | (with_reducible apply leaveL1_quiet) | intro _ | split)

theorem execBmeClear_quiet (s : State) : Quiet.Out s (execBmeClear s) := by
  have hs := Quiet.refl s
  unfold execBmeClear
  repeat' (first
    | (with_reducible assumption) | (with_reducible apply Quiet.out_next) | (with_reducible apply Quiet.out_onUnit)
    | (with_reducible apply clearBme_quiet) | intro _ | split)

theorem execFlrDone_quiet (s : State) : Quiet.Out s (execFlrDone s) := by
  have hs := Quiet.refl s
  unfold execFlrDone
  repeat' (first
    | (with_reducible assumption) | (with_reducible apply Quiet.out_next) | (with_reducible apply Quiet.out_onUnit)
    | (with_reducible apply updateSvp_quiet) | intro _ | split)

theorem execPerstDeassert_quiet (s : State) : Quiet.Out s (execPerstDeassert s) := by
  have hs := Quiet.refl s
  unfold execPerstDeassert
  repeat' (first
    | (with_reducible assumption) | (with_reducible apply Quiet.out_next) | (with_reducible apply Quiet.out_onUnit)
    | (with_reducible apply updateSvp_quiet) | intro _ | split)

theorem execTagQuarantineEnd_quiet (tag : Nat) (s : State) : Quiet.Out s (execTagQuarantineEnd tag s) := by
  have hs := Quiet.refl s
  unfold execTagQuarantineEnd
  repeat' (first
    | (with_reducible assumption) | (with_reducible apply Quiet.out_next) | (with_reducible apply Quiet.out_onUnit)
    | (with_reducible apply quarantineEnd_quiet) | intro _ | split)

theorem execSmbStatus_quiet (a : SmbXfer) (s : State) : Quiet.Out s (execSmbStatus a s) := by
  have hs := Quiet.refl s
  unfold execSmbStatus
  repeat' (first
    | (with_reducible assumption) | (with_reducible apply Quiet.out_next) | (with_reducible apply Quiet.out_onUnit)
    | (with_reducible apply smbWord_quiet) | intro _ | split)

theorem execSmbTempMain_quiet (a : SmbXfer) (s : State) : Quiet.Out s (execSmbTempMain a s) := by
  have hs := Quiet.refl s
  unfold execSmbTempMain
  repeat' (first
    | (with_reducible assumption) | (with_reducible apply Quiet.out_next) | (with_reducible apply Quiet.out_onUnit)
    | (with_reducible apply smbWord_quiet) | intro _ | split)

theorem execSmbTempSp_quiet (a : SmbXfer) (s : State) : Quiet.Out s (execSmbTempSp a s) := by
  have hs := Quiet.refl s
  unfold execSmbTempSp
  repeat' (first
    | (with_reducible assumption) | (with_reducible apply Quiet.out_next) | (with_reducible apply Quiet.out_onUnit)
    | (with_reducible apply smbWord_quiet) | intro _ | split)

theorem execSmbSlotPower_quiet (a : SmbXfer) (s : State) : Quiet.Out s (execSmbSlotPower a s) := by
  have hs := Quiet.refl s
  unfold execSmbSlotPower
  repeat' (first
    | (with_reducible assumption) | (with_reducible apply Quiet.out_next) | (with_reducible apply Quiet.out_onUnit)
    | (with_reducible apply smbWord_quiet) | intro _ | split)

end Sys2Proof.Machine
end

