-- ==== Sys2Proof/Laws/QuietRows4.lean ====
section
/-! SUPPORT. Commands that keep `Quiet`, part 4. -/
namespace Sys2Proof.Machine
variable {s₀ : State}

theorem execSmbBoot_quiet (a : SmbXfer) (s : State) : Quiet.Out s (execSmbBoot a s) := by
  have hs := Quiet.refl s
  unfold execSmbBoot
  repeat' (first
    | (with_reducible assumption) | (with_reducible apply Quiet.out_next) | (with_reducible apply Quiet.out_onUnit)
    | (with_reducible apply smbWord_quiet) | intro _ | split)

theorem execSmbCause_quiet (a : SmbXfer) (s : State) : Quiet.Out s (execSmbCause a s) := by
  have hs := Quiet.refl s
  unfold execSmbCause
  repeat' (first
    | (with_reducible assumption) | (with_reducible apply Quiet.out_next) | (with_reducible apply Quiet.out_onUnit)
    | (with_reducible apply clearCauses_quiet) | (with_reducible apply smbWord_quiet) | intro _ | split)

theorem execSmbIdentity_quiet (a : SmbXfer) (s : State) : Quiet.Out s (execSmbIdentity a s) := by
  have hs := Quiet.refl s
  unfold execSmbIdentity
  repeat' (first
    | (with_reducible assumption) | (with_reducible apply Quiet.out_next) | (with_reducible apply Quiet.out_onUnit)
    | (with_reducible apply smbBlock_quiet) | intro _ | split)

theorem execSmbPair_quiet (a : SmbXfer) (s : State) : Quiet.Out s (execSmbPair a s) := by
  have hs := Quiet.refl s
  unfold execSmbPair
  repeat' (first
    | (with_reducible assumption) | (with_reducible apply Quiet.out_next) | (with_reducible apply Quiet.out_onUnit)
    | (with_reducible apply smbBlock_quiet) | intro _ | split)

theorem execSmbGroup_quiet (a : SmbXfer) (g : Nat) (s : State) : Quiet.Out s (execSmbGroup a g s) := by
  have hs := Quiet.refl s
  unfold execSmbGroup
  repeat' (first
    | (with_reducible assumption) | (with_reducible apply Quiet.out_next) | (with_reducible apply Quiet.out_onUnit)
    | (with_reducible apply smbBlock_quiet) | intro _ | split)

theorem execSmbSlot_quiet (a : SmbXfer) (n : Nat) (s : State) : Quiet.Out s (execSmbSlot a n s) := by
  have hs := Quiet.refl s
  unfold execSmbSlot
  repeat' (first
    | (with_reducible assumption) | (with_reducible apply Quiet.out_next) | (with_reducible apply Quiet.out_onUnit)
    | (with_reducible apply smbBlock_quiet) | intro _ | split)

theorem execSmbReceiveByte_quiet (a : SmbXfer) (s : State) : Quiet.Out s (execSmbReceiveByte a s) := by
  have hs := Quiet.refl s
  unfold execSmbReceiveByte
  repeat' (first
    | (with_reducible assumption) | (with_reducible apply Quiet.out_next) | (with_reducible apply Quiet.out_onUnit)
    | (with_reducible apply emit_quiet) | (with_reducible apply smbAnswer_quiet) | intro _ | split)

theorem execSmbUnknownCommand_quiet (a : SmbXfer) (code : Nat) (s : State) : Quiet.Out s (execSmbUnknownCommand a
    code s) := by
  have hs := Quiet.refl s
  unfold execSmbUnknownCommand
  repeat' (first
    | (with_reducible assumption) | (with_reducible apply Quiet.out_next) | (with_reducible apply Quiet.out_onUnit)
    | (with_reducible apply emit_quiet) | (with_reducible apply smbUnknown_quiet) | intro _ | split)

theorem execSmbWrite_quiet (a : SmbXfer) (code : Nat) (s : State) : Quiet.Out s (execSmbWrite a code s) := by
  have hs := Quiet.refl s
  unfold execSmbWrite
  repeat' (first
    | (with_reducible assumption) | (with_reducible apply Quiet.out_next) | (with_reducible apply Quiet.out_onUnit)
    | (with_reducible apply bump_quiet) | (with_reducible apply emit_quiet) | (with_reducible apply smbStop_quiet)
    | (with_reducible apply smbUnknown_quiet) | intro _ | split)

theorem execAlertResponse_quiet (win : Bool) (s : State) : Quiet.Out s (execAlertResponse win s) := by
  have hs := Quiet.refl s
  unfold execAlertResponse
  repeat' (first
    | (with_reducible apply Quiet.out_next) | (with_reducible apply Quiet.out_onUnit)
    | (with_reducible apply Quiet.out_ite) | (with_reducible exact Quiet.out_fault) | (with_reducible assumption)
    | (intro u; first | (refine (fun (_ : Quiet s₀ u) => ?_) ?_; clear_value u; rotate_left; dsimp -zeta only [u]; rotate_right) | clear_value u)
    | intro _ | lift_lets -underBinder | (with_reducible apply Quiet.ite) | (with_reducible apply Quiet.foldl)
    | (with_reducible apply bump_quiet) | (with_reducible apply emit_quiet) | (with_reducible apply notePin_quiet)
    | (with_reducible apply smbStop_quiet) | split
    | (with_reducible refine Quiet.mk' ?_ rfl rfl rfl rfl rfl rfl rfl rfl rfl rfl rfl) | dsimp -zeta only)

theorem execSmbTimeout_quiet (s : State) : Quiet.Out s (execSmbTimeout s) := by
  have hs := Quiet.refl s
  unfold execSmbTimeout
  repeat' (first
    | (with_reducible assumption) | (with_reducible apply Quiet.out_next) | (with_reducible apply Quiet.out_onUnit)
    | (with_reducible apply alert_quiet) | (with_reducible apply bump_quiet) | (with_reducible apply smbStop_quiet)
    | intro _ | split)

theorem execSnapCommit_quiet (req : Nat) (s : State) : Quiet.Out s (execSnapCommit req s) := by
  have hs := Quiet.refl s
  unfold execSnapCommit
  repeat' (first
    | (with_reducible assumption) | (with_reducible apply Quiet.out_next) | (with_reducible apply Quiet.out_onUnit)
    | (with_reducible apply snapEffect_quiet) | (with_reducible apply writeBlock_quiet) | intro _ | split)

theorem execSnapDataAccess_quiet (req : Nat) (write : Bool) (v : Word) (s : State) : Quiet.Out s
    (execSnapDataAccess req write v s) := by
  have hs := Quiet.refl s
  unfold execSnapDataAccess
  repeat' (first
    | (with_reducible assumption) | (with_reducible apply Quiet.out_next) | (with_reducible apply Quiet.out_onUnit)
    | (with_reducible apply readWith_quiet) | (with_reducible apply snapAdvance_quiet)
    | (with_reducible apply snapStore_quiet) | (with_reducible apply writeBlock_quiet) | intro _ | split)

theorem execSnapStale_quiet (s : State) : Quiet.Out s (execSnapStale s) := by
  have hs := Quiet.refl s
  unfold execSnapStale
  apply Quiet.out_next
  split
  · exact hs
  · split
    · exact hs
    · next t _ _ =>
      have h := clockTo_quiet s (t + ticksS) hs
      generalize clockTo s (t + ticksS) = u at h
      exact setCauses_quiet _ _ (Quiet.mk' h rfl rfl rfl rfl rfl rfl rfl rfl rfl rfl rfl)

theorem execCauseSet_quiet (req : Nat) (v : Word) (s : State) : Quiet.Out s (execCauseSet req v s) := by
  have hs := Quiet.refl s
  unfold execCauseSet
  repeat' (first
    | (with_reducible assumption) | (with_reducible apply Quiet.out_next) | (with_reducible apply Quiet.out_onUnit)
    | (with_reducible apply causeSetEffect_quiet) | (with_reducible apply writeBlock_quiet) | intro _ | split)

theorem execStatusHotRise_quiet (tempMain : Int) (s : State) : Quiet.Out s (execStatusHotRise tempMain s) := by
  have hs := Quiet.refl s
  unfold execStatusHotRise
  repeat' (first
    | (with_reducible apply Quiet.out_next) | (with_reducible apply Quiet.out_onUnit)
    | (with_reducible apply Quiet.out_ite) | (with_reducible exact Quiet.out_fault) | (with_reducible assumption)
    | (intro u; first | (refine (fun (_ : Quiet s₀ u) => ?_) ?_; clear_value u; rotate_left; dsimp -zeta only [u]; rotate_right) | clear_value u)
    | intro _ | lift_lets -underBinder | (with_reducible apply Quiet.ite) | (with_reducible apply Quiet.foldl)
    | (with_reducible apply noteStatus_quiet) | split
    | (with_reducible refine Quiet.mk' ?_ rfl rfl rfl rfl rfl rfl rfl rfl rfl rfl rfl) | dsimp -zeta only)

theorem execWritePlace_quiet (n : Nat) (cid : Nat) (s : State) : Quiet.Out s (execWritePlace n cid s) := by
  have hs := Quiet.refl s
  unfold execWritePlace
  repeat' (first
    | (with_reducible assumption) | (with_reducible apply Quiet.out_next) | (with_reducible apply Quiet.out_onUnit)
    | (with_reducible apply tryPlace_quiet) | intro _ | split)

theorem execLogPageFlush_quiet (g : Nat) (mk : Nat) (s : State) : Quiet.Out s (execLogPageFlush g mk s) := by
  have hs := Quiet.refl s
  unfold execLogPageFlush
  repeat' (first
    | (with_reducible assumption) | (with_reducible apply Quiet.out_next) | (with_reducible apply Quiet.out_onUnit)
    | (with_reducible apply logPageFlush_quiet) | intro _ | split)

theorem execJournalPageFlush_quiet (g : Nat) (s : State) : Quiet.Out s (execJournalPageFlush g s) := by
  have hs := Quiet.refl s
  unfold execJournalPageFlush
  repeat' (first
    | (with_reducible assumption) | (with_reducible apply Quiet.out_next) | (with_reducible apply Quiet.out_onUnit)
    | (with_reducible apply journalPageFlush_quiet) | intro _ | split)

theorem execUnsupportedRequest_quiet (_kind : TlpKind) (s : State) : Quiet.Out s (execUnsupportedRequest _kind s)
    := by
  have hs := Quiet.refl s
  unfold execUnsupportedRequest
  repeat' (first
    | (with_reducible assumption) | (with_reducible apply Quiet.out_next) | (with_reducible apply Quiet.out_onUnit)
    | (with_reducible apply tlpIn_quiet) | (with_reducible apply unsupported_quiet) | intro _ | split)

theorem execBar2Request_quiet (write : Bool) (offset : Nat) (length : Nat) (data : List Byte) (ep : Bool) (s :
    State) : Quiet.Out s (execBar2Request write offset length data ep s) := by
  have hs := Quiet.refl s
  unfold execBar2Request
  repeat' (first
    | (with_reducible assumption) | (with_reducible apply Quiet.out_next) | (with_reducible apply Quiet.out_onUnit)
    | (with_reducible apply bar2Request_quiet) | intro _ | split)

theorem execOutboundRequest_quiet (core : Nat) (a : Nat) (len : Nat) (write : Bool) (data : List Byte) (tags :
    List Nat) (s : State) : Quiet.Out s (execOutboundRequest core a len write data tags s) := by
  have hs := Quiet.refl s
  unfold execOutboundRequest
  repeat' (first
    | (with_reducible assumption) | (with_reducible apply Quiet.out_next) | (with_reducible apply Quiet.out_onUnit)
    | (with_reducible apply outboundRequest_quiet) | intro _ | split)

theorem execRingTrigger_quiet (n : Nat) (slot : Nat) (capsule : List Byte) (s : State) : Quiet.Out s
    (execRingTrigger n slot capsule s) := by
  have hs := Quiet.refl s
  unfold execRingTrigger
  repeat' (first
    | (with_reducible assumption) | (with_reducible apply Quiet.out_next) | (with_reducible apply Quiet.out_onUnit)
    | (with_reducible apply ringPlace_quiet) | intro _ | split)

theorem execCqHeadUpdate_quiet (n : Nat) (v : Word) (s : State) : Quiet.Out s (execCqHeadUpdate n v s) := by
  have hs := Quiet.refl s
  unfold execCqHeadUpdate
  repeat' (first
    | (with_reducible assumption) | (with_reducible apply Quiet.out_next) | (with_reducible apply Quiet.out_onUnit)
    | (with_reducible apply ringPlace_quiet) | intro _ | split)

theorem execRdmaWrite_quiet (p : Packet) (data : List Byte) (s : State) : Quiet.Out s (execRdmaWrite p data s) :=
    by
  have hs := Quiet.refl s
  unfold execRdmaWrite
  repeat' (first
    | (with_reducible assumption) | (with_reducible apply Quiet.out_next) | (with_reducible apply Quiet.out_onUnit)
    | (with_reducible apply clockTo_quiet) | (with_reducible apply packetArrives_quiet)
    | (with_reducible apply takeFrame_quiet) | intro _ | split)

theorem execRdmaRead_quiet (p : Packet) (len : Nat) (s : State) : Quiet.Out s (execRdmaRead p len s) := by
  have hs := Quiet.refl s
  unfold execRdmaRead
  repeat' (first
    | (with_reducible assumption) | (with_reducible apply Quiet.out_next) | (with_reducible apply Quiet.out_onUnit)
    | (with_reducible apply clockTo_quiet) | (with_reducible apply packetArrives_quiet)
    | (with_reducible apply takeFrame_quiet) | intro _ | split)

theorem execRdmaFlush_quiet (p : Packet) (len : Nat) (whole : Bool) (persist : Bool) (s : State) : Quiet.Out s
    (execRdmaFlush p len whole persist s) := by
  have hs := Quiet.refl s
  unfold execRdmaFlush
  repeat' (first
    | (with_reducible assumption) | (with_reducible apply Quiet.out_next) | (with_reducible apply Quiet.out_onUnit)
    | (with_reducible apply clockTo_quiet) | (with_reducible apply packetArrives_quiet)
    | (with_reducible apply takeFrame_quiet) | intro _ | split)

theorem execUnsupportedPacket_quiet (qpn : Nat) (opcode : Nat) (psn : Nat) (s : State) : Quiet.Out s
    (execUnsupportedPacket qpn opcode psn s) := by
  have hs := Quiet.refl s
  unfold execUnsupportedPacket
  repeat' (first
    | (with_reducible assumption) | (with_reducible apply Quiet.out_next) | (with_reducible apply Quiet.out_onUnit)
    | (with_reducible apply takeFrame_quiet) | (with_reducible apply unsupportedPacket_quiet) | intro _ | split)

theorem execContextFetchDone_quiet (n : Nat) (eccBad : Bool) (s : State) : Quiet.Out s (execContextFetchDone n
    eccBad s) := by
  have hs := Quiet.refl s
  unfold execContextFetchDone
  repeat' (first
    | (with_reducible assumption) | (with_reducible apply Quiet.out_next) | (with_reducible apply Quiet.out_onUnit)
    | (with_reducible apply contextFetched_quiet) | intro _ | split)

theorem execAckTimer_quiet (n : Nat) (s : State) : Quiet.Out s (execAckTimer n s) := by
  have hs := Quiet.refl s
  unfold execAckTimer
  repeat' (first
    | (with_reducible assumption) | (with_reducible apply Quiet.out_next) | (with_reducible apply Quiet.out_onUnit)
    | (with_reducible apply ackTimer_quiet) | intro _ | split)

theorem execRdmaAck_quiet (n : Nat) (psn : Nat) (s : State) : Quiet.Out s (execRdmaAck n psn s) := by
  have hs := Quiet.refl s
  unfold execRdmaAck
  repeat' (first
    | (with_reducible assumption) | (with_reducible apply Quiet.out_next) | (with_reducible apply Quiet.out_onUnit)
    | (with_reducible apply ackReceived_quiet) | (with_reducible apply takeConnFrame_quiet) | intro _ | split)

theorem execRdmaNak_quiet (n : Nat) (psn : Nat) (sequence : Bool) (s : State) : Quiet.Out s (execRdmaNak n psn
    sequence s) := by
  have hs := Quiet.refl s
  unfold execRdmaNak
  repeat' (first
    | (with_reducible assumption) | (with_reducible apply Quiet.out_next) | (with_reducible apply Quiet.out_onUnit)
    | (with_reducible apply nakReceived_quiet) | (with_reducible apply takeConnFrame_quiet) | intro _ | split)

theorem execRetxTimeout_quiet (n : Nat) (s : State) : Quiet.Out s (execRetxTimeout n s) := by
  have hs := Quiet.refl s
  unfold execRetxTimeout
  repeat' (first
    | (with_reducible assumption) | (with_reducible apply Quiet.out_next) | (with_reducible apply Quiet.out_onUnit)
    | (with_reducible apply retxTimeout_quiet) | intro _ | split)

theorem execRdmaWriteDone_quiet (n : Nat) (cid : Nat) (s : State) : Quiet.Out s (execRdmaWriteDone n cid s) := by
  have hs := Quiet.refl s
  unfold execRdmaWriteDone
  repeat' (first
    | (with_reducible assumption) | (with_reducible apply Quiet.out_next) | (with_reducible apply Quiet.out_onUnit)
    | (with_reducible apply writeDone_quiet) | intro _ | split)

theorem execRdmaFlushResponse_quiet (n : Nat) (cid : Nat) (s : State) : Quiet.Out s (execRdmaFlushResponse n cid
    s) := by
  have hs := Quiet.refl s
  unfold execRdmaFlushResponse
  repeat' (first
    | (with_reducible assumption) | (with_reducible apply Quiet.out_next) | (with_reducible apply Quiet.out_onUnit)
    | (with_reducible apply flushResponse_quiet) | (with_reducible apply takeConnFrame_quiet) | intro _ | split)

theorem execCnp_quiet (n : Nat) (tick : Nat) (s : State) : Quiet.Out s (execCnp n tick s) := by
  have hs := Quiet.refl s
  unfold execCnp
  repeat' (first
    | (with_reducible assumption) | (with_reducible apply Quiet.out_next) | (with_reducible apply Quiet.out_onUnit)
    | (with_reducible apply clockTo_quiet) | (with_reducible apply cnpReceived_quiet)
    | (with_reducible apply takeConnFrame_quiet) | intro _ | split)

theorem execRateRise_quiet (n : Nat) (s : State) : Quiet.Out s (execRateRise n s) := by
  have hs := Quiet.refl s
  unfold execRateRise
  repeat' (first
    | (with_reducible assumption) | (with_reducible apply Quiet.out_next) | (with_reducible apply Quiet.out_onUnit)
    | (with_reducible apply rateRise_quiet) | intro _ | split)

theorem execRtu_quiet (n : Nat) (s : State) : Quiet.Out s (execRtu n s) := by
  have hs := Quiet.refl s
  unfold execRtu
  repeat' (first
    | (with_reducible assumption) | (with_reducible apply Quiet.out_next) | (with_reducible apply Quiet.out_onUnit)
    | (with_reducible apply becomeReady_quiet) | intro _ | split)

theorem execCmIgnored_quiet (_k : CmKind) (s : State) : Quiet.Out s (execCmIgnored _k s) := by
  have hs := Quiet.refl s
  unfold execCmIgnored
  repeat' (first
    | (with_reducible assumption) | (with_reducible apply Quiet.out_next) | (with_reducible apply Quiet.out_onUnit)
    | intro _ | split)

theorem execConnNumberReuse_quiet (n : Nat) (s : State) : Quiet.Out s (execConnNumberReuse n s) := by
  have hs := Quiet.refl s
  unfold execConnNumberReuse
  repeat' (first
    | (with_reducible assumption) | (with_reducible apply Quiet.out_next) | (with_reducible apply Quiet.out_onUnit)
    | (with_reducible apply numberReuse_quiet) | intro _ | split)

theorem execRtRegister_quiet (req : Nat) (e : Nat) (s : State) : Quiet.Out s (execRtRegister req e s) := by
  have hs := Quiet.refl s
  unfold execRtRegister
  repeat' (first
    | (with_reducible assumption) | (with_reducible apply Quiet.out_next) | (with_reducible apply Quiet.out_onUnit)
    | (with_reducible apply rtCommand_quiet) | intro _ | split)

theorem execRtRevoke_quiet (req : Nat) (e : Nat) (s : State) : Quiet.Out s (execRtRevoke req e s) := by
  have hs := Quiet.refl s
  unfold execRtRevoke
  repeat' (first
    | (with_reducible assumption) | (with_reducible apply Quiet.out_next) | (with_reducible apply Quiet.out_onUnit)
    | (with_reducible apply rtCommand_quiet) | intro _ | split)

theorem execRtQuery_quiet (req : Nat) (e : Nat) (s : State) : Quiet.Out s (execRtQuery req e s) := by
  have hs := Quiet.refl s
  unfold execRtQuery
  repeat' (first
    | (with_reducible assumption) | (with_reducible apply Quiet.out_next) | (with_reducible apply Quiet.out_onUnit)
    | (with_reducible apply rtCommand_quiet) | intro _ | split)

theorem execRevokeDone_quiet (i : Nat) (s : State) : Quiet.Out s (execRevokeDone i s) := by
  have hs := Quiet.refl s
  unfold execRevokeDone
  repeat' (first
    | (with_reducible assumption) | (with_reducible apply Quiet.out_next) | (with_reducible apply Quiet.out_onUnit)
    | (with_reducible apply revokeDone_quiet) | intro _ | split)

theorem execZoneOpen_quiet (n : Nat) (s : State) : Quiet.Out s (execZoneOpen n s) := by
  have hs := Quiet.refl s
  unfold execZoneOpen
  unfold capsuleRow
  unfold onConn
  repeat' (first
    | (with_reducible assumption) | (with_reducible apply Quiet.out_next) | (with_reducible apply Quiet.out_onUnit)
    | (with_reducible apply acceptMgmt_quiet) | (with_reducible apply mgmtOpen_quiet)
    | (with_reducible apply intake_quiet) | intro _ | split)

theorem execZoneClose_quiet (n : Nat) (s : State) : Quiet.Out s (execZoneClose n s) := by
  have hs := Quiet.refl s
  unfold execZoneClose
  unfold capsuleRow
  unfold onConn
  repeat' (first
    | (with_reducible assumption) | (with_reducible apply Quiet.out_next) | (with_reducible apply Quiet.out_onUnit)
    | (with_reducible apply acceptMgmt_quiet) | (with_reducible apply mgmtClose_quiet)
    | (with_reducible apply intake_quiet) | intro _ | split)

theorem execZoneFinish_quiet (n : Nat) (s : State) : Quiet.Out s (execZoneFinish n s) := by
  have hs := Quiet.refl s
  unfold execZoneFinish
  unfold capsuleRow
  unfold onConn
  repeat' (first
    | (with_reducible assumption) | (with_reducible apply Quiet.out_next) | (with_reducible apply Quiet.out_onUnit)
    | (with_reducible apply acceptMgmt_quiet) | (with_reducible apply mgmtFinish_quiet)
    | (with_reducible apply intake_quiet) | intro _ | split)

theorem execZoneReset_quiet (n : Nat) (s : State) : Quiet.Out s (execZoneReset n s) := by
  have hs := Quiet.refl s
  unfold execZoneReset
  unfold capsuleRow
  unfold onConn
  repeat' (first
    | (with_reducible assumption) | (with_reducible apply Quiet.out_next) | (with_reducible apply Quiet.out_onUnit)
    | (with_reducible apply acceptMgmt_quiet) | (with_reducible apply mgmtReset_quiet)
    | (with_reducible apply intake_quiet) | intro _ | split)

theorem execZoneMgmtComplete_quiet (n : Nat) (cid : Nat) (s : State) : Quiet.Out s (execZoneMgmtComplete n cid s)
    := by
  have hs := Quiet.refl s
  unfold execZoneMgmtComplete
  unfold onConn
  repeat' (first
    | (with_reducible assumption) | (with_reducible apply Quiet.out_next) | (with_reducible apply Quiet.out_onUnit)
    | (with_reducible apply advanceMgmt_quiet) | intro _ | split)

theorem execNsZoneRelease_quiet (ns : Nat) (s : State) : Quiet.Out s (execNsZoneRelease ns s) := by
  have hs := Quiet.refl s
  unfold execNsZoneRelease
  repeat' (first
    | (with_reducible assumption) | (with_reducible apply Quiet.out_next) | (with_reducible apply Quiet.out_onUnit)
    | (with_reducible apply nsZoneRelease_quiet) | intro _ | split)

end Sys2Proof.Machine
end

