-- ==== Sys2Proof/Laws/Keep1.lean ====
section
/-! SUPPORT. Operations that keep the queue and the canonical form of the memories, part 1. -/
namespace Sys2Proof.Machine
variable {s₀ : State}

theorem Keep.refl (a : State) : Keep a a := ⟨rfl, id, id⟩
theorem Keep.trans {b c : State} (h : Keep s₀ b) (k : Keep b c) : Keep s₀ c :=
  ⟨k.pending.trans h.pending, fun w => k.dram (h.dram w), fun w => k.mram (h.mram w)⟩
theorem Keep.quiet {b c : State} (h : Keep s₀ b) (k : Quiet b c) : Keep s₀ c :=
  h.trans ⟨k.pending, k.dram, fun w => by rw [k.mram]; exact w⟩
theorem Keep.ite {c : Prop} [Decidable c] {x y : State} (hx : Keep s₀ x) (hy : Keep s₀ y) :
    Keep s₀ (if c then x else y) := by
  split <;> assumption
theorem Keep.mk' {u : State}
    {a_pending : List Instr} {a_outs : List Out} {a_draws : Nat} {a_time : TimeBase} {a_pages : Tab Page} {a_regs : Tab Word} {a_namespaces : Tab Namespace} {a_zones : Tab Zone} {a_stripes : Tab Stripe} {a_folds : Tab Fold} {a_buffers : Tab StripeBuf} {a_logMap : Tab (List Place)} {a_commands : Tab Command} {a_accepted : Nat} {a_rowJobs : Tab RowJob} {a_rowSeq : Nat} {a_cwSeq : Nat} {a_errorLog : List LogEntry} {a_healthLog : List Nat} {a_conns : Tab Conn} {a_regions : Tab Region} {a_engines : Tab Engine} {a_parked : Tab (List Instr)} {a_ports : Tab Port} {a_switch : Switch} {a_policers : Tab Policer} {a_egress : Tab Egress} {a_progGates : Tab GateEngine} {a_modules : Tab Module} {a_history : List (List Byte × Tab EraseBlock)} {a_links : Tab Link} {a_climbs : List Climb} {a_decodes : List DecodeJob} {a_groups : Tab Group} {a_pqeRun : Tab PqeJob} {a_pqeQueue : List PqeJob} {a_pqeBytes : Tab Nat} {a_reshape : Option Reshape} {a_reshapeResult : Nat} {a_losses : List Loss} {a_lossGen : Tab Nat} {a_journal : List JournalRecord} {a_journalSeq : Nat} {a_channels : Tab Channel} {a_die : PowerDie} {a_wakeSeq : Nat} {a_sec : Sec} {a_vault : Vault} {a_crypto : Crypto} {a_alarm : Alarm} {a_rng : Rng} {a_secWait : List Instr} {a_reqWait : List CmReq} {a_pair : Pair} {a_arbiters : Tab Arbiter} {a_dma : Tab DmaChan} {a_ddr : Tab Ddr} {a_mrm : Mrm} {a_dram : List Host.Cell} {a_mram : List Host.Cell} {a_poison : List Nat} {a_svp : Service} {a_clk : Clk} {a_pwr : Pwr} {a_boot : Boot} {a_mgt : Mgt} {a_trace : Trace} {a_tap : Tap}
    (h : Keep s₀ u) (h_pending : a_pending = u.pending) (h_dram : a_dram = u.dram) (h_mram : a_mram = u.mram) :
    Keep s₀ (State.mk a_pending a_outs a_draws a_time a_pages a_regs a_namespaces a_zones a_stripes a_folds a_buffers a_logMap a_commands a_accepted a_rowJobs a_rowSeq a_cwSeq a_errorLog a_healthLog a_conns a_regions a_engines a_parked a_ports a_switch a_policers a_egress a_progGates a_modules a_history a_links a_climbs a_decodes a_groups a_pqeRun a_pqeQueue a_pqeBytes a_reshape a_reshapeResult a_losses a_lossGen a_journal a_journalSeq a_channels a_die a_wakeSeq a_sec a_vault a_crypto a_alarm a_rng a_secWait a_reqWait a_pair a_arbiters a_dma a_ddr a_mrm a_dram a_mram a_poison a_svp a_clk a_pwr a_boot a_mgt a_trace a_tap) :=
  h.trans ⟨h_pending, fun w => by rw [h_dram]; exact w, fun w => by rw [h_mram]; exact w⟩
theorem Keep.foldl {α : Type} {f : State → α → State} {l : List α} {s : State} (h : Keep s₀ s)
    (hf : ∀ u x, Keep s₀ u → Keep s₀ (f u x)) : Keep s₀ (l.foldl f s) := by
  induction l generalizing s with
  | nil => exact h
  | cons x l ih => exact ih (hf s x h)

structure Keep.Opt (a : State) (o : Option State) : Prop where
  use : ∀ t, o = some t → Keep a t
structure Keep.Opt2 {α : Type} (a : State) (o : Option (α × State)) : Prop where
  use : ∀ x t, o = some (x, t) → Keep a t
theorem Keep.opt_none : Keep.Opt s₀ none := ⟨fun _ h => nomatch h⟩
theorem Keep.opt_some {u : State} (h : Keep s₀ u) : Keep.Opt s₀ (some u) := ⟨fun _ e => Option.some.inj e ▸ h⟩
theorem Keep.opt_ite {c : Prop} [Decidable c] {x y : Option State} (hx : Keep.Opt s₀ x) (hy : Keep.Opt s₀ y) :
    Keep.Opt s₀ (if c then x else y) := by
  split <;> assumption
theorem Keep.opt_use {u : State} {o : Option State} (h : Keep.Opt s₀ o) (e : o = some u) : Keep s₀ u := h.use u e
theorem Keep.opt2_none {α : Type} : Keep.Opt2 s₀ (none : Option (α × State)) := ⟨fun _ _ h => nomatch h⟩
theorem Keep.opt2_some {α : Type} {x : α} {u : State} (h : Keep s₀ u) : Keep.Opt2 s₀ (some (x, u)) := by
  constructor
  intro y t e
  cases e
  exact h
theorem Keep.opt2_ite {α : Type} {c : Prop} [Decidable c] {x y : Option (α × State)} (hx : Keep.Opt2 s₀ x)
    (hy : Keep.Opt2 s₀ y) : Keep.Opt2 s₀ (if c then x else y) := by
  split <;> assumption
theorem Keep.opt2_use {α : Type} {x : α} {u : State} {o : Option (α × State)} (h : Keep.Opt2 s₀ o)
    (e : o = some (x, u)) : Keep s₀ u := h.use x u e
theorem setPage_keep (s : State) (n : Nat) (p : Page) (hs : Keep s₀ s) : Keep s₀ (setPage s n p) := hs.mk' rfl rfl rfl
theorem judgeWrite_keep (s : State) (req page off : Nat) (hs : Keep s₀ s) {t : State}
    (e : judgeWrite s req page off = .stop t ∨ judgeWrite s req page off = .go t) : Keep s₀ t :=
  hs.quiet (judgeWrite_quiet s req page off (Quiet.refl s) e)
theorem judgeRead_keep (s : State) (req page off : Nat) (hs : Keep s₀ s) {t : State}
    (e : judgeRead s req page off = .stop t ∨ judgeRead s req page off = .go t) : Keep s₀ t :=
  hs.quiet (judgeRead_quiet s req page off (Quiet.refl s) e)

theorem elapse_keep (s : State) (dt : Nat) (hs : Keep s₀ s) : Keep s₀ (elapse s dt) := hs.quiet (elapse_quiet _ _
    (Quiet.refl _))

theorem clockTo_keep (s : State) (t : Tick) (hs : Keep s₀ s) : Keep s₀ (clockTo s t) := hs.quiet (clockTo_quiet _
    _ (Quiet.refl _))

theorem clockToOpt_keep (s : State) (z0 : Option Tick) (hs : Keep s₀ s) : Keep s₀ (clockToOpt s z0) := hs.quiet
    (clockToOpt_quiet _ _ (Quiet.refl _))

theorem storeBlock_keep (s : State) (req : Nat) (page : Nat) (off : Nat) (v : Word) (hs : Keep s₀ s) : Keep s₀
    (storeBlock s req page off v) := hs.quiet (storeBlock_quiet _ _ _ _ _ (Quiet.refl _))

theorem present_keep (arb : Nat) (s : State) (p : Presented) (hs : Keep s₀ s) : Keep s₀ (present arb s p) :=
    hs.quiet (present_quiet _ _ _ (Quiet.refl _))

theorem checkAlarms_keep (s : State) (arb : Nat) (hs : Keep s₀ s) : Keep s₀ (checkAlarms s arb) := hs.quiet
    (checkAlarms_quiet _ _ (Quiet.refl _))

theorem lose_keep (arb : Nat) (s : State) (c : Nat) (hs : Keep s₀ s) : Keep s₀ (lose arb s c) := hs.quiet
    (lose_quiet _ _ _ (Quiet.refl _))

theorem grant_keep (arb : Nat) (s : State) (c : Nat) (hs : Keep s₀ s) : Keep s₀ (grant arb s c) := hs.quiet
    (grant_quiet _ _ _ (Quiet.refl _))

theorem fabEffect_keep (off : Nat) (v : Word) (before : State) (after : State) (hs : Keep s₀ after) : Keep s₀
    (fabEffect off v before after) := hs.quiet (fabEffect_quiet _ _ _ _ (Quiet.refl _))

theorem bootWindows_keep (s : State) (hs : Keep s₀ s) : Keep s₀ (bootWindows s) := hs.quiet (bootWindows_quiet _
    (Quiet.refl _))

theorem pllLocks_keep (s : State) (hs : Keep s₀ s) : Keep s₀ (pllLocks s) := hs.quiet (pllLocks_quiet _
    (Quiet.refl _))

theorem resetPins_keep (s : State) (t : State) (hs : Keep s₀ t) : Keep s₀ (resetPins s t) := hs.quiet
    (resetPins_quiet _ _ (Quiet.refl _))

theorem setChan_keep (s : State) (n : Nat) (c : Channel) (hs : Keep s₀ s) : Keep s₀ (setChan s n c) := hs.quiet
    (setChan_quiet _ _ _ (Quiet.refl _))

theorem dividerStep_keep (s : State) (n : ClkName) (hs : Keep s₀ s) : Keep s₀ (dividerStep s n) := hs.quiet
    (dividerStep_quiet _ _ (Quiet.refl _))

theorem refuseOff_keep (off : Nat) (base : Nat) (old : Word) (s : State) (i : Nat) (hs : Keep s₀ s) : Keep s₀
    (refuseOff off base old s i) := hs.quiet (refuseOff_quiet _ _ _ _ _ (Quiet.refl _))

theorem setConn_keep (s : State) (n : Nat) (c : Conn) (hs : Keep s₀ s) : Keep s₀ (setConn s n c) := hs.quiet
    (setConn_quiet _ _ _ (Quiet.refl _))

theorem register_keep (s : State) (i : Nat) (r : Region) (hs : Keep s₀ s) : Keep s₀ (register s i r) := hs.quiet
    (register_quiet _ _ _ (Quiet.refl _))

theorem revoke_keep (s : State) (i : Nat) (hs : Keep s₀ s) : Keep s₀ (revoke s i) := hs.quiet (revoke_quiet _ _
    (Quiet.refl _))

theorem drain_keep (s : State) (n : Nat) (hs : Keep s₀ s) : Keep s₀ (drain s n) := hs.quiet (drain_quiet _ _
    (Quiet.refl _))

theorem stopConn_keep (s : State) (n : Nat) (st : ConnState) (hs : Keep s₀ s) : Keep s₀ (stopConn s n st) :=
    hs.quiet (stopConn_quiet _ _ _ (Quiet.refl _))

theorem connError_keep (s : State) (n : Nat) (hs : Keep s₀ s) : Keep s₀ (connError s n) := hs.quiet
    (connError_quiet _ _ (Quiet.refl _))

theorem dispatchJobs_keep (s : State) (hs : Keep s₀ s) : Keep s₀ (dispatchJobs s) := hs.quiet (dispatchJobs_quiet
    _ (Quiet.refl _))

theorem dropJobs_keep (s : State) (p : CryptoJob → Bool) (hs : Keep s₀ s) : Keep s₀ (dropJobs s p).2 := hs.quiet
    (dropJobs_quiet _ _ (Quiet.refl _))
theorem dropJobs_keep_eq {s : State} {p : CryptoJob → Bool} {e0 : List Nat} {t : State} (hs : Keep s₀ s) (e :
    dropJobs s p = (e0, t)) : Keep s₀ t := by
  have := dropJobs_keep s p hs
  rw [e] at this
  exact this

theorem seeClaim_keep (s : State) (claim : Nat) (hs : Keep s₀ s) : Keep s₀ (seeClaim s claim) := hs.quiet
    (seeClaim_quiet _ _ (Quiet.refl _))

theorem dramFetch_keep (s : State) (req : Nat) (a : Nat) (n : Nat) (hs : Keep s₀ s) : Keep s₀ (dramFetch s req a
    n).2 := hs.quiet (dramFetch_quiet _ _ _ _ (Quiet.refl _))
theorem dramFetch_keep_eq {s : State} {req : Nat} {a : Nat} {n : Nat} {e0 : Option (List Byte)} {t : State} (hs :
    Keep s₀ s) (e : dramFetch s req a n = (e0, t)) : Keep s₀ t := by
  have := dramFetch_keep s req a n hs
  rw [e] at this
  exact this

theorem dramStore_keep (s : State) (a : Nat) (bs : List Byte) (hs : Keep s₀ s) : Keep s₀ (dramStore s a bs) :=
    hs.quiet (dramStore_quiet _ _ _ (Quiet.refl _))

theorem outboundWrite_keep (s : State) (a : Nat) (data : List Byte) (hs : Keep s₀ s) : Keep s₀ (outboundWrite s a
    data) := hs.quiet (outboundWrite_quiet _ _ _ (Quiet.refl _))

theorem outboundRead_keep (s : State) (who : OutReq) (a : Nat) (len : Nat) (tag : Nat) (hs : Keep s₀ s) : Keep s₀
    (outboundRead s who a len tag) := hs.quiet (outboundRead_quiet _ _ _ _ _ (Quiet.refl _))

theorem descResult_keep (s : State) (d : DmaDesc) (st : Nat) (hs : Keep s₀ s) : Keep s₀ (descResult s d st).2 :=
    hs.quiet (descResult_quiet _ _ _ (Quiet.refl _))
theorem descResult_keep_eq {s : State} {d : DmaDesc} {st : Nat} {e0 : Nat} {t : State} (hs : Keep s₀ s) (e :
    descResult s d st = (e0, t)) : Keep s₀ t := by
  have := descResult_keep s d st hs
  rw [e] at this
  exact this

theorem noteBad_keep (s : State) (chan : Nat) (d : DmaDesc) (st : Nat) (hs : Keep s₀ s) : Keep s₀ (noteBad s chan
    d st) := hs.quiet (noteBad_quiet _ _ _ _ (Quiet.refl _))

theorem egressEnabled_keep (s : State) (n : Nat) (hs : Keep s₀ s) : Keep s₀ (egressEnabled s n) := hs.quiet
    (egressEnabled_quiet _ _ (Quiet.refl _))

theorem egsEffect_keep (n : Nat) (off : Nat) (before : State) (after : State) (hs : Keep s₀ after) : Keep s₀
    (egsEffect n off before after) := hs.quiet (egsEffect_quiet _ _ _ _ (Quiet.refl _))

theorem mlxEffect_keep (k : Nat) (off : Nat) (before : State) (after : State) (hs : Keep s₀ after) : Keep s₀
    (mlxEffect k off before after) := hs.quiet (mlxEffect_quiet _ _ _ _ (Quiet.refl _))

theorem invalidateEntry_keep (s : State) (i : Nat) (hs : Keep s₀ s) : Keep s₀ (invalidateEntry s i) := hs.quiet
    (invalidateEntry_quiet _ _ (Quiet.refl _))

theorem dramWrite_keep (s : State) (a : Nat) (bs : List Byte) (hs : Keep s₀ s) : Keep s₀ (dramWrite s a bs) :=
    hs.quiet (dramWrite_quiet _ _ _ (Quiet.refl _))

theorem mramWritten_keep (s : State) (n : Nat) (hs : Keep s₀ s) : Keep s₀ (mramWritten s n) := hs.quiet
    (mramWritten_quiet _ _ (Quiet.refl _))

theorem background_keep (s t : State) (hs : Keep s₀ s) (ht : Keep s₀ t) : Keep s₀ (background s t) := by
  unfold background
  split <;> assumption

theorem journal_keep (s : State) (body : RecordBody) (hs : Keep s₀ s) : Keep s₀ (journal s body) := hs.quiet
    (journal_quiet _ _ (Quiet.refl _))

theorem requestWake_keep (s : State) (g : Nat) (kind : WakeKind) (hs : Keep s₀ s) : Keep s₀ (requestWake s g kind)
    := hs.quiet (requestWake_quiet _ _ _ (Quiet.refl _))

theorem linkToDown_keep (s : State) (n : Nat) (reset : Bool) (hs : Keep s₀ s) : Keep s₀ (linkToDown s n reset) :=
    hs.quiet (linkToDown_quiet _ _ _ (Quiet.refl _))

theorem mrstEffect_keep (n : Nat) (x1 : State) (after : State) (hs : Keep s₀ after) : Keep s₀ (mrstEffect n x1
    after) := hs.quiet (mrstEffect_quiet _ _ _ (Quiet.refl _))

theorem identified_keep (s : State) (n : Nat) (page : List Byte) (hs : Keep s₀ s) : Keep s₀ (identified s n page)
    := hs.quiet (identified_quiet _ _ _ (Quiet.refl _))

theorem statusFrame_keep (s : State) (n : Nat) (h : LinkHdr) (code : Nat) (page : List Byte) (hs : Keep s₀ s) :
    Keep s₀ (statusFrame s n h code page) := hs.quiet (statusFrame_quiet _ _ _ _ _ (Quiet.refl _))

theorem netEnabled_keep (s : State) (n : Nat) (hs : Keep s₀ s) : Keep s₀ (netEnabled s n) := hs.quiet
    (netEnabled_quiet _ _ (Quiet.refl _))

theorem netDisabled_keep (s : State) (n : Nat) (hs : Keep s₀ s) : Keep s₀ (netDisabled s n) := hs.quiet
    (netDisabled_quiet _ _ (Quiet.refl _))

theorem netEffect_keep (n : Nat) (off : Nat) (x2 : State) (after : State) (hs : Keep s₀ after) : Keep s₀
    (netEffect n off x2 after) := hs.quiet (netEffect_quiet _ _ _ _ (Quiet.refl _))

theorem timeEffect_keep (off : Nat) (before : State) (after : State) (hs : Keep s₀ after) : Keep s₀ (timeEffect
    off before after) := hs.quiet (timeEffect_quiet _ _ _ (Quiet.refl _))

theorem readTimeReg_keep (s : State) (req : Nat) (off : Nat) (hs : Keep s₀ s) : Keep s₀ (readTimeReg s req off) :=
    hs.quiet (readTimeReg_quiet _ _ _ (Quiet.refl _))

theorem polCmdEffect_keep (x0 : State) (after : State) (hs : Keep s₀ after) : Keep s₀ (polCmdEffect x0 after) :=
    hs.quiet (polCmdEffect_quiet _ _ (Quiet.refl _))

theorem swcEffect_keep (off : Nat) (before : State) (after : State) (hs : Keep s₀ after) : Keep s₀ (swcEffect off
    before after) := hs.quiet (swcEffect_quiet _ _ _ (Quiet.refl _))

theorem swcReadEffect_keep (off : Nat) (s : State) (hs : Keep s₀ s) : Keep s₀ (swcReadEffect off s) := hs.quiet
    (swcReadEffect_quiet _ _ (Quiet.refl _))

theorem emit_keep (s : State) (o : Out) (hs : Keep s₀ s) : Keep s₀ (emit s o) := hs.quiet (emit_quiet _ _
    (Quiet.refl _))

theorem emitAll_keep (s : State) (os : List Out) (hs : Keep s₀ s) : Keep s₀ (emitAll s os) := hs.quiet
    (emitAll_quiet _ _ (Quiet.refl _))

theorem draw_keep (s : State) (hs : Keep s₀ s) : Keep s₀ (draw s).2 := hs.quiet (draw_quiet _ (Quiet.refl _))
theorem draw_keep_eq {s : State} {e0 : Nat} {t : State} (hs : Keep s₀ s) (e : draw s = (e0, t)) : Keep s₀ t := by
  have := draw_keep s hs
  rw [e] at this
  exact this

theorem setReg_keep (s : State) (page : Nat) (off : Nat) (v : Word) (hs : Keep s₀ s) : Keep s₀ (setReg s page off
    v) := hs.quiet (setReg_quiet _ _ _ _ (Quiet.refl _))

theorem setField_keep (s : State) (page : Nat) (off : Nat) (lo : Nat) (w : Nat) (n : Nat) (hs : Keep s₀ s) : Keep
    s₀ (setField s page off lo w n) := hs.quiet (setField_quiet _ _ _ _ _ _ (Quiet.refl _))

theorem bumpBy_keep (s : State) (page : Nat) (off : Nat) (n : Nat) (hs : Keep s₀ s) : Keep s₀ (bumpBy s page off
    n) := hs.quiet (bumpBy_quiet _ _ _ _ (Quiet.refl _))

theorem bump_keep (s : State) (page : Nat) (off : Nat) (hs : Keep s₀ s) : Keep s₀ (bump s page off) := hs.quiet
    (bump_quiet _ _ _ (Quiet.refl _))

theorem pmcEvent_keep (s : State) (page : Nat) (code : Nat) (k : Nat) (hs : Keep s₀ s) : Keep s₀ (pmcEvent s page
    code k) := hs.quiet (pmcEvent_quiet _ _ _ _ (Quiet.refl _))

theorem raiseCauses_keep (s : State) (page : Nat) (mask : Word) (hs : Keep s₀ s) : Keep s₀ (raiseCauses s page
    mask) := hs.quiet (raiseCauses_quiet _ _ _ (Quiet.refl _))

theorem raiseCause_keep (s : State) (page : Nat) (b : Nat) (hs : Keep s₀ s) : Keep s₀ (raiseCause s page b) :=
    hs.quiet (raiseCause_quiet _ _ _ (Quiet.refl _))

theorem alert_keep (s : State) (page : Nat) (off : Nat) (b : Nat) (hs : Keep s₀ s) : Keep s₀ (alert s page off b)
    := hs.quiet (alert_quiet _ _ _ _ (Quiet.refl _))

theorem logError_keep (s : State) (page : Nat) (code : Nat) (req : Nat) (addr : Nat) (hs : Keep s₀ s) : Keep s₀
    (logError s page code req addr) := hs.quiet (logError_quiet _ _ _ _ _ (Quiet.refl _))

theorem blockError_keep (s : State) (page : Nat) (code : Nat) (addr : Nat) (hs : Keep s₀ s) : Keep s₀ (blockError
    s page code addr) := hs.quiet (blockError_quiet _ _ _ _ (Quiet.refl _))

theorem settleSigns_keep (before : State) (after : State) (hs : Keep s₀ after) : Keep s₀ (settleSigns before
    after) := hs.quiet (settleSigns_quiet _ _ (Quiet.refl _))

theorem cutChannel_keep (s : State) (n : Nat) (hs : Keep s₀ s) : Keep s₀ (cutChannel s n) := hs.quiet
    (cutChannel_quiet _ _ (Quiet.refl _))

theorem shutdownClock_keep (s : State) (page : Nat) (hs : Keep s₀ s) : Keep s₀ (shutdownClock s page) := hs.quiet
    (shutdownClock_quiet _ _ (Quiet.refl _))

theorem channelEnabled_keep (s : State) (n : Nat) (hs : Keep s₀ s) : Keep s₀ (channelEnabled s n) := hs.quiet
    (channelEnabled_quiet _ _ (Quiet.refl _))

theorem resetLink_keep (s : State) (n : Nat) (hs : Keep s₀ s) : Keep s₀ (resetLink s n) := hs.quiet
    (resetLink_quiet _ _ (Quiet.refl _))

theorem resumeWork_keep (s : State) (page : Nat) (hs : Keep s₀ s) : Keep s₀ (resumeWork s page) := hs.quiet
    (resumeWork_quiet _ _ (Quiet.refl _))

end Sys2Proof.Machine
end

