-- ==== Sys2Proof/Laws/Keep2.lean ====
section
/-! SUPPORT. Operations that keep the queue and the canonical form of the memories, part 2. -/
namespace Sys2Proof.Machine
variable {s₀ : State}

theorem startSync_keep (s : State) (hs : Keep s₀ s) : Keep s₀ (startSync s) := hs.quiet (startSync_quiet _
    (Quiet.refl _))

theorem checkMirror_keep (s : State) (hs : Keep s₀ s) : Keep s₀ (checkMirror s) := hs.quiet (checkMirror_quiet _
    (Quiet.refl _))

theorem hearClaim_keep (s : State) (claim : Nat) (hs : Keep s₀ s) : Keep s₀ (hearClaim s claim) := hs.quiet
    (hearClaim_quiet _ _ (Quiet.refl _))

theorem raiseClaim_keep (s : State) (hs : Keep s₀ s) : Keep s₀ (raiseClaim s) := hs.quiet (raiseClaim_quiet _
    (Quiet.refl _))

theorem broadcastClaim_keep (s : State) (withSpx : Bool) (hs : Keep s₀ s) : Keep s₀ (broadcastClaim s withSpx) :=
    hs.quiet (broadcastClaim_quiet _ _ (Quiet.refl _))

theorem adoptTables_keep (s : State) (mirrored : Bool) (mark : Bool) (hs : Keep s₀ s) : Keep s₀ (adoptTables s
    mirrored mark) := hs.quiet (adoptTables_quiet _ _ _ (Quiet.refl _))

theorem postNotices_keep (s : State) (hs : Keep s₀ s) : Keep s₀ (postNotices s) := hs.quiet (postNotices_quiet _
    (Quiet.refl _))

theorem membersOut_keep (s : State) (slots : List Nat) (hs : Keep s₀ s) : Keep s₀ (membersOut s slots) := hs.quiet
    (membersOut_quiet _ _ (Quiet.refl _))

theorem drillFails_keep (s : State) (result : Nat) (slots : List Nat) (hs : Keep s₀ s) : Keep s₀ (drillFails s
    result slots) := hs.quiet (drillFails_quiet _ _ _ (Quiet.refl _))

theorem startHandBack_keep (s : State) (hs : Keep s₀ s) : Keep s₀ (startHandBack s) := hs.quiet
    (startHandBack_quiet _ (Quiet.refl _))

theorem drillSucceeds_keep (s : State) (hs : Keep s₀ s) : Keep s₀ (drillSucceeds s) := hs.quiet
    (drillSucceeds_quiet _ (Quiet.refl _))

theorem isolate_keep (s : State) (hs : Keep s₀ s) : Keep s₀ (isolate s) := hs.quiet (isolate_quiet _ (Quiet.refl
    _))

theorem kickEffect_keep (x0 : State) (after : State) (hs : Keep s₀ after) : Keep s₀ (kickEffect x0 after) :=
    hs.quiet (kickEffect_quiet _ _ (Quiet.refl _))

theorem takeChannel_keep (s : State) (x : SpxChannel) (hs : Keep s₀ s) : Keep s₀ (takeChannel s x) := hs.quiet
    (takeChannel_quiet _ _ (Quiet.refl _))

theorem startDrill_keep (s : State) (hs : Keep s₀ s) : Keep s₀ (startDrill s) := hs.quiet (startDrill_quiet _
    (Quiet.refl _))

theorem dieSeesClaim_keep (s : State) (claim : Nat) (hs : Keep s₀ s) : Keep s₀ (dieSeesClaim s claim) := hs.quiet
    (dieSeesClaim_quiet _ _ (Quiet.refl _))

theorem spwCmdEffect_keep (n : Nat) (x1 : State) (after : State) (hs : Keep s₀ after) : Keep s₀ (spwCmdEffect n x1
    after) := hs.quiet (spwCmdEffect_quiet _ _ _ (Quiet.refl _))

theorem dropSlot_keep (before : State) (s : State) (n : Nat) (hs : Keep s₀ s) : Keep s₀ (dropSlot before s n) :=
    hs.quiet (dropSlot_quiet _ _ _ (Quiet.refl _))

theorem haltCommand_keep (s : State) (q : Nat) (hs : Keep s₀ s) : Keep s₀ (haltCommand s q) := hs.quiet
    (haltCommand_quiet _ _ (Quiet.refl _))

theorem haltJobs_keep (s : State) (p : CryptoJob → Bool) (hs : Keep s₀ s) : Keep s₀ (haltJobs s p) := hs.quiet
    (haltJobs_quiet _ _ (Quiet.refl _))

theorem mgtEffect_keep (off : Nat) (v : Word) (before : State) (after : State) (hs : Keep s₀ after) : Keep s₀
    (mgtEffect off v before after) := hs.quiet (mgtEffect_quiet _ _ _ _ (Quiet.refl _))

theorem pmtEffect_keep (off : Nat) (before : State) (after : State) (hs : Keep s₀ after) : Keep s₀ (pmtEffect off
    before after) := hs.quiet (pmtEffect_quiet _ _ _ (Quiet.refl _))

theorem zsqEffect_keep (off : Nat) (before : State) (after : State) (hs : Keep s₀ after) : Keep s₀ (zsqEffect off
    before after) := hs.quiet (zsqEffect_quiet _ _ _ (Quiet.refl _))

theorem decodeError_keep (s : State) (req : Nat) (addr : Nat) (hs : Keep s₀ s) : Keep s₀ (decodeError s req addr)
    := hs.quiet (decodeError_quiet _ _ _ (Quiet.refl _))

theorem badAccess_keep (s : State) (req : Nat) (addr : Nat) (size : Nat) (write : Bool) (hs : Keep s₀ s) : Keep s₀
    (badAccess s req addr size write) := hs.quiet (badAccess_quiet _ _ _ _ _ (Quiet.refl _))

theorem quietWrite_keep (s : State) (a : BusAccess) (hs : Keep s₀ s) : Keep s₀ (quietWrite s a) := hs.quiet
    (quietWrite_quiet _ _ (Quiet.refl _))

theorem presentAccess_keep (s : State) (a : BusAccess) (hs : Keep s₀ s) : Keep s₀ (presentAccess s a) := hs.quiet
    (presentAccess_quiet _ _ (Quiet.refl _))

theorem chooseBus_keep (z0 : Nat) (z1 : State) (z2 : List Nat) (hs : Keep s₀ z1) : Keep s₀ (chooseBus z0 z1 z2).2
    := hs.quiet (chooseBus_quiet _ _ _ (Quiet.refl _))
theorem chooseBus_keep_eq {z0 : Nat} {z1 : State} {z2 : List Nat} {e0 : List Nat} {t : State} (hs : Keep s₀ z1) (e
    : chooseBus z0 z1 z2 = (e0, t)) : Keep s₀ t := by
  have := chooseBus_keep z0 z1 z2 hs
  rw [e] at this
  exact this

theorem grantBus_keep (s : State) (c : Nat) (hs : Keep s₀ s) : Keep s₀ (grantBus s c) := hs.quiet (grantBus_quiet
    _ _ (Quiet.refl _))

theorem failQueued_keep (s : State) (p : CryptoJob → Bool) (hs : Keep s₀ s) : Keep s₀ (failQueued s p) := hs.quiet
    (failQueued_quiet _ _ (Quiet.refl _))

theorem endRequest_keep (s : State) (op : Nat) (status : Nat) (response : List Nat) (hs : Keep s₀ s) : Keep s₀
    (endRequest s op status response) := hs.quiet (endRequest_quiet _ _ _ _ (Quiet.refl _))

theorem keepNonce_keep (s : State) (nonce : Nat) (hs : Keep s₀ s) : Keep s₀ (keepNonce s nonce) := hs.quiet
    (keepNonce_quiet _ _ (Quiet.refl _))

theorem identityRequest_keep (r : SecReq) (s : State) (hs : Keep s₀ s) : Keep.Opt s₀ (identityRequest r s) := ⟨fun
    t e => hs.quiet ((identityRequest_quiet _ _ (Quiet.refl _)).use t e)⟩
theorem identityRequest_keep_eq {r : SecReq} {s : State} {t : State} (hs : Keep s₀ s) (e : identityRequest r s =
    some t) : Keep s₀ t := (identityRequest_keep r s hs).use t e

theorem bindOwnerRequest_keep (r : SecReq) (key : Nat) (s : State) (hs : Keep s₀ s) : Keep.Opt s₀
    (bindOwnerRequest r key s) := ⟨fun t e => hs.quiet ((bindOwnerRequest_quiet _ _ _ (Quiet.refl _)).use t e)⟩
theorem bindOwnerRequest_keep_eq {r : SecReq} {key : Nat} {s : State} {t : State} (hs : Keep s₀ s) (e :
    bindOwnerRequest r key s = some t) : Keep s₀ t := (bindOwnerRequest_keep r key s hs).use t e

theorem pairBindRequest_keep (r : SecReq) (b : PairBind) (s : State) (hs : Keep s₀ s) : Keep.Opt s₀
    (pairBindRequest r b s) := ⟨fun t e => hs.quiet ((pairBindRequest_quiet _ _ _ (Quiet.refl _)).use t e)⟩
theorem pairBindRequest_keep_eq {r : SecReq} {b : PairBind} {s : State} {t : State} (hs : Keep s₀ s) (e :
    pairBindRequest r b s = some t) : Keep s₀ t := (pairBindRequest_keep r b s hs).use t e

theorem nsSetRequest_keep (r : SecReq) (a : NsChange) (s : State) (hs : Keep s₀ s) : Keep.Opt s₀ (nsSetRequest r a
    s) := ⟨fun t e => hs.quiet ((nsSetRequest_quiet _ _ _ (Quiet.refl _)).use t e)⟩
theorem nsSetRequest_keep_eq {r : SecReq} {a : NsChange} {s : State} {t : State} (hs : Keep s₀ s) (e :
    nsSetRequest r a s = some t) : Keep s₀ t := (nsSetRequest_keep r a s hs).use t e

theorem tvkSetRequest_keep (r : SecReq) (k : Nat) (key : Nat) (s : State) (hs : Keep s₀ s) : Keep.Opt s₀
    (tvkSetRequest r k key s) := ⟨fun t e => hs.quiet ((tvkSetRequest_quiet _ _ _ _ (Quiet.refl _)).use t e)⟩
theorem tvkSetRequest_keep_eq {r : SecReq} {k : Nat} {key : Nat} {s : State} {t : State} (hs : Keep s₀ s) (e :
    tvkSetRequest r k key s = some t) : Keep s₀ t := (tvkSetRequest_keep r k key s hs).use t e

theorem tvkRemoveRequest_keep (r : SecReq) (k : Nat) (s : State) (hs : Keep s₀ s) : Keep.Opt s₀ (tvkRemoveRequest
    r k s) := ⟨fun t e => hs.quiet ((tvkRemoveRequest_quiet _ _ _ (Quiet.refl _)).use t e)⟩
theorem tvkRemoveRequest_keep_eq {r : SecReq} {k : Nat} {s : State} {t : State} (hs : Keep s₀ s) (e :
    tvkRemoveRequest r k s = some t) : Keep s₀ t := (tvkRemoveRequest_keep r k s hs).use t e

theorem denyAddRequest_keep (r : SecReq) (serial : Nat) (s : State) (hs : Keep s₀ s) : Keep.Opt s₀ (denyAddRequest
    r serial s) := ⟨fun t e => hs.quiet ((denyAddRequest_quiet _ _ _ (Quiet.refl _)).use t e)⟩
theorem denyAddRequest_keep_eq {r : SecReq} {serial : Nat} {s : State} {t : State} (hs : Keep s₀ s) (e :
    denyAddRequest r serial s = some t) : Keep s₀ t := (denyAddRequest_keep r serial s hs).use t e

theorem denyRemoveRequest_keep (r : SecReq) (serial : Nat) (s : State) (hs : Keep s₀ s) : Keep.Opt s₀
    (denyRemoveRequest r serial s) := ⟨fun t e => hs.quiet ((denyRemoveRequest_quiet _ _ _ (Quiet.refl _)).use t e)⟩
theorem denyRemoveRequest_keep_eq {r : SecReq} {serial : Nat} {s : State} {t : State} (hs : Keep s₀ s) (e :
    denyRemoveRequest r serial s = some t) : Keep s₀ t := (denyRemoveRequest_keep r serial s hs).use t e

theorem orderedAddRequest_keep (r : SecReq) (hostId : Nat) (s : State) (hs : Keep s₀ s) : Keep.Opt s₀
    (orderedAddRequest r hostId s) := ⟨fun t e => hs.quiet ((orderedAddRequest_quiet _ _ _ (Quiet.refl _)).use t e)⟩
theorem orderedAddRequest_keep_eq {r : SecReq} {hostId : Nat} {s : State} {t : State} (hs : Keep s₀ s) (e :
    orderedAddRequest r hostId s = some t) : Keep s₀ t := (orderedAddRequest_keep r hostId s hs).use t e

theorem orderedRemoveRequest_keep (r : SecReq) (hostId : Nat) (s : State) (hs : Keep s₀ s) : Keep.Opt s₀
    (orderedRemoveRequest r hostId s) := ⟨fun t e => hs.quiet ((orderedRemoveRequest_quiet _ _ _ (Quiet.refl _)).use t
    e)⟩
theorem orderedRemoveRequest_keep_eq {r : SecReq} {hostId : Nat} {s : State} {t : State} (hs : Keep s₀ s) (e :
    orderedRemoveRequest r hostId s = some t) : Keep s₀ t := (orderedRemoveRequest_keep r hostId s hs).use t e

theorem clearKeyData_keep (s : State) (hs : Keep s₀ s) : Keep s₀ (clearKeyData s) := hs.quiet (clearKeyData_quiet
    _ (Quiet.refl _))

theorem almCfgEffect_keep (x0 : State) (after : State) (hs : Keep s₀ after) : Keep s₀ (almCfgEffect x0 after) :=
    hs.quiet (almCfgEffect_quiet _ _ (Quiet.refl _))

theorem sealedError_keep (s : State) (n : Nat) (hs : Keep s₀ s) : Keep s₀ (sealedError s n) := hs.quiet
    (sealedError_quiet _ _ (Quiet.refl _))

theorem sendZeroize_keep (s : State) (hs : Keep s₀ s) : Keep s₀ (sendZeroize s) := hs.quiet (sendZeroize_quiet _
    (Quiet.refl _))

theorem zackReceived_keep (s : State) (hs : Keep s₀ s) : Keep s₀ (zackReceived s) := hs.quiet (zackReceived_quiet
    _ (Quiet.refl _))

theorem updateSvp_keep (s : State) (f : Service → Service) (hs : Keep s₀ s) : Keep s₀ (updateSvp s f) := hs.quiet
    (updateSvp_quiet _ _ (Quiet.refl _))

theorem sendTlp_keep (s : State) (o : Out) (hs : Keep s₀ s) : Keep s₀ (sendTlp s o) := hs.quiet (sendTlp_quiet _ _
    (Quiet.refl _))

theorem leaveL1_keep (s : State) (hs : Keep s₀ s) : Keep s₀ (leaveL1 s) := hs.quiet (leaveL1_quiet _ (Quiet.refl
    _))

theorem settleVectors_keep (s : State) (hs : Keep s₀ s) : Keep s₀ (settleVectors s) := hs.quiet
    (settleVectors_quiet _ (Quiet.refl _))

theorem svpEffect_keep (off : Nat) (v : Word) (before : State) (after : State) (hs : Keep s₀ after) : Keep s₀
    (svpEffect off v before after) := hs.quiet (svpEffect_quiet _ _ _ _ (Quiet.refl _))

theorem aerReport_keep (s : State) (b : Nat) (addr : Nat) (hs : Keep s₀ s) : Keep s₀ (aerReport s b addr) :=
    hs.quiet (aerReport_quiet _ _ _ (Quiet.refl _))

theorem unsupported_keep (s : State) (read : Bool) (addr : Nat) (hs : Keep s₀ s) : Keep s₀ (unsupported s read
    addr) := hs.quiet (unsupported_quiet _ _ _ (Quiet.refl _))

theorem poisonedTlp_keep (s : State) (addr : Nat) (hs : Keep s₀ s) : Keep s₀ (poisonedTlp s addr) := hs.quiet
    (poisonedTlp_quiet _ _ (Quiet.refl _))

theorem portDown_keep (s : State) (hs : Keep s₀ s) : Keep s₀ (portDown s) := hs.quiet (portDown_quiet _
    (Quiet.refl _))

theorem clearBme_keep (s : State) (hs : Keep s₀ s) : Keep s₀ (clearBme s) := hs.quiet (clearBme_quiet _
    (Quiet.refl _))

theorem notePin_keep (before : State) (after : State) (hs : Keep s₀ after) : Keep s₀ (notePin before after) :=
    hs.quiet (notePin_quiet _ _ (Quiet.refl _))

theorem setCauses_keep (s : State) (mask : Nat) (hs : Keep s₀ s) : Keep s₀ (setCauses s mask) := hs.quiet
    (setCauses_quiet _ _ (Quiet.refl _))

theorem noteStatus_keep (before : State) (after : State) (hs : Keep s₀ after) : Keep s₀ (noteStatus before after)
    := hs.quiet (noteStatus_quiet _ _ (Quiet.refl _))

theorem snapAdvance_keep (s : State) (hs : Keep s₀ s) : Keep s₀ (snapAdvance s) := hs.quiet (snapAdvance_quiet _
    (Quiet.refl _))

theorem dispatchPqe_keep (s : State) (hs : Keep s₀ s) : Keep s₀ (dispatchPqe s) := hs.quiet (dispatchPqe_quiet _
    (Quiet.refl _))

theorem tlpIn_keep (s : State) (hs : Keep s₀ s) : Keep s₀ (tlpIn s) := hs.quiet (tlpIn_quiet _ (Quiet.refl _))

theorem writeCommand_keep (s : State) (v : Word) (hs : Keep s₀ s) : Keep s₀ (writeCommand s v) := hs.quiet
    (writeCommand_quiet _ _ (Quiet.refl _))

theorem bar4Request_keep (s : State) (write : Bool) (o : Nat) (values : List Word) (hs : Keep s₀ s) : Keep s₀
    (bar4Request s write o values) := hs.quiet (bar4Request_quiet _ _ _ _ (Quiet.refl _))

theorem coreFails_keep (s : State) (core : Nat) (a : Nat) (len : Nat) (write : Bool) (hs : Keep s₀ s) : Keep s₀
    (coreFails s core a len write) := hs.quiet (coreFails_quiet _ _ _ _ _ (Quiet.refl _))

theorem strayCompletion_keep (s : State) (tag : Nat) (hs : Keep s₀ s) : Keep s₀ (strayCompletion s tag) :=
    hs.quiet (strayCompletion_quiet _ _ (Quiet.refl _))

theorem freeCells_keep (s : State) (n : Nat) (hs : Keep s₀ s) : Keep s₀ (freeCells s n) := hs.quiet
    (freeCells_quiet _ _ (Quiet.refl _))

theorem xptEffect_keep (e : Nat) (off : Nat) (before : State) (after : State) (hs : Keep s₀ after) : Keep s₀
    (xptEffect e off before after) := hs.quiet (xptEffect_quiet _ _ _ _ (Quiet.refl _))

theorem enterNs_keep (s : State) (ns : Nat) (st : NsState) (hs : Keep s₀ s) : Keep s₀ (enterNs s ns st) :=
    hs.quiet (enterNs_quiet _ _ _ (Quiet.refl _))

end Sys2Proof.Machine
end

