-- ==== Sys2Proof/Laws/Keep3.lean ====
section
/-! SUPPORT. Operations that keep the queue and the canonical form of the memories, part 3. -/
namespace Sys2Proof.Machine
variable {s₀ : State}

theorem writeBlock_keep (effect : State → State → State) (s : State) (req page off : Nat) (v : Word)
    (he : ∀ x y, Keep s₀ x → Keep s₀ y → Keep s₀ (effect x y)) (hs : Keep s₀ s) :
    Keep s₀ (writeBlock effect s req page off v) := by
  unfold writeBlock
  split
  · next e => exact judgeWrite_keep _ _ _ _ hs (.inl e)
  · next e =>
    have ht := judgeWrite_keep _ _ _ _ hs (.inr e)
    exact he _ _ ht (storeBlock_keep _ _ _ _ _ ht)

theorem readWith_keep (effect : State → State) (value : State → Word) (s : State) (req page off : Nat)
    (he : ∀ x, Keep s₀ x → Keep s₀ (effect x)) (hs : Keep s₀ s) :
    Keep s₀ (readWith effect value s req page off) := by
  unfold readWith
  split
  · next e => exact emit_keep _ _ (judgeRead_keep _ _ _ _ hs (.inl e))
  · next e => exact emit_keep _ _ (he _ (judgeRead_keep _ _ _ _ hs (.inr e)))

/-- What a request answers keeps `Keep`. -/
structure Keep.Ans (a : State) (x : Answer) : Prop where
  running : ∀ t, x = .running t → Keep a t
  done : ∀ st r t, x = .done st r t → Keep a t

theorem Keep.ans_waits : Keep.Ans s₀ .waits := ⟨fun _ h => (nomatch h), fun _ _ _ h => (nomatch h)⟩
theorem Keep.ans_running {t : State} (h : Keep s₀ t) : Keep.Ans s₀ (.running t) :=
  ⟨fun _ e => Answer.running.inj e ▸ h, fun _ _ _ e => (nomatch e)⟩
theorem Keep.ans_done {st : Nat} {r : List Nat} {t : State} (h : Keep s₀ t) : Keep.Ans s₀ (.done st r t) :=
  ⟨fun _ e => (nomatch e), fun _ _ _ e => (Answer.done.inj e).2.2 ▸ h⟩
theorem Keep.ans_ite {c : Prop} [Decidable c] {x y : Answer} (hx : Keep.Ans s₀ x) (hy : Keep.Ans s₀ y) :
    Keep.Ans s₀ (if c then x else y) := by
  split <;> assumption

theorem serveWith_keep (s : State) (op : Nat) (signed keep vault : Bool) (r : SecReq) (body : State → Answer)
    (hb : ∀ x, Keep s₀ x → Keep.Ans s₀ (body x)) (hs : Keep s₀ s) :
    Keep.Opt s₀ (serveWith s op signed keep vault r body) := by
  unfold serveWith
  split
  · exact Keep.opt_some (endRequest_keep _ _ _ _ hs)
  · split
    · exact Keep.opt_none
    · next t e => exact Keep.opt_some (Keep.mk' ((hb s hs).running t e) rfl rfl rfl)
    · next st r' t e =>
      have ht := (hb s hs).done _ _ _ e
      apply Keep.opt_ite
      · apply Keep.opt_some
        apply endRequest_keep
        apply Keep.ite
        · exact keepNonce_keep _ _ ht
        · exact ht
      · exact Keep.opt_some (endRequest_keep _ _ _ _ hs)

theorem serveSigned_keep (s : State) (op : Nat) (vault : Bool) (r : SecReq) (body : State → Answer)
    (hb : ∀ x, Keep s₀ x → Keep.Ans s₀ (body x)) (hs : Keep s₀ s) :
    Keep.Opt s₀ (serveSigned s op vault r body) := serveWith_keep _ _ _ _ _ _ _ hb hs

theorem pageShutdown_keep (s : State) (page : Nat) (hss : Keep s₀ s) : Keep s₀ (pageShutdown s page) := by
  unfold pageShutdown
  repeat' (first
    | (with_reducible assumption)
    | (intro u; first | (refine (fun (_ : Keep s₀ u) => ?_) ?_; clear_value u; rotate_left; dsimp -zeta only [u]; rotate_right) | clear_value u)
    | intro _ | lift_lets -underBinder | (with_reducible apply Keep.ite) | (with_reducible apply Keep.foldl)
    | (with_reducible apply setPage_keep) | split | (with_reducible refine Keep.mk' ?_ rfl rfl rfl) | dsimp -zeta only)

theorem pageFault_keep (s : State) (page : Nat) (code : Nat) (addr : Nat) (hss : Keep s₀ s) : Keep s₀ (pageFault s
    page code addr) := by
  unfold pageFault
  repeat' (first
    | (with_reducible assumption)
    | (intro u; first | (refine (fun (_ : Keep s₀ u) => ?_) ?_; clear_value u; rotate_left; dsimp -zeta only [u]; rotate_right) | clear_value u)
    | intro _ | lift_lets -underBinder | (with_reducible apply Keep.ite) | (with_reducible apply Keep.foldl)
    | (with_reducible apply blockError_keep) | (with_reducible apply raiseCause_keep)
    | (with_reducible apply setPage_keep) | split | (with_reducible refine Keep.mk' ?_ rfl rfl rfl) | dsimp -zeta only)

theorem ddrScrub_keep (s : State) (n : Nat) (w : WordCheck) (raced : Bool) (hss : Keep s₀ s) : Keep s₀ (ddrScrub s
    n w raced) := by
  unfold ddrScrub
  repeat' (first
    | (with_reducible assumption)
    | (intro u; first | (refine (fun (_ : Keep s₀ u) => ?_) ?_; clear_value u; rotate_left; dsimp -zeta only [u]; rotate_right) | clear_value u)
    | intro _ | lift_lets -underBinder | (with_reducible apply Keep.ite) | (with_reducible apply Keep.foldl)
    | (with_reducible apply alert_keep) | (with_reducible apply blockError_keep) | (with_reducible apply bump_keep)
    | (with_reducible apply pmcEvent_keep) | split | (with_reducible refine Keep.mk' ?_ rfl rfl rfl) | dsimp -zeta only)

theorem mramDieFail_keep (s : State) (die : Nat) (hss : Keep s₀ s) : Keep s₀ (mramDieFail s die) := by
  unfold mramDieFail
  repeat' (first
    | (with_reducible assumption)
    | (intro u; first | (refine (fun (_ : Keep s₀ u) => ?_) ?_; clear_value u; rotate_left; dsimp -zeta only [u]; rotate_right) | (refine (fun (_ : Keep s₀ u.2) => ?_) ?_; clear_value u; rotate_left; dsimp -zeta only [u]; rotate_right) | (refine (fun (_ : Keep s₀ u.2.2) => ?_) ?_; clear_value u; rotate_left; dsimp -zeta only [u]; rotate_right) | clear_value u)
    | intro _ | lift_lets -underBinder | (with_reducible apply Keep.ite) | (with_reducible apply Keep.foldl)
    | (with_reducible apply draw_keep) | (refine draw_keep_eq ?_ (by with_reducible assumption))
    | (with_reducible apply pageFault_keep) | (with_reducible apply pageShutdown_keep) | split
    | (with_reducible refine Keep.mk' ?_ rfl rfl rfl) | dsimp -zeta only)

theorem toStage_keep (s : State) (n : Nat) (hss : Keep s₀ s) : Keep s₀ (toStage s n) := by
  unfold toStage
  repeat' (first
    | (with_reducible assumption)
    | (intro u; first | (refine (fun (_ : Keep s₀ u) => ?_) ?_; clear_value u; rotate_left; dsimp -zeta only [u]; rotate_right) | clear_value u)
    | intro _ | lift_lets -underBinder | (with_reducible apply Keep.ite) | (with_reducible apply Keep.foldl) | split
    | (with_reducible refine Keep.mk' ?_ rfl rfl rfl) | dsimp -zeta only)

theorem bootFails_keep (s : State) (n : Nat) (hss : Keep s₀ s) : Keep s₀ (bootFails s n) := by
  unfold bootFails
  repeat' (first
    | (with_reducible assumption)
    | (intro u; first | (refine (fun (_ : Keep s₀ u) => ?_) ?_; clear_value u; rotate_left; dsimp -zeta only [u]; rotate_right) | clear_value u)
    | intro _ | lift_lets -underBinder | (with_reducible apply Keep.ite) | (with_reducible apply Keep.foldl)
    | (with_reducible apply setCauses_keep) | split | (with_reducible refine Keep.mk' ?_ rfl rfl rfl)
    | dsimp -zeta only)

theorem bootClocks_keep (s : State) (hss : Keep s₀ s) : Keep s₀ (bootClocks s) := by
  unfold bootClocks
  repeat' (first
    | (with_reducible assumption)
    | (intro u; first | (refine (fun (_ : Keep s₀ u) => ?_) ?_; clear_value u; rotate_left; dsimp -zeta only [u]; rotate_right) | clear_value u)
    | intro _ | lift_lets -underBinder | (with_reducible apply Keep.ite) | (with_reducible apply Keep.foldl)
    | (with_reducible apply toStage_keep) | split | (with_reducible refine Keep.mk' ?_ rfl rfl rfl) | dsimp -zeta only)

theorem lockPage_keep (s : State) (page : Nat) (hss : Keep s₀ s) : Keep s₀ (lockPage s page) := by
  unfold lockPage
  repeat' (first
    | (with_reducible assumption)
    | (intro u; first | (refine (fun (_ : Keep s₀ u) => ?_) ?_; clear_value u; rotate_left; dsimp -zeta only [u]; rotate_right) | clear_value u)
    | intro _ | lift_lets -underBinder | (with_reducible apply Keep.ite) | (with_reducible apply Keep.foldl)
    | (with_reducible apply invalidateEntry_keep) | (with_reducible apply setPage_keep) | split
    | (with_reducible refine Keep.mk' ?_ rfl rfl rfl) | dsimp -zeta only)

theorem bootCheck_keep (s : State) (hss : Keep s₀ s) : Keep s₀ (bootCheck s) := by
  unfold bootCheck
  repeat' (first
    | (with_reducible assumption)
    | (intro u; first | (refine (fun (_ : Keep s₀ u) => ?_) ?_; clear_value u; rotate_left; dsimp -zeta only [u]; rotate_right) | clear_value u)
    | intro _ | lift_lets -underBinder | (with_reducible apply Keep.ite) | (with_reducible apply Keep.foldl)
    | (with_reducible apply bootFails_keep) | (with_reducible apply lockPage_keep) | (with_reducible apply toStage_keep)
    | split | (with_reducible refine Keep.mk' ?_ rfl rfl rfl) | dsimp -zeta only)

theorem serveDomains_keep (s : State) (hss : Keep s₀ s) : Keep s₀ (serveDomains s) := by
  unfold serveDomains
  repeat' (first
    | (with_reducible assumption)
    | (intro u; first | (refine (fun (_ : Keep s₀ u) => ?_) ?_; clear_value u; rotate_left; dsimp -zeta only [u]; rotate_right) | clear_value u)
    | intro _ | lift_lets -underBinder | (with_reducible apply Keep.ite) | (with_reducible apply Keep.foldl) | split
    | (with_reducible refine Keep.mk' ?_ rfl rfl rfl) | dsimp -zeta only)

theorem switchOn_keep (s : State) (lo : Word) (hi : Word) (hss : Keep s₀ s) : Keep s₀ (switchOn s lo hi) := by
  unfold switchOn
  repeat' (first
    | (with_reducible assumption)
    | (intro u; first | (refine (fun (_ : Keep s₀ u) => ?_) ?_; clear_value u; rotate_left; dsimp -zeta only [u]; rotate_right) | clear_value u)
    | intro _ | lift_lets -underBinder | (with_reducible apply Keep.ite) | (with_reducible apply Keep.foldl)
    | (with_reducible apply serveDomains_keep) | (with_reducible apply setReg_keep) | split
    | (with_reducible refine Keep.mk' ?_ rfl rfl rfl) | dsimp -zeta only)

theorem bootPatch_keep (s : State) (hss : Keep s₀ s) : Keep s₀ (bootPatch s) := by
  unfold bootPatch
  repeat' (first
    | (with_reducible assumption)
    | (intro u; first | (refine (fun (_ : Keep s₀ u) => ?_) ?_; clear_value u; rotate_left; dsimp -zeta only [u]; rotate_right) | clear_value u)
    | intro _ | lift_lets -underBinder | (with_reducible apply Keep.ite) | (with_reducible apply Keep.foldl)
    | (with_reducible apply alert_keep) | (with_reducible apply switchOn_keep) | (with_reducible apply toStage_keep)
    | split | (with_reducible refine Keep.mk' ?_ rfl rfl rfl) | dsimp -zeta only)

theorem startEnable_keep (s : State) (page : Nat) (hss : Keep s₀ s) : Keep s₀ (startEnable s page) := by
  unfold startEnable
  repeat' (first
    | (with_reducible assumption)
    | (intro u; first | (refine (fun (_ : Keep s₀ u) => ?_) ?_; clear_value u; rotate_left; dsimp -zeta only [u]; rotate_right) | clear_value u)
    | intro _ | lift_lets -underBinder | (with_reducible apply Keep.ite) | (with_reducible apply Keep.foldl)
    | (with_reducible apply setPage_keep) | split | (with_reducible refine Keep.mk' ?_ rfl rfl rfl) | dsimp -zeta only)

theorem bootMemory_keep (s : State) (hss : Keep s₀ s) : Keep s₀ (bootMemory s) := by
  unfold bootMemory
  repeat' (first
    | (with_reducible assumption)
    | (intro u; first | (refine (fun (_ : Keep s₀ u) => ?_) ?_; clear_value u; rotate_left; dsimp -zeta only [u]; rotate_right) | clear_value u)
    | intro _ | lift_lets -underBinder | (with_reducible apply Keep.ite) | (with_reducible apply Keep.foldl)
    | (with_reducible apply bootFails_keep) | (with_reducible apply startEnable_keep)
    | (with_reducible apply switchOn_keep) | (with_reducible apply toStage_keep) | split
    | (with_reducible refine Keep.mk' ?_ rfl rfl rfl) | dsimp -zeta only)

theorem bootBringUp_keep (s : State) (hss : Keep s₀ s) : Keep s₀ (bootBringUp s) := by
  unfold bootBringUp
  repeat' (first
    | (with_reducible assumption)
    | (intro u; first | (refine (fun (_ : Keep s₀ u) => ?_) ?_; clear_value u; rotate_left; dsimp -zeta only [u]; rotate_right) | clear_value u)
    | intro _ | lift_lets -underBinder | (with_reducible apply Keep.ite) | (with_reducible apply Keep.foldl)
    | (with_reducible apply bootWindows_keep) | (with_reducible apply startEnable_keep)
    | (with_reducible apply toStage_keep) | split | (with_reducible refine Keep.mk' ?_ rfl rfl rfl) | dsimp -zeta only)

theorem bootProgress_keep (s : State) (hss : Keep s₀ s) : Keep s₀ (bootProgress s) := by
  unfold bootProgress
  repeat' (first
    | (with_reducible assumption)
    | (intro u; first | (refine (fun (_ : Keep s₀ u) => ?_) ?_; clear_value u; rotate_left; dsimp -zeta only [u]; rotate_right) | clear_value u)
    | intro _ | lift_lets -underBinder | (with_reducible apply Keep.ite) | (with_reducible apply Keep.foldl)
    | (with_reducible apply bootBringUp_keep) | (with_reducible apply bootCheck_keep)
    | (with_reducible apply bootClocks_keep) | (with_reducible apply bootMemory_keep)
    | (with_reducible apply bootPatch_keep) | split | (with_reducible refine Keep.mk' ?_ rfl rfl rfl)
    | dsimp -zeta only)

theorem proceed_keep (before : State) (after : State) (hsafter : Keep s₀ after) : Keep s₀ (proceed before after)
    := by
  unfold proceed
  repeat' (first
    | (with_reducible assumption)
    | (intro u; first | (refine (fun (_ : Keep s₀ u) => ?_) ?_; clear_value u; rotate_left; dsimp -zeta only [u]; rotate_right) | clear_value u)
    | intro _ | lift_lets -underBinder | (with_reducible apply Keep.ite) | (with_reducible apply Keep.foldl)
    | (with_reducible apply bootProgress_keep) | (with_reducible apply settleSigns_keep) | split
    | (with_reducible refine Keep.mk' ?_ rfl rfl rfl) | dsimp -zeta only)

theorem refclkPresent_keep (s : State) (hss : Keep s₀ s) : Keep s₀ (refclkPresent s) := by
  unfold refclkPresent
  repeat' (first
    | (with_reducible assumption)
    | (intro u; first | (refine (fun (_ : Keep s₀ u) => ?_) ?_; clear_value u; rotate_left; dsimp -zeta only [u]; rotate_right) | clear_value u)
    | intro _ | lift_lets -underBinder | (with_reducible apply Keep.ite) | (with_reducible apply Keep.foldl)
    | (with_reducible apply alert_keep) | (with_reducible apply toStage_keep) | split
    | (with_reducible refine Keep.mk' ?_ rfl rfl rfl) | dsimp -zeta only)

theorem resetBlock_keep (s : State) (page : Nat) (hss : Keep s₀ s) : Keep s₀ (resetBlock s page) := by
  unfold resetBlock
  repeat' (first
    | (with_reducible assumption)
    | (intro u; first | (refine (fun (_ : Keep s₀ u) => ?_) ?_; clear_value u; rotate_left; dsimp -zeta only [u]; rotate_right) | clear_value u)
    | intro _ | lift_lets -underBinder | (with_reducible apply Keep.ite) | (with_reducible apply Keep.foldl)
    | (with_reducible apply resetLink_keep) | (with_reducible apply setChan_keep)
    | (with_reducible apply updateSvp_keep) | split | (with_reducible refine Keep.mk' ?_ rfl rfl rfl)
    | dsimp -zeta only)

theorem pageComesOn_keep (s : State) (page : Nat) (hss : Keep s₀ s) : Keep s₀ (pageComesOn s page) := by
  unfold pageComesOn
  repeat' (first
    | (with_reducible assumption)
    | (intro u; first | (refine (fun (_ : Keep s₀ u) => ?_) ?_; clear_value u; rotate_left; dsimp -zeta only [u]; rotate_right) | clear_value u)
    | intro _ | lift_lets -underBinder | (with_reducible apply Keep.ite) | (with_reducible apply Keep.foldl)
    | (with_reducible apply resetBlock_keep) | (with_reducible apply setPage_keep) | split
    | (with_reducible refine Keep.mk' ?_ rfl rfl rfl) | dsimp -zeta only)

theorem domainDone_keep (s : State) (d : Nat) (hss : Keep s₀ s) : Keep s₀ (domainDone s d) := by
  unfold domainDone
  repeat' (first
    | (with_reducible assumption)
    | (intro u; first | (refine (fun (_ : Keep s₀ u) => ?_) ?_; clear_value u; rotate_left; dsimp -zeta only [u]; rotate_right) | clear_value u)
    | intro _ | lift_lets -underBinder | (with_reducible apply Keep.ite) | (with_reducible apply Keep.foldl)
    | (with_reducible apply pageComesOn_keep) | (with_reducible apply serveDomains_keep) | split
    | (with_reducible refine Keep.mk' ?_ rfl rfl rfl) | dsimp -zeta only)

theorem resetAll_keep (s : State) (hs : Keep s₀ s) : Keep s₀ (resetAll s) :=
  hs.trans ⟨rfl, fun _ => rfl, id⟩

theorem withOutcomes_keep (s : State) (b : BootInputs) (hss : Keep s₀ s) : Keep s₀ (withOutcomes s b) := by
  unfold withOutcomes
  repeat' (first
    | (with_reducible assumption)
    | (intro u; first | (refine (fun (_ : Keep s₀ u) => ?_) ?_; clear_value u; rotate_left; dsimp -zeta only [u]; rotate_right) | clear_value u)
    | intro _ | lift_lets -underBinder | (with_reducible apply Keep.ite) | (with_reducible apply Keep.foldl) | split
    | (with_reducible refine Keep.mk' ?_ rfl rfl rfl) | dsimp -zeta only)

theorem powerOnReset_keep (s : State) (b : BootInputs) (hss : Keep s₀ s) : Keep s₀ (powerOnReset s b) := by
  unfold powerOnReset
  repeat' (first
    | (with_reducible assumption)
    | (intro u; first | (refine (fun (_ : Keep s₀ u) => ?_) ?_; clear_value u; rotate_left; dsimp -zeta only [u]; rotate_right) | clear_value u)
    | intro _ | lift_lets -underBinder | (with_reducible apply Keep.ite) | (with_reducible apply Keep.foldl)
    | (with_reducible apply notePin_keep) | (with_reducible apply resetAll_keep) | (with_reducible apply resetPins_keep)
    | (with_reducible apply setReg_keep) | (with_reducible apply withOutcomes_keep) | split
    | (with_reducible refine Keep.mk' ?_ rfl rfl rfl) | dsimp -zeta only)

theorem deviceReset_keep (s : State) (b : BootInputs) (hss : Keep s₀ s) : Keep s₀ (deviceReset s b) := by
  unfold deviceReset
  repeat' (first
    | (with_reducible assumption)
    | (intro u; first | (refine (fun (_ : Keep s₀ u) => ?_) ?_; clear_value u; rotate_left; dsimp -zeta only [u]; rotate_right) | clear_value u)
    | intro _ | lift_lets -underBinder | (with_reducible apply Keep.ite) | (with_reducible apply Keep.foldl)
    | (with_reducible apply proceed_keep) | (with_reducible apply resetAll_keep) | (with_reducible apply resetPins_keep)
    | (with_reducible apply setReg_keep) | (with_reducible apply toStage_keep)
    | (with_reducible apply withOutcomes_keep) | split | (with_reducible refine Keep.mk' ?_ rfl rfl rfl)
    | dsimp -zeta only)

theorem bootCtrlEffect_keep (req : Nat) (b : BootInputs) (x2 : State) (after : State) (hsafter : Keep s₀ after) :
    Keep s₀ (bootCtrlEffect req b x2 after) := by
  unfold bootCtrlEffect
  repeat' (first
    | (with_reducible assumption)
    | (intro u; first | (refine (fun (_ : Keep s₀ u) => ?_) ?_; clear_value u; rotate_left; dsimp -zeta only [u]; rotate_right) | clear_value u)
    | intro _ | lift_lets -underBinder | (with_reducible apply Keep.ite) | (with_reducible apply Keep.foldl)
    | (with_reducible apply deviceReset_keep) | (with_reducible apply setField_keep) | split
    | (with_reducible refine Keep.mk' ?_ rfl rfl rfl) | dsimp -zeta only)

theorem domainEffect_keep (off : Nat) (base : Nat) (before : State) (after : State) (hsafter : Keep s₀ after) :
    Keep s₀ (domainEffect off base before after) := by
  unfold domainEffect
  repeat' (first
    | (with_reducible assumption)
    | (intro u; first | (refine (fun (_ : Keep s₀ u) => ?_) ?_; clear_value u; rotate_left; dsimp -zeta only [u]; rotate_right) | clear_value u)
    | intro _ | lift_lets -underBinder | (with_reducible apply Keep.ite) | (with_reducible apply Keep.foldl)
    | (with_reducible apply refuseOff_keep) | (with_reducible apply serveDomains_keep) | split
    | (with_reducible refine Keep.mk' ?_ rfl rfl rfl) | dsimp -zeta only)

theorem writeDomains_keep (s : State) (req : Nat) (high : Bool) (v : Word) (hss : Keep s₀ s) : Keep s₀
    (writeDomains s req high v) := by
  unfold writeDomains
  repeat' (first
    | (with_reducible assumption)
    | (intro u; first | (refine (fun (_ : Keep s₀ u) => ?_) ?_; clear_value u; rotate_left; dsimp -zeta only [u]; rotate_right) | clear_value u)
    | intro _ | lift_lets -underBinder | (with_reducible apply Keep.ite) | (with_reducible apply Keep.foldl)
    | (with_reducible apply domainEffect_keep) | (with_reducible apply writeBlock_keep) | split
    | (with_reducible refine Keep.mk' ?_ rfl rfl rfl) | dsimp -zeta only)

theorem freeConn_keep (s : State) (n : Nat) (hss : Keep s₀ s) : Keep s₀ (freeConn s n) := by
  unfold freeConn
  repeat' (first
    | (with_reducible assumption)
    | (intro u; first | (refine (fun (_ : Keep s₀ u) => ?_) ?_; clear_value u; rotate_left; dsimp -zeta only [u]; rotate_right) | clear_value u)
    | intro _ | lift_lets -underBinder | (with_reducible apply Keep.ite) | (with_reducible apply Keep.foldl)
    | (with_reducible apply revoke_keep) | (with_reducible apply setConn_keep) | split
    | (with_reducible refine Keep.mk' ?_ rfl rfl rfl) | dsimp -zeta only)

theorem mramRefuses_keep (s : State) (req : Nat) (off : Nat) (hss : Keep s₀ s) : Keep s₀ (mramRefuses s req off)
    := by
  unfold mramRefuses
  repeat' (first
    | (with_reducible assumption)
    | (intro u; first | (refine (fun (_ : Keep s₀ u) => ?_) ?_; clear_value u; rotate_left; dsimp -zeta only [u]; rotate_right) | clear_value u)
    | intro _ | lift_lets -underBinder | (with_reducible apply Keep.ite) | (with_reducible apply Keep.foldl)
    | (with_reducible apply alert_keep) | (with_reducible apply bump_keep) | (with_reducible apply logError_keep)
    | split | (with_reducible refine Keep.mk' ?_ rfl rfl rfl) | dsimp -zeta only)

theorem keyLockTaken_keep (req : Nat) (s : State) (hss : Keep s₀ s) : Keep s₀ (keyLockTaken req s) := by
  unfold keyLockTaken
  repeat' (first
    | (with_reducible assumption)
    | (intro u; first | (refine (fun (_ : Keep s₀ u) => ?_) ?_; clear_value u; rotate_left; dsimp -zeta only [u]; rotate_right) | clear_value u)
    | intro _ | lift_lets -underBinder | (with_reducible apply Keep.ite) | (with_reducible apply Keep.foldl) | split
    | (with_reducible refine Keep.mk' ?_ rfl rfl rfl) | dsimp -zeta only)

theorem setLatch_keep (s : State) (page : Nat) (req : Nat) (h : HalfLatch) (hss : Keep s₀ s) : Keep s₀ (setLatch s
    page req h) := by
  unfold setLatch
  repeat' (first
    | (with_reducible assumption)
    | (intro u; first | (refine (fun (_ : Keep s₀ u) => ?_) ?_; clear_value u; rotate_left; dsimp -zeta only [u]; rotate_right) | clear_value u)
    | intro _ | lift_lets -underBinder | (with_reducible apply Keep.ite) | (with_reducible apply Keep.foldl)
    | (with_reducible apply setPage_keep) | split | (with_reducible refine Keep.mk' ?_ rfl rfl rfl) | dsimp -zeta only)

theorem headerReadEffect_keep (req : Nat) (page : Nat) (off : Nat) (s : State) (hss : Keep s₀ s) : Keep s₀
    (headerReadEffect req page off s) := by
  unfold headerReadEffect
  repeat' (first
    | (with_reducible assumption)
    | (intro u; first | (refine (fun (_ : Keep s₀ u) => ?_) ?_; clear_value u; rotate_left; dsimp -zeta only [u]; rotate_right) | clear_value u)
    | intro _ | lift_lets -underBinder | (with_reducible apply Keep.ite) | (with_reducible apply Keep.foldl)
    | (with_reducible apply setLatch_keep) | split | (with_reducible refine Keep.mk' ?_ rfl rfl rfl) | dsimp -zeta only)

theorem readHeader_keep (s : State) (req : Nat) (page : Nat) (off : Nat) (hss : Keep s₀ s) : Keep s₀ (readHeader s
    req page off) := by
  unfold readHeader
  repeat' (first
    | (with_reducible assumption)
    | (intro u; first | (refine (fun (_ : Keep s₀ u) => ?_) ?_; clear_value u; rotate_left; dsimp -zeta only [u]; rotate_right) | clear_value u)
    | intro _ | lift_lets -underBinder | (with_reducible apply Keep.ite) | (with_reducible apply Keep.foldl)
    | (with_reducible apply headerReadEffect_keep) | (with_reducible apply readWith_keep) | split
    | (with_reducible refine Keep.mk' ?_ rfl rfl rfl) | dsimp -zeta only)

theorem rngTaken_keep (s : State) (hss : Keep s₀ s) : Keep s₀ (rngTaken s) := by
  unfold rngTaken
  repeat' (first
    | (with_reducible assumption)
    | (intro u; first | (refine (fun (_ : Keep s₀ u) => ?_) ?_; clear_value u; rotate_left; dsimp -zeta only [u]; rotate_right) | (refine (fun (_ : Keep s₀ u.2) => ?_) ?_; clear_value u; rotate_left; dsimp -zeta only [u]; rotate_right) | (refine (fun (_ : Keep s₀ u.2.2) => ?_) ?_; clear_value u; rotate_left; dsimp -zeta only [u]; rotate_right) | clear_value u)
    | intro _ | lift_lets -underBinder | (with_reducible apply Keep.ite) | (with_reducible apply Keep.foldl)
    | (with_reducible apply draw_keep) | (refine draw_keep_eq ?_ (by with_reducible assumption)) | split
    | (with_reducible refine Keep.mk' ?_ rfl rfl rfl) | dsimp -zeta only)

theorem readPage_keep (s : State) (req page off : Nat) (hs : Keep s₀ s) : Keep s₀ (readPage s req page off) := by
  unfold readPage
  split
  · exact readHeader_keep _ _ _ _ hs
  · split
    · exact readTimeReg_keep _ _ _ hs
    · exact readWith_keep _ _ _ _ _ _ (fun _ h => swcReadEffect_keep _ _ h) hs
    · split
      · exact readWith_keep _ _ _ _ _ _ (fun _ h => keyLockTaken_keep _ _ h) hs
      · exact readWith_keep _ _ _ _ _ _ (fun _ h => h) hs
    · split
      · exact readWith_keep _ _ _ _ _ _ (fun _ h => rngTaken_keep _ h) hs
      · exact readWith_keep _ _ _ _ _ _ (fun _ h => h) hs
    · split
      · exact readWith_keep _ _ _ _ _ _ (fun _ h => snapAdvance_keep _ h) hs
      · exact readWith_keep _ _ _ _ _ _ (fun _ h => h) hs
    · exact readWith_keep _ _ _ _ _ _ (fun _ h => h) hs

theorem busRead_keep (s : State) (req : Nat) (addr : Nat) (hss : Keep s₀ s) : Keep s₀ (busRead s req addr) := by
  unfold busRead
  repeat' (first
    | (with_reducible assumption)
    | (intro u; first | (refine (fun (_ : Keep s₀ u) => ?_) ?_; clear_value u; rotate_left; dsimp -zeta only [u]; rotate_right) | clear_value u)
    | intro _ | lift_lets -underBinder | (with_reducible apply Keep.ite) | (with_reducible apply Keep.foldl)
    | (with_reducible apply badAccess_keep) | (with_reducible apply decodeError_keep) | (with_reducible apply emit_keep)
    | (with_reducible apply readPage_keep) | split | (with_reducible refine Keep.mk' ?_ rfl rfl rfl) | dsimp -zeta only)

theorem dmaRegReads_keep (s : State) (req a stepBy n : Nat) (hs : Keep s₀ s) :
    Keep s₀ (dmaRegReads s req a stepBy n).2 := by
  induction n generalizing s a with
  | zero => exact hs
  | succ n ih =>
    rw [dmaRegReads]
    split
    · exact busRead_keep _ _ _ hs
    · exact ih _ _ (busRead_keep _ _ _ hs)
theorem dmaRegReads_keep_eq {s : State} {req a stepBy n : Nat} {e0 : Option (List Byte)} {t : State} (hs : Keep s₀ s)
    (e : dmaRegReads s req a stepBy n = (e0, t)) : Keep s₀ t := by
  have := dmaRegReads_keep s req a stepBy n hs
  rw [e] at this
  exact this

theorem resumeDma_keep (s : State) (n : Nat) (hss : Keep s₀ s) : Keep s₀ (resumeDma s n) := by
  unfold resumeDma
  repeat' (first
    | (with_reducible assumption)
    | (intro u; first | (refine (fun (_ : Keep s₀ u) => ?_) ?_; clear_value u; rotate_left; dsimp -zeta only [u]; rotate_right) | clear_value u)
    | intro _ | lift_lets -underBinder | (with_reducible apply Keep.ite) | (with_reducible apply Keep.foldl) | split
    | (with_reducible refine Keep.mk' ?_ rfl rfl rfl) | dsimp -zeta only)

theorem dmaEffect_keep (n : Nat) (off : Nat) (x2 : State) (after : State) (hsafter : Keep s₀ after) : Keep s₀
    (dmaEffect n off x2 after) := by
  unfold dmaEffect
  repeat' (first
    | (with_reducible assumption)
    | (intro u; first | (refine (fun (_ : Keep s₀ u) => ?_) ?_; clear_value u; rotate_left; dsimp -zeta only [u]; rotate_right) | clear_value u)
    | intro _ | lift_lets -underBinder | (with_reducible apply Keep.ite) | (with_reducible apply Keep.foldl)
    | (with_reducible apply resumeDma_keep) | (with_reducible apply setReg_keep) | split
    | (with_reducible refine Keep.mk' ?_ rfl rfl rfl) | dsimp -zeta only)

theorem loadSlot_keep (s : State) (n : Nat) (key : Nat) (hss : Keep s₀ s) : Keep s₀ (loadSlot s n key) := by
  unfold loadSlot
  repeat' (first
    | (with_reducible assumption)
    | (intro u; first | (refine (fun (_ : Keep s₀ u) => ?_) ?_; clear_value u; rotate_left; dsimp -zeta only [u]; rotate_right) | clear_value u)
    | intro _ | lift_lets -underBinder | (with_reducible apply Keep.ite) | (with_reducible apply Keep.foldl)
    | (with_reducible apply bump_keep) | split | (with_reducible refine Keep.mk' ?_ rfl rfl rfl) | dsimp -zeta only)

theorem loadNamespace_keep (s : State) (n : Nat) (hss : Keep s₀ s) : Keep s₀ (loadNamespace s n) := by
  unfold loadNamespace
  repeat' (first
    | (with_reducible assumption)
    | (intro u; first | (refine (fun (_ : Keep s₀ u) => ?_) ?_; clear_value u; rotate_left; dsimp -zeta only [u]; rotate_right) | clear_value u)
    | intro _ | lift_lets -underBinder | (with_reducible apply Keep.ite) | (with_reducible apply Keep.foldl)
    | (with_reducible apply alert_keep) | (with_reducible apply enterNs_keep) | (with_reducible apply loadSlot_keep)
    | split | (with_reducible refine Keep.mk' ?_ rfl rfl rfl) | dsimp -zeta only)

theorem createNamespace_keep (s : State) (a : NsAttr) (hss : Keep s₀ s) : Keep s₀ (createNamespace s a) := by
  unfold createNamespace
  repeat' (first
    | (with_reducible assumption)
    | (intro u; first | (refine (fun (_ : Keep s₀ u) => ?_) ?_; clear_value u; rotate_left; dsimp -zeta only [u]; rotate_right) | (refine (fun (_ : Keep s₀ u.2) => ?_) ?_; clear_value u; rotate_left; dsimp -zeta only [u]; rotate_right) | (refine (fun (_ : Keep s₀ u.2.2) => ?_) ?_; clear_value u; rotate_left; dsimp -zeta only [u]; rotate_right) | clear_value u)
    | intro _ | lift_lets -underBinder | (with_reducible apply Keep.ite) | (with_reducible apply Keep.foldl)
    | (with_reducible apply draw_keep) | (refine draw_keep_eq ?_ (by with_reducible assumption))
    | (with_reducible apply journal_keep) | (with_reducible apply loadNamespace_keep) | split
    | (with_reducible refine Keep.mk' ?_ rfl rfl rfl) | dsimp -zeta only)

theorem nsCreateRequest_keep (r : SecReq) (a : NsAttr) (s : State) (hss : Keep s₀ s) : Keep.Opt s₀
    (nsCreateRequest r a s) := by
  unfold nsCreateRequest
  repeat' (first
    | (with_reducible assumption)
    | (intro u; first | (refine (fun (_ : Keep s₀ u) => ?_) ?_; clear_value u; rotate_left; dsimp -zeta only [u]; rotate_right) | clear_value u)
    | intro _ | lift_lets -underBinder | (with_reducible apply Keep.ite) | (with_reducible exact Keep.opt_none)
    | (with_reducible apply Keep.opt_some) | (with_reducible apply Keep.opt_ite) | (with_reducible apply Keep.foldl)
    | (with_reducible apply createNamespace_keep) | (with_reducible apply serveSigned_keep)
    | (refine serveSigned_keep_eq ?_ (by with_reducible assumption)) | (with_reducible exact Keep.ans_waits)
    | (with_reducible apply Keep.ans_running) | (with_reducible apply Keep.ans_done)
    | (with_reducible apply Keep.ans_ite) | split | (with_reducible refine Keep.mk' ?_ rfl rfl rfl) | dsimp -zeta only)
theorem nsCreateRequest_keep_eq {r : SecReq} {a : NsAttr} {s : State} {t : State} (hss : Keep s₀ s) (e :
    nsCreateRequest r a s = some t) : Keep s₀ t :=
  (nsCreateRequest_keep r a s hss).use t e

theorem retireNamespace_keep (s : State) (n : Nat) (hss : Keep s₀ s) : Keep s₀ (retireNamespace s n) := by
  unfold retireNamespace
  repeat' (first
    | (with_reducible assumption)
    | (intro u; first | (refine (fun (_ : Keep s₀ u) => ?_) ?_; clear_value u; rotate_left; dsimp -zeta only [u]; rotate_right) | (refine (fun (_ : Keep s₀ u.2) => ?_) ?_; clear_value u; rotate_left; dsimp -zeta only [u]; rotate_right) | (refine (fun (_ : Keep s₀ u.2.2) => ?_) ?_; clear_value u; rotate_left; dsimp -zeta only [u]; rotate_right) | clear_value u)
    | intro _ | lift_lets -underBinder | (with_reducible apply Keep.ite) | (with_reducible apply Keep.foldl)
    | (with_reducible apply dispatchJobs_keep) | (with_reducible apply dropJobs_keep)
    | (refine dropJobs_keep_eq ?_ (by with_reducible assumption)) | (with_reducible apply enterNs_keep)
    | (with_reducible apply haltCommand_keep) | (with_reducible apply journal_keep) | split
    | (with_reducible refine Keep.mk' ?_ rfl rfl rfl) | dsimp -zeta only)

theorem nsRetireRequest_keep (r : SecReq) (n : Nat) (s : State) (hss : Keep s₀ s) : Keep.Opt s₀ (nsRetireRequest r
    n s) := by
  unfold nsRetireRequest
  repeat' (first
    | (with_reducible assumption)
    | (intro u; first | (refine (fun (_ : Keep s₀ u) => ?_) ?_; clear_value u; rotate_left; dsimp -zeta only [u]; rotate_right) | clear_value u)
    | intro _ | lift_lets -underBinder | (with_reducible apply Keep.ite) | (with_reducible exact Keep.opt_none)
    | (with_reducible apply Keep.opt_some) | (with_reducible apply Keep.opt_ite) | (with_reducible apply Keep.foldl)
    | (with_reducible apply retireNamespace_keep) | (with_reducible apply serveSigned_keep)
    | (refine serveSigned_keep_eq ?_ (by with_reducible assumption)) | (with_reducible exact Keep.ans_waits)
    | (with_reducible apply Keep.ans_running) | (with_reducible apply Keep.ans_done)
    | (with_reducible apply Keep.ans_ite) | split | (with_reducible refine Keep.mk' ?_ rfl rfl rfl) | dsimp -zeta only)
theorem nsRetireRequest_keep_eq {r : SecReq} {n : Nat} {s : State} {t : State} (hss : Keep s₀ s) (e :
    nsRetireRequest r n s = some t) : Keep s₀ t :=
  (nsRetireRequest_keep r n s hss).use t e

theorem nsUnlockRequest_keep (r : SecReq) (n : Nat) (s : State) (hss : Keep s₀ s) : Keep.Opt s₀ (nsUnlockRequest r
    n s) := by
  unfold nsUnlockRequest
  repeat' (first
    | (with_reducible assumption)
    | (intro u; first | (refine (fun (_ : Keep s₀ u) => ?_) ?_; clear_value u; rotate_left; dsimp -zeta only [u]; rotate_right) | clear_value u)
    | intro _ | lift_lets -underBinder | (with_reducible apply Keep.ite) | (with_reducible exact Keep.opt_none)
    | (with_reducible apply Keep.opt_some) | (with_reducible apply Keep.opt_ite) | (with_reducible apply Keep.foldl)
    | (with_reducible apply loadNamespace_keep) | (with_reducible apply serveSigned_keep)
    | (refine serveSigned_keep_eq ?_ (by with_reducible assumption)) | (with_reducible exact Keep.ans_waits)
    | (with_reducible apply Keep.ans_running) | (with_reducible apply Keep.ans_done)
    | (with_reducible apply Keep.ans_ite) | split | (with_reducible refine Keep.mk' ?_ rfl rfl rfl) | dsimp -zeta only)
theorem nsUnlockRequest_keep_eq {r : SecReq} {n : Nat} {s : State} {t : State} (hss : Keep s₀ s) (e :
    nsUnlockRequest r n s = some t) : Keep s₀ t :=
  (nsUnlockRequest_keep r n s hss).use t e

theorem pageUnlockRequest_keep (r : SecReq) (page : Nat) (s : State) (hss : Keep s₀ s) : Keep.Opt s₀
    (pageUnlockRequest r page s) := by
  unfold pageUnlockRequest
  repeat' (first
    | (with_reducible assumption)
    | (intro u; first | (refine (fun (_ : Keep s₀ u) => ?_) ?_; clear_value u; rotate_left; dsimp -zeta only [u]; rotate_right) | clear_value u)
    | intro _ | lift_lets -underBinder | (with_reducible apply Keep.ite) | (with_reducible exact Keep.opt_none)
    | (with_reducible apply Keep.opt_some) | (with_reducible apply Keep.opt_ite) | (with_reducible apply Keep.foldl)
    | (with_reducible apply serveSigned_keep) | (refine serveSigned_keep_eq ?_ (by with_reducible assumption))
    | (with_reducible apply setPage_keep) | (with_reducible exact Keep.ans_waits)
    | (with_reducible apply Keep.ans_running) | (with_reducible apply Keep.ans_done)
    | (with_reducible apply Keep.ans_ite) | split | (with_reducible refine Keep.mk' ?_ rfl rfl rfl) | dsimp -zeta only)
theorem pageUnlockRequest_keep_eq {r : SecReq} {page : Nat} {s : State} {t : State} (hss : Keep s₀ s) (e :
    pageUnlockRequest r page s = some t) : Keep s₀ t :=
  (pageUnlockRequest_keep r page s hss).use t e

theorem patchActivateRequest_keep (r : SecReq) (level : Nat) (s : State) (hss : Keep s₀ s) : Keep.Opt s₀
    (patchActivateRequest r level s) := by
  unfold patchActivateRequest
  repeat' (first
    | (with_reducible assumption)
    | (intro u; first | (refine (fun (_ : Keep s₀ u) => ?_) ?_; clear_value u; rotate_left; dsimp -zeta only [u]; rotate_right) | clear_value u)
    | intro _ | lift_lets -underBinder | (with_reducible apply Keep.ite) | (with_reducible exact Keep.opt_none)
    | (with_reducible apply Keep.opt_some) | (with_reducible apply Keep.opt_ite) | (with_reducible apply Keep.foldl)
    | (with_reducible apply serveSigned_keep) | (refine serveSigned_keep_eq ?_ (by with_reducible assumption))
    | (with_reducible exact Keep.ans_waits) | (with_reducible apply Keep.ans_running)
    | (with_reducible apply Keep.ans_done) | (with_reducible apply Keep.ans_ite) | split
    | (with_reducible refine Keep.mk' ?_ rfl rfl rfl) | dsimp -zeta only)
theorem patchActivateRequest_keep_eq {r : SecReq} {level : Nat} {s : State} {t : State} (hss : Keep s₀ s) (e :
    patchActivateRequest r level s = some t) : Keep s₀ t :=
  (patchActivateRequest_keep r level s hss).use t e

theorem patchStageRequest_keep (r : SecReq) (p : PatchSet) (s : State) (hss : Keep s₀ s) : Keep.Opt s₀
    (patchStageRequest r p s) := by
  unfold patchStageRequest
  repeat' (first
    | (with_reducible assumption)
    | (intro u; first | (refine (fun (_ : Keep s₀ u) => ?_) ?_; clear_value u; rotate_left; dsimp -zeta only [u]; rotate_right) | clear_value u)
    | intro _ | lift_lets -underBinder | (with_reducible apply Keep.ite) | (with_reducible exact Keep.opt_none)
    | (with_reducible apply Keep.opt_some) | (with_reducible apply Keep.opt_ite) | (with_reducible apply Keep.foldl)
    | (with_reducible apply mramWritten_keep) | (with_reducible apply serveSigned_keep)
    | (refine serveSigned_keep_eq ?_ (by with_reducible assumption)) | (with_reducible exact Keep.ans_waits)
    | (with_reducible apply Keep.ans_running) | (with_reducible apply Keep.ans_done)
    | (with_reducible apply Keep.ans_ite) | split | (with_reducible refine Keep.mk' ?_ rfl rfl rfl) | dsimp -zeta only)
theorem patchStageRequest_keep_eq {r : SecReq} {p : PatchSet} {s : State} {t : State} (hss : Keep s₀ s) (e :
    patchStageRequest r p s = some t) : Keep s₀ t :=
  (patchStageRequest_keep r p s hss).use t e

theorem recoverKeys_keep (s : State) (hss : Keep s₀ s) : Keep s₀ (recoverKeys s) := by
  unfold recoverKeys
  repeat' (first
    | (with_reducible assumption)
    | (intro u; first | (refine (fun (_ : Keep s₀ u) => ?_) ?_; clear_value u; rotate_left; dsimp -zeta only [u]; rotate_right) | clear_value u)
    | intro _ | lift_lets -underBinder | (with_reducible apply Keep.ite) | (with_reducible apply Keep.foldl)
    | (with_reducible apply dispatchJobs_keep) | (with_reducible apply loadNamespace_keep) | split
    | (with_reducible refine Keep.mk' ?_ rfl rfl rfl) | dsimp -zeta only)

theorem recoverRequest_keep (r : SecReq) (s : State) (hss : Keep s₀ s) : Keep.Opt s₀ (recoverRequest r s) := by
  unfold recoverRequest
  repeat' (first
    | (with_reducible assumption)
    | (intro u; first | (refine (fun (_ : Keep s₀ u) => ?_) ?_; clear_value u; rotate_left; dsimp -zeta only [u]; rotate_right) | clear_value u)
    | intro _ | lift_lets -underBinder | (with_reducible apply Keep.ite) | (with_reducible exact Keep.opt_none)
    | (with_reducible apply Keep.opt_some) | (with_reducible apply Keep.opt_ite) | (with_reducible apply Keep.foldl)
    | (with_reducible apply present_keep) | (with_reducible apply recoverKeys_keep)
    | (with_reducible apply serveSigned_keep) | (refine serveSigned_keep_eq ?_ (by with_reducible assumption))
    | (with_reducible exact Keep.ans_waits) | (with_reducible apply Keep.ans_running)
    | (with_reducible apply Keep.ans_done) | (with_reducible apply Keep.ans_ite) | split
    | (with_reducible refine Keep.mk' ?_ rfl rfl rfl) | dsimp -zeta only)
theorem recoverRequest_keep_eq {r : SecReq} {s : State} {t : State} (hss : Keep s₀ s) (e : recoverRequest r s =
    some t) : Keep s₀ t :=
  (recoverRequest_keep r s hss).use t e

theorem serveEntry_keep (i : Instr) (s : State) (hss : Keep s₀ s) : Keep.Opt s₀ (serveEntry i s) := by
  unfold serveEntry
  repeat' (first
    | (with_reducible assumption)
    | (intro u; first | (refine (fun (_ : Keep s₀ u) => ?_) ?_; clear_value u; rotate_left; dsimp -zeta only [u]; rotate_right) | clear_value u)
    | intro _ | lift_lets -underBinder | (with_reducible apply Keep.ite) | (with_reducible exact Keep.opt_none)
    | (with_reducible apply Keep.opt_some) | (with_reducible apply Keep.opt_ite) | (with_reducible apply Keep.foldl)
    | (with_reducible apply bindOwnerRequest_keep) | (refine bindOwnerRequest_keep_eq ?_ (by with_reducible assumption))
    | (with_reducible apply denyAddRequest_keep) | (refine denyAddRequest_keep_eq ?_ (by with_reducible assumption))
    | (with_reducible apply denyRemoveRequest_keep)
    | (refine denyRemoveRequest_keep_eq ?_ (by with_reducible assumption)) | (with_reducible apply identityRequest_keep)
    | (refine identityRequest_keep_eq ?_ (by with_reducible assumption)) | (with_reducible apply nsCreateRequest_keep)
    | (refine nsCreateRequest_keep_eq ?_ (by with_reducible assumption)) | (with_reducible apply nsRetireRequest_keep)
    | (refine nsRetireRequest_keep_eq ?_ (by with_reducible assumption)) | (with_reducible apply nsSetRequest_keep)
    | (refine nsSetRequest_keep_eq ?_ (by with_reducible assumption)) | (with_reducible apply nsUnlockRequest_keep)
    | (refine nsUnlockRequest_keep_eq ?_ (by with_reducible assumption)) | (with_reducible apply orderedAddRequest_keep)
    | (refine orderedAddRequest_keep_eq ?_ (by with_reducible assumption))
    | (with_reducible apply orderedRemoveRequest_keep)
    | (refine orderedRemoveRequest_keep_eq ?_ (by with_reducible assumption))
    | (with_reducible apply pageUnlockRequest_keep)
    | (refine pageUnlockRequest_keep_eq ?_ (by with_reducible assumption)) | (with_reducible apply pairBindRequest_keep)
    | (refine pairBindRequest_keep_eq ?_ (by with_reducible assumption))
    | (with_reducible apply patchActivateRequest_keep)
    | (refine patchActivateRequest_keep_eq ?_ (by with_reducible assumption))
    | (with_reducible apply patchStageRequest_keep)
    | (refine patchStageRequest_keep_eq ?_ (by with_reducible assumption)) | (with_reducible apply recoverRequest_keep)
    | (refine recoverRequest_keep_eq ?_ (by with_reducible assumption)) | (with_reducible apply tvkRemoveRequest_keep)
    | (refine tvkRemoveRequest_keep_eq ?_ (by with_reducible assumption)) | (with_reducible apply tvkSetRequest_keep)
    | (refine tvkSetRequest_keep_eq ?_ (by with_reducible assumption)) | split
    | (with_reducible refine Keep.mk' ?_ rfl rfl rfl) | dsimp -zeta only)
theorem serveEntry_keep_eq {i : Instr} {s : State} {t : State} (hss : Keep s₀ s) (e : serveEntry i s = some t) :
    Keep s₀ t :=
  (serveEntry_keep i s hss).use t e

theorem pumpRing_keep (z0 : Nat) (z1 : State) (hsz1 : Keep s₀ z1) : Keep s₀ (pumpRing z0 z1) := by
  induction z0 generalizing z1 with
  | zero =>
    rw [pumpRing]
    repeat' (first
      | (with_reducible assumption)
      | (intro u; first | (refine (fun (_ : Keep s₀ u) => ?_) ?_; clear_value u; rotate_left; dsimp -zeta only [u]; rotate_right) | (refine (fun (_ : Keep.Opt s₀ u) => ?_) ?_; clear_value u; rotate_left; dsimp -zeta only [u]; rotate_right) | clear_value u)
      | intro _ | lift_lets -underBinder | (with_reducible apply Keep.ite) | (with_reducible apply Keep.foldl)
      | (with_reducible apply serveEntry_keep) | (refine serveEntry_keep_eq ?_ (by with_reducible assumption))
      | (with_reducible exact Keep.opt_none) | (with_reducible apply Keep.opt_some) | (with_reducible apply Keep.opt_ite)
      | (exact Keep.opt_use (by with_reducible assumption) (by with_reducible assumption))
      | (exact Keep.opt_use (by with_reducible assumption) rfl) | split | (with_reducible refine Keep.mk' ?_ rfl rfl rfl)
      | dsimp -zeta only)
  | succ z0 ih =>
    rw [pumpRing]
    repeat' (first
      | (with_reducible apply ih) | (with_reducible assumption)
      | (intro u; first | (refine (fun (_ : Keep s₀ u) => ?_) ?_; clear_value u; rotate_left; dsimp -zeta only [u]; rotate_right) | (refine (fun (_ : Keep.Opt s₀ u) => ?_) ?_; clear_value u; rotate_left; dsimp -zeta only [u]; rotate_right) | clear_value u)
      | intro _ | lift_lets -underBinder | (with_reducible apply Keep.ite) | (with_reducible apply Keep.foldl)
      | (with_reducible apply serveEntry_keep) | (refine serveEntry_keep_eq ?_ (by with_reducible assumption))
      | (with_reducible exact Keep.opt_none) | (with_reducible apply Keep.opt_some) | (with_reducible apply Keep.opt_ite)
      | (exact Keep.opt_use (by with_reducible assumption) (by with_reducible assumption))
      | (exact Keep.opt_use (by with_reducible assumption) rfl) | split | (with_reducible refine Keep.mk' ?_ rfl rfl rfl)
      | dsimp -zeta only)

theorem serveRing_keep (s : State) (hss : Keep s₀ s) : Keep s₀ (serveRing s) := by
  unfold serveRing
  repeat' (first
    | (with_reducible assumption)
    | (intro u; first | (refine (fun (_ : Keep s₀ u) => ?_) ?_; clear_value u; rotate_left; dsimp -zeta only [u]; rotate_right) | clear_value u)
    | intro _ | lift_lets -underBinder | (with_reducible apply Keep.ite) | (with_reducible apply Keep.foldl)
    | (with_reducible apply pumpRing_keep) | split | (with_reducible refine Keep.mk' ?_ rfl rfl rfl) | dsimp -zeta only)

theorem bootReady_keep (s : State) (hss : Keep s₀ s) : Keep s₀ (bootReady s) := by
  unfold bootReady
  repeat' (first
    | (with_reducible assumption)
    | (intro u; first | (refine (fun (_ : Keep s₀ u) => ?_) ?_; clear_value u; rotate_left; dsimp -zeta only [u]; rotate_right) | clear_value u)
    | intro _ | lift_lets -underBinder | (with_reducible apply Keep.ite) | (with_reducible apply Keep.foldl)
    | (with_reducible apply alert_keep) | (with_reducible apply serveRing_keep) | split
    | (with_reducible refine Keep.mk' ?_ rfl rfl rfl) | dsimp -zeta only)

theorem takeKey_keep (s : State) (n : Nat) (hss : Keep s₀ s) : Keep s₀ (takeKey s n) := by
  unfold takeKey
  repeat' (first
    | (with_reducible assumption)
    | (intro u; first | (refine (fun (_ : Keep s₀ u) => ?_) ?_; clear_value u; rotate_left; dsimp -zeta only [u]; rotate_right) | clear_value u)
    | intro _ | lift_lets -underBinder | (with_reducible apply Keep.ite) | (with_reducible apply Keep.foldl)
    | (with_reducible apply enterNs_keep) | (with_reducible apply loadNamespace_keep)
    | (with_reducible apply loadSlot_keep) | split | (with_reducible refine Keep.mk' ?_ rfl rfl rfl) | dsimp -zeta only)

theorem takeKeys_keep (s : State) (hss : Keep s₀ s) : Keep s₀ (takeKeys s) := by
  unfold takeKeys
  repeat' (first
    | (with_reducible assumption)
    | (intro u; first | (refine (fun (_ : Keep s₀ u) => ?_) ?_; clear_value u; rotate_left; dsimp -zeta only [u]; rotate_right) | clear_value u)
    | intro _ | lift_lets -underBinder | (with_reducible apply Keep.ite) | (with_reducible apply Keep.foldl)
    | (with_reducible apply takeKey_keep) | split | (with_reducible refine Keep.mk' ?_ rfl rfl rfl) | dsimp -zeta only)

theorem servesAfterBoot_keep (s : State) (hss : Keep s₀ s) : Keep s₀ (servesAfterBoot s) := by
  unfold servesAfterBoot
  repeat' (first
    | (with_reducible assumption)
    | (intro u; first | (refine (fun (_ : Keep s₀ u) => ?_) ?_; clear_value u; rotate_left; dsimp -zeta only [u]; rotate_right) | clear_value u)
    | intro _ | lift_lets -underBinder | (with_reducible apply Keep.ite) | (with_reducible apply Keep.foldl)
    | (with_reducible apply adoptTables_keep) | (with_reducible apply bootReady_keep)
    | (with_reducible apply requestWake_keep) | (with_reducible apply takeKeys_keep) | split
    | (with_reducible refine Keep.mk' ?_ rfl rfl rfl) | dsimp -zeta only)

theorem servesAfterLoss_keep (s : State) (missing : List Nat) (hss : Keep s₀ s) : Keep s₀ (servesAfterLoss s
    missing) := by
  unfold servesAfterLoss
  repeat' (first
    | (with_reducible assumption)
    | (intro u; first | (refine (fun (_ : Keep s₀ u) => ?_) ?_; clear_value u; rotate_left; dsimp -zeta only [u]; rotate_right) | clear_value u)
    | intro _ | lift_lets -underBinder | (with_reducible apply Keep.ite) | (with_reducible apply Keep.foldl)
    | (with_reducible apply adoptTables_keep) | (with_reducible apply alert_keep) | (with_reducible apply bump_keep)
    | (with_reducible apply drain_keep) | (with_reducible apply membersOut_keep)
    | (with_reducible apply postNotices_keep) | (with_reducible apply takeKeys_keep) | split
    | (with_reducible refine Keep.mk' ?_ rfl rfl rfl) | dsimp -zeta only)

theorem servesInDrill_keep (s : State) (missing : List Nat) (hss : Keep s₀ s) : Keep s₀ (servesInDrill s missing)
    := by
  unfold servesInDrill
  repeat' (first
    | (with_reducible assumption)
    | (intro u; first | (refine (fun (_ : Keep s₀ u) => ?_) ?_; clear_value u; rotate_left; dsimp -zeta only [u]; rotate_right) | clear_value u)
    | intro _ | lift_lets -underBinder | (with_reducible apply Keep.ite) | (with_reducible apply Keep.foldl)
    | (with_reducible apply adoptTables_keep) | (with_reducible apply drillFails_keep)
    | (with_reducible apply drillSucceeds_keep) | (with_reducible apply postNotices_keep)
    | (with_reducible apply startHandBack_keep) | (with_reducible apply takeKeys_keep) | split
    | (with_reducible refine Keep.mk' ?_ rfl rfl rfl) | dsimp -zeta only)

theorem claimSettled_keep (s : State) (missing : List Nat) (hss : Keep s₀ s) : Keep s₀ (claimSettled s missing) :=
    by
  unfold claimSettled
  repeat' (first
    | (with_reducible assumption)
    | (intro u; first | (refine (fun (_ : Keep s₀ u) => ?_) ?_; clear_value u; rotate_left; dsimp -zeta only [u]; rotate_right) | clear_value u)
    | intro _ | lift_lets -underBinder | (with_reducible apply Keep.ite) | (with_reducible apply Keep.foldl)
    | (with_reducible apply servesAfterBoot_keep) | (with_reducible apply servesAfterLoss_keep)
    | (with_reducible apply servesInDrill_keep) | split | (with_reducible refine Keep.mk' ?_ rfl rfl rfl)
    | dsimp -zeta only)

theorem claimProgress_keep (s : State) (hss : Keep s₀ s) : Keep s₀ (claimProgress s) := by
  unfold claimProgress
  repeat' (first
    | (with_reducible assumption)
    | (intro u; first | (refine (fun (_ : Keep s₀ u) => ?_) ?_; clear_value u; rotate_left; dsimp -zeta only [u]; rotate_right) | clear_value u)
    | intro _ | lift_lets -underBinder | (with_reducible apply Keep.ite) | (with_reducible apply Keep.foldl)
    | (with_reducible apply claimSettled_keep) | split | (with_reducible refine Keep.mk' ?_ rfl rfl rfl)
    | dsimp -zeta only)

theorem takeOver_keep (s : State) (withSpx : Bool) (hss : Keep s₀ s) : Keep s₀ (takeOver s withSpx) := by
  unfold takeOver
  repeat' (first
    | (with_reducible assumption)
    | (intro u; first | (refine (fun (_ : Keep s₀ u) => ?_) ?_; clear_value u; rotate_left; dsimp -zeta only [u]; rotate_right) | clear_value u)
    | intro _ | lift_lets -underBinder | (with_reducible apply Keep.ite) | (with_reducible apply Keep.foldl)
    | (with_reducible apply broadcastClaim_keep) | (with_reducible apply claimProgress_keep)
    | (with_reducible apply membersOut_keep) | (with_reducible apply raiseClaim_keep) | split
    | (with_reducible refine Keep.mk' ?_ rfl rfl rfl) | dsimp -zeta only)

theorem commandedTakeover_keep (s : State) (hss : Keep s₀ s) : Keep s₀ (commandedTakeover s) := by
  unfold commandedTakeover
  repeat' (first
    | (with_reducible assumption)
    | (intro u; first | (refine (fun (_ : Keep s₀ u) => ?_) ?_; clear_value u; rotate_left; dsimp -zeta only [u]; rotate_right) | (refine (fun (_ : Keep s₀ u.2) => ?_) ?_; clear_value u; rotate_left; dsimp -zeta only [u]; rotate_right) | (refine (fun (_ : Keep s₀ u.2.2) => ?_) ?_; clear_value u; rotate_left; dsimp -zeta only [u]; rotate_right) | clear_value u)
    | intro _ | lift_lets -underBinder | (with_reducible apply Keep.ite) | (with_reducible apply Keep.foldl)
    | (with_reducible apply draw_keep) | (refine draw_keep_eq ?_ (by with_reducible assumption))
    | (with_reducible apply takeOver_keep) | split | (with_reducible refine Keep.mk' ?_ rfl rfl rfl) | dsimp -zeta only)

theorem drillCmdEffect_keep (x0 : State) (after : State) (hsafter : Keep s₀ after) : Keep s₀ (drillCmdEffect x0
    after) := by
  unfold drillCmdEffect
  repeat' (first
    | (with_reducible assumption)
    | (intro u; first | (refine (fun (_ : Keep s₀ u) => ?_) ?_; clear_value u; rotate_left; dsimp -zeta only [u]; rotate_right) | clear_value u)
    | intro _ | lift_lets -underBinder | (with_reducible apply Keep.ite) | (with_reducible apply Keep.foldl)
    | (with_reducible apply commandedTakeover_keep) | (with_reducible apply setReg_keep)
    | (with_reducible apply startDrill_keep) | split | (with_reducible refine Keep.mk' ?_ rfl rfl rfl)
    | dsimp -zeta only)

end Sys2Proof.Machine
end

