-- ==== Sys2Proof/Laws/Keep4.lean ====
section
/-! SUPPORT. Operations that keep the queue and the canonical form of the memories, part 4. -/
namespace Sys2Proof.Machine
variable {s₀ : State}

theorem applyLoad_keep (s : State) (bank : Bool) (i : Nat) (hss : Keep s₀ s) : Keep s₀ (applyLoad s bank i) := by
  unfold applyLoad
  repeat' (first
    | (with_reducible assumption)
    | (intro u; first | (refine (fun (_ : Keep s₀ u) => ?_) ?_; clear_value u; rotate_left; dsimp -zeta only [u]; rotate_right) | clear_value u)
    | intro _ | lift_lets -underBinder | (with_reducible apply Keep.ite) | (with_reducible apply Keep.foldl)
    | (with_reducible apply bump_keep) | (with_reducible apply clearKeyData_keep) | (with_reducible apply enterNs_keep)
    | (with_reducible apply loadSlot_keep) | split | (with_reducible refine Keep.mk' ?_ rfl rfl rfl) | dsimp -zeta only)

theorem applyZero_keep (s : State) (bank : Bool) (i : Nat) (hss : Keep s₀ s) : Keep s₀ (applyZero s bank i) := by
  unfold applyZero
  repeat' (first
    | (with_reducible assumption)
    | (intro u; first | (refine (fun (_ : Keep s₀ u) => ?_) ?_; clear_value u; rotate_left; dsimp -zeta only [u]; rotate_right) | clear_value u)
    | intro _ | lift_lets -underBinder | (with_reducible apply Keep.ite) | (with_reducible apply Keep.foldl)
    | (with_reducible apply failQueued_keep) | split | (with_reducible refine Keep.mk' ?_ rfl rfl rfl)
    | dsimp -zeta only)

theorem applyZeroAll_keep (s : State) (bank : Bool) (hss : Keep s₀ s) : Keep s₀ (applyZeroAll s bank) := by
  unfold applyZeroAll
  repeat' (first
    | (with_reducible assumption)
    | (intro u; first | (refine (fun (_ : Keep s₀ u) => ?_) ?_; clear_value u; rotate_left; dsimp -zeta only [u]; rotate_right) | clear_value u)
    | intro _ | lift_lets -underBinder | (with_reducible apply Keep.ite) | (with_reducible apply Keep.foldl)
    | (with_reducible apply failQueued_keep) | split | (with_reducible refine Keep.mk' ?_ rfl rfl rfl)
    | dsimp -zeta only)

theorem keyResult_keep (s : State) (r : Nat) (hss : Keep s₀ s) : Keep s₀ (keyResult s r) := by
  unfold keyResult
  repeat' (first
    | (with_reducible assumption)
    | (intro u; first | (refine (fun (_ : Keep s₀ u) => ?_) ?_; clear_value u; rotate_left; dsimp -zeta only [u]; rotate_right) | clear_value u)
    | intro _ | lift_lets -underBinder | (with_reducible apply Keep.ite) | (with_reducible apply Keep.foldl) | split
    | (with_reducible refine Keep.mk' ?_ rfl rfl rfl) | dsimp -zeta only)

theorem keyLoadEffect_keep (req : Nat) (x1 : State) (after : State) (hsafter : Keep s₀ after) : Keep s₀
    (keyLoadEffect req x1 after) := by
  unfold keyLoadEffect
  repeat' (first
    | (with_reducible assumption)
    | (intro u; first | (refine (fun (_ : Keep s₀ u) => ?_) ?_; clear_value u; rotate_left; dsimp -zeta only [u]; rotate_right) | clear_value u)
    | intro _ | lift_lets -underBinder | (with_reducible apply Keep.ite) | (with_reducible apply Keep.foldl)
    | (with_reducible apply alert_keep) | (with_reducible apply applyLoad_keep) | (with_reducible apply applyZero_keep)
    | (with_reducible apply applyZeroAll_keep) | (with_reducible apply bump_keep)
    | (with_reducible apply keyResult_keep) | (with_reducible apply setReg_keep) | split
    | (with_reducible refine Keep.mk' ?_ rfl rfl rfl) | dsimp -zeta only)

theorem keyLockEffect_keep (x0 : State) (after : State) (hsafter : Keep s₀ after) : Keep s₀ (keyLockEffect x0
    after) := by
  unfold keyLockEffect
  repeat' (first
    | (with_reducible assumption)
    | (intro u; first | (refine (fun (_ : Keep s₀ u) => ?_) ?_; clear_value u; rotate_left; dsimp -zeta only [u]; rotate_right) | (refine (fun (_ : Keep s₀ u.2) => ?_) ?_; clear_value u; rotate_left; dsimp -zeta only [u]; rotate_right) | (refine (fun (_ : Keep s₀ u.2.2) => ?_) ?_; clear_value u; rotate_left; dsimp -zeta only [u]; rotate_right) | clear_value u)
    | intro _ | lift_lets -underBinder | (with_reducible apply Keep.ite) | (with_reducible apply Keep.foldl)
    | (with_reducible apply blockError_keep) | (with_reducible apply draw_keep)
    | (refine draw_keep_eq ?_ (by with_reducible assumption)) | split | (with_reducible refine Keep.mk' ?_ rfl rfl rfl)
    | dsimp -zeta only)

theorem keyEffect_keep (req : Nat) (off : Nat) (before : State) (after : State) (hsafter : Keep s₀ after) : Keep
    s₀ (keyEffect req off before after) := by
  unfold keyEffect
  repeat' (first
    | (with_reducible assumption)
    | (intro u; first | (refine (fun (_ : Keep s₀ u) => ?_) ?_; clear_value u; rotate_left; dsimp -zeta only [u]; rotate_right) | clear_value u)
    | intro _ | lift_lets -underBinder | (with_reducible apply Keep.ite) | (with_reducible apply Keep.foldl)
    | (with_reducible apply keyLoadEffect_keep) | (with_reducible apply keyLockEffect_keep) | split
    | (with_reducible refine Keep.mk' ?_ rfl rfl rfl) | dsimp -zeta only)

theorem pwrEffect_keep (off : Nat) (before : State) (after : State) (hsafter : Keep s₀ after) : Keep s₀ (pwrEffect
    off before after) := by
  unfold pwrEffect
  repeat' (first
    | (with_reducible assumption)
    | (intro u; first | (refine (fun (_ : Keep s₀ u) => ?_) ?_; clear_value u; rotate_left; dsimp -zeta only [u]; rotate_right) | clear_value u)
    | intro _ | lift_lets -underBinder | (with_reducible apply Keep.ite) | (with_reducible apply Keep.foldl)
    | (with_reducible apply domainEffect_keep) | split | (with_reducible refine Keep.mk' ?_ rfl rfl rfl)
    | dsimp -zeta only)

theorem blockEffect_keep (req : Nat) (page : Nat) (off : Nat) (v : Word) (before : State) (after : State) (hsafter
    : Keep s₀ after) : Keep s₀ (blockEffect req page off v before after) := by
  unfold blockEffect
  repeat' (first
    | (with_reducible assumption)
    | (intro u; first | (refine (fun (_ : Keep s₀ u) => ?_) ?_; clear_value u; rotate_left; dsimp -zeta only [u]; rotate_right) | clear_value u)
    | intro _ | lift_lets -underBinder | (with_reducible apply Keep.ite) | (with_reducible apply Keep.foldl)
    | (with_reducible apply almCfgEffect_keep) | (with_reducible apply bootCtrlEffect_keep)
    | (with_reducible apply dispatchJobs_keep) | (with_reducible apply dmaEffect_keep)
    | (with_reducible apply drillCmdEffect_keep) | (with_reducible apply egsEffect_keep)
    | (with_reducible apply fabEffect_keep) | (with_reducible apply keyEffect_keep)
    | (with_reducible apply kickEffect_keep) | (with_reducible apply mgtEffect_keep)
    | (with_reducible apply mlxEffect_keep) | (with_reducible apply mrstEffect_keep)
    | (with_reducible apply netEffect_keep) | (with_reducible apply pmtEffect_keep)
    | (with_reducible apply polCmdEffect_keep) | (with_reducible apply pwrEffect_keep)
    | (with_reducible apply spwCmdEffect_keep) | (with_reducible apply svpEffect_keep)
    | (with_reducible apply swcEffect_keep) | (with_reducible apply timeEffect_keep)
    | (with_reducible apply xptEffect_keep) | (with_reducible apply zsqEffect_keep) | split
    | (with_reducible refine Keep.mk' ?_ rfl rfl rfl) | dsimp -zeta only)

theorem engineShutdown_keep (s : State) (e : Nat) (hss : Keep s₀ s) : Keep s₀ (engineShutdown s e) := by
  unfold engineShutdown
  repeat' (first
    | (with_reducible assumption)
    | (intro u; first | (refine (fun (_ : Keep s₀ u) => ?_) ?_; clear_value u; rotate_left; dsimp -zeta only [u]; rotate_right) | clear_value u)
    | intro _ | lift_lets -underBinder | (with_reducible apply Keep.ite) | (with_reducible apply Keep.foldl)
    | (with_reducible apply connError_keep) | (with_reducible apply freeCells_keep)
    | (with_reducible apply freeConn_keep) | split | (with_reducible refine Keep.mk' ?_ rfl rfl rfl) | dsimp -zeta only)

theorem stopPage_keep (s : State) (page : Nat) (hss : Keep s₀ s) : Keep s₀ (stopPage s page) := by
  unfold stopPage
  repeat' (first
    | (with_reducible assumption)
    | (intro u; first | (refine (fun (_ : Keep s₀ u) => ?_) ?_; clear_value u; rotate_left; dsimp -zeta only [u]; rotate_right) | clear_value u)
    | intro _ | lift_lets -underBinder | (with_reducible apply Keep.ite) | (with_reducible apply Keep.foldl)
    | (with_reducible apply pageShutdown_keep) | (with_reducible apply setPage_keep) | split
    | (with_reducible refine Keep.mk' ?_ rfl rfl rfl) | dsimp -zeta only)

theorem shutdownBegins_keep (s : State) (page : Nat) (hss : Keep s₀ s) : Keep s₀ (shutdownBegins s page) := by
  unfold shutdownBegins
  repeat' (first
    | (with_reducible assumption)
    | (intro u; first | (refine (fun (_ : Keep s₀ u) => ?_) ?_; clear_value u; rotate_left; dsimp -zeta only [u]; rotate_right) | clear_value u)
    | intro _ | lift_lets -underBinder | (with_reducible apply Keep.ite) | (with_reducible apply Keep.foldl)
    | (with_reducible apply bumpBy_keep) | (with_reducible apply cutChannel_keep)
    | (with_reducible apply engineShutdown_keep) | (with_reducible apply haltJobs_keep)
    | (with_reducible apply stopPage_keep) | split | (with_reducible refine Keep.mk' ?_ rfl rfl rfl) | dsimp -zeta only)

theorem requestShutdown_keep (s : State) (req : Nat) (page : Nat) (hss : Keep s₀ s) : Keep s₀ (requestShutdown s
    req page) := by
  unfold requestShutdown
  repeat' (first
    | (with_reducible assumption)
    | (intro u; first | (refine (fun (_ : Keep s₀ u) => ?_) ?_; clear_value u; rotate_left; dsimp -zeta only [u]; rotate_right) | clear_value u)
    | intro _ | lift_lets -underBinder | (with_reducible apply Keep.ite) | (with_reducible apply Keep.foldl)
    | (with_reducible apply logError_keep) | (with_reducible apply pageShutdown_keep)
    | (with_reducible apply setPage_keep) | (with_reducible apply shutdownBegins_keep) | split
    | (with_reducible refine Keep.mk' ?_ rfl rfl rfl) | dsimp -zeta only)

theorem storeEnable_keep (s : State) (req : Nat) (page : Nat) (on : Bool) (hss : Keep s₀ s) : Keep s₀ (storeEnable
    s req page on) := by
  unfold storeEnable
  repeat' (first
    | (with_reducible assumption)
    | (intro u; first | (refine (fun (_ : Keep s₀ u) => ?_) ?_; clear_value u; rotate_left; dsimp -zeta only [u]; rotate_right) | clear_value u)
    | intro _ | lift_lets -underBinder | (with_reducible apply Keep.ite) | (with_reducible apply Keep.foldl)
    | (with_reducible apply logError_keep) | (with_reducible apply requestShutdown_keep)
    | (with_reducible apply setPage_keep) | (with_reducible apply startEnable_keep) | split
    | (with_reducible refine Keep.mk' ?_ rfl rfl rfl) | dsimp -zeta only)

theorem storeLockReq_keep (s : State) (page : Nat) (on : Bool) (hss : Keep s₀ s) : Keep s₀ (storeLockReq s page
    on) := by
  unfold storeLockReq
  repeat' (first
    | (with_reducible assumption)
    | (intro u; first | (refine (fun (_ : Keep s₀ u) => ?_) ?_; clear_value u; rotate_left; dsimp -zeta only [u]; rotate_right) | clear_value u)
    | intro _ | lift_lets -underBinder | (with_reducible apply Keep.ite) | (with_reducible apply Keep.foldl)
    | (with_reducible apply setPage_keep) | split | (with_reducible refine Keep.mk' ?_ rfl rfl rfl) | dsimp -zeta only)

theorem storeQuiesce_keep (s : State) (page : Nat) (on : Bool) (hss : Keep s₀ s) : Keep s₀ (storeQuiesce s page
    on) := by
  unfold storeQuiesce
  repeat' (first
    | (with_reducible assumption)
    | (intro u; first | (refine (fun (_ : Keep s₀ u) => ?_) ?_; clear_value u; rotate_left; dsimp -zeta only [u]; rotate_right) | clear_value u)
    | intro _ | lift_lets -underBinder | (with_reducible apply Keep.ite) | (with_reducible apply Keep.foldl)
    | (with_reducible apply resumeWork_keep) | (with_reducible apply setPage_keep) | split
    | (with_reducible refine Keep.mk' ?_ rfl rfl rfl) | dsimp -zeta only)

theorem ctrlFields_keep (s : State) (req : Nat) (page : Nat) (v : Word) (hss : Keep s₀ s) : Keep s₀ (ctrlFields s
    req page v) := by
  unfold ctrlFields
  repeat' (first
    | (with_reducible assumption)
    | (intro u; first | (refine (fun (_ : Keep s₀ u) => ?_) ?_; clear_value u; rotate_left; dsimp -zeta only [u]; rotate_right) | clear_value u)
    | intro _ | lift_lets -underBinder | (with_reducible apply Keep.ite) | (with_reducible apply Keep.foldl)
    | (with_reducible apply storeEnable_keep) | (with_reducible apply storeLockReq_keep)
    | (with_reducible apply storeQuiesce_keep) | split | (with_reducible refine Keep.mk' ?_ rfl rfl rfl)
    | dsimp -zeta only)

theorem startSoftReset_keep (s : State) (page : Nat) (hss : Keep s₀ s) : Keep s₀ (startSoftReset s page) := by
  unfold startSoftReset
  repeat' (first
    | (with_reducible assumption)
    | (intro u; first | (refine (fun (_ : Keep s₀ u) => ?_) ?_; clear_value u; rotate_left; dsimp -zeta only [u]; rotate_right) | clear_value u)
    | intro _ | lift_lets -underBinder | (with_reducible apply Keep.ite) | (with_reducible apply Keep.foldl)
    | (with_reducible apply resetBlock_keep) | (with_reducible apply setPage_keep) | split
    | (with_reducible refine Keep.mk' ?_ rfl rfl rfl) | dsimp -zeta only)

theorem ctrlStore_keep (s : State) (req : Nat) (page : Nat) (v : Word) (hss : Keep s₀ s) : Keep s₀ (ctrlStore s
    req page v) := by
  unfold ctrlStore
  repeat' (first
    | (with_reducible assumption)
    | (intro u; first | (refine (fun (_ : Keep s₀ u) => ?_) ?_; clear_value u; rotate_left; dsimp -zeta only [u]; rotate_right) | clear_value u)
    | intro _ | lift_lets -underBinder | (with_reducible apply Keep.ite) | (with_reducible apply Keep.foldl)
    | (with_reducible apply ctrlFields_keep) | (with_reducible apply logError_keep)
    | (with_reducible apply startSoftReset_keep) | split | (with_reducible refine Keep.mk' ?_ rfl rfl rfl)
    | dsimp -zeta only)

theorem writeCtrl_keep (s : State) (req page : Nat) (v : Word) (hs : Keep s₀ s) : Keep s₀ (writeCtrl s req page v) := by
  unfold writeCtrl
  split
  · next e => exact judgeWrite_keep _ _ _ _ hs (.inl e)
  · next e => exact settleSigns_keep _ _ (ctrlStore_keep _ _ _ _ (judgeWrite_keep _ _ _ _ hs (.inr e)))

theorem writeHeader_keep (s : State) (req : Nat) (page : Nat) (off : Nat) (v : Word) (hss : Keep s₀ s) : Keep s₀
    (writeHeader s req page off v) := by
  unfold writeHeader
  repeat' (first
    | (with_reducible assumption)
    | (intro u; first | (refine (fun (_ : Keep s₀ u) => ?_) ?_; clear_value u; rotate_left; dsimp -zeta only [u]; rotate_right) | clear_value u)
    | intro _ | lift_lets -underBinder | (with_reducible apply Keep.ite) | (with_reducible apply Keep.foldl)
    | (with_reducible apply lockPage_keep) | (with_reducible apply logError_keep) | (with_reducible apply setPage_keep)
    | (exact judgeWrite_keep _ _ _ _ (by with_reducible assumption) (.inl (by assumption))) | (exact judgeWrite_keep _ _ _ _ (by with_reducible assumption) (.inr (by assumption))) | (exact judgeRead_keep _ _ _ _ (by with_reducible assumption) (.inl (by assumption))) | (exact judgeRead_keep _ _ _ _ (by with_reducible assumption) (.inr (by assumption))) | (exact judgeWrite_keep _ _ _ _ (by with_reducible assumption) (.inl (by assumption))) | (exact judgeWrite_keep _ _ _ _ (by with_reducible assumption) (.inr (by assumption))) | (exact judgeRead_keep _ _ _ _ (by with_reducible assumption) (.inl (by assumption))) | (exact judgeRead_keep _ _ _ _ (by with_reducible assumption) (.inr (by assumption))) | split | (with_reducible refine Keep.mk' ?_ rfl rfl rfl) | dsimp -zeta only)

theorem writePage_keep (s : State) (req : Nat) (page : Nat) (off : Nat) (v : Word) (hss : Keep s₀ s) : Keep s₀
    (writePage s req page off v) := by
  unfold writePage
  repeat' (first
    | (with_reducible assumption)
    | (intro u; first | (refine (fun (_ : Keep s₀ u) => ?_) ?_; clear_value u; rotate_left; dsimp -zeta only [u]; rotate_right) | clear_value u)
    | intro _ | lift_lets -underBinder | (with_reducible apply Keep.ite) | (with_reducible apply Keep.foldl)
    | (with_reducible apply blockEffect_keep) | (with_reducible apply settleSigns_keep)
    | (with_reducible apply writeBlock_keep) | (with_reducible apply writeCtrl_keep)
    | (with_reducible apply writeHeader_keep) | split | (with_reducible refine Keep.mk' ?_ rfl rfl rfl)
    | dsimp -zeta only)

theorem busWrite_keep (s : State) (req : Nat) (addr : Nat) (v : Word) (hss : Keep s₀ s) : Keep s₀ (busWrite s req
    addr v) := by
  unfold busWrite
  repeat' (first
    | (with_reducible assumption)
    | (intro u; first | (refine (fun (_ : Keep s₀ u) => ?_) ?_; clear_value u; rotate_left; dsimp -zeta only [u]; rotate_right) | clear_value u)
    | intro _ | lift_lets -underBinder | (with_reducible apply Keep.ite) | (with_reducible apply Keep.foldl)
    | (with_reducible apply badAccess_keep) | (with_reducible apply decodeError_keep)
    | (with_reducible apply writePage_keep) | split | (with_reducible refine Keep.mk' ?_ rfl rfl rfl)
    | dsimp -zeta only)

theorem dmaRegWrites_keep (req stepBy : Nat) (l : List (List Byte)) (a : Nat) (s : State) (hs : Keep s₀ s) :
    Keep s₀ (dmaRegWrites req stepBy l a s).2 := by
  induction l generalizing a s with
  | nil => exact hs
  | cons w l ih =>
    rw [dmaRegWrites]
    split
    · exact busWrite_keep _ _ _ _ hs
    · exact ih _ _ (busWrite_keep _ _ _ _ hs)
theorem dmaRegWrites_keep_eq {req stepBy : Nat} {l : List (List Byte)} {a : Nat} {s : State} {e0 : Bool} {t : State}
    (hs : Keep s₀ s) (e : dmaRegWrites req stepBy l a s = (e0, t)) : Keep s₀ t := by
  have := dmaRegWrites_keep req stepBy l a s hs
  rw [e] at this
  exact this

theorem dmaFetch_keep (s : State) (chan : Nat) (a : Nat) (n : Nat) (fixed : Nat) (hss : Keep s₀ s) : Keep s₀
    (dmaFetch s chan a n fixed).2 := by
  unfold dmaFetch
  repeat' (first
    | (with_reducible assumption)
    | (intro u; first | (refine (fun (_ : Keep s₀ u) => ?_) ?_; clear_value u; rotate_left; dsimp -zeta only [u]; rotate_right) | (refine (fun (_ : Keep s₀ u.2) => ?_) ?_; clear_value u; rotate_left; dsimp -zeta only [u]; rotate_right) | (refine (fun (_ : Keep s₀ u.2.2) => ?_) ?_; clear_value u; rotate_left; dsimp -zeta only [u]; rotate_right) | clear_value u)
    | intro _ | lift_lets -underBinder | (with_reducible apply Keep.ite) | (with_reducible apply Keep.foldl)
    | (with_reducible apply decodeError_keep) | (with_reducible apply dmaRegReads_keep)
    | (refine dmaRegReads_keep_eq ?_ (by with_reducible assumption)) | (with_reducible apply dramFetch_keep)
    | (refine dramFetch_keep_eq ?_ (by with_reducible assumption)) | (with_reducible apply draw_keep)
    | (refine draw_keep_eq ?_ (by with_reducible assumption)) | (with_reducible apply mramRefuses_keep)
    | (with_reducible apply pmcEvent_keep) | split | (with_reducible refine Keep.mk' ?_ rfl rfl rfl) | dsimp -zeta only)
theorem dmaFetch_keep_eq {s : State} {chan : Nat} {a : Nat} {n : Nat} {fixed : Nat} {e0 : Fetched} {t : State}
    (hss : Keep s₀ s) (e : dmaFetch s chan a n fixed = (e0, t)) : Keep s₀ t := by
  have := dmaFetch_keep s chan a n fixed hss
  rw [e] at this
  exact this

theorem dmaStore_keep (s : State) (chan : Nat) (a : Nat) (fixed : Nat) (bs : List Byte) (hss : Keep s₀ s) : Keep
    s₀ (dmaStore s chan a fixed bs).2 := by
  unfold dmaStore
  repeat' (first
    | (with_reducible assumption)
    | (intro u; first | (refine (fun (_ : Keep s₀ u) => ?_) ?_; clear_value u; rotate_left; dsimp -zeta only [u]; rotate_right) | (refine (fun (_ : Keep s₀ u.2) => ?_) ?_; clear_value u; rotate_left; dsimp -zeta only [u]; rotate_right) | (refine (fun (_ : Keep s₀ u.2.2) => ?_) ?_; clear_value u; rotate_left; dsimp -zeta only [u]; rotate_right) | clear_value u)
    | intro _ | lift_lets -underBinder | (with_reducible apply Keep.ite) | (with_reducible apply Keep.foldl)
    | (with_reducible apply decodeError_keep) | (with_reducible apply dmaRegWrites_keep)
    | (refine dmaRegWrites_keep_eq ?_ (by with_reducible assumption)) | (with_reducible apply dramStore_keep)
    | (with_reducible apply mramRefuses_keep) | (with_reducible apply outboundWrite_keep) | split
    | (with_reducible refine Keep.mk' ?_ rfl rfl rfl) | dsimp -zeta only)
theorem dmaStore_keep_eq {s : State} {chan : Nat} {a : Nat} {fixed : Nat} {bs : List Byte} {e0 : Nat} {t : State}
    (hss : Keep s₀ s) (e : dmaStore s chan a fixed bs = (e0, t)) : Keep s₀ t := by
  have := dmaStore_keep s chan a fixed bs hss
  rw [e] at this
  exact this

theorem setDma_keep (s : State) (n : Nat) (c : DmaChan) (hss : Keep s₀ s) : Keep s₀ (setDma s n c) := by
  unfold setDma
  repeat' (first
    | (with_reducible assumption)
    | (intro u; first | (refine (fun (_ : Keep s₀ u) => ?_) ?_; clear_value u; rotate_left; dsimp -zeta only [u]; rotate_right) | clear_value u)
    | intro _ | lift_lets -underBinder | (with_reducible apply Keep.ite) | (with_reducible apply Keep.foldl) | split
    | (with_reducible refine Keep.mk' ?_ rfl rfl rfl) | dsimp -zeta only)

theorem setDesc_keep (s : State) (n : Nat) (d : DmaDesc) (hss : Keep s₀ s) : Keep s₀ (setDesc s n d) := by
  unfold setDesc
  repeat' (first
    | (with_reducible assumption)
    | (intro u; first | (refine (fun (_ : Keep s₀ u) => ?_) ?_; clear_value u; rotate_left; dsimp -zeta only [u]; rotate_right) | clear_value u)
    | intro _ | lift_lets -underBinder | (with_reducible apply Keep.ite) | (with_reducible apply Keep.foldl)
    | (with_reducible apply setDma_keep) | split | (with_reducible refine Keep.mk' ?_ rfl rfl rfl) | dsimp -zeta only)

theorem dmaMoved_keep (s : State) (chan : Nat) (d : DmaDesc) (bs : List Byte) (hss : Keep s₀ s) : Keep s₀
    (dmaMoved s chan d bs) := by
  unfold dmaMoved
  repeat' (first
    | (with_reducible assumption)
    | (intro u; first | (refine (fun (_ : Keep s₀ u) => ?_) ?_; clear_value u; rotate_left; dsimp -zeta only [u]; rotate_right) | clear_value u)
    | intro _ | lift_lets -underBinder | (with_reducible apply Keep.ite) | (with_reducible apply Keep.foldl)
    | (with_reducible apply bumpBy_keep) | (with_reducible apply pmcEvent_keep) | (with_reducible apply setDma_keep)
    | split | (with_reducible refine Keep.mk' ?_ rfl rfl rfl) | dsimp -zeta only)

theorem dmaDeliver_keep (s : State) (chan : Nat) (d : DmaDesc) (bs : List Byte) (hss : Keep s₀ s) : Keep s₀
    (dmaDeliver s chan d bs) := by
  unfold dmaDeliver
  repeat' (first
    | (with_reducible assumption)
    | (intro u; first | (refine (fun (_ : Keep s₀ u) => ?_) ?_; clear_value u; rotate_left; dsimp -zeta only [u]; rotate_right) | (refine (fun (_ : Keep s₀ u.2) => ?_) ?_; clear_value u; rotate_left; dsimp -zeta only [u]; rotate_right) | (refine (fun (_ : Keep s₀ u.2.2) => ?_) ?_; clear_value u; rotate_left; dsimp -zeta only [u]; rotate_right) | clear_value u)
    | intro _ | lift_lets -underBinder | (with_reducible apply Keep.ite) | (with_reducible apply Keep.foldl)
    | (with_reducible apply dmaMoved_keep) | (with_reducible apply dmaStore_keep)
    | (refine dmaStore_keep_eq ?_ (by with_reducible assumption)) | (with_reducible apply setDesc_keep) | split
    | (with_reducible refine Keep.mk' ?_ rfl rfl rfl) | dsimp -zeta only)

theorem dmaFinish_keep (s : State) (chan : Nat) (d : DmaDesc) (hss : Keep s₀ s) : Keep s₀ (dmaFinish s chan d) :=
    by
  unfold dmaFinish
  repeat' (first
    | (with_reducible assumption)
    | (intro u; first | (refine (fun (_ : Keep s₀ u) => ?_) ?_; clear_value u; rotate_left; dsimp -zeta only [u]; rotate_right) | (refine (fun (_ : Keep s₀ u.2) => ?_) ?_; clear_value u; rotate_left; dsimp -zeta only [u]; rotate_right) | (refine (fun (_ : Keep s₀ u.2.2) => ?_) ?_; clear_value u; rotate_left; dsimp -zeta only [u]; rotate_right) | clear_value u)
    | intro _ | lift_lets -underBinder | (with_reducible apply Keep.ite) | (with_reducible apply Keep.foldl)
    | (with_reducible apply dmaStore_keep) | (refine dmaStore_keep_eq ?_ (by with_reducible assumption))
    | (with_reducible apply setDesc_keep) | split | (with_reducible refine Keep.mk' ?_ rfl rfl rfl) | dsimp -zeta only)

theorem dmaPump_keep (chan : Nat) (z0 : Nat) (z1 : State) (hsz1 : Keep s₀ z1) : Keep s₀ (dmaPump chan z0 z1) := by
  induction z0 generalizing z1 with
  | zero =>
    rw [dmaPump]
    repeat' (first
      | (with_reducible assumption)
      | (intro u; first | (refine (fun (_ : Keep s₀ u) => ?_) ?_; clear_value u; rotate_left; dsimp -zeta only [u]; rotate_right) | (refine (fun (_ : Keep s₀ u.2) => ?_) ?_; clear_value u; rotate_left; dsimp -zeta only [u]; rotate_right) | (refine (fun (_ : Keep s₀ u.2.2) => ?_) ?_; clear_value u; rotate_left; dsimp -zeta only [u]; rotate_right) | clear_value u)
      | intro _ | lift_lets -underBinder | (with_reducible apply Keep.ite) | (with_reducible apply Keep.foldl)
      | (with_reducible apply dmaDeliver_keep) | (with_reducible apply dmaFetch_keep)
      | (refine dmaFetch_keep_eq ?_ (by with_reducible assumption)) | (with_reducible apply dmaFinish_keep)
      | (with_reducible apply setDesc_keep) | split | (with_reducible refine Keep.mk' ?_ rfl rfl rfl) | dsimp -zeta only)
  | succ z0 ih =>
    rw [dmaPump]
    repeat' (first
      | (with_reducible apply ih) | (with_reducible assumption)
      | (intro u; first | (refine (fun (_ : Keep s₀ u) => ?_) ?_; clear_value u; rotate_left; dsimp -zeta only [u]; rotate_right) | (refine (fun (_ : Keep s₀ u.2) => ?_) ?_; clear_value u; rotate_left; dsimp -zeta only [u]; rotate_right) | (refine (fun (_ : Keep s₀ u.2.2) => ?_) ?_; clear_value u; rotate_left; dsimp -zeta only [u]; rotate_right) | clear_value u)
      | intro _ | lift_lets -underBinder | (with_reducible apply Keep.ite) | (with_reducible apply Keep.foldl)
      | (with_reducible apply dmaDeliver_keep) | (with_reducible apply dmaFetch_keep)
      | (refine dmaFetch_keep_eq ?_ (by with_reducible assumption)) | (with_reducible apply dmaFinish_keep)
      | (with_reducible apply setDesc_keep) | split | (with_reducible refine Keep.mk' ?_ rfl rfl rfl) | dsimp -zeta only)

theorem dmaSettle_keep (s : State) (chan : Nat) (hss : Keep s₀ s) : Keep s₀ (dmaSettle s chan) := by
  unfold dmaSettle
  repeat' (first
    | (with_reducible assumption)
    | (intro u; first | (refine (fun (_ : Keep s₀ u) => ?_) ?_; clear_value u; rotate_left; dsimp -zeta only [u]; rotate_right) | clear_value u)
    | intro _ | lift_lets -underBinder | (with_reducible apply Keep.ite) | (with_reducible apply Keep.foldl)
    | (with_reducible apply dmaFinish_keep) | (with_reducible apply setDesc_keep) | split
    | (with_reducible refine Keep.mk' ?_ rfl rfl rfl) | dsimp -zeta only)

theorem dmaAsk_keep (s : State) (chan : Nat) (d : DmaDesc) (hss : Keep s₀ s) : Keep s₀ (dmaAsk s chan d) := by
  unfold dmaAsk
  repeat' (first
    | (with_reducible assumption)
    | (intro u; first | (refine (fun (_ : Keep s₀ u) => ?_) ?_; clear_value u; rotate_left; dsimp -zeta only [u]; rotate_right) | clear_value u)
    | intro _ | lift_lets -underBinder | (with_reducible apply Keep.ite) | (with_reducible apply Keep.foldl)
    | (with_reducible apply dmaSettle_keep) | (with_reducible apply outboundRead_keep)
    | (with_reducible apply setDesc_keep) | split | (with_reducible refine Keep.mk' ?_ rfl rfl rfl) | dsimp -zeta only)

theorem dmaDrain_keep (chan : Nat) (z0 : Nat) (z1 : State) (hsz1 : Keep s₀ z1) : Keep s₀ (dmaDrain chan z0 z1) :=
    by
  induction z0 generalizing z1 with
  | zero =>
    rw [dmaDrain]
    repeat' (first
      | (with_reducible assumption)
      | (intro u; first | (refine (fun (_ : Keep s₀ u) => ?_) ?_; clear_value u; rotate_left; dsimp -zeta only [u]; rotate_right) | clear_value u)
      | intro _ | lift_lets -underBinder | (with_reducible apply Keep.ite) | (with_reducible apply Keep.foldl)
      | (with_reducible apply dmaDeliver_keep) | (with_reducible apply dmaSettle_keep)
      | (with_reducible apply setDesc_keep) | split | (with_reducible refine Keep.mk' ?_ rfl rfl rfl) | dsimp -zeta only)
  | succ z0 ih =>
    rw [dmaDrain]
    repeat' (first
      | (with_reducible apply ih) | (with_reducible assumption)
      | (intro u; first | (refine (fun (_ : Keep s₀ u) => ?_) ?_; clear_value u; rotate_left; dsimp -zeta only [u]; rotate_right) | clear_value u)
      | intro _ | lift_lets -underBinder | (with_reducible apply Keep.ite) | (with_reducible apply Keep.foldl)
      | (with_reducible apply dmaDeliver_keep) | (with_reducible apply dmaSettle_keep)
      | (with_reducible apply setDesc_keep) | split | (with_reducible refine Keep.mk' ?_ rfl rfl rfl) | dsimp -zeta only)

theorem dmaReadEnds_keep (s : State) (chan : Nat) (tag : Nat) (data : Option (List Byte)) (status : Nat) (hss :
    Keep s₀ s) : Keep s₀ (dmaReadEnds s chan tag data status) := by
  unfold dmaReadEnds
  repeat' (first
    | (with_reducible assumption)
    | (intro u; first | (refine (fun (_ : Keep s₀ u) => ?_) ?_; clear_value u; rotate_left; dsimp -zeta only [u]; rotate_right) | clear_value u)
    | intro _ | lift_lets -underBinder | (with_reducible apply Keep.ite) | (with_reducible apply Keep.foldl)
    | (with_reducible apply dmaDrain_keep) | (with_reducible apply setDesc_keep) | split
    | (with_reducible refine Keep.mk' ?_ rfl rfl rfl) | dsimp -zeta only)

theorem dmaReadPart_keep (s : State) (chan : Nat) (tag : Nat) (data : List Byte) (hss : Keep s₀ s) : Keep s₀
    (dmaReadPart s chan tag data) := by
  unfold dmaReadPart
  repeat' (first
    | (with_reducible assumption)
    | (intro u; first | (refine (fun (_ : Keep s₀ u) => ?_) ?_; clear_value u; rotate_left; dsimp -zeta only [u]; rotate_right) | clear_value u)
    | intro _ | lift_lets -underBinder | (with_reducible apply Keep.ite) | (with_reducible apply Keep.foldl)
    | (with_reducible apply setDesc_keep) | split | (with_reducible refine Keep.mk' ?_ rfl rfl rfl) | dsimp -zeta only)

theorem dmaHalt_keep (s : State) (chan : Nat) (cause : Nat) (hss : Keep s₀ s) : Keep s₀ (dmaHalt s chan cause) :=
    by
  unfold dmaHalt
  repeat' (first
    | (with_reducible assumption)
    | (intro u; first | (refine (fun (_ : Keep s₀ u) => ?_) ?_; clear_value u; rotate_left; dsimp -zeta only [u]; rotate_right) | clear_value u)
    | intro _ | lift_lets -underBinder | (with_reducible apply Keep.ite) | (with_reducible apply Keep.foldl)
    | (with_reducible apply alert_keep) | (with_reducible apply setDma_keep) | split
    | (with_reducible refine Keep.mk' ?_ rfl rfl rfl) | dsimp -zeta only)

theorem ringFault_keep (s : State) (chan : Nat) (hss : Keep s₀ s) : Keep s₀ (ringFault s chan) := by
  unfold ringFault
  repeat' (first
    | (with_reducible assumption)
    | (intro u; first | (refine (fun (_ : Keep s₀ u) => ?_) ?_; clear_value u; rotate_left; dsimp -zeta only [u]; rotate_right) | clear_value u)
    | intro _ | lift_lets -underBinder | (with_reducible apply Keep.ite) | (with_reducible apply Keep.foldl)
    | (with_reducible apply dmaHalt_keep) | (with_reducible apply logError_keep) | (with_reducible apply setDma_keep)
    | split | (with_reducible refine Keep.mk' ?_ rfl rfl rfl) | dsimp -zeta only)

theorem dmaStart_keep (s : State) (chan : Nat) (hss : Keep s₀ s) : Keep s₀ (dmaStart s chan) := by
  unfold dmaStart
  repeat' (first
    | (with_reducible assumption)
    | (intro u; first | (refine (fun (_ : Keep s₀ u) => ?_) ?_; clear_value u; rotate_left; dsimp -zeta only [u]; rotate_right) | (refine (fun (_ : Keep s₀ u.2) => ?_) ?_; clear_value u; rotate_left; dsimp -zeta only [u]; rotate_right) | (refine (fun (_ : Keep s₀ u.2.2) => ?_) ?_; clear_value u; rotate_left; dsimp -zeta only [u]; rotate_right) | clear_value u)
    | intro _ | lift_lets -underBinder | (with_reducible apply Keep.ite) | (with_reducible apply Keep.foldl)
    | (with_reducible apply decodeError_keep) | (with_reducible apply dmaAsk_keep) | (with_reducible apply dmaPump_keep)
    | (with_reducible apply dramFetch_keep) | (refine dramFetch_keep_eq ?_ (by with_reducible assumption))
    | (with_reducible apply ringFault_keep) | (with_reducible apply setDesc_keep) | split
    | (with_reducible refine Keep.mk' ?_ rfl rfl rfl) | dsimp -zeta only)

theorem dmaWork_keep (s : State) (chan : Nat) (hss : Keep s₀ s) : Keep s₀ (dmaWork s chan) := by
  unfold dmaWork
  repeat' (first
    | (with_reducible assumption)
    | (intro u; first | (refine (fun (_ : Keep s₀ u) => ?_) ?_; clear_value u; rotate_left; dsimp -zeta only [u]; rotate_right) | clear_value u)
    | intro _ | lift_lets -underBinder | (with_reducible apply Keep.ite) | (with_reducible apply Keep.foldl)
    | (with_reducible apply dmaAsk_keep) | (with_reducible apply dmaStart_keep) | split
    | (with_reducible refine Keep.mk' ?_ rfl rfl rfl) | dsimp -zeta only)

theorem dmaWriteBack_keep (s : State) (chan : Nat) (ok : Bool) (hss : Keep s₀ s) : Keep s₀ (dmaWriteBack s chan
    ok) := by
  unfold dmaWriteBack
  repeat' (first
    | (with_reducible assumption)
    | (intro u; first | (refine (fun (_ : Keep s₀ u) => ?_) ?_; clear_value u; rotate_left; dsimp -zeta only [u]; rotate_right) | (refine (fun (_ : Keep s₀ u.2) => ?_) ?_; clear_value u; rotate_left; dsimp -zeta only [u]; rotate_right) | (refine (fun (_ : Keep s₀ u.2.2) => ?_) ?_; clear_value u; rotate_left; dsimp -zeta only [u]; rotate_right) | clear_value u)
    | intro _ | lift_lets -underBinder | (with_reducible apply Keep.ite) | (with_reducible apply Keep.foldl)
    | (with_reducible apply alert_keep) | (with_reducible apply bump_keep) | (with_reducible apply descResult_keep)
    | (refine descResult_keep_eq ?_ (by with_reducible assumption)) | (with_reducible apply dmaHalt_keep)
    | (with_reducible apply dramStore_keep) | (with_reducible apply noteBad_keep) | (with_reducible apply pmcEvent_keep)
    | (with_reducible apply ringFault_keep) | (with_reducible apply setDma_keep) | split
    | (with_reducible refine Keep.mk' ?_ rfl rfl rfl) | dsimp -zeta only)

theorem shutdownEnds_keep (s : State) (page : Nat) (hss : Keep s₀ s) : Keep s₀ (shutdownEnds s page) := by
  unfold shutdownEnds
  repeat' (first
    | (with_reducible assumption)
    | (intro u; first | (refine (fun (_ : Keep s₀ u) => ?_) ?_; clear_value u; rotate_left; dsimp -zeta only [u]; rotate_right) | clear_value u)
    | intro _ | lift_lets -underBinder | (with_reducible apply Keep.ite) | (with_reducible apply Keep.foldl)
    | (with_reducible apply linkToDown_keep) | (with_reducible apply netDisabled_keep)
    | (with_reducible apply portDown_keep) | split | (with_reducible refine Keep.mk' ?_ rfl rfl rfl) | dsimp -zeta only)

theorem enabledNow_keep (s : State) (page : Nat) (hss : Keep s₀ s) : Keep s₀ (enabledNow s page) := by
  unfold enabledNow
  repeat' (first
    | (with_reducible assumption)
    | (intro u; first | (refine (fun (_ : Keep s₀ u) => ?_) ?_; clear_value u; rotate_left; dsimp -zeta only [u]; rotate_right) | clear_value u)
    | intro _ | lift_lets -underBinder | (with_reducible apply Keep.ite) | (with_reducible apply Keep.foldl)
    | (with_reducible apply channelEnabled_keep) | (with_reducible apply dispatchJobs_keep)
    | (with_reducible apply dispatchPqe_keep) | (with_reducible apply egressEnabled_keep)
    | (with_reducible apply netEnabled_keep) | split | (with_reducible refine Keep.mk' ?_ rfl rfl rfl)
    | dsimp -zeta only)

theorem enableEnds_keep (s : State) (page : Nat) (hss : Keep s₀ s) : Keep s₀ (enableEnds s page) := by
  unfold enableEnds
  repeat' (first
    | (with_reducible assumption)
    | (intro u; first | (refine (fun (_ : Keep s₀ u) => ?_) ?_; clear_value u; rotate_left; dsimp -zeta only [u]; rotate_right) | (refine (fun (_ : Keep s₀ u.2) => ?_) ?_; clear_value u; rotate_left; dsimp -zeta only [u]; rotate_right) | (refine (fun (_ : Keep s₀ u.2.2) => ?_) ?_; clear_value u; rotate_left; dsimp -zeta only [u]; rotate_right) | clear_value u)
    | intro _ | lift_lets -underBinder | (with_reducible apply Keep.ite) | (with_reducible apply Keep.foldl)
    | (with_reducible apply draw_keep) | (refine draw_keep_eq ?_ (by with_reducible assumption))
    | (with_reducible apply enabledNow_keep) | (with_reducible apply pageFault_keep)
    | (with_reducible apply raiseCauses_keep) | (with_reducible apply requestShutdown_keep)
    | (with_reducible apply setPage_keep) | split | (with_reducible refine Keep.mk' ?_ rfl rfl rfl) | dsimp -zeta only)

theorem enableDone_keep (s : State) (page : Nat) (hss : Keep s₀ s) : Keep s₀ (enableDone s page) := by
  unfold enableDone
  repeat' (first
    | (with_reducible assumption)
    | (intro u; first | (refine (fun (_ : Keep s₀ u) => ?_) ?_; clear_value u; rotate_left; dsimp -zeta only [u]; rotate_right) | clear_value u)
    | intro _ | lift_lets -underBinder | (with_reducible apply Keep.ite) | (with_reducible apply Keep.foldl)
    | (with_reducible apply enableEnds_keep) | (with_reducible apply settleSigns_keep) | split
    | (with_reducible refine Keep.mk' ?_ rfl rfl rfl) | dsimp -zeta only)

theorem endShutdown_keep (s : State) (page : Nat) (hss : Keep s₀ s) : Keep s₀ (endShutdown s page) := by
  unfold endShutdown
  repeat' (first
    | (with_reducible assumption)
    | (intro u; first | (refine (fun (_ : Keep s₀ u) => ?_) ?_; clear_value u; rotate_left; dsimp -zeta only [u]; rotate_right) | clear_value u)
    | intro _ | lift_lets -underBinder | (with_reducible apply Keep.ite) | (with_reducible apply Keep.foldl)
    | (with_reducible apply raiseCause_keep) | (with_reducible apply setPage_keep)
    | (with_reducible apply shutdownEnds_keep) | (with_reducible apply startEnable_keep) | split
    | (with_reducible refine Keep.mk' ?_ rfl rfl rfl) | dsimp -zeta only)

theorem shutdownDone_keep (s : State) (page : Nat) (hss : Keep s₀ s) : Keep s₀ (shutdownDone s page) := by
  unfold shutdownDone
  repeat' (first
    | (with_reducible assumption)
    | (intro u; first | (refine (fun (_ : Keep s₀ u) => ?_) ?_; clear_value u; rotate_left; dsimp -zeta only [u]; rotate_right) | clear_value u)
    | intro _ | lift_lets -underBinder | (with_reducible apply Keep.ite) | (with_reducible apply Keep.foldl)
    | (with_reducible apply endShutdown_keep) | (with_reducible apply settleSigns_keep)
    | (with_reducible apply shutdownClock_keep) | split | (with_reducible refine Keep.mk' ?_ rfl rfl rfl)
    | dsimp -zeta only)

theorem softResetDone_keep (s : State) (page : Nat) (hss : Keep s₀ s) : Keep s₀ (softResetDone s page) := by
  unfold softResetDone
  repeat' (first
    | (with_reducible assumption)
    | (intro u; first | (refine (fun (_ : Keep s₀ u) => ?_) ?_; clear_value u; rotate_left; dsimp -zeta only [u]; rotate_right) | clear_value u)
    | intro _ | lift_lets -underBinder | (with_reducible apply Keep.ite) | (with_reducible apply Keep.foldl)
    | (with_reducible apply setPage_keep) | split | (with_reducible refine Keep.mk' ?_ rfl rfl rfl) | dsimp -zeta only)

theorem quiesceDone_keep (s : State) (page : Nat) (hss : Keep s₀ s) : Keep s₀ (quiesceDone s page) := by
  unfold quiesceDone
  repeat' (first
    | (with_reducible assumption)
    | (intro u; first | (refine (fun (_ : Keep s₀ u) => ?_) ?_; clear_value u; rotate_left; dsimp -zeta only [u]; rotate_right) | clear_value u)
    | intro _ | lift_lets -underBinder | (with_reducible apply Keep.ite) | (with_reducible apply Keep.foldl)
    | (with_reducible apply raiseCause_keep) | (with_reducible apply setPage_keep)
    | (with_reducible apply shutdownClock_keep) | split | (with_reducible refine Keep.mk' ?_ rfl rfl rfl)
    | dsimp -zeta only)

theorem lockAnswer_keep (s : State) (page : Nat) (hss : Keep s₀ s) : Keep s₀ (lockAnswer s page) := by
  unfold lockAnswer
  repeat' (first
    | (with_reducible assumption)
    | (intro u; first | (refine (fun (_ : Keep s₀ u) => ?_) ?_; clear_value u; rotate_left; dsimp -zeta only [u]; rotate_right) | clear_value u)
    | intro _ | lift_lets -underBinder | (with_reducible apply Keep.ite) | (with_reducible apply Keep.foldl)
    | (with_reducible apply lockPage_keep) | (with_reducible apply setPage_keep) | split
    | (with_reducible refine Keep.mk' ?_ rfl rfl rfl) | dsimp -zeta only)

theorem faultStop_keep (s : State) (page : Nat) (hss : Keep s₀ s) : Keep s₀ (faultStop s page) := by
  unfold faultStop
  repeat' (first
    | (with_reducible assumption)
    | (intro u; first | (refine (fun (_ : Keep s₀ u) => ?_) ?_; clear_value u; rotate_left; dsimp -zeta only [u]; rotate_right) | clear_value u)
    | intro _ | lift_lets -underBinder | (with_reducible apply Keep.ite) | (with_reducible apply Keep.foldl)
    | (with_reducible apply pageShutdown_keep) | (with_reducible apply setPage_keep)
    | (with_reducible apply shutdownBegins_keep) | split | (with_reducible refine Keep.mk' ?_ rfl rfl rfl)
    | dsimp -zeta only)

theorem internalFault_keep (s : State) (page : Nat) (code : Nat) (addr : Nat) (hss : Keep s₀ s) : Keep s₀
    (internalFault s page code addr) := by
  unfold internalFault
  repeat' (first
    | (with_reducible assumption)
    | (intro u; first | (refine (fun (_ : Keep s₀ u) => ?_) ?_; clear_value u; rotate_left; dsimp -zeta only [u]; rotate_right) | clear_value u)
    | intro _ | lift_lets -underBinder | (with_reducible apply Keep.ite) | (with_reducible apply Keep.foldl)
    | (with_reducible apply faultStop_keep) | (with_reducible apply pageFault_keep)
    | (with_reducible apply settleSigns_keep) | split | (with_reducible refine Keep.mk' ?_ rfl rfl rfl)
    | dsimp -zeta only)

theorem claimConfirmTimeout_keep (s : State) (slots : List Nat) (spx : Bool) (hss : Keep s₀ s) : Keep s₀
    (claimConfirmTimeout s slots spx) := by
  unfold claimConfirmTimeout
  repeat' (first
    | (with_reducible assumption)
    | (intro u; first | (refine (fun (_ : Keep s₀ u) => ?_) ?_; clear_value u; rotate_left; dsimp -zeta only [u]; rotate_right) | clear_value u)
    | intro _ | lift_lets -underBinder | (with_reducible apply Keep.ite) | (with_reducible apply Keep.foldl)
    | (with_reducible apply claimSettled_keep) | (with_reducible apply clockTo_keep) | split
    | (with_reducible refine Keep.mk' ?_ rfl rfl rfl) | dsimp -zeta only)

theorem activeAtBoot_keep (s : State) (hss : Keep s₀ s) : Keep s₀ (activeAtBoot s) := by
  unfold activeAtBoot
  repeat' (first
    | (with_reducible assumption)
    | (intro u; first | (refine (fun (_ : Keep s₀ u) => ?_) ?_; clear_value u; rotate_left; dsimp -zeta only [u]; rotate_right) | clear_value u)
    | intro _ | lift_lets -underBinder | (with_reducible apply Keep.ite) | (with_reducible apply Keep.foldl)
    | (with_reducible apply broadcastClaim_keep) | (with_reducible apply claimProgress_keep)
    | (with_reducible apply raiseClaim_keep) | split | (with_reducible refine Keep.mk' ?_ rfl rfl rfl)
    | dsimp -zeta only)

theorem standbyAtBoot_keep (s : State) (hss : Keep s₀ s) : Keep s₀ (standbyAtBoot s) := by
  unfold standbyAtBoot
  repeat' (first
    | (with_reducible assumption)
    | (intro u; first | (refine (fun (_ : Keep s₀ u) => ?_) ?_; clear_value u; rotate_left; dsimp -zeta only [u]; rotate_right) | clear_value u)
    | intro _ | lift_lets -underBinder | (with_reducible apply Keep.ite) | (with_reducible apply Keep.foldl)
    | (with_reducible apply bootReady_keep) | split | (with_reducible refine Keep.mk' ?_ rfl rfl rfl)
    | dsimp -zeta only)

theorem bootWaitExpiry_keep (s : State) (hss : Keep s₀ s) : Keep s₀ (bootWaitExpiry s) := by
  unfold bootWaitExpiry
  repeat' (first
    | (with_reducible assumption)
    | (intro u; first | (refine (fun (_ : Keep s₀ u) => ?_) ?_; clear_value u; rotate_left; dsimp -zeta only [u]; rotate_right) | clear_value u)
    | intro _ | lift_lets -underBinder | (with_reducible apply Keep.ite) | (with_reducible apply Keep.foldl)
    | (with_reducible apply activeAtBoot_keep) | (with_reducible apply clockTo_keep) | split
    | (with_reducible refine Keep.mk' ?_ rfl rfl rfl) | dsimp -zeta only)

theorem bootLinkWaitExpiry_keep (s : State) (hss : Keep s₀ s) : Keep s₀ (bootLinkWaitExpiry s) := by
  unfold bootLinkWaitExpiry
  repeat' (first
    | (with_reducible assumption)
    | (intro u; first | (refine (fun (_ : Keep s₀ u) => ?_) ?_; clear_value u; rotate_left; dsimp -zeta only [u]; rotate_right) | clear_value u)
    | intro _ | lift_lets -underBinder | (with_reducible apply Keep.ite) | (with_reducible apply Keep.foldl)
    | (with_reducible apply activeAtBoot_keep) | (with_reducible apply clockTo_keep)
    | (with_reducible apply standbyAtBoot_keep) | split | (with_reducible refine Keep.mk' ?_ rfl rfl rfl)
    | dsimp -zeta only)

theorem partnerSeen_keep (s : State) (role : Role) (hss : Keep s₀ s) : Keep s₀ (partnerSeen s role) := by
  unfold partnerSeen
  repeat' (first
    | (with_reducible assumption)
    | (intro u; first | (refine (fun (_ : Keep s₀ u) => ?_) ?_; clear_value u; rotate_left; dsimp -zeta only [u]; rotate_right) | clear_value u)
    | intro _ | lift_lets -underBinder | (with_reducible apply Keep.ite) | (with_reducible apply Keep.foldl)
    | (with_reducible apply standbyAtBoot_keep) | split | (with_reducible refine Keep.mk' ?_ rfl rfl rfl)
    | dsimp -zeta only)

theorem linkPartner_keep (s : State) (h : Heartbeat) (hss : Keep s₀ s) : Keep s₀ (linkPartner s h) := by
  unfold linkPartner
  repeat' (first
    | (with_reducible assumption)
    | (intro u; first | (refine (fun (_ : Keep s₀ u) => ?_) ?_; clear_value u; rotate_left; dsimp -zeta only [u]; rotate_right) | clear_value u)
    | intro _ | lift_lets -underBinder | (with_reducible apply Keep.ite) | (with_reducible apply Keep.foldl)
    | (with_reducible apply activeAtBoot_keep) | (with_reducible apply standbyAtBoot_keep)
    | (with_reducible apply startSync_keep) | split | (with_reducible refine Keep.mk' ?_ rfl rfl rfl)
    | dsimp -zeta only)

theorem heartbeatFrame_keep (s : State) (h : Heartbeat) (hss : Keep s₀ s) : Keep s₀ (heartbeatFrame s h) := by
  unfold heartbeatFrame
  repeat' (first
    | (with_reducible assumption)
    | (intro u; first | (refine (fun (_ : Keep s₀ u) => ?_) ?_; clear_value u; rotate_left; dsimp -zeta only [u]; rotate_right) | clear_value u)
    | intro _ | lift_lets -underBinder | (with_reducible apply Keep.ite) | (with_reducible apply Keep.foldl)
    | (with_reducible apply checkMirror_keep) | (with_reducible apply clockTo_keep)
    | (with_reducible apply linkPartner_keep) | (with_reducible apply partnerSeen_keep)
    | (with_reducible apply seeClaim_keep) | split | (with_reducible refine Keep.mk' ?_ rfl rfl rfl) | dsimp -zeta only)

theorem zeroizeReceived_keep (s : State) (hss : Keep s₀ s) : Keep s₀ (zeroizeReceived s) := by
  unfold zeroizeReceived
  repeat' (first
    | (with_reducible assumption)
    | (intro u; first | (refine (fun (_ : Keep s₀ u) => ?_) ?_; clear_value u; rotate_left; dsimp -zeta only [u]; rotate_right) | clear_value u)
    | intro _ | lift_lets -underBinder | (with_reducible apply Keep.ite) | (with_reducible apply Keep.foldl)
    | (with_reducible apply alert_keep) | (with_reducible apply emitAll_keep)
    | (with_reducible apply retireNamespace_keep) | split | (with_reducible refine Keep.mk' ?_ rfl rfl rfl)
    | dsimp -zeta only)

theorem heartbeatWord_keep (s : State) (w : Word) (hss : Keep s₀ s) : Keep s₀ (heartbeatWord s w) := by
  unfold heartbeatWord
  repeat' (first
    | (with_reducible assumption)
    | (intro u; first | (refine (fun (_ : Keep s₀ u) => ?_) ?_; clear_value u; rotate_left; dsimp -zeta only [u]; rotate_right) | clear_value u)
    | intro _ | lift_lets -underBinder | (with_reducible apply Keep.ite) | (with_reducible apply Keep.foldl)
    | (with_reducible apply partnerSeen_keep) | (with_reducible apply zackReceived_keep)
    | (with_reducible apply zeroizeReceived_keep) | split | (with_reducible refine Keep.mk' ?_ rfl rfl rfl)
    | dsimp -zeta only)

theorem partnerLost_keep (s : State) (hss : Keep s₀ s) : Keep s₀ (partnerLost s) := by
  unfold partnerLost
  repeat' (first
    | (with_reducible assumption)
    | (intro u; first | (refine (fun (_ : Keep s₀ u) => ?_) ?_; clear_value u; rotate_left; dsimp -zeta only [u]; rotate_right) | clear_value u)
    | intro _ | lift_lets -underBinder | (with_reducible apply Keep.ite) | (with_reducible apply Keep.foldl)
    | (with_reducible apply alert_keep) | (with_reducible apply isolate_keep) | (with_reducible apply takeOver_keep)
    | split | (with_reducible refine Keep.mk' ?_ rfl rfl rfl) | dsimp -zeta only)

theorem heartbeatBoundary_keep (s : State) (hss : Keep s₀ s) : Keep s₀ (heartbeatBoundary s) := by
  unfold heartbeatBoundary
  repeat' (first
    | (with_reducible assumption)
    | (intro u; first | (refine (fun (_ : Keep s₀ u) => ?_) ?_; clear_value u; rotate_left; dsimp -zeta only [u]; rotate_right) | clear_value u)
    | intro _ | lift_lets -underBinder | (with_reducible apply Keep.ite) | (with_reducible apply Keep.foldl)
    | (with_reducible apply alert_keep) | (with_reducible apply bump_keep) | (with_reducible apply clockTo_keep)
    | (with_reducible apply partnerLost_keep) | split | (with_reducible refine Keep.mk' ?_ rfl rfl rfl)
    | dsimp -zeta only)

theorem handoverFrame_keep (s : State) (claim : Nat) (seq : Nat) (hss : Keep s₀ s) : Keep s₀ (handoverFrame s
    claim seq) := by
  unfold handoverFrame
  repeat' (first
    | (with_reducible assumption)
    | (intro u; first | (refine (fun (_ : Keep s₀ u) => ?_) ?_; clear_value u; rotate_left; dsimp -zeta only [u]; rotate_right) | clear_value u)
    | intro _ | lift_lets -underBinder | (with_reducible apply Keep.ite) | (with_reducible apply Keep.foldl)
    | (with_reducible apply emit_keep) | (with_reducible apply hearClaim_keep) | (with_reducible apply takeOver_keep)
    | split | (with_reducible refine Keep.mk' ?_ rfl rfl rfl) | dsimp -zeta only)

theorem bindExchange_keep (s : State) (pwk : Nat) (sigOk : Bool) (hss : Keep s₀ s) : Keep s₀ (bindExchange s pwk
    sigOk) := by
  unfold bindExchange
  repeat' (first
    | (with_reducible assumption)
    | (intro u; first | (refine (fun (_ : Keep s₀ u) => ?_) ?_; clear_value u; rotate_left; dsimp -zeta only [u]; rotate_right) | clear_value u)
    | intro _ | lift_lets -underBinder | (with_reducible apply Keep.ite) | (with_reducible apply Keep.foldl)
    | (with_reducible apply endRequest_keep) | (with_reducible apply keepNonce_keep)
    | (with_reducible apply serveRing_keep) | (with_reducible apply startSync_keep) | split
    | (with_reducible refine Keep.mk' ?_ rfl rfl rfl) | dsimp -zeta only)

theorem spxRecord_keep (s : State) (claim : Nat) (channels : List SpxChannel) (hss : Keep s₀ s) : Keep s₀
    (spxRecord s claim channels) := by
  unfold spxRecord
  repeat' (first
    | (with_reducible assumption)
    | (intro u; first | (refine (fun (_ : Keep s₀ u) => ?_) ?_; clear_value u; rotate_left; dsimp -zeta only [u]; rotate_right) | clear_value u)
    | intro _ | lift_lets -underBinder | (with_reducible apply Keep.ite) | (with_reducible apply Keep.foldl)
    | (with_reducible apply claimProgress_keep) | (with_reducible apply dieSeesClaim_keep)
    | (with_reducible apply takeChannel_keep) | split | (with_reducible refine Keep.mk' ?_ rfl rfl rfl)
    | dsimp -zeta only)

theorem drillCommand_keep (s : State) (req : Nat) (op : Nat) (hss : Keep s₀ s) : Keep s₀ (drillCommand s req op)
    := by
  unfold drillCommand
  repeat' (first
    | (with_reducible assumption)
    | (intro u; first | (refine (fun (_ : Keep s₀ u) => ?_) ?_; clear_value u; rotate_left; dsimp -zeta only [u]; rotate_right) | clear_value u)
    | intro _ | lift_lets -underBinder | (with_reducible apply Keep.ite) | (with_reducible apply Keep.foldl)
    | (with_reducible apply drillCmdEffect_keep) | (with_reducible apply noteStatus_keep)
    | (with_reducible apply writeBlock_keep) | split | (with_reducible refine Keep.mk' ?_ rfl rfl rfl)
    | dsimp -zeta only)

theorem spUvlo_keep (s : State) (vcc : Nat) (vin : Nat) (hss : Keep s₀ s) : Keep s₀ (spUvlo s vcc vin) := by
  unfold spUvlo
  repeat' (first
    | (with_reducible assumption)
    | (intro u; first | (refine (fun (_ : Keep s₀ u) => ?_) ?_; clear_value u; rotate_left; dsimp -zeta only [u]; rotate_right) | clear_value u)
    | intro _ | lift_lets -underBinder | (with_reducible apply Keep.ite) | (with_reducible apply Keep.foldl)
    | (with_reducible apply dropSlot_keep) | (with_reducible apply emit_keep) | split
    | (with_reducible refine Keep.mk' ?_ rfl rfl rfl) | dsimp -zeta only)

end Sys2Proof.Machine
end

