-- ==== Sys2Proof/Laws/Keep5.lean ====
section
/-! SUPPORT. Operations that keep the queue and the canonical form of the memories, part 5. -/
namespace Sys2Proof.Machine
variable {s₀ : State}

theorem cycleWrites_keep (z0 : List BusAccess) (z1 : State) (hsz1 : Keep s₀ z1) : Keep s₀ (cycleWrites z0 z1) :=
    by
  induction z0 generalizing z1 with
  | nil =>
    rw [cycleWrites]
    repeat' (first
      | (with_reducible assumption)
      | (intro u; first | (refine (fun (_ : Keep s₀ u) => ?_) ?_; clear_value u; rotate_left; dsimp -zeta only [u]; rotate_right) | clear_value u)
      | intro _ | lift_lets -underBinder | (with_reducible apply Keep.ite) | (with_reducible apply Keep.foldl)
      | (with_reducible apply busWrite_keep) | (with_reducible apply quietWrite_keep) | split
      | (with_reducible refine Keep.mk' ?_ rfl rfl rfl) | dsimp -zeta only)
  | cons w0 z0 ih =>
    rw [cycleWrites]
    repeat' (first
      | (with_reducible apply ih) | (with_reducible assumption)
      | (intro u; first | (refine (fun (_ : Keep s₀ u) => ?_) ?_; clear_value u; rotate_left; dsimp -zeta only [u]; rotate_right) | clear_value u)
      | intro _ | lift_lets -underBinder | (with_reducible apply Keep.ite) | (with_reducible apply Keep.foldl)
      | (with_reducible apply busWrite_keep) | (with_reducible apply quietWrite_keep) | split
      | (with_reducible refine Keep.mk' ?_ rfl rfl rfl) | dsimp -zeta only)

theorem cycleAccesses_keep (s : State) (l : List BusAccess) (hss : Keep s₀ s) : Keep s₀ (cycleAccesses s l) := by
  unfold cycleAccesses
  repeat' (first
    | (with_reducible assumption)
    | (intro u; first | (refine (fun (_ : Keep s₀ u) => ?_) ?_; clear_value u; rotate_left; dsimp -zeta only [u]; rotate_right) | clear_value u)
    | intro _ | lift_lets -underBinder | (with_reducible apply Keep.ite) | (with_reducible apply Keep.foldl)
    | (with_reducible apply busRead_keep) | (with_reducible apply cycleWrites_keep) | split
    | (with_reducible refine Keep.mk' ?_ rfl rfl rfl) | dsimp -zeta only)

theorem busCycle_keep (s : State) (arrivals : List BusAccess) (hss : Keep s₀ s) : Keep s₀ (busCycle s arrivals) :=
    by
  unfold busCycle
  repeat' (first
    | (with_reducible assumption)
    | (intro u; first | (refine (fun (_ : Keep s₀ u) => ?_) ?_; clear_value u; rotate_left; dsimp -zeta only [u]; rotate_right) | (refine (fun (_ : Keep s₀ u.2) => ?_) ?_; clear_value u; rotate_left; dsimp -zeta only [u]; rotate_right) | (refine (fun (_ : Keep s₀ u.2.2) => ?_) ?_; clear_value u; rotate_left; dsimp -zeta only [u]; rotate_right) | clear_value u)
    | intro _ | lift_lets -underBinder | (with_reducible apply Keep.ite) | (with_reducible apply Keep.foldl)
    | (with_reducible apply checkAlarms_keep) | (with_reducible apply chooseBus_keep)
    | (refine chooseBus_keep_eq ?_ (by with_reducible assumption)) | (with_reducible apply cycleAccesses_keep)
    | (with_reducible apply grantBus_keep) | (with_reducible apply lose_keep)
    | (with_reducible apply presentAccess_keep) | split | (with_reducible refine Keep.mk' ?_ rfl rfl rfl)
    | dsimp -zeta only)

theorem newEntry_keep (s : State) (i : Instr) (hss : Keep s₀ s) : Keep s₀ (newEntry s i) := by
  unfold newEntry
  repeat' (first
    | (with_reducible assumption)
    | (intro u; first | (refine (fun (_ : Keep s₀ u) => ?_) ?_; clear_value u; rotate_left; dsimp -zeta only [u]; rotate_right) | clear_value u)
    | intro _ | lift_lets -underBinder | (with_reducible apply Keep.ite) | (with_reducible apply Keep.foldl)
    | (with_reducible apply serveRing_keep) | split | (with_reducible refine Keep.mk' ?_ rfl rfl rfl)
    | dsimp -zeta only)

theorem endActivation_keep (s : State) (abandoned : Bool) (hss : Keep s₀ s) : Keep s₀ (endActivation s abandoned)
    := by
  unfold endActivation
  repeat' (first
    | (with_reducible assumption)
    | (intro u; first | (refine (fun (_ : Keep s₀ u) => ?_) ?_; clear_value u; rotate_left; dsimp -zeta only [u]; rotate_right) | clear_value u)
    | intro _ | lift_lets -underBinder | (with_reducible apply Keep.ite) | (with_reducible apply Keep.foldl)
    | (with_reducible apply endRequest_keep) | (with_reducible apply keepNonce_keep)
    | (with_reducible apply serveRing_keep) | split | (with_reducible refine Keep.mk' ?_ rfl rfl rfl)
    | dsimp -zeta only)

theorem patchApply_keep (s : State) (hss : Keep s₀ s) : Keep s₀ (patchApply s) := by
  unfold patchApply
  repeat' (first
    | (with_reducible assumption)
    | (intro u; first | (refine (fun (_ : Keep s₀ u) => ?_) ?_; clear_value u; rotate_left; dsimp -zeta only [u]; rotate_right) | clear_value u)
    | intro _ | lift_lets -underBinder | (with_reducible apply Keep.ite) | (with_reducible apply Keep.foldl)
    | (with_reducible apply alert_keep) | (with_reducible apply endActivation_keep)
    | (with_reducible apply mramWritten_keep) | split | (with_reducible refine Keep.mk' ?_ rfl rfl rfl)
    | dsimp -zeta only)

theorem patchHoldTimeout_keep (s : State) (hss : Keep s₀ s) : Keep s₀ (patchHoldTimeout s) := by
  unfold patchHoldTimeout
  repeat' (first
    | (with_reducible assumption)
    | (intro u; first | (refine (fun (_ : Keep s₀ u) => ?_) ?_; clear_value u; rotate_left; dsimp -zeta only [u]; rotate_right) | clear_value u)
    | intro _ | lift_lets -underBinder | (with_reducible apply Keep.ite) | (with_reducible apply Keep.foldl)
    | (with_reducible apply alert_keep) | (with_reducible apply clockTo_keep)
    | (with_reducible apply endActivation_keep) | split | (with_reducible refine Keep.mk' ?_ rfl rfl rfl)
    | dsimp -zeta only)

theorem keyOperation_keep (s : State) (req : Nat) (op : Nat) (bank : Bool) (i : Nat) (token : Nat) (hss : Keep s₀
    s) : Keep s₀ (keyOperation s req op bank i token) := by
  unfold keyOperation
  repeat' (first
    | (with_reducible assumption)
    | (intro u; first | (refine (fun (_ : Keep s₀ u) => ?_) ?_; clear_value u; rotate_left; dsimp -zeta only [u]; rotate_right) | clear_value u)
    | intro _ | lift_lets -underBinder | (with_reducible apply Keep.ite) | (with_reducible apply Keep.foldl)
    | (with_reducible apply keyLoadEffect_keep) | (with_reducible apply writeBlock_keep) | split
    | (with_reducible refine Keep.mk' ?_ rfl rfl rfl) | dsimp -zeta only)

theorem eraseKeys_keep (s : State) (hss : Keep s₀ s) : Keep s₀ (eraseKeys s) := by
  unfold eraseKeys
  repeat' (first
    | (with_reducible assumption)
    | (intro u; first | (refine (fun (_ : Keep s₀ u) => ?_) ?_; clear_value u; rotate_left; dsimp -zeta only [u]; rotate_right) | clear_value u)
    | intro _ | lift_lets -underBinder | (with_reducible apply Keep.ite) | (with_reducible apply Keep.foldl)
    | (with_reducible apply alert_keep) | (with_reducible apply clearKeyData_keep)
    | (with_reducible apply haltJobs_keep) | split | (with_reducible refine Keep.mk' ?_ rfl rfl rfl) | dsimp -zeta only)

theorem eraseActs_keep (s : State) (hss : Keep s₀ s) : Keep s₀ (eraseActs s) := by
  unfold eraseActs
  repeat' (first
    | (with_reducible assumption)
    | (intro u; first | (refine (fun (_ : Keep s₀ u) => ?_) ?_; clear_value u; rotate_left; dsimp -zeta only [u]; rotate_right) | clear_value u)
    | intro _ | lift_lets -underBinder | (with_reducible apply Keep.ite) | (with_reducible apply Keep.foldl)
    | (with_reducible apply endRequest_keep) | (with_reducible apply enterNs_keep)
    | (with_reducible apply eraseKeys_keep) | (with_reducible apply sealedError_keep)
    | (with_reducible apply serveRing_keep) | split | (with_reducible refine Keep.mk' ?_ rfl rfl rfl)
    | dsimp -zeta only)

theorem zeroizeActs_keep (s : State) (hss : Keep s₀ s) : Keep s₀ (zeroizeActs s) := by
  unfold zeroizeActs
  repeat' (first
    | (with_reducible assumption)
    | (intro u; first | (refine (fun (_ : Keep s₀ u) => ?_) ?_; clear_value u; rotate_left; dsimp -zeta only [u]; rotate_right) | clear_value u)
    | intro _ | lift_lets -underBinder | (with_reducible apply Keep.ite) | (with_reducible apply Keep.foldl)
    | (with_reducible apply alert_keep) | (with_reducible apply eraseActs_keep)
    | (with_reducible apply sendZeroize_keep) | split | (with_reducible refine Keep.mk' ?_ rfl rfl rfl)
    | dsimp -zeta only)

theorem sourcesHold_keep (s : State) (mask : Nat) (hss : Keep s₀ s) : Keep s₀ (sourcesHold s mask) := by
  unfold sourcesHold
  repeat' (first
    | (with_reducible assumption)
    | (intro u; first | (refine (fun (_ : Keep s₀ u) => ?_) ?_; clear_value u; rotate_left; dsimp -zeta only [u]; rotate_right) | clear_value u)
    | intro _ | lift_lets -underBinder | (with_reducible apply Keep.ite) | (with_reducible apply Keep.foldl)
    | (with_reducible apply bump_keep) | (with_reducible apply eraseActs_keep) | (with_reducible apply present_keep)
    | (with_reducible apply zeroizeActs_keep) | split | (with_reducible refine Keep.mk' ?_ rfl rfl rfl)
    | dsimp -zeta only)

theorem rngHealthFail_keep (s : State) (adaptive : Bool) (hss : Keep s₀ s) : Keep s₀ (rngHealthFail s adaptive) :=
    by
  unfold rngHealthFail
  repeat' (first
    | (with_reducible assumption)
    | (intro u; first | (refine (fun (_ : Keep s₀ u) => ?_) ?_; clear_value u; rotate_left; dsimp -zeta only [u]; rotate_right) | clear_value u)
    | intro _ | lift_lets -underBinder | (with_reducible apply Keep.ite) | (with_reducible apply Keep.foldl)
    | (with_reducible apply alert_keep) | (with_reducible apply bump_keep) | split
    | (with_reducible refine Keep.mk' ?_ rfl rfl rfl) | dsimp -zeta only)

theorem rngRestart_keep (s : State) (hss : Keep s₀ s) : Keep s₀ (rngRestart s) := by
  unfold rngRestart
  repeat' (first
    | (with_reducible assumption)
    | (intro u; first | (refine (fun (_ : Keep s₀ u) => ?_) ?_; clear_value u; rotate_left; dsimp -zeta only [u]; rotate_right) | clear_value u)
    | intro _ | lift_lets -underBinder | (with_reducible apply Keep.ite) | (with_reducible apply Keep.foldl)
    | (with_reducible apply clockTo_keep) | split | (with_reducible refine Keep.mk' ?_ rfl rfl rfl) | dsimp -zeta only)

theorem acceptReq_keep (s : State) (r : CmReq) (n : Nat) (engine : Nat) (hss : Keep s₀ s) : Keep s₀ (acceptReq s r
    n engine) := by
  unfold acceptReq
  repeat' (first
    | (with_reducible assumption)
    | (intro u; first | (refine (fun (_ : Keep s₀ u) => ?_) ?_; clear_value u; rotate_left; dsimp -zeta only [u]; rotate_right) | (refine (fun (_ : Keep s₀ u.2) => ?_) ?_; clear_value u; rotate_left; dsimp -zeta only [u]; rotate_right) | (refine (fun (_ : Keep s₀ u.2.2) => ?_) ?_; clear_value u; rotate_left; dsimp -zeta only [u]; rotate_right) | clear_value u)
    | intro _ | lift_lets -underBinder | (with_reducible apply Keep.ite) | (with_reducible apply Keep.foldl)
    | (with_reducible apply bump_keep) | (with_reducible apply draw_keep)
    | (refine draw_keep_eq ?_ (by with_reducible assumption)) | (with_reducible apply emit_keep)
    | (with_reducible apply grant_keep) | (with_reducible apply register_keep) | (with_reducible apply setConn_keep)
    | split | (with_reducible refine Keep.mk' ?_ rfl rfl rfl) | dsimp -zeta only)

theorem reqReceived_keep (s : State) (r : CmReq) (hss : Keep s₀ s) : Keep s₀ (reqReceived s r) := by
  unfold reqReceived
  repeat' (first
    | (with_reducible assumption)
    | (intro u; first | (refine (fun (_ : Keep s₀ u) => ?_) ?_; clear_value u; rotate_left; dsimp -zeta only [u]; rotate_right) | clear_value u)
    | intro _ | lift_lets -underBinder | (with_reducible apply Keep.ite) | (with_reducible apply Keep.foldl)
    | (with_reducible apply acceptReq_keep) | (with_reducible apply emit_keep) | split
    | (with_reducible refine Keep.mk' ?_ rfl rfl rfl) | dsimp -zeta only)

theorem rngReady_keep (s : State) (hss : Keep s₀ s) : Keep s₀ (rngReady s) := by
  unfold rngReady
  repeat' (first
    | (with_reducible assumption)
    | (intro u; first | (refine (fun (_ : Keep s₀ u) => ?_) ?_; clear_value u; rotate_left; dsimp -zeta only [u]; rotate_right) | clear_value u)
    | intro _ | lift_lets -underBinder | (with_reducible apply Keep.ite) | (with_reducible apply Keep.foldl)
    | (with_reducible apply reqReceived_keep) | (with_reducible apply serveRing_keep) | split
    | (with_reducible refine Keep.mk' ?_ rfl rfl rfl) | dsimp -zeta only)

theorem releaseTag_keep (s : State) (tag : Nat) (hss : Keep s₀ s) : Keep s₀ (releaseTag s tag) := by
  unfold releaseTag
  repeat' (first
    | (with_reducible assumption)
    | (intro u; first | (refine (fun (_ : Keep s₀ u) => ?_) ?_; clear_value u; rotate_left; dsimp -zeta only [u]; rotate_right) | clear_value u)
    | intro _ | lift_lets -underBinder | (with_reducible apply Keep.ite) | (with_reducible apply Keep.foldl)
    | (with_reducible apply emit_keep) | split | (with_reducible refine Keep.mk' ?_ rfl rfl rfl) | dsimp -zeta only)

theorem beginFlr_keep (s : State) (hss : Keep s₀ s) : Keep s₀ (beginFlr s) := by
  unfold beginFlr
  repeat' (first
    | (with_reducible assumption)
    | (intro u; first | (refine (fun (_ : Keep s₀ u) => ?_) ?_; clear_value u; rotate_left; dsimp -zeta only [u]; rotate_right) | clear_value u)
    | intro _ | lift_lets -underBinder | (with_reducible apply Keep.ite) | (with_reducible apply Keep.foldl)
    | (with_reducible apply alert_keep) | (with_reducible apply bump_keep) | (with_reducible apply clearBme_keep)
    | (with_reducible apply leaveL1_keep) | (with_reducible apply releaseTag_keep)
    | (with_reducible apply updateSvp_keep) | split | (with_reducible refine Keep.mk' ?_ rfl rfl rfl)
    | dsimp -zeta only)

theorem perstAssert_keep (s : State) (hot : Bool) (hss : Keep s₀ s) : Keep s₀ (perstAssert s hot) := by
  unfold perstAssert
  repeat' (first
    | (with_reducible assumption)
    | (intro u; first | (refine (fun (_ : Keep s₀ u) => ?_) ?_; clear_value u; rotate_left; dsimp -zeta only [u]; rotate_right) | clear_value u)
    | intro _ | lift_lets -underBinder | (with_reducible apply Keep.ite) | (with_reducible apply Keep.foldl)
    | (with_reducible apply beginFlr_keep) | (with_reducible apply portDown_keep)
    | (with_reducible apply updateSvp_keep) | split | (with_reducible refine Keep.mk' ?_ rfl rfl rfl)
    | dsimp -zeta only)

theorem configWrite_keep (s : State) (off : Nat) (v : Word) (hss : Keep s₀ s) : Keep s₀ (configWrite s off v) :=
    by
  unfold configWrite
  repeat' (first
    | (with_reducible assumption)
    | (intro u; first | (refine (fun (_ : Keep s₀ u) => ?_) ?_; clear_value u; rotate_left; dsimp -zeta only [u]; rotate_right) | clear_value u)
    | intro _ | lift_lets -underBinder | (with_reducible apply Keep.ite) | (with_reducible apply Keep.foldl)
    | (with_reducible apply beginFlr_keep) | (with_reducible apply settleVectors_keep)
    | (with_reducible apply updateSvp_keep) | (with_reducible apply writeCommand_keep) | split
    | (with_reducible refine Keep.mk' ?_ rfl rfl rfl) | dsimp -zeta only)

theorem configRequest_keep (s : State) (write : Bool) (offset : Nat) (v : Word) (hss : Keep s₀ s) : Keep s₀
    (configRequest s write offset v) := by
  unfold configRequest
  repeat' (first
    | (with_reducible assumption)
    | (intro u; first | (refine (fun (_ : Keep s₀ u) => ?_) ?_; clear_value u; rotate_left; dsimp -zeta only [u]; rotate_right) | clear_value u)
    | intro _ | lift_lets -underBinder | (with_reducible apply Keep.ite) | (with_reducible apply Keep.foldl)
    | (with_reducible apply configWrite_keep) | (with_reducible apply sendTlp_keep) | (with_reducible apply tlpIn_keep)
    | split | (with_reducible refine Keep.mk' ?_ rfl rfl rfl) | dsimp -zeta only)

theorem barReads_keep (s : State) (a n : Nat) (hs : Keep s₀ s) : Keep s₀ (barReads s a n).2 := by
  induction n generalizing s a with
  | zero => exact hs
  | succ n ih =>
    rw [barReads]
    exact ih _ _ (busRead_keep _ _ _ hs)
theorem barReads_keep_eq {s : State} {a n : Nat} {e0 : Option (List Word)} {t : State} (hs : Keep s₀ s)
    (e : barReads s a n = (e0, t)) : Keep s₀ t := by
  have := barReads_keep s a n hs
  rw [e] at this
  exact this

theorem barWrites_keep (z0 : List Word) (z1 : Nat) (z2 : State) (hsz2 : Keep s₀ z2) : Keep s₀ (barWrites z0 z1 z2)
    := by
  induction z0 generalizing z1 z2 with
  | nil =>
    rw [barWrites]
    repeat' (first
      | (with_reducible assumption)
      | (intro u; first | (refine (fun (_ : Keep s₀ u) => ?_) ?_; clear_value u; rotate_left; dsimp -zeta only [u]; rotate_right) | clear_value u)
      | intro _ | lift_lets -underBinder | (with_reducible apply Keep.ite) | (with_reducible apply Keep.foldl)
      | (with_reducible apply busWrite_keep) | split | (with_reducible refine Keep.mk' ?_ rfl rfl rfl) | dsimp -zeta only)
  | cons w0 z0 ih =>
    rw [barWrites]
    repeat' (first
      | (with_reducible apply ih) | (with_reducible assumption)
      | (intro u; first | (refine (fun (_ : Keep s₀ u) => ?_) ?_; clear_value u; rotate_left; dsimp -zeta only [u]; rotate_right) | clear_value u)
      | intro _ | lift_lets -underBinder | (with_reducible apply Keep.ite) | (with_reducible apply Keep.foldl)
      | (with_reducible apply busWrite_keep) | split | (with_reducible refine Keep.mk' ?_ rfl rfl rfl) | dsimp -zeta only)

theorem bar0Request_keep (s : State) (write : Bool) (o : Nat) (values : List Word) (allBe : Bool) (ep : Bool) (hss
    : Keep s₀ s) : Keep s₀ (bar0Request s write o values allBe ep) := by
  unfold bar0Request
  repeat' (first
    | (with_reducible assumption)
    | (intro u; first | (refine (fun (_ : Keep s₀ u) => ?_) ?_; clear_value u; rotate_left; dsimp -zeta only [u]; rotate_right) | (refine (fun (_ : Keep s₀ u.2) => ?_) ?_; clear_value u; rotate_left; dsimp -zeta only [u]; rotate_right) | (refine (fun (_ : Keep s₀ u.2.2) => ?_) ?_; clear_value u; rotate_left; dsimp -zeta only [u]; rotate_right) | clear_value u)
    | intro _ | lift_lets -underBinder | (with_reducible apply Keep.ite) | (with_reducible apply Keep.foldl)
    | (with_reducible apply bar4Request_keep) | (with_reducible apply barReads_keep)
    | (refine barReads_keep_eq ?_ (by with_reducible assumption)) | (with_reducible apply barWrites_keep)
    | (with_reducible apply poisonedTlp_keep) | (with_reducible apply sendTlp_keep) | (with_reducible apply tlpIn_keep)
    | (with_reducible apply unsupported_keep) | split | (with_reducible refine Keep.mk' ?_ rfl rfl rfl)
    | dsimp -zeta only)

theorem readFails_keep (s : State) (who : OutReq) (a : Nat) (len : Nat) (tag : Nat) (status : Nat) (hss : Keep s₀
    s) : Keep s₀ (readFails s who a len tag status) := by
  unfold readFails
  repeat' (first
    | (with_reducible assumption)
    | (intro u; first | (refine (fun (_ : Keep s₀ u) => ?_) ?_; clear_value u; rotate_left; dsimp -zeta only [u]; rotate_right) | clear_value u)
    | intro _ | lift_lets -underBinder | (with_reducible apply Keep.ite) | (with_reducible apply Keep.foldl)
    | (with_reducible apply coreFails_keep) | (with_reducible apply dmaReadEnds_keep) | split
    | (with_reducible refine Keep.mk' ?_ rfl rfl rfl) | dsimp -zeta only)

theorem dataArrives_keep (s : State) (tag : Nat) (who : OutReq) (a : Nat) (len : Nat) (got : Nat) (deadline :
    Tick) (data : List Byte) (hss : Keep s₀ s) : Keep s₀ (dataArrives s tag who a len got deadline data) := by
  unfold dataArrives
  repeat' (first
    | (with_reducible assumption)
    | (intro u; first | (refine (fun (_ : Keep s₀ u) => ?_) ?_; clear_value u; rotate_left; dsimp -zeta only [u]; rotate_right) | clear_value u)
    | intro _ | lift_lets -underBinder | (with_reducible apply Keep.ite) | (with_reducible apply Keep.foldl)
    | (with_reducible apply dmaReadEnds_keep) | (with_reducible apply dmaReadPart_keep)
    | (with_reducible apply emit_keep) | (with_reducible apply updateSvp_keep) | split
    | (with_reducible refine Keep.mk' ?_ rfl rfl rfl) | dsimp -zeta only)

theorem completion_keep (s : State) (tag : Nat) (status : CplStatus) (data : List Byte) (hss : Keep s₀ s) : Keep
    s₀ (completion s tag status data) := by
  unfold completion
  repeat' (first
    | (with_reducible assumption)
    | (intro u; first | (refine (fun (_ : Keep s₀ u) => ?_) ?_; clear_value u; rotate_left; dsimp -zeta only [u]; rotate_right) | clear_value u)
    | intro _ | lift_lets -underBinder | (with_reducible apply Keep.ite) | (with_reducible apply Keep.foldl)
    | (with_reducible apply dataArrives_keep) | (with_reducible apply readFails_keep)
    | (with_reducible apply strayCompletion_keep) | (with_reducible apply tlpIn_keep)
    | (with_reducible apply updateSvp_keep) | split | (with_reducible refine Keep.mk' ?_ rfl rfl rfl)
    | dsimp -zeta only)

theorem readTimeout_keep (s : State) (tag : Nat) (hss : Keep s₀ s) : Keep s₀ (readTimeout s tag) := by
  unfold readTimeout
  repeat' (first
    | (with_reducible assumption)
    | (intro u; first | (refine (fun (_ : Keep s₀ u) => ?_) ?_; clear_value u; rotate_left; dsimp -zeta only [u]; rotate_right) | clear_value u)
    | intro _ | lift_lets -underBinder | (with_reducible apply Keep.ite) | (with_reducible apply Keep.foldl)
    | (with_reducible apply aerReport_keep) | (with_reducible apply alert_keep) | (with_reducible apply blockError_keep)
    | (with_reducible apply bump_keep) | (with_reducible apply clockTo_keep) | (with_reducible apply readFails_keep)
    | (with_reducible apply updateSvp_keep) | split | (with_reducible refine Keep.mk' ?_ rfl rfl rfl)
    | dsimp -zeta only)

theorem tapSelect_keep (s : State) (i : TapInstr) (driving : Bool) (floating : Bool) (hss : Keep s₀ s) : Keep s₀
    (tapSelect s i driving floating) := by
  unfold tapSelect
  repeat' (first
    | (with_reducible assumption)
    | (intro u; first | (refine (fun (_ : Keep s₀ u) => ?_) ?_; clear_value u; rotate_left; dsimp -zeta only [u]; rotate_right) | clear_value u)
    | intro _ | lift_lets -underBinder | (with_reducible apply Keep.ite) | (with_reducible apply Keep.foldl) | split
    | (with_reducible refine Keep.mk' ?_ rfl rfl rfl) | dsimp -zeta only)

theorem tapBypass_keep (s : State) (hss : Keep s₀ s) : Keep s₀ (tapBypass s) := by
  unfold tapBypass
  repeat' (first
    | (with_reducible assumption)
    | (intro u; first | (refine (fun (_ : Keep s₀ u) => ?_) ?_; clear_value u; rotate_left; dsimp -zeta only [u]; rotate_right) | clear_value u)
    | intro _ | lift_lets -underBinder | (with_reducible apply Keep.ite) | (with_reducible apply Keep.foldl)
    | (with_reducible apply emit_keep) | (with_reducible apply tapSelect_keep) | split
    | (with_reducible refine Keep.mk' ?_ rfl rfl rfl) | dsimp -zeta only)

theorem setupTimeout_keep (s : State) (n : Nat) (hss : Keep s₀ s) : Keep s₀ (setupTimeout s n) := by
  unfold setupTimeout
  repeat' (first
    | (with_reducible assumption)
    | (intro u; first | (refine (fun (_ : Keep s₀ u) => ?_) ?_; clear_value u; rotate_left; dsimp -zeta only [u]; rotate_right) | clear_value u)
    | intro _ | lift_lets -underBinder | (with_reducible apply Keep.ite) | (with_reducible apply Keep.foldl)
    | (with_reducible apply clockToOpt_keep) | (with_reducible apply freeCells_keep)
    | (with_reducible apply freeConn_keep) | split | (with_reducible refine Keep.mk' ?_ rfl rfl rfl) | dsimp -zeta only)

theorem dreqReceived_keep (s : State) (n : Nat) (hss : Keep s₀ s) : Keep s₀ (dreqReceived s n) := by
  unfold dreqReceived
  repeat' (first
    | (with_reducible assumption)
    | (intro u; first | (refine (fun (_ : Keep s₀ u) => ?_) ?_; clear_value u; rotate_left; dsimp -zeta only [u]; rotate_right) | clear_value u)
    | intro _ | lift_lets -underBinder | (with_reducible apply Keep.ite) | (with_reducible apply Keep.foldl)
    | (with_reducible apply emit_keep) | (with_reducible apply freeCells_keep) | (with_reducible apply freeConn_keep)
    | (with_reducible apply stopConn_keep) | split | (with_reducible refine Keep.mk' ?_ rfl rfl rfl) | dsimp -zeta only)

theorem closingEnds_keep (s : State) (n : Nat) (hss : Keep s₀ s) : Keep s₀ (closingEnds s n) := by
  unfold closingEnds
  repeat' (first
    | (with_reducible assumption)
    | (intro u; first | (refine (fun (_ : Keep s₀ u) => ?_) ?_; clear_value u; rotate_left; dsimp -zeta only [u]; rotate_right) | clear_value u)
    | intro _ | lift_lets -underBinder | (with_reducible apply Keep.ite) | (with_reducible apply Keep.foldl)
    | (with_reducible apply freeCells_keep) | (with_reducible apply freeConn_keep) | split
    | (with_reducible refine Keep.mk' ?_ rfl rfl rfl) | dsimp -zeta only)

theorem drepTimeout_keep (s : State) (n : Nat) (hss : Keep s₀ s) : Keep s₀ (drepTimeout s n) := by
  unfold drepTimeout
  repeat' (first
    | (with_reducible assumption)
    | (intro u; first | (refine (fun (_ : Keep s₀ u) => ?_) ?_; clear_value u; rotate_left; dsimp -zeta only [u]; rotate_right) | clear_value u)
    | intro _ | lift_lets -underBinder | (with_reducible apply Keep.ite) | (with_reducible apply Keep.foldl)
    | (with_reducible apply clockToOpt_keep) | (with_reducible apply closingEnds_keep) | split
    | (with_reducible refine Keep.mk' ?_ rfl rfl rfl) | dsimp -zeta only)

end Sys2Proof.Machine
end

