-- ==== Sys2Proof/Laws/KeepRows.lean ====
section
/-! SUPPORT. Commands that keep the queue and the canonical form of the memories. -/
namespace Sys2Proof.Machine
variable {s₀ : State}

/-- A result whose next state, if it has one, keeps `Keep`. -/
structure Keep.Out (a : State) (r : Res) : Prop where
  use : ∀ t, r = .next t → Keep a t

theorem Keep.out_next {u : State} (h : Keep s₀ u) : Keep.Out s₀ (.next u) := ⟨fun t e => by cases e; exact h⟩
theorem Keep.out_fault {f : Fault} : Keep.Out s₀ (.fault f) := ⟨fun t e => by cases e⟩
theorem Keep.out_onUnit {w : String} {i n : Nat} {u : State} (h : Keep s₀ u) : Keep.Out s₀ (onUnit w i n u) := by
  unfold onUnit
  split
  · exact Keep.out_next h
  · exact Keep.out_fault
theorem Keep.out_ite {c : Prop} [Decidable c] {x y : Res} (hx : Keep.Out s₀ x) (hy : Keep.Out s₀ y) :
    Keep.Out s₀ (if c then x else y) := by
  split <;> assumption
theorem Quiet.out_keep {a : State} {r : Res} (h : Quiet.Out a r) : Keep.Out a r :=
  ⟨fun t e => ⟨(h.use t e).pending, (h.use t e).dram, fun w => by rw [(h.use t e).mram]; exact w⟩⟩

theorem execDdrScrub_keep (n : Nat) (w : WordCheck) (raced : Bool) (s : State) : Keep.Out s (execDdrScrub n w
    raced s) := by
  have hs := Keep.refl s
  unfold execDdrScrub
  repeat' (first
    | (with_reducible assumption) | (with_reducible apply Keep.out_next) | (with_reducible apply Keep.out_onUnit)
    | (with_reducible apply ddrScrub_keep) | intro _ | split)

theorem execMramDieFail_keep (die : Nat) (s : State) : Keep.Out s (execMramDieFail die s) := by
  have hs := Keep.refl s
  unfold execMramDieFail
  repeat' (first
    | (with_reducible assumption) | (with_reducible apply Keep.out_next) | (with_reducible apply Keep.out_onUnit)
    | (with_reducible apply mramDieFail_keep) | intro _ | split)

theorem execEnableDone_keep (page : Nat) (s : State) : Keep.Out s (execEnableDone page s) := by
  have hs := Keep.refl s
  unfold execEnableDone
  repeat' (first
    | (with_reducible assumption) | (with_reducible apply Keep.out_next) | (with_reducible apply Keep.out_onUnit)
    | (with_reducible apply enableDone_keep) | (with_reducible apply proceed_keep) | intro _ | split)

theorem execFault_keep (page : Nat) (code : Nat) (addr : Nat) (s : State) : Keep.Out s (execFault page code addr
    s) := by
  have hs := Keep.refl s
  unfold execFault
  repeat' (first
    | (with_reducible assumption) | (with_reducible apply Keep.out_next) | (with_reducible apply Keep.out_onUnit)
    | (with_reducible apply internalFault_keep) | (with_reducible apply proceed_keep) | intro _ | split)

theorem execRefclkPresent_keep (s : State) : Keep.Out s (execRefclkPresent s) := by
  have hs := Keep.refl s
  unfold execRefclkPresent
  repeat' (first
    | (with_reducible assumption) | (with_reducible apply Keep.out_next) | (with_reducible apply Keep.out_onUnit)
    | (with_reducible apply proceed_keep) | (with_reducible apply refclkPresent_keep) | intro _ | split)

theorem execPllLock_keep (s : State) : Keep.Out s (execPllLock s) := by
  have hs := Keep.refl s
  unfold execPllLock
  repeat' (first
    | (with_reducible assumption) | (with_reducible apply Keep.out_next) | (with_reducible apply Keep.out_onUnit)
    | (with_reducible apply pllLocks_keep) | (with_reducible apply proceed_keep) | intro _ | split)

theorem execDividerStep_keep (clock : Nat) (s : State) : Keep.Out s (execDividerStep clock s) := by
  have hs := Keep.refl s
  unfold execDividerStep
  repeat' (first
    | (with_reducible assumption) | (with_reducible apply Keep.out_next) | (with_reducible apply Keep.out_onUnit)
    | (with_reducible apply dividerStep_keep) | (with_reducible apply proceed_keep) | intro _ | split)

theorem execPwrDomainWrite_keep (req : Nat) (high : Bool) (value : Word) (s : State) : Keep.Out s
    (execPwrDomainWrite req high value s) := by
  have hs := Keep.refl s
  unfold execPwrDomainWrite
  repeat' (first
    | (with_reducible assumption) | (with_reducible apply Keep.out_next) | (with_reducible apply Keep.out_onUnit)
    | (with_reducible apply settleSigns_keep) | (with_reducible apply writeDomains_keep) | intro _ | split)

theorem execDomainSwitchDone_keep (d : Nat) (s : State) : Keep.Out s (execDomainSwitchDone d s) := by
  have hs := Keep.refl s
  unfold execDomainSwitchDone
  repeat' (first
    | (with_reducible assumption) | (with_reducible apply Keep.out_next) | (with_reducible apply Keep.out_onUnit)
    | (with_reducible apply domainDone_keep) | (with_reducible apply proceed_keep) | intro _ | split)

theorem execPowerOnReset_keep (b : BootInputs) (s : State) : Keep.Out s (execPowerOnReset b s) := by
  have hs := Keep.refl s
  unfold execPowerOnReset
  repeat' (first
    | (with_reducible assumption) | (with_reducible apply Keep.out_next) | (with_reducible apply Keep.out_onUnit)
    | (with_reducible apply powerOnReset_keep) | intro _ | split)

theorem execDeviceReset_keep (req : Nat) (b : BootInputs) (s : State) : Keep.Out s (execDeviceReset req b s) := by
  have hs := Keep.refl s
  unfold execDeviceReset
  repeat' (first
    | (with_reducible assumption) | (with_reducible apply Keep.out_next) | (with_reducible apply Keep.out_onUnit)
    | (with_reducible apply bootCtrlEffect_keep) | (with_reducible apply writeBlock_keep) | intro _ | split)

theorem execDmaDescriptor_keep (n : Nat) (s : State) : Keep.Out s (execDmaDescriptor n s) := by
  have hs := Keep.refl s
  unfold execDmaDescriptor
  repeat' (first
    | (with_reducible assumption) | (with_reducible apply Keep.out_next) | (with_reducible apply Keep.out_onUnit)
    | (with_reducible apply dmaWork_keep) | intro _ | split)

theorem execDmaWriteback_keep (n : Nat) (ok : Bool) (s : State) : Keep.Out s (execDmaWriteback n ok s) := by
  have hs := Keep.refl s
  unfold execDmaWriteback
  repeat' (first
    | (with_reducible assumption) | (with_reducible apply Keep.out_next) | (with_reducible apply Keep.out_onUnit)
    | (with_reducible apply dmaWriteBack_keep) | intro _ | split)

theorem execIntSet_keep (req : Nat) (page : Nat) (v : Word) (s : State) : Keep.Out s (execIntSet req page v s) :=
    by
  have hs := Keep.refl s
  unfold execIntSet
  repeat' (first
    | (with_reducible assumption) | (with_reducible apply Keep.out_next) | (with_reducible apply Keep.out_onUnit)
    | (with_reducible apply writeHeader_keep) | intro _ | split)

theorem execErrCountWrite_keep (req : Nat) (page : Nat) (v : Word) (s : State) : Keep.Out s (execErrCountWrite req
    page v s) := by
  have hs := Keep.refl s
  unfold execErrCountWrite
  repeat' (first
    | (with_reducible assumption) | (with_reducible apply Keep.out_next) | (with_reducible apply Keep.out_onUnit)
    | (with_reducible apply writeHeader_keep) | intro _ | split)

theorem execPgLockWrite_keep (req : Nat) (page : Nat) (v : Word) (s : State) : Keep.Out s (execPgLockWrite req
    page v s) := by
  have hs := Keep.refl s
  unfold execPgLockWrite
  repeat' (first
    | (with_reducible assumption) | (with_reducible apply Keep.out_next) | (with_reducible apply Keep.out_onUnit)
    | (with_reducible apply writeHeader_keep) | intro _ | split)

theorem execPmcClear_keep (req : Nat) (page : Nat) (s : State) : Keep.Out s (execPmcClear req page s) := by
  have hs := Keep.refl s
  unfold execPmcClear
  repeat' (first
    | (with_reducible assumption) | (with_reducible apply Keep.out_next) | (with_reducible apply Keep.out_onUnit)
    | (with_reducible apply writeHeader_keep) | intro _ | split)

theorem execCycLoRead_keep (req : Nat) (page : Nat) (s : State) : Keep.Out s (execCycLoRead req page s) := by
  have hs := Keep.refl s
  unfold execCycLoRead
  repeat' (first
    | (with_reducible assumption) | (with_reducible apply Keep.out_next) | (with_reducible apply Keep.out_onUnit)
    | (with_reducible apply readHeader_keep) | intro _ | split)

theorem execPmcChainRead_keep (req : Nat) (page : Nat) (pair : Nat) (s : State) : Keep.Out s (execPmcChainRead req
    page pair s) := by
  have hs := Keep.refl s
  unfold execPmcChainRead
  repeat' (first
    | (with_reducible assumption) | (with_reducible apply Keep.out_next) | (with_reducible apply Keep.out_onUnit)
    | (with_reducible apply readHeader_keep) | intro _ | split)

theorem execEnable_keep (req : Nat) (page : Nat) (s : State) : Keep.Out s (execEnable req page s) := by
  have hs := Keep.refl s
  unfold execEnable
  repeat' (first
    | (with_reducible assumption) | (with_reducible apply Keep.out_next) | (with_reducible apply Keep.out_onUnit)
    | (with_reducible apply writeCtrl_keep) | intro _ | split)

theorem execShutdown_keep (req : Nat) (page : Nat) (s : State) : Keep.Out s (execShutdown req page s) := by
  have hs := Keep.refl s
  unfold execShutdown
  repeat' (first
    | (with_reducible assumption) | (with_reducible apply Keep.out_next) | (with_reducible apply Keep.out_onUnit)
    | (with_reducible apply writeCtrl_keep) | intro _ | split)

theorem execShutdownDone_keep (page : Nat) (s : State) : Keep.Out s (execShutdownDone page s) := by
  have hs := Keep.refl s
  unfold execShutdownDone
  repeat' (first
    | (with_reducible assumption) | (with_reducible apply Keep.out_next) | (with_reducible apply Keep.out_onUnit)
    | (with_reducible apply shutdownDone_keep) | intro _ | split)

theorem execQuiesce_keep (req : Nat) (page : Nat) (on : Bool) (s : State) : Keep.Out s (execQuiesce req page on s)
    := by
  have hs := Keep.refl s
  unfold execQuiesce
  repeat' (first
    | (with_reducible assumption) | (with_reducible apply Keep.out_next) | (with_reducible apply Keep.out_onUnit)
    | (with_reducible apply writeCtrl_keep) | intro _ | split)

theorem execQuiesceDone_keep (page : Nat) (s : State) : Keep.Out s (execQuiesceDone page s) := by
  have hs := Keep.refl s
  unfold execQuiesceDone
  repeat' (first
    | (with_reducible assumption) | (with_reducible apply Keep.out_next) | (with_reducible apply Keep.out_onUnit)
    | (with_reducible apply quiesceDone_keep) | (with_reducible apply settleVectors_keep) | intro _ | split)

theorem execSoftReset_keep (req : Nat) (page : Nat) (s : State) : Keep.Out s (execSoftReset req page s) := by
  have hs := Keep.refl s
  unfold execSoftReset
  repeat' (first
    | (with_reducible assumption) | (with_reducible apply Keep.out_next) | (with_reducible apply Keep.out_onUnit)
    | (with_reducible apply writeCtrl_keep) | intro _ | split)

theorem execSoftResetDone_keep (page : Nat) (s : State) : Keep.Out s (execSoftResetDone page s) := by
  have hs := Keep.refl s
  unfold execSoftResetDone
  repeat' (first
    | (with_reducible assumption) | (with_reducible apply Keep.out_next) | (with_reducible apply Keep.out_onUnit)
    | (with_reducible apply softResetDone_keep) | intro _ | split)

theorem execLockReq_keep (req : Nat) (page : Nat) (s : State) : Keep.Out s (execLockReq req page s) := by
  have hs := Keep.refl s
  unfold execLockReq
  repeat' (first
    | (with_reducible assumption) | (with_reducible apply Keep.out_next) | (with_reducible apply Keep.out_onUnit)
    | (with_reducible apply writeCtrl_keep) | intro _ | split)

theorem execLockReqAnswer_keep (page : Nat) (s : State) : Keep.Out s (execLockReqAnswer page s) := by
  have hs := Keep.refl s
  unfold execLockReqAnswer
  repeat' (first
    | (with_reducible assumption) | (with_reducible apply Keep.out_next) | (with_reducible apply Keep.out_onUnit)
    | (with_reducible apply lockAnswer_keep) | (with_reducible apply settleVectors_keep) | intro _ | split)

theorem execClaimConfirmTimeout_keep (slots : List Nat) (spx : Bool) (s : State) : Keep.Out s
    (execClaimConfirmTimeout slots spx s) := by
  have hs := Keep.refl s
  unfold execClaimConfirmTimeout
  repeat' (first
    | (with_reducible assumption) | (with_reducible apply Keep.out_next) | (with_reducible apply Keep.out_onUnit)
    | (with_reducible apply claimConfirmTimeout_keep) | (with_reducible apply noteStatus_keep) | intro _ | split)

theorem execStatus_keep (slot : Nat) (h : LinkHdr) (code : Nat) (payload : List Byte) (s : State) : Keep.Out s
    (execStatus slot h code payload s) := by
  have hs := Keep.refl s
  unfold execStatus
  unfold onSlot
  repeat' (first
    | (with_reducible assumption) | (with_reducible apply Keep.out_next) | (with_reducible apply Keep.out_onUnit)
    | (with_reducible apply claimProgress_keep) | (with_reducible apply noteStatus_keep)
    | (with_reducible apply statusFrame_keep) | intro _ | split)

theorem execBootWaitExpiry_keep (s : State) : Keep.Out s (execBootWaitExpiry s) := by
  have hs := Keep.refl s
  unfold execBootWaitExpiry
  repeat' (first
    | (with_reducible assumption) | (with_reducible apply Keep.out_next) | (with_reducible apply Keep.out_onUnit)
    | (with_reducible apply bootWaitExpiry_keep) | (with_reducible apply noteStatus_keep) | intro _ | split)

theorem execBootLinkWaitExpiry_keep (s : State) : Keep.Out s (execBootLinkWaitExpiry s) := by
  have hs := Keep.refl s
  unfold execBootLinkWaitExpiry
  repeat' (first
    | (with_reducible assumption) | (with_reducible apply Keep.out_next) | (with_reducible apply Keep.out_onUnit)
    | (with_reducible apply bootLinkWaitExpiry_keep) | (with_reducible apply noteStatus_keep) | intro _ | split)

theorem execHeartbeat_keep (h : Heartbeat) (s : State) : Keep.Out s (execHeartbeat h s) := by
  have hs := Keep.refl s
  unfold execHeartbeat
  repeat' (first
    | (with_reducible assumption) | (with_reducible apply Keep.out_next) | (with_reducible apply Keep.out_onUnit)
    | (with_reducible apply heartbeatFrame_keep) | (with_reducible apply noteStatus_keep) | intro _ | split)

theorem execHeartbeatWord_keep (word : Word) (s : State) : Keep.Out s (execHeartbeatWord word s) := by
  have hs := Keep.refl s
  unfold execHeartbeatWord
  repeat' (first
    | (with_reducible assumption) | (with_reducible apply Keep.out_next) | (with_reducible apply Keep.out_onUnit)
    | (with_reducible apply heartbeatWord_keep) | (with_reducible apply noteStatus_keep) | intro _ | split)

theorem execHeartbeatBoundary_keep (s : State) : Keep.Out s (execHeartbeatBoundary s) := by
  have hs := Keep.refl s
  unfold execHeartbeatBoundary
  repeat' (first
    | (with_reducible assumption) | (with_reducible apply Keep.out_next) | (with_reducible apply Keep.out_onUnit)
    | (with_reducible apply heartbeatBoundary_keep) | (with_reducible apply noteStatus_keep) | intro _ | split)

theorem execHandover_keep (claim : Nat) (seq : Nat) (s : State) : Keep.Out s (execHandover claim seq s) := by
  have hs := Keep.refl s
  unfold execHandover
  unfold onPairLink
  repeat' (first
    | (with_reducible assumption) | (with_reducible apply Keep.out_next) | (with_reducible apply Keep.out_onUnit)
    | (with_reducible apply handoverFrame_keep) | (with_reducible apply noteStatus_keep) | intro _ | split)

theorem execSecure_keep (claim : Nat) (pwk : Nat) (sigOk : Bool) (s : State) : Keep.Out s (execSecure claim pwk
    sigOk s) := by
  have hs := Keep.refl s
  unfold execSecure
  unfold onPairLink
  repeat' (first
    | (with_reducible assumption) | (with_reducible apply Keep.out_next) | (with_reducible apply Keep.out_onUnit)
    | (with_reducible apply bindExchange_keep) | (with_reducible apply hearClaim_keep)
    | (with_reducible apply noteStatus_keep) | intro _ | split)

theorem execSpxStateRecord_keep (claim : Nat) (channels : List SpxChannel) (s : State) : Keep.Out s
    (execSpxStateRecord claim channels s) := by
  have hs := Keep.refl s
  unfold execSpxStateRecord
  repeat' (first
    | (with_reducible assumption) | (with_reducible apply Keep.out_next) | (with_reducible apply Keep.out_onUnit)
    | (with_reducible apply noteStatus_keep) | (with_reducible apply spxRecord_keep) | intro _ | split)

theorem execDrill_keep (req : Nat) (s : State) : Keep.Out s (execDrill req s) := by
  have hs := Keep.refl s
  unfold execDrill
  repeat' (first
    | (with_reducible assumption) | (with_reducible apply Keep.out_next) | (with_reducible apply Keep.out_onUnit)
    | (with_reducible apply drillCommand_keep) | intro _ | split)

theorem execTakeoverCommand_keep (req : Nat) (s : State) : Keep.Out s (execTakeoverCommand req s) := by
  have hs := Keep.refl s
  unfold execTakeoverCommand
  repeat' (first
    | (with_reducible assumption) | (with_reducible apply Keep.out_next) | (with_reducible apply Keep.out_onUnit)
    | (with_reducible apply drillCommand_keep) | intro _ | split)

theorem execSpUvlo_keep (vcc : Nat) (vin : Nat) (s : State) : Keep.Out s (execSpUvlo vcc vin s) := by
  have hs := Keep.refl s
  unfold execSpUvlo
  repeat' (first
    | (with_reducible assumption) | (with_reducible apply Keep.out_next) | (with_reducible apply Keep.out_onUnit)
    | (with_reducible apply noteStatus_keep) | (with_reducible apply spUvlo_keep) | intro _ | split)

theorem execRegisterWrite_keep (req : Nat) (addr : Nat) (v : Word) (s : State) : Keep.Out s (execRegisterWrite req
    addr v s) := by
  have hs := Keep.refl s
  unfold execRegisterWrite
  repeat' (first
    | (with_reducible assumption) | (with_reducible apply Keep.out_next) | (with_reducible apply Keep.out_onUnit)
    | (with_reducible apply busWrite_keep) | intro _ | split)

theorem execCounterWrite_keep (req : Nat) (addr : Nat) (v : Word) (s : State) : Keep.Out s (execCounterWrite req
    addr v s) := by
  have hs := Keep.refl s
  unfold execCounterWrite
  repeat' (first
    | (with_reducible assumption) | (with_reducible apply Keep.out_next) | (with_reducible apply Keep.out_onUnit)
    | (with_reducible apply busWrite_keep) | intro _ | split)

theorem execRegisterBusArbitration_keep (arrivals : List BusAccess) (s : State) : Keep.Out s
    (execRegisterBusArbitration arrivals s) := by
  have hs := Keep.refl s
  unfold execRegisterBusArbitration
  repeat' (first
    | (with_reducible assumption) | (with_reducible apply Keep.out_next) | (with_reducible apply Keep.out_onUnit)
    | (with_reducible apply busCycle_keep) | intro _ | split)

theorem execDmaTailWrite_keep (req : Nat) (n : Nat) (v : Word) (s : State) : Keep.Out s (execDmaTailWrite req n v
    s) := by
  have hs := Keep.refl s
  unfold execDmaTailWrite
  repeat' (first
    | (with_reducible assumption) | (with_reducible apply Keep.out_next) | (with_reducible apply Keep.out_onUnit)
    | (with_reducible apply writePage_keep) | intro _ | split)

theorem execDmaResume_keep (req : Nat) (n : Nat) (s : State) : Keep.Out s (execDmaResume req n s) := by
  have hs := Keep.refl s
  unfold execDmaResume
  repeat' (first
    | (with_reducible assumption) | (with_reducible apply Keep.out_next) | (with_reducible apply Keep.out_onUnit)
    | (with_reducible apply writePage_keep) | intro _ | split)

theorem execIdentity_keep (r : SecReq) (s : State) : Keep.Out s (execIdentity r s) := by
  have hs := Keep.refl s
  unfold execIdentity
  repeat' (first
    | (with_reducible assumption) | (with_reducible apply Keep.out_next) | (with_reducible apply Keep.out_onUnit)
    | (with_reducible apply newEntry_keep) | intro _ | split)

theorem execBindOwner_keep (r : SecReq) (key : Nat) (s : State) : Keep.Out s (execBindOwner r key s) := by
  have hs := Keep.refl s
  unfold execBindOwner
  repeat' (first
    | (with_reducible assumption) | (with_reducible apply Keep.out_next) | (with_reducible apply Keep.out_onUnit)
    | (with_reducible apply newEntry_keep) | intro _ | split)

theorem execPairBind_keep (r : SecReq) (b : PairBind) (s : State) : Keep.Out s (execPairBind r b s) := by
  have hs := Keep.refl s
  unfold execPairBind
  repeat' (first
    | (with_reducible assumption) | (with_reducible apply Keep.out_next) | (with_reducible apply Keep.out_onUnit)
    | (with_reducible apply newEntry_keep) | intro _ | split)

theorem execNsCreate_keep (r : SecReq) (a : NsAttr) (s : State) : Keep.Out s (execNsCreate r a s) := by
  have hs := Keep.refl s
  unfold execNsCreate
  repeat' (first
    | (with_reducible assumption) | (with_reducible apply Keep.out_next) | (with_reducible apply Keep.out_onUnit)
    | (with_reducible apply newEntry_keep) | intro _ | split)

theorem execNsSet_keep (r : SecReq) (a : NsChange) (s : State) : Keep.Out s (execNsSet r a s) := by
  have hs := Keep.refl s
  unfold execNsSet
  repeat' (first
    | (with_reducible assumption) | (with_reducible apply Keep.out_next) | (with_reducible apply Keep.out_onUnit)
    | (with_reducible apply newEntry_keep) | intro _ | split)

theorem execNsUnlock_keep (r : SecReq) (ns : Nat) (s : State) : Keep.Out s (execNsUnlock r ns s) := by
  have hs := Keep.refl s
  unfold execNsUnlock
  repeat' (first
    | (with_reducible assumption) | (with_reducible apply Keep.out_next) | (with_reducible apply Keep.out_onUnit)
    | (with_reducible apply newEntry_keep) | intro _ | split)

theorem execNsRetire_keep (r : SecReq) (ns : Nat) (s : State) : Keep.Out s (execNsRetire r ns s) := by
  have hs := Keep.refl s
  unfold execNsRetire
  repeat' (first
    | (with_reducible assumption) | (with_reducible apply Keep.out_next) | (with_reducible apply Keep.out_onUnit)
    | (with_reducible apply newEntry_keep) | intro _ | split)

theorem execTvkSet_keep (r : SecReq) (k : Nat) (key : Nat) (s : State) : Keep.Out s (execTvkSet r k key s) := by
  have hs := Keep.refl s
  unfold execTvkSet
  repeat' (first
    | (with_reducible assumption) | (with_reducible apply Keep.out_next) | (with_reducible apply Keep.out_onUnit)
    | (with_reducible apply newEntry_keep) | intro _ | split)

theorem execTvkRemove_keep (r : SecReq) (k : Nat) (s : State) : Keep.Out s (execTvkRemove r k s) := by
  have hs := Keep.refl s
  unfold execTvkRemove
  repeat' (first
    | (with_reducible assumption) | (with_reducible apply Keep.out_next) | (with_reducible apply Keep.out_onUnit)
    | (with_reducible apply newEntry_keep) | intro _ | split)

theorem execDenyAdd_keep (r : SecReq) (serial : Nat) (s : State) : Keep.Out s (execDenyAdd r serial s) := by
  have hs := Keep.refl s
  unfold execDenyAdd
  repeat' (first
    | (with_reducible assumption) | (with_reducible apply Keep.out_next) | (with_reducible apply Keep.out_onUnit)
    | (with_reducible apply newEntry_keep) | intro _ | split)

theorem execDenyRemove_keep (r : SecReq) (serial : Nat) (s : State) : Keep.Out s (execDenyRemove r serial s) := by
  have hs := Keep.refl s
  unfold execDenyRemove
  repeat' (first
    | (with_reducible assumption) | (with_reducible apply Keep.out_next) | (with_reducible apply Keep.out_onUnit)
    | (with_reducible apply newEntry_keep) | intro _ | split)

theorem execOrderedAdd_keep (r : SecReq) (hostId : Nat) (s : State) : Keep.Out s (execOrderedAdd r hostId s) := by
  have hs := Keep.refl s
  unfold execOrderedAdd
  repeat' (first
    | (with_reducible assumption) | (with_reducible apply Keep.out_next) | (with_reducible apply Keep.out_onUnit)
    | (with_reducible apply newEntry_keep) | intro _ | split)

theorem execOrderedRemove_keep (r : SecReq) (hostId : Nat) (s : State) : Keep.Out s (execOrderedRemove r hostId s)
    := by
  have hs := Keep.refl s
  unfold execOrderedRemove
  repeat' (first
    | (with_reducible assumption) | (with_reducible apply Keep.out_next) | (with_reducible apply Keep.out_onUnit)
    | (with_reducible apply newEntry_keep) | intro _ | split)

theorem execRecover_keep (r : SecReq) (s : State) : Keep.Out s (execRecover r s) := by
  have hs := Keep.refl s
  unfold execRecover
  repeat' (first
    | (with_reducible assumption) | (with_reducible apply Keep.out_next) | (with_reducible apply Keep.out_onUnit)
    | (with_reducible apply newEntry_keep) | (with_reducible apply noteStatus_keep) | intro _ | split)

theorem execPageUnlock_keep (r : SecReq) (page : Nat) (s : State) : Keep.Out s (execPageUnlock r page s) := by
  have hs := Keep.refl s
  unfold execPageUnlock
  repeat' (first
    | (with_reducible assumption) | (with_reducible apply Keep.out_next) | (with_reducible apply Keep.out_onUnit)
    | (with_reducible apply newEntry_keep) | intro _ | split)

theorem execPatchStage_keep (r : SecReq) (p : PatchSet) (s : State) : Keep.Out s (execPatchStage r p s) := by
  have hs := Keep.refl s
  unfold execPatchStage
  repeat' (first
    | (with_reducible assumption) | (with_reducible apply Keep.out_next) | (with_reducible apply Keep.out_onUnit)
    | (with_reducible apply newEntry_keep) | intro _ | split)

theorem execPatchActivate_keep (r : SecReq) (level : Nat) (s : State) : Keep.Out s (execPatchActivate r level s)
    := by
  have hs := Keep.refl s
  unfold execPatchActivate
  repeat' (first
    | (with_reducible assumption) | (with_reducible apply Keep.out_next) | (with_reducible apply Keep.out_onUnit)
    | (with_reducible apply newEntry_keep) | intro _ | split)

theorem execPatchApply_keep (s : State) : Keep.Out s (execPatchApply s) := by
  have hs := Keep.refl s
  unfold execPatchApply
  repeat' (first
    | (with_reducible assumption) | (with_reducible apply Keep.out_next) | (with_reducible apply Keep.out_onUnit)
    | (with_reducible apply patchApply_keep) | intro _ | split)

theorem execPatchHoldTimeout_keep (s : State) : Keep.Out s (execPatchHoldTimeout s) := by
  have hs := Keep.refl s
  unfold execPatchHoldTimeout
  repeat' (first
    | (with_reducible assumption) | (with_reducible apply Keep.out_next) | (with_reducible apply Keep.out_onUnit)
    | (with_reducible apply patchHoldTimeout_keep) | intro _ | split)

theorem execKeyLockAcquire_keep (req : Nat) (s : State) : Keep.Out s (execKeyLockAcquire req s) := by
  have hs := Keep.refl s
  unfold execKeyLockAcquire
  repeat' (first
    | (with_reducible assumption) | (with_reducible apply Keep.out_next) | (with_reducible apply Keep.out_onUnit)
    | (with_reducible apply keyLockTaken_keep) | (with_reducible apply readWith_keep) | intro _ | split)

theorem execKeyLockRelease_keep (req : Nat) (value : Word) (s : State) : Keep.Out s (execKeyLockRelease req value
    s) := by
  have hs := Keep.refl s
  unfold execKeyLockRelease
  repeat' (first
    | (with_reducible assumption) | (with_reducible apply Keep.out_next) | (with_reducible apply Keep.out_onUnit)
    | (with_reducible apply keyLockEffect_keep) | (with_reducible apply writeBlock_keep) | intro _ | split)

theorem execKeyLoad_keep (req : Nat) (bank : Bool) (index : Nat) (token : Nat) (s : State) : Keep.Out s
    (execKeyLoad req bank index token s) := by
  have hs := Keep.refl s
  unfold execKeyLoad
  repeat' (first
    | (with_reducible assumption) | (with_reducible apply Keep.out_next) | (with_reducible apply Keep.out_onUnit)
    | (with_reducible apply keyOperation_keep) | intro _ | split)

theorem execKeyZero_keep (req : Nat) (bank : Bool) (index : Nat) (token : Nat) (s : State) : Keep.Out s
    (execKeyZero req bank index token s) := by
  have hs := Keep.refl s
  unfold execKeyZero
  repeat' (first
    | (with_reducible assumption) | (with_reducible apply Keep.out_next) | (with_reducible apply Keep.out_onUnit)
    | (with_reducible apply keyOperation_keep) | intro _ | split)

theorem execKeyZeroAll_keep (req : Nat) (bank : Bool) (token : Nat) (s : State) : Keep.Out s (execKeyZeroAll req
    bank token s) := by
  have hs := Keep.refl s
  unfold execKeyZeroAll
  repeat' (first
    | (with_reducible assumption) | (with_reducible apply Keep.out_next) | (with_reducible apply Keep.out_onUnit)
    | (with_reducible apply keyOperation_keep) | intro _ | split)

theorem execAlarmErase_keep (sources : Nat) (s : State) : Keep.Out s (execAlarmErase sources s) := by
  have hs := Keep.refl s
  unfold execAlarmErase
  repeat' (first
    | (with_reducible assumption) | (with_reducible apply Keep.out_next) | (with_reducible apply Keep.out_onUnit)
    | (with_reducible apply noteStatus_keep) | (with_reducible apply sourcesHold_keep) | intro _ | split)

theorem execAlarmZeroize_keep (sources : Nat) (s : State) : Keep.Out s (execAlarmZeroize sources s) := by
  have hs := Keep.refl s
  unfold execAlarmZeroize
  repeat' (first
    | (with_reducible assumption) | (with_reducible apply Keep.out_next) | (with_reducible apply Keep.out_onUnit)
    | (with_reducible apply noteStatus_keep) | (with_reducible apply sourcesHold_keep) | intro _ | split)

theorem execZeroize_keep (wire : Bool) (s : State) : Keep.Out s (execZeroize wire s) := by
  have hs := Keep.refl s
  unfold execZeroize
  repeat' (first
    | (with_reducible assumption) | (with_reducible apply Keep.out_next) | (with_reducible apply Keep.out_onUnit)
    | (with_reducible apply zeroizeReceived_keep) | intro _ | split)

theorem execRngHealthFail_keep (adaptive : Bool) (s : State) : Keep.Out s (execRngHealthFail adaptive s) := by
  have hs := Keep.refl s
  unfold execRngHealthFail
  repeat' (first
    | (with_reducible assumption) | (with_reducible apply Keep.out_next) | (with_reducible apply Keep.out_onUnit)
    | (with_reducible apply rngHealthFail_keep) | intro _ | split)

theorem execRngRestart_keep (s : State) : Keep.Out s (execRngRestart s) := by
  have hs := Keep.refl s
  unfold execRngRestart
  repeat' (first
    | (with_reducible assumption) | (with_reducible apply Keep.out_next) | (with_reducible apply Keep.out_onUnit)
    | (with_reducible apply rngRestart_keep) | intro _ | split)

theorem execRngReady_keep (s : State) : Keep.Out s (execRngReady s) := by
  have hs := Keep.refl s
  unfold execRngReady
  repeat' (first
    | (with_reducible assumption) | (with_reducible apply Keep.out_next) | (with_reducible apply Keep.out_onUnit)
    | (with_reducible apply rngReady_keep) | intro _ | split)

theorem execRngOutRead_keep (req : Nat) (s : State) : Keep.Out s (execRngOutRead req s) := by
  have hs := Keep.refl s
  unfold execRngOutRead
  repeat' (first
    | (with_reducible assumption) | (with_reducible apply Keep.out_next) | (with_reducible apply Keep.out_onUnit)
    | (with_reducible apply readWith_keep) | (with_reducible apply rngTaken_keep) | intro _ | split)

theorem execFlr_keep (s : State) : Keep.Out s (execFlr s) := by
  have hs := Keep.refl s
  unfold execFlr
  repeat' (first
    | (with_reducible assumption) | (with_reducible apply Keep.out_next) | (with_reducible apply Keep.out_onUnit)
    | (with_reducible apply beginFlr_keep) | intro _ | split)

theorem execPerstAssert_keep (hot : Bool) (s : State) : Keep.Out s (execPerstAssert hot s) := by
  have hs := Keep.refl s
  unfold execPerstAssert
  repeat' (first
    | (with_reducible assumption) | (with_reducible apply Keep.out_next) | (with_reducible apply Keep.out_onUnit)
    | (with_reducible apply perstAssert_keep) | intro _ | split)

theorem execConfigRequest_keep (write : Bool) (offset : Nat) (v : Word) (s : State) : Keep.Out s
    (execConfigRequest write offset v s) := by
  have hs := Keep.refl s
  unfold execConfigRequest
  repeat' (first
    | (with_reducible assumption) | (with_reducible apply Keep.out_next) | (with_reducible apply Keep.out_onUnit)
    | (with_reducible apply configRequest_keep) | intro _ | split)

theorem execBar0Request_keep (write : Bool) (offset : Nat) (values : List Word) (allBe : Bool) (ep : Bool) (s :
    State) : Keep.Out s (execBar0Request write offset values allBe ep s) := by
  have hs := Keep.refl s
  unfold execBar0Request
  repeat' (first
    | (with_reducible assumption) | (with_reducible apply Keep.out_next) | (with_reducible apply Keep.out_onUnit)
    | (with_reducible apply bar0Request_keep) | intro _ | split)

theorem execCompletionTlp_keep (tag : Nat) (status : CplStatus) (data : List Byte) (s : State) : Keep.Out s
    (execCompletionTlp tag status data s) := by
  have hs := Keep.refl s
  unfold execCompletionTlp
  repeat' (first
    | (with_reducible assumption) | (with_reducible apply Keep.out_next) | (with_reducible apply Keep.out_onUnit)
    | (with_reducible apply completion_keep) | intro _ | split)

theorem execCompletionTimeout_keep (tag : Nat) (s : State) : Keep.Out s (execCompletionTimeout tag s) := by
  have hs := Keep.refl s
  unfold execCompletionTimeout
  repeat' (first
    | (with_reducible assumption) | (with_reducible apply Keep.out_next) | (with_reducible apply Keep.out_onUnit)
    | (with_reducible apply readTimeout_keep) | intro _ | split)

theorem execIdcode_keep (s : State) : Keep.Out s (execIdcode s) := by
  have hs := Keep.refl s
  unfold execIdcode
  repeat' (first
    | (with_reducible assumption) | (with_reducible apply Keep.out_next) | (with_reducible apply Keep.out_onUnit)
    | (with_reducible apply emit_keep) | (with_reducible apply tapSelect_keep) | intro _ | split)

theorem execBypass_keep (s : State) : Keep.Out s (execBypass s) := by
  have hs := Keep.refl s
  unfold execBypass
  repeat' (first
    | (with_reducible assumption) | (with_reducible apply Keep.out_next) | (with_reducible apply Keep.out_onUnit)
    | (with_reducible apply tapBypass_keep) | intro _ | split)

theorem execSamplePreload_keep (preload : List Bool) (s : State) : Keep.Out s (execSamplePreload preload s) := by
  have h := tapSelect_keep s .samplePreload false false (Keep.refl s)
  unfold execSamplePreload
  generalize tapSelect s .samplePreload false false = u at h ⊢
  exact Keep.out_next (h.mk' rfl rfl rfl)

theorem execExtest_keep (s : State) : Keep.Out s (execExtest s) := by
  have hs := Keep.refl s
  unfold execExtest
  repeat' (first
    | (with_reducible assumption) | (with_reducible apply Keep.out_next) | (with_reducible apply Keep.out_onUnit)
    | (with_reducible apply emit_keep) | (with_reducible apply tapBypass_keep) | (with_reducible apply tapSelect_keep)
    | intro _ | split)

theorem execClamp_keep (s : State) : Keep.Out s (execClamp s) := by
  have hs := Keep.refl s
  unfold execClamp
  repeat' (first
    | (with_reducible assumption) | (with_reducible apply Keep.out_next) | (with_reducible apply Keep.out_onUnit)
    | (with_reducible apply emit_keep) | (with_reducible apply tapBypass_keep) | (with_reducible apply tapSelect_keep)
    | intro _ | split)

theorem execHighz_keep (s : State) : Keep.Out s (execHighz s) := by
  have hs := Keep.refl s
  unfold execHighz
  repeat' (first
    | (with_reducible assumption) | (with_reducible apply Keep.out_next) | (with_reducible apply Keep.out_onUnit)
    | (with_reducible apply emit_keep) | (with_reducible apply tapBypass_keep) | (with_reducible apply tapSelect_keep)
    | intro _ | split)

theorem execReq_keep (r : CmReq) (s : State) : Keep.Out s (execReq r s) := by
  have hs := Keep.refl s
  unfold execReq
  repeat' (first
    | (with_reducible assumption) | (with_reducible apply Keep.out_next) | (with_reducible apply Keep.out_onUnit)
    | (with_reducible apply reqReceived_keep) | intro _ | split)

theorem execSetupTimeout_keep (n : Nat) (s : State) : Keep.Out s (execSetupTimeout n s) := by
  have hs := Keep.refl s
  unfold execSetupTimeout
  repeat' (first
    | (with_reducible assumption) | (with_reducible apply Keep.out_next) | (with_reducible apply Keep.out_onUnit)
    | (with_reducible apply setupTimeout_keep) | intro _ | split)

theorem execDreq_keep (n : Nat) (s : State) : Keep.Out s (execDreq n s) := by
  have hs := Keep.refl s
  unfold execDreq
  repeat' (first
    | (with_reducible assumption) | (with_reducible apply Keep.out_next) | (with_reducible apply Keep.out_onUnit)
    | (with_reducible apply dreqReceived_keep) | intro _ | split)

theorem execDrep_keep (n : Nat) (s : State) : Keep.Out s (execDrep n s) := by
  have hs := Keep.refl s
  unfold execDrep
  repeat' (first
    | (with_reducible assumption) | (with_reducible apply Keep.out_next) | (with_reducible apply Keep.out_onUnit)
    | (with_reducible apply closingEnds_keep) | intro _ | split)

theorem execDrepTimeout_keep (n : Nat) (s : State) : Keep.Out s (execDrepTimeout n s) := by
  have hs := Keep.refl s
  unfold execDrepTimeout
  repeat' (first
    | (with_reducible assumption) | (with_reducible apply Keep.out_next) | (with_reducible apply Keep.out_onUnit)
    | (with_reducible apply drepTimeout_keep) | intro _ | split)

end Sys2Proof.Machine
end

