-- ==== Sys2Proof/WellFormed.lean ====
section
/-! DEFINITION. Well-formed commands: every operand that names a unit names one that the block has, and every operand that is a
field of a frame or a register fits its width. -/
namespace Sys2Proof

/-- Is a command well formed? A unit number lies below the count of its units (R15, R78, R118, R148, R153, R201, R231, R376,
R384, R421), a tag and a member index in their ranges (R208, R231), a page in the control space (R14). -/
def wellFormed (i : Instr) : Bool :=
  match i with
  | .registerWrite req _ _ | .invalidRegisterAccess req _ _ _ | .counterWrite req _ _ | .timeStep req | .timeLoad req
  | .timeFreqWrite req _ | .timeNsRead req | .ppsNsRead req | .txtsRead req | .polRead req | .polWrite req
  | .polClear req | .wredRead req | .wredWrite req | .qprofWrite req _ | .groupDefine req | .groupRetire req
  | .groupQuery req | .groupSetlock req | .spareMaskWrite req _ _ | .memberQuery req | .memberFail req _
  | .reshapeStart req | .reshapeQuery req | .keyLockAcquire req | .keyLockRelease req _ | .keyLoad req _ _ _
  | .keyZero req _ _ _ | .keyZeroAll req _ _ | .rngOutRead req | .pairKick req _ | .drill req | .takeoverCommand req
  | .bar0EntryWrite req _ | .bar2EntryWrite req _ | .outboundRequest req _ _ _ _ _ | .svpEoi req _ | .svpSwi req _
  | .deviceReset req _ | .pwrDomainWrite req _ _ | .snapCommit req | .snapDataAccess req _ _ | .causeSet req _
  | .pmtSeed req _ | .pmtGlobal req _ => decide (req < 256)
  | .enable req page | .shutdown req page | .quiesce req page _ | .softReset req page | .lockReq req page
  | .pgLockWrite req page _ | .intSet req page _ | .errCountWrite req page _ | .cycLoRead req page | .gclSwap req page
  | .gclRead req page | .gclWrite req page | .pmcClear req page => decide (req < 256) && decide (page < 8192)
  | .enableDone page | .shutdownDone page | .quiesceDone page | .softResetDone page | .lockReqAnswer page
  | .fault page _ _ | .gateEntryBoundary page | .swapDone page | .pageUnlock _ page => decide (page < 8192)
  | .nsZoneRelease ns | .nsUnlock _ ns | .nsRetire _ ns => decide (ns < 1024)
  | .ringTrigger conn slot _ => decide (conn < 4096) && decide (slot < 1024)
  | .cqHeadUpdate conn _ | .read conn | .write conn | .append conn | .dataDone conn | .flush conn | .zoneOpen conn
  | .zoneClose conn | .zoneFinish conn | .zoneReset conn | .zoneReport conn | .identifyController conn
  | .identifyNamespace conn | .identifyNsList conn | .getLogError conn | .getLogHealth conn | .getLogLoss conn
  | .tokenAttach conn | .tokenDetach conn | .queueReset conn | .holdOverrun conn | .rtu conn | .setupTimeout conn
  | .dreq conn | .drep conn | .drepTimeout conn | .connNumberReuse conn | .cnp conn _ | .contextFetchDone conn _
  | .ackTimer conn | .retxTimeout conn | .rateRise conn | .invalidOpcodeCapsule conn => decide (conn < 4096)
  | .dataDoneDrained conn cid | .zoneMgmtComplete conn cid | .dataTimeout conn cid | .writePlace conn cid
  | .wakeLimitExpiry conn cid | .rdmaReadResponse conn cid _ _ | .rdmaFlushResponse conn cid | .rdmaWriteDone conn cid
      => decide (conn < 4096) && decide (cid < 65536)
  | .windowAllocate _ | .patchHoldTimeout | .req _ | .cmIgnored _ | .ppsInEdge _ | .ppsCapture _ | .ppsOutPulse
  | .ppsOutEnd | .reshapeStripe _ _ | .wakeAdmit | .autumnChoice | .d2dLinkDown | .linkRestored | .spUvlo _ _
  | .spUvloRecover _ _ | .identity _ | .bindOwner _ _ | .pairBind _ _ | .nsCreate _ _ | .nsSet _ _ | .tvkSet _ _ _
  | .tvkRemove _ _ | .denyAdd _ _ | .denyRemove _ _ | .orderedAdd _ _ | .orderedRemove _ _ | .recover _
  | .patchStage _ _ | .patchActivate _ _ | .patchApply | .alarmErase _ | .alarmZeroize _ | .zeroizeRepeat | .zeroize _
  | .zack _ | .rngHealthFail _ | .rngRestart | .heartbeatSend | .heartbeat _ | .heartbeatWord _ | .heartbeatBoundary
  | .watchdogExpiry | .record _ _ _ | .mirrorAck _ _ | .sync _ _ _ _ | .handover _ _ | .secure _ _ _ | .fenceProbe _ _
  | .spxStateRecord _ _ | .driveRelease | .bootWaitExpiry | .drillDrainTimeout | .drillDwellEnd | .drillDay
  | .registerBusArbitration _ | .mramScrub _ _ | .configRequest _ _ _ | .bar0Request _ _ _ _ _ | .bar2Request _ _ _ _ _
  | .unsupportedRequest _ | .bmeClear | .flr | .flrDone | .perstAssert _ | .perstDeassert | .l1Entry | .l1Exit
  | .powerOnReset _ | .refclkPresent | .refclkLost | .pllLock | .pllUnlock | .trimWindow _ | .smbStatus _
  | .smbTempMain _ | .smbTempSp _ | .smbSlotPower _ | .smbBoot _ | .smbCause _ | .smbIdentity _ | .smbPair _
  | .smbReceiveByte _ | .alertResponse _ | .smbTimeout | .snapStale | .idcode | .bypass | .samplePreload _ | .extest
  | .clamp | .highz | .dieOt _ | .statusHotRise _ | .bootLinkWaitExpiry | .claimConfirmTimeout _ _ | .rngReady
  | .dataLinkUp _ _ | .dataLinkDown => true
  | .rdmaWrite p _ | .rdmaRead p _ | .rdmaFlush p _ _ _ => decide (p.qpn < 2 ^ 24) && decide (p.psn < 2 ^ 24)
  | .unsupportedPacket qpn _ psn => decide (qpn < 16777216) && decide (psn < 16777216)
  | .rdmaAck conn psn | .rdmaNak conn psn _ => decide (conn < 4096) && decide (psn < 16777216)
  | .rtRegister req engine | .rtRevoke req engine | .rtQuery req engine => decide (req < 256) && decide (engine < 4)
  | .revokeDone index => decide (index < 65536)
  | .frameReceive f _ => decide (f.port < 2) && decide (f.sub < 4)
  | .pauseFrame port sub _ _ | .pfcFrame port sub _ _ _ | .linkUp port sub | .linkDown port sub
  | .egressSelect port sub _ => decide (port < 2) && decide (sub < 4)
  | .pauseExpiry port sub prio => decide (port < 2) && decide (sub < 4) && decide (prio < 8)
  | .pauseRefresh port sub cls => decide (port < 2) && decide (sub < 4) && decide (cls < 8)
  | .shaperRefill port | .histSample port => decide (port < 2)
  | .histSnap req port | .histSnapClear req port | .histClearAll req port => decide (req < 256) && decide (port < 2)
  | .trainingStart slot | .trainTimeout slot | .linkParam slot _ | .readData slot _ _ | .status slot _ _ _
  | .linkAck slot _ _ | .linkNak slot _ _ | .credit slot _ _ _ _ | .linkAckTimer slot | .replayTimer slot
  | .retrainResult slot _ | .prsntChange slot _ | .moduleAlert slot | .mrstRelease slot | .heatUpdate slot _
  | .spwOn slot _ | .spwOff slot _ | .spwClear slot _ | .presenceAssert slot | .presenceLoss slot
  | .insertDelayEnd slot | .feedWindowChange slot _ _ | .reverseCurrent slot _ _ | .feedLossTimeout slot
  | .rampEnd slot _ _ | .rampTimeout slot | .fastTrip slot _ | .breakerCrossing slot _ _ | .faultTimerExpiry slot
  | .faultTimerReset slot | .retryTimerEnd slot | .otCool slot _ | .retryCountReset slot | .overTemperature slot _
  | .pwarnDeassert slot | .measurementSample slot _ | .smbSlot _ slot | .feedFetTurnOn slot _ _ | .feedWarning slot _ _
  | .breakerRelease slot _ _ | .badCrcFrame slot _ => decide (slot < 48)
  | .mrstWrite req slot _ => decide (req < 256) && decide (slot < 48)
  | .readPage slot tag _ level | .readSoft slot tag _ level
      => decide (slot < 48) && decide (tag < 512) && decide (level < 9)
  | .programPage slot tag _ _ | .eraseBlock slot tag _ _ | .readStatus slot tag _ | .dieReset slot tag _
  | .moduleCmdTimeout slot tag | .codewordDecode slot tag _ _ => decide (slot < 48) && decide (tag < 512)
  | .setReadLevels slot tag _ set _ => decide (slot < 48) && decide (tag < 512) && decide (set < 9)
  | .telemetry slot tag page => decide (slot < 48) && decide (tag < 512) && decide (page < 3)
  | .patrolVisit group member _ _ _ | .blockRefresh group member _ _ _ | .wearLevel group member
  | .logPageFlush group member | .logReclaim group member _ | .lockTimeout group _ member | .outTimeout group member
      => decide (group < 12) && decide (member < 24)
  | .checkpoint group memberA memberB _ _ => decide (group < 12) && decide (memberA < 24) && decide (memberB < 24)
  | .journalPageFlush group | .rebuildStripe group _ _ | .springStagger group | .springEnd group | .idleTimeout group
  | .autumnEnd group | .smbGroup _ group => decide (group < 12)
  | .lockstepRelease group _ row _ => decide (group < 12) && decide (row < 256)
  | .pqeJobDone inst _ => decide (inst < 4)
  | .seasonWake req group | .seasonSleep req group => decide (req < 256) && decide (group < 12)
  | .cryptoJobDone core _ => decide (core < 8)
  | .arbiterDecision arb _ | .privilegedPreempt arb _ _ => decide (arb < 5)
  | .backoffExpiry arb _ => decide (arb < 6)
  | .dmaTailWrite req chan _ | .dmaResume req chan => decide (req < 256) && decide (chan < 16)
  | .dmaDescriptor chan | .dmaWriteback chan _ => decide (chan < 16)
  | .ddrScrub chan _ _ => decide (chan < 4)
  | .mramDieFail die => decide (die < 2)
  | .completionTlp tag _ _ | .completionTimeout tag | .tagQuarantineEnd tag => decide (tag < 1024)
  | .msixCauseEdge vector => decide (vector < 64)
  | .dividerStep clock => decide (clock < 5)
  | .domainSwitchDone domain => decide (domain < 36)
  | .smbUnknownCommand _ code | .smbWrite _ code => decide (code < 256)
  | .pmcChainRead req page pair => decide (req < 256) && decide (page < 8192) && decide (pair < 4)

end Sys2Proof
end

