-- ==== Sys2Proof/Tests/Slice0.lean ====
section
/-! SUPPORT. Our own tests: the checks of WellFormed, worked examples of the manual, and for every statement with hypotheses a
state that meets them. -/
namespace Sys2Proof.Tests
open Sys2Proof.Machine

/-! ## Small states -/

/-- A part that has powered up: every power domain on, and the pages of a list enabled. -/
def upWith (pages : List Nat) : State :=
  pages.foldl (fun s p => setPage s p { getPage s p with enable := true, enabled := true })
    { State.reset with pwr := { isOn := List.range 36 } }
/-- A part with one group of 4 members on slots 0 to 3 and a namespace with a zone on it. -/
def upGroup : State :=
  let s := upWith [zsqPage, mlxPage 0, eccPage 0, pqePage 0, cxPage 0]
  let ms : Tab Member := ⟨[(0, { slot := 0 }), (1, { slot := 1 }), (2, { slot := 2 }), (3, { slot := 3 })]⟩
  { s with groups := Tab.empty.set 0 { w := 4, dual := false, season := .summer, members := ms },
           namespaces := Tab.empty.set 1 { st := .active, zoneCount := 4 },
           zones := Tab.empty.set (zoneKey 1 0) { st := .opened, group := some 0, w := 4, capacity := 4096, accepted := 8 },
           conns := Tab.empty.set 5 { st := .ready }, pair := { role := .active } }
/-- The group of it. -/
def aGroup : Group := (groupOf upGroup 0).getD { w := 4, dual := false }
/-- A write of 8 sectors to that zone. -/
def aWrite : Command := { conn := 5, cid := 2, op := 0x02, ns := 1, zone := 0, len := 8, phase := .valid }
/-- A read of 2 sectors of it. -/
def aRead : Command := { conn := 5, cid := 3, op := 0x01, ns := 1, zone := 0, len := 2, phase := .reading, want := [0, 1] }
/-- A controller that runs the shelf, with slot link 3 in a state. -/
def upRules (l : Link) : State :=
  let s := upWith [mlkPage 3, mlxPage 0]
  { s with links := Tab.empty.set 3 l, pair := { role := .active },
           egress := .empty, channels := Tab.empty.set 3 { pg := true } }
/-- Module values for witnesses. -/
def aModule : Module :=
  { serial := [], channels := 1, dies := 1, planes := 1, bits := 4, blocks := 8, pagesNative := 64, pagesSlc := 16, pageUser := 16,
    pageRaw := 18000, capacity := 5, admitted := true, table := Tab.empty.set 0 { st := .full, nextPage := 4, refreshDue := true, pe := 900 } }
/-- The bytes of a capsule (Table 4-2). -/
def capsuleBytes (op cid ns handle zone offset len arg : Nat) : List Byte :=
  leBytes 1 op ++ leBytes 1 0 ++ leBytes 2 cid ++ leBytes 2 ns ++ leBytes 1 handle ++ leBytes 1 0 ++ leBytes 4 zone ++ leBytes 4 offset ++
  leBytes 4 len ++ leBytes 4 0 ++ leBytes 8 0 ++ leBytes 4 0 ++ leBytes 4 0 ++ leBytes 4 arg ++ zeros 20
/-- An enabled part whose connection 5 has one capsule in slot 0, with a token for namespace 1 under handle 1. -/
def upCapsule (b : List Byte) : State :=
  { upGroup with
    pages := (upWith [cmdPage, zsqPage, stgPage]).pages
    sec := { tvk := Tab.empty.set 0 (7, 1) }
    conns := Tab.empty.set 5 { st := .ready, grant := 4, slots := Tab.empty.set 0 0, ringBytes := writeBytes [] 0 b,
                               tokens := Tab.empty.set 1 ⟨0, 1, 9, 7, 100, [(0, 9)]⟩ } }
/-- The fields of those bytes. -/
def capsuleOf (b : List Byte) : Capsule := parseCapsule b
theorem arrives_of {s : State} {n : Nat} {k : Capsule} (h1 : n < 4096) (h2 : (connOf s n).st = .ready) (h3 : accepting s cmdPage = true)
    (h4 : (connOf s n).heldCaps = []) (h5 : (connOf s n).slots.has (connOf s n).parse = true)
    (h6 : parseCapsule (readBytes (connOf s n).ringBytes ((connOf s n).parse * 64) 64) = k)
    (h7 : (connOf s n).sealed = true → (connOf s n).sqHead ≠ 2 ^ 32 - 1) (h8 : waitsAtIntake s n k = false) : Arrives s n k :=
  ⟨h1, h2, h3, h4, h5, h6, h7, h8⟩

/-! ## WellFormed: one ill-formed term for each check, which the check refuses -/

/-- Requester ids and pages past their ends (R14). -/
theorem test_wf_requester_page :
    [Instr.registerWrite 256 0 0, .enable 256 0, .enable 0 8192, .enableDone 8192, .mrstWrite 256 0 true, .mrstWrite 0 48 true,
      .pmcChainRead 0 0 4, .pmcChainRead 256 0 0, .pmcChainRead 0 8192 0].all (wellFormed · = false) = true := by decide
/-- Namespaces, connections, slots of a ring, CIDs, PSNs and region entries (R51, R78, R86, R118, R148). -/
theorem test_wf_connection :
    [Instr.nsZoneRelease 1024, .ringTrigger 4096 0 [], .ringTrigger 0 1024 [], .rtu 4096, .dataTimeout 4096 0, .dataTimeout 0 65536,
      .rdmaWrite { qpn := 2 ^ 24, psn := 0 } [], .rdmaWrite { qpn := 0, psn := 2 ^ 24 } [], .unsupportedPacket (2 ^ 24) 0 0,
      .unsupportedPacket 0 0 (2 ^ 24), .rdmaAck 4096 0, .rdmaAck 0 (2 ^ 24), .rtQuery 256 0, .rtQuery 0 4,
      .revokeDone 65536].all (wellFormed · = false) = true := by decide
/-- Ports, sub-ports, classes and priorities (R150, R153, R156). -/
theorem test_wf_ports :
    [Instr.frameReceive { port := 2, sub := 0, len := 64, dmac := 0 } 0, .frameReceive { port := 0, sub := 4, len := 64, dmac := 0 } 0,
      .linkUp 2 0, .linkUp 0 4, .pauseExpiry 2 0 0, .pauseExpiry 0 4 0, .pauseExpiry 0 0 8, .pauseRefresh 2 0 0, .pauseRefresh 0 4 0,
      .pauseRefresh 0 0 8, .shaperRefill 2, .histSnap 256 0, .histSnap 0 2].all (wellFormed · = false) = true := by decide
/-- Slots, tags, read levels and telemetry pages (R201, R208, R214). -/
theorem test_wf_modules :
    [Instr.trainTimeout 48, .readPage 48 0 {} 0, .readPage 0 512 {} 0, .readPage 0 0 {} 9, .eraseBlock 48 0 {} false,
      .eraseBlock 0 512 {} false, .setReadLevels 48 0 {} 0 [], .setReadLevels 0 512 {} 0 [], .setReadLevels 0 0 {} 9 [],
      .telemetry 48 0 0, .telemetry 0 512 0, .telemetry 0 0 3].all (wellFormed · = false) = true := by decide
/-- Groups, members, rows and engines (R12, R231). -/
theorem test_wf_groups :
    [Instr.outTimeout 12 0, .outTimeout 0 24, .checkpoint 12 0 0 true true, .checkpoint 0 24 0 true true, .checkpoint 0 0 24 true true,
      .springEnd 12, .lockstepRelease 12 0 0 0, .lockstepRelease 0 0 256 0, .pqeJobDone 4 .done, .seasonWake 256 0, .seasonWake 0 12,
      .cryptoJobDone 8 true].all (wellFormed · = false) = true := by decide
/-- Arbiters, channels, dies, tags, vectors, clocks, domains and command codes (R371, R376, R384, R405, R410, R414, R421, R434). -/
theorem test_wf_units :
    [Instr.arbiterDecision 5 [], .backoffExpiry 6 0, .dmaResume 256 0, .dmaResume 0 16, .dmaDescriptor 16, .ddrScrub 4 .good false,
      .mramDieFail 2, .completionTimeout 1024, .msixCauseEdge 64, .dividerStep 5, .domainSwitchDone 36,
      .smbWrite { address := 0x5A, count := 0, pec := false } 256].all (wellFormed · = false) = true := by decide
/-- And well-formed terms at the ends of their ranges, which the check takes. -/
theorem test_wf_ends :
    [Instr.registerWrite 255 0 0, .enable 255 8191, .ringTrigger 4095 1023 [], .readPage 47 511 {} 8, .checkpoint 11 23 23 true true,
      .pmcChainRead 255 8191 3, .domainSwitchDone 35, .frameReceive { port := 1, sub := 3, len := 64, dmac := 0 } 0].all
      (wellFormed · = true) = true := by decide

/-! ## Worked examples of the manual -/

/-- The identification registers that follow R25: XPT2, MLK19 and CX5. -/
theorem test_page_ids :
    (showHeader State.reset 0x02A 0x000, showHeader State.reset 0x093 0x000, showHeader State.reset 0x106 0x000) =
      (0x00280201#32, 0x00801301#32, 0x01010501#32) := by decide
/-- A part in which an application core has written 0x0000_2001 to ZSQ_OPEN_LIMIT. -/
def limitWritten : State :=
  match execRegisterWrite 0 (regAddr zsqPage O.ZSQ_OPEN_LIMIT) 0x2001#32 (upWith []) with
  | .next t => t
  | _ => State.reset
/-- R45: 0x0000_2001 written to ZSQ_OPEN_LIMIT stores LIMIT 1 and logs RSVD_BITS_WRITE. -/
theorem test_open_limit_example : (regOf limitWritten zsqPage O.ZSQ_OPEN_LIMIT, (getPage limitWritten zsqPage).errCode) =
    (1#32, 0x0007) := by decide +kernel
/-- R343: the CRC-8 of polynomial 0x07 over the nine ASCII digits is 0xF4 (the catalogued check value). -/
theorem test_crc8 : crc8 0 ((List.range 9).map fun i => BitVec.ofNat 8 (0x31 + i)) = 0xF4 := by decide +kernel
/-- R126, R142: the CRC-32C over the same digits is 0xE3069283 (the catalogued check value). -/
theorem test_crc32c : crc32c ((List.range 9).map fun i => BitVec.ofNat 8 (0x31 + i)) = 0xE3069283 := by decide +kernel
/-- The takeover example after R358: epoch 42 on controller 1 is the claim 0x55. -/
theorem test_claim_example : claimOf { State.reset with pair := { epoch := 42 }, boot := { ctrlId := 1 } } = 0x55 := by decide
/-- The zone of the example shelf: 2,978 spans of 22 strips, 4,193,024 sectors. -/
theorem test_capacity_example : capacityFor 34 22 = 4193024 := by decide
/-- R463: the first bits of IDCODE are those of 0x4B, least significant first. -/
theorem test_idcode_bits : idcodeBits.take 8 = [true, true, false, true, false, false, true, false] := by decide
/-- The step takes the front of the queue: an MRA is ignored and leaves the queue (R119). -/
theorem test_step_front : (match step { State.reset with pending := [.cmIgnored .mra] } with | .next t => decide (t = State.reset) | _ => false) = true := by
  decide +kernel

/-! ## Witnesses: states that meet the hypotheses of the statements -/

/-- Pages at rest, enabled, and asked to lock, for the statement about PG_CTRL. -/
theorem wit_PageControlWrites :
    (writeReaches (upWith []) 0 0x031 0x008 = true ∧ (getPage (upWith []) 0x031).softReset = false ∧
      atRest (upWith []) 0x031 = true ∧ (getPage (upWith []) 0x031).fault = false) ∧
    (writeReaches (upWith [0x031]) 0 0x031 0x008 = true ∧ (getPage (upWith [0x031]) 0x031).enabled = true ∧
      refusesShutdown (upWith [0x031]) 0x031 = false) ∧
    (getPage (upWith []) 0x031).lock = false := by decide

/-- A page of POL being enabled, shut down, quiesced, reset, and asked to lock. -/
def upPolPage (p : Page) : State := setPage (upWith []) 0x031 p
theorem wit_PageModeEvents :
    (let s := upPolPage { enable := true, enabling := true }
     (getPage s 0x031).enabling = true ∧ (getPage s 0x031).enable = true ∧ poweredOn s 0x031 = true ∧
       trainingFails s 0x031 = false) ∧
    (let s := upPolPage { shutdown := true }
     (getPage s 0x031).shutdown = true ∧ (getPage s 0x031).reenable = false ∧ workEnded (shutdownClock s 0x031) 0x031 = true) ∧
    (let s := upPolPage { enable := true, enabled := true, quiesce := true }
     (getPage s 0x031).enabled = true ∧ (getPage s 0x031).quiesce = true ∧ (getPage s 0x031).quiesced = false ∧
       drained (shutdownClock s 0x031) 0x031 = true) ∧
    (getPage (upPolPage { softReset := true }) 0x031).softReset = true ∧
    (getPage (upPolPage { lockReq := true }) 0x031).lockReq = true ∧
    (getPage (upPolPage { lockReq := true }) 0x031).lock = false ∧
    (blockOf 0x031).isSome = true ∧ refusesShutdown (upWith [0x031]) 0x031 = false := by decide

theorem wit_HeaderRegisters :
    writeReaches (upWith [0x031]) 0 0x031 0x01C = true ∧ writeReaches (upWith [0x031]) 0 0x031 0x024 = true ∧
    writeReaches (upWith [0x031]) 0x10 0x031 0x0C0 = true ∧ (!onDie 0x031 || dieReachable (upWith [0x031])) = true ∧
    reservedPage (upWith [0x031]) 0x031 = false ∧ writeReaches (upWith [0x031]) 0 0x031 0x048 = true ∧
    readReaches (upWith [0x031]) 0x031 0x040 = true ∧
    (let s := setPage (upWith []) 0x031 { pmcCtrl := 0x00020000#32 }
     readReaches s 0x031 0x078 = true ∧ bit (getPage s 0x031).pmcCtrl 17 = true) := by decide

theorem wit_RegisterAccesses :
    (splitAddr (regAddr 0x050 O.ECC_CFG) = some (0x050, O.ECC_CFG) ∧ writeReaches (upWith [0x050]) 0 0x050 O.ECC_CFG = true ∧
      blockOf 0x050 = some .ecc ∧ ((regAt .ecc 0x050 O.ECC_CFG).map (·.1.fields.isEmpty)) = some false) ∧
    (splitAddr (regAddr 0x118 0x120) = some (0x118, 0x120) ∧ writeReaches (upWith [0x118]) 0 0x118 0x120 = true ∧
      counterAt (regAddr 0x118 0x120) = true ∧ (upWith [0x118]).svp.msixEn = false) ∧
    ((arbiterOf (upWith []) 5).reqs = .empty ∧ usesArbiter 0 5 = true ∧ readReaches (upWith []) 0x031 0x000 = true) ∧
    writeReaches (upWith [0x118]) 0 (0x118 + 0) O.DMA_TAIL = true ∧ writeReaches (upWith [0x118]) 0 (0x118 + 0) O.DMA_CTRL = true ∧
    writeReaches (upWith [0x150]) 0 pmtPage O.PMT_SEED = true ∧ writeReaches (upWith [0x150]) 0 pmtPage O.PMT_GLOBAL = true := by
  decide

theorem wit_ClockEvents :
    (let s := State.reset
     s.clk.refclk = false ∧ s.tap.porstLow = false ∧ s.clk.pllLock = false) ∧
    (let s := { State.reset with clk := { refclk := true } }
     s.clk.refclk = true ∧ s.clk.pllLock = false ∧ trimSource { s with clk := { s.clk with source := 1 } } = 1) ∧
    (let s := { State.reset with clk := { refclk := true, pllLock := true, dp := { onPll := true, ramping := true } } }
     s.clk.pllLock = true ∧ (s.clk.get (clkOfNumber 4)).ramping = true) := by decide
theorem wit_PowerAndResets :
    writeReaches (upWith []) 0 pwrPage O.PWR_DOM_ON0 = true ∧ writeReaches (upWith []) 0 pwrPage O.PWR_DOM_ON1 = true ∧
    regOf (upWith []) pwrPage O.PWR_DOM_ON0 = 0#32 ∧ regOf (upWith []) pwrPage O.PWR_DOM_ON1 = 0#32 ∧
    ({ State.reset with pwr := { switching := some (7, true) } } : State).pwr.switching = some (7, true) ∧
    ({ State.reset with pwr := { switching := some (7, false) } } : State).pwr.isOn.contains 7 = false ∧
    writeReaches (upWith []) 0x10 bootPage O.BOOT_CTRL = true ∧ writeReaches (upWith []) 0 bootPage O.BOOT_CTRL = true := by
  decide

theorem wit_MemoryArbitration :
    (arbiterOf State.reset 0 = {} ∧ usesArbiter 0x50 0 = true ∧ usesArbiter 0x00 0 = true ∧
      resetClass 0x00 < resetClass 0x50) ∧
    (let s := setRequester State.reset 0 0x50 { want := 8, whole := 8, backoff := some 4 }
     (requesterOf s 0 0x50).backoff = some 4) ∧
    (let s := setArbiter State.reset 0 { owner := some 0x50, left := 64 }
     resetClass 0x40 = 4 ∧ usesArbiter 0x40 0 = true ∧ (arbiterOf s 0).owner = some 0x50 ∧ (arbiterOf s 0).left ≠ 0 ∧
       classOf s 0 0x50 < 4 ∧ requesterOf s 0 0x40 = {}) := by decide
theorem wit_MemoryScrubs :
    (let s := setReg (upWith [0x130]) 0x130 O.DDR_SCRUB 0x80000000#32
     isEnabled s (ddrPage 0) = true ∧ bit (regOf s (ddrPage 0) O.DDR_SCRUB) 31 = true ∧
       (s.ddr.getD 0 {}).scrub + 8 < dramSize s / 4 ∧ s.poison = []) ∧
    (let s := setReg (upWith []) mrmPage O.MRM_CFG 0x80000000#32
     isEnabled s mrmPage = true ∧ bit (regOf s mrmPage O.MRM_CFG) 31 = true ∧ s.mrm.die1 = true ∧ s.mrm.die0 = true ∧
       (getPage s mrmPage).enabled = true ∧ (getPage s mrmPage).fault = false) := by decide

/-- A part that has powered up and whose sideband has raised a cause. -/
def upCause : State := let s := upWith []; { s with mgt := { s.mgt with cause := 1 } }
theorem wit_SidebandReadsAndSnapshots_SidebandReads : mgtAnswers (upWith []) ⟨0x5A, 2, true⟩ = true := by decide
theorem wit_SidebandAlerts :
    mgtAnswers upCause ⟨0x5A, 2, true⟩ = true ∧ smbListed 0x30 = false ∧ (getPage upCause mgtPage).enabled = true ∧
    alertAsserted upCause = true ∧ writeReaches upCause 0 mgtPage O.MGT_CAUSE_SET = true ∧ hotNow upCause = false ∧
    upCause.mgt.cause &&& 6 ≠ 6 := by decide
theorem wit_SidebandReadsAndSnapshots_SidebandSnapshots :
    writeReaches (upWith []) 0 mgtPage O.MGT_SNAP_DATA = true ∧ readReaches (upWith []) mgtPage O.MGT_SNAP_DATA = true ∧
    writeReaches (upWith []) 0 mgtPage O.MGT_SNAP_CTRL = true ∧
    (let s : State := { State.reset with mgt := { commitAt := some 5, fresh := true } }
     s.mgt.commitAt = some 5 ∧ s.mgt.fresh = true) := by decide

/-- A part whose service port is enabled, with its link up and its function able to answer and to issue. -/
def upPort : State :=
  let s := upWith [svpPage]
  { s with svp := { mse := true, bme := true, up := true, speed := 1, width := 1, perst := false, msixEn := true,
                    vectors := Tab.empty.set 3 { masked := false }, config := Tab.empty.set linkControl 2#32,
                    imap := Tab.empty.set 0x031 0x80000003#32 },
           pages := s.pages.set 0x031 { intRaw := 1#32, intEn := 1#32 } }
theorem wit_ServicePortWindows :
    writeReaches upPort 0 svpPage O.SVP_W0_ENTRY = true ∧ unmappable upPort 0x031 = false ∧ unmappable upPort 0x009 = true ∧
    writeReaches upPort 0 svpPage O.SVP_W2_CTRL = true ∧ upPort.svp.bme = true ∧ isEnabled upPort svpPage = true ∧
    upPort.svp.perst = false ∧
    (let s := { upPort with svp := { upPort.svp with tags := Tab.empty.set 7 (.quarantine 9) } }
     s.svp.tags.get 7 = some (.quarantine 9)) := by decide
theorem wit_ServicePortLink :
    (let s := { upPort with svp := { upPort.svp with up := false } }
     s.svp.up = false ∧ s.svp.perst = false ∧ isEnabled s svpPage = true) ∧
    (upPort.svp.up = true ∧ upPort.svp.l1 = false ∧ readsOut upPort = false ∧
      bit (upPort.svp.config.getD linkControl 0#32) 1 = true) ∧
    ({ upPort with svp := { upPort.svp with l1 := true } } : State).svp.l1 = true ∧
    (vectorLevel upPort 3 = true ∧ vectorOf upPort 3 = { vectorOf upPort 3 with cause := false, pending := false } ∧
      vectorOpen upPort 3 = true ∧ writeReaches upPort 0 svpPage O.SVP_EOI = true ∧
      vectorLevel upPort (field 3#32 0 6) = true ∧ (vectorOf upPort (field 3#32 0 6)).pending = false) ∧
    (writeReaches upPort 0 svpPage O.SVP_SWI = true ∧
      (∀ e ∈ upPort.svp.imap.entries, field e.2 0 6 = field 5#32 0 6 → bit e.2 31 = false) ∧
      (vectorOf upPort (field 5#32 0 6)).cause = false ∧ (vectorOf upPort (field 5#32 0 6)).pending = false) := by decide

/-- A part whose service port is enabled, with its link up and its function able to answer and to issue. -/
def upBars : State :=
  let s := upWith [svpPage]
  { s with svp := { mse := true, bme := true, up := true, speed := 1, width := 1, perst := false, msixEn := true,
                    w0 := Tab.empty.set 0 ⟨0x031, 1⟩, w2 := Tab.empty.set 0 ⟨0x1000, 1, true, true⟩ } }
/-- The same with a read of core 2 outstanding under tag 7. -/
def upReading : State := { upBars with svp := { upBars.svp with tags := Tab.empty.set 7 (.reading (.core 2) 0x800000000000 4 0 5) } }
theorem wit_ServicePortRequests :
    takesRequests upBars = true ∧ upBars.svp.flr = false ∧ memoryClosed upBars = false ∧
    windowPage upBars 0x000 = some 0x031 ∧ readReaches upBars 0x031 0x000 = true ∧
    windowPage upBars 0x014 = some 0x031 ∧ writeReaches upBars 0x20 0x031 0x014 = true ∧
    windowPage upBars 0x80000 = none ∧ windowAddr upBars true 0x10 1 = some 0x1010 ∧
    (let s := { upBars with svp := { upBars.svp with flr := true } }
     takesRequests s = true ∧ s.svp.flr = true) := by decide
theorem wit_OutboundRequests :
    targetOf upBars 0x800000000000 = .outbound ∧ portMayIssue upBars = true ∧ upBars.svp.tags.has 7 = false ∧
    readsCount upBars < 256 ∧
    (let s := { upBars with svp := { upBars.svp with bme := false } }
     targetOf s 0x800000000000 = .outbound ∧ portMayIssue s = false) ∧
    upReading.svp.tags.get 7 = some (.reading (.core 2) 0x800000000000 4 0 5) ∧ hears upReading = true := by decide
/-- DMA channel 0 with one descriptor in its ring at DRAM 0x100: 8 bytes from 0x200 to 0x300, control word `ctrl`. -/
def upDma (ctrl : List Byte) : State :=
  let s := upWith [dmaPage 0]
  let s := setReg (setReg s (dmaPage 0) O.DMA_RING_LO 0x100#32) (dmaPage 0) O.DMA_TAIL 1#32
  dramWrite s 0x100 (leBytes 8 0x1000000200 ++ leBytes 8 0x1000000300 ++ leBytes 4 8 ++ ctrl)
theorem wit_DmaDescriptors :
    (let s := upDma (zeros 4)
     accepting s (dmaPage 0) = true ∧ (dmaOf s 0).desc = none ∧ (dmaOf s 0).halt = false ∧
       (dmaOf s 0).head ≠ (regOf s (dmaPage 0) O.DMA_TAIL).toNat ∧ descAddr s 0 + 32 ≤ dramSize s ∧
       poisonIn s (descAddr s 0) 32 = none ∧
       bit (parseDesc 0 0x100 (readBytes s.dram (descAddr s 0) 32)).ctrl 31 = false) ∧
    (let s := upDma (leBytes 4 0x80000000)
     let d := parseDesc 0 0x100 (readBytes s.dram (descAddr s 0) 32)
     d.ctrl = 0x80000000#32 ∧ d.src < 2 ^ 48 ∧ d.dst < 2 ^ 48 ∧ d.length = 8 ∧ targetOf s d.src = .dram 0x200 ∧
       targetOf s d.dst = .dram 0x300 ∧ 0x308 ≤ dramSize s ∧ poisonIn s 0x200 8 = none) ∧
    (let d : DmaDesc := { count := 0, addr := 0x100, src := 0, dst := 0, length := 8, ctrl := 0x80000200#32, status := some 0 }
     let s := setDesc (upWith [dmaPage 0]) 0 d
     (dmaOf s 0).desc = some d ∧ d.reads = [] ∧ d.addr + 32 ≤ dramSize s ∧ bit d.ctrl 10 = false) := by decide

/-- A part with the page of slot 3's channel enabled, and that channel in a given state. -/
def upChan (c : Channel) : State := setChan (upWith [spwPage 3]) 3 c
theorem wit_ChannelOrdersAndDie_ChannelOrders :
    (let s := upChan { st := .ready }
     dieReachable s = true ∧ s.die.claim ≤ 0 ∧ 0 % 2 = s.boot.ctrlId ∧ s.die.owner = true ∧ isEnabled s (spwPage 3) = true ∧
       s.rules = false) ∧
    (let s := { upChan {} with die := { claim := 2 } }
     dieReachable s = true ∧ 1 < s.die.claim ∧ 1 % 2 ≠ s.boot.ctrlId) ∧
    (let s := upWith []
     dieReachable s = true ∧ 0 = s.die.claim ∧ s.die.owner = true ∧ isEnabled s (spwPage 3) = false) := by decide
theorem wit_ChannelSupply :
    (let s := upChan { feedA := true }
     s.die.uvlo = false ∧ (chanOf s 3).present = false ∧ chanActs s 3 = true ∧ (chanOf s 3).st = .off ∧ (chanOf s 3).fed = true ∧
       (chanOf s 3).feedA = true ∧ (chanOf s 3).fetA = false) ∧
    (let s := upChan { present := true, st := .on, fetB := true, pg := true }
     (chanOf s 3).present = true ∧ (chanOf s 3).fetB = true ∧ (chanOf s 3).gateOn = true ∧ 0 < warnMv s 3) ∧
    (let s := upChan { st := .insert, onReq := true }
     (chanOf s 3).st = .insert ∧ chanActs s 3 = true ∧ (chanOf s 3).onReq = true ∧ s.rules = false) ∧
    (let s := upChan { pwarn := true }
     (chanOf s 3).pwarn = true ∧ (chanOf s 3).warnGate = false ∧ (chanOf s 3).gateOn = false ∧
       isEnabled s (spwPage 3) = true) := by decide
theorem wit_ChannelFaults :
    (let s := upChan { st := .on, feedLost := some 5, ftRun := some 6, ftBelow := some 7, pg := true }
     s.die.uvlo = false ∧ (chanOf s 3).feedLost = some 5 ∧ (chanOf s 3).gateOn = true ∧ (chanOf s 3).fed = false ∧
       (chanOf s 3).ftRun = some 6 ∧ (chanOf s 3).ftBelow = some 7 ∧ (chanOf s 3).pg = true ∧ fastUv s 3 ≤ 80000 ∧
       0 < brkUv s 3 ∧ otLimit s 3 ≤ 1300) ∧
    (let s := upChan { st := .ramp, mvA := 12000, fetA := true }
     (chanOf s 3).st = .ramp ∧ (chanOf s 3).activeMv ≤ 12000 + 300 ∧ (chanOf s 3).rampTimer = false ∧ 0 < brkUv s 3 ∧
       brkUv s 3 ≤ 30000 ∧ (chanOf s 3).ftRun = none) ∧
    (let s := upChan { st := .fault, onReq := true, feedA := true, present := true }
     (chanOf s 3).st = .fault ∧ (chanOf s 3).otHold = false ∧ chanActs s 3 = true ∧ (chanOf s 3).fed = true) ∧
    (let s := upChan { st := .fault, onReq := true, feedA := true, otHold := true }
     (chanOf s 3).otHold = true ∧ (0 : Int) < otLimit s 3 - 100) := by decide
theorem wit_ChannelOrdersAndDie_PowerDieEvents :
    ({ State.reset with die := { linkUp := false } } : State).die.linkUp = false ∧ State.reset.die.uvlo = false ∧
    ({ State.reset with die := { uvlo := true } } : State).die.uvlo = true ∧ State.reset.die.temp < 1250 ∧
    ({ State.reset with pair := { releaseAt := some 4 } } : State).pair.releaseAt = some 4 := by decide

/-- A part whose security core serves its ring, with an owner bound. -/
def upSec : State :=
  let s := upWith []
  { s with sec := { mode := .ready, owner := some 1, nonce := 4, pwk := some 5, nwk := Tab.empty.set 3 6, nsk := Tab.empty.set 3 7 },
           rng := { ready := true }, boot := { stage := 9 }, namespaces := (Tab.empty.set 3 { st := .locked }).set 4 { st := .active } }
/-- A patch set that a controller takes. -/
def aPatch : PatchSet := ⟨0x53504C45, 1, 0x01030011, 2, 1024, 1, [(0, 512, 64)], true, true⟩
theorem wit_NamespaceRequests :
    ringTakes upSec = true ∧ signedOk upSec ⟨5, true, true⟩ = true ∧ upSec.alarm.zeroized = false ∧ upSec.sec.mode ≠ .zeroized ∧
    upSec.crypto.halted = false ∧ upSec.rng.ready = true ∧ holdsNamespace { upSec with namespaces := .empty } = false ∧
    signedOk { upSec with namespaces := .empty, pair := { link := { ever := true } } } ⟨5, true, true⟩ = true ∧
    (nsOf upSec 9).st = .unused ∧ zoneSum upSec + 1 ≤ 4194304 ∧ (nsOf upSec 4).st = .active ∧ (nsOf upSec 3).st = .locked ∧
    unwrapKey upSec 3 = some 7 := by decide
theorem wit_KeyAndPatchRequests :
    (let s := { upSec with crypto := { halted := true }, sec := { upSec.sec with wasActive := [3] } }
     signedOk s ⟨5, true, true⟩ = true ∧ s.alarm.present = 0 ∧ s.crypto.halted = true ∧ unwrapKey s 3 = some 7) ∧
    (blockOf 0x031).isSome = true ∧ aPatch.valid = true ∧ upSec.boot.level < aPatch.level ∧ upSec.sec.deny.length < 256 ∧
    (let s := { upSec with boot := { stage := 9, slotB := some aPatch }, pair := { role := .active } }
     signedOk s ⟨5, true, true⟩ = true ∧ s.boot.staged = some aPatch ∧ s.pair.drill = .none) ∧
    (let s := { upSec with boot := { stage := 9, slotB := some aPatch, act := .draining } }
     s.boot.act = .draining ∧ s.secWait = [] ∧ holdDrained s = true ∧ s.boot.staged = some aPatch) ∧
    (let s := { upSec with boot := { stage := 9, act := .draining }, commands := Tab.empty.set 0 { conn := 0, cid := 0, op := 0x01, phase := .reading } }
     s.boot.act = .draining ∧ s.secWait = [] ∧ holdDrained s = false) := by decide
theorem wit_RequestRefusals :
    ringTakes upSec = true ∧ ringTakes State.reset = false ∧
    (if upSec.alarm.zeroized || upSec.sec.mode = .zeroized then some 5
      else if upSec.sec.owner.isNone then some 3
      else if 4 ≤ upSec.sec.nonce then some 2 else none) = some 2 := by decide

theorem wit_KeyVault :
    readReaches (upWith []) keyPage O.KEY_LOCK = true ∧ (upWith []).vault.holder = none ∧
    writeReaches (upWith []) 0x10 keyPage O.KEY_LOCK = true ∧ writeReaches (upWith []) 0x10 keyPage O.KEY_LOAD = true ∧
    (let s := { upWith [] with vault := { holder := some 3 } }
     writeReaches s 0x10 keyPage O.KEY_LOAD = true ∧ s.vault.holder = some (field 3#32 0 16) ∧ s.crypto.halted = false) ∧
    (let s := { upWith [] with crypto := { halted := true } }
     writeReaches s 0x10 keyPage O.KEY_LOAD = true ∧ s.crypto.halted = true) := by decide
theorem wit_RandomNumbers :
    (let s : State := { State.reset with rng := { running := true } }
     s.rng.running = true ∧ s.rng.ready = false ∧ s.reqWait = [] ∧ s.secWait = []) ∧
    (let s : State := { State.reset with rng := { restartAt := some 9, ready := true } }
     s.rng.restartAt = some 9 ∧ s.rng.ready = true) ∧ readReaches (upWith []) rngPage O.RNG_OUT = true := by decide
theorem wit_AlarmsAndZeroize :
    (let s : State := { State.reset with alarm := { armed := true } }
     s.alarm.armed = true ∧ s.alarm.present = 0 ∧ 1 % 32 ≠ 0 ∧ s.alarm.fuse = false ∧ s.crypto.halted = false ∧
       s.sec.binding = none ∧ s.rules = false) ∧
    (let s : State := setReg { State.reset with alarm := { armed := true, fuse := true } } almPage O.ALM_CFG 0x80#32
     s.alarm.armed = true ∧ (8 : Nat).testBit 3 = true ∧ zeroizes s 3 = true ∧ s.sec.binding = none) ∧
    (let s : State := { State.reset with alarm := { zeroized := true, orderAt := some (4, 9) }, pair := { role := .active },
                                         namespaces := Tab.empty.set 2 { st := .active } }
     s.alarm.zeroized = true ∧ s.alarm.orderAt = some (4, 9) ∧ s.rules = true ∧ (nsOf s 2).st = .active) := by decide

/-- A part whose network pages are enabled, with the link of sub-port 0 of NET0 up. -/
def upNet : State :=
  let s := upWith [0x020, swcPage, polPage, 0x028]
  let p : SubPort := { up := true, xoff := Tab.empty.set 1 5, prioTill := Tab.empty.set 2 6, pausedTill := some 7 }
  { s with ports := Tab.empty.set 0 { mac := 4, subs := Tab.empty.set 0 p } }
/-- The same with a flow control mode. -/
def upFlow (fc : Nat) : State := setReg upNet 0x020 O.NET_CFG (Word.ofNum (16 * fc + 0x400))
theorem wit_PortsAndFlowControl :
    (accepting upNet (netPage 0) = true ∧ subUp upNet 0 0 = true ∧ 64 ≤ regField upNet (netPage 0) O.NET_MAX_FRAME 0 14 ∧
      acceptsMac (portOf upNet 0) 0 4 = true ∧ acceptsMac (portOf upNet 0) 0 8 = false ∧ accepting upNet swcPage = true ∧
      isEnabled upNet (xptPage 0) = true ∧
      (let f : Frame := { port := 0, sub := 0, len := 64, dmac := 4, udpDst := some 4791, qpn := 0x10000 }
       steer f = .engine 0 0 ∧ policerOn upNet 0 = false ∧ policerOn upNet (4096 + frameClass upNet f) = false ∧
         lossless upNet 0 (frameClass upNet f) = false ∧ bit (regOf upNet swcPage O.SWC_PUSHOUT) 31 = false ∧
         (wredSet upNet (frameClass upNet f) .green).en = false ∧
         framesCells (queueOf upNet (frameClass upNet f)).frames + cellsOf f.len ≤ 8 * (queueOf upNet (frameClass upNet f)).limit ∧
         usedCells upNet + cellsOf f.len < 131072)) ∧
    (subUp (upFlow 1) 0 0 = true ∧ flowControl (upFlow 1) 0 = 1) ∧ (subUp (upFlow 2) 0 0 = true ∧ flowControl (upFlow 2) 0 = 2 ∧
      pfcEnabled (upFlow 2) 0 2 = true) ∧
    (subOf upNet 0 0).prioTill.get 2 = some 6 ∧ (subOf upNet 0 0).pausedTill = some 7 ∧ (subOf upNet 0 0).xoff.get 1 = some 5 ∧
    heldCells upNet 0 1 ≤ xonCells upNet 1 ∧
    (isEnabled upNet (netPage 0) = true ∧ 0 < subCount { upNet with ports := .empty } 0 ∧
      (subOf { upNet with ports := .empty } 0 0).up = false) ∧ (subOf upNet 0 0).up = true := by decide
theorem wit_DeviceTime :
    writeReaches (upWith []) 0 timePage O.TIME_CMD = true ∧ writeReaches (upWith []) 0 timePage O.TIME_FREQ = true ∧
    readReaches (upWith []) timePage O.TIME_NS = true ∧ readReaches (upWith []) timePage O.TIME_PPS_NS = true ∧
    readReaches (upWith []) timePage O.TIME_TXTS_INFO = true ∧
    (let s := setReg { upWith [] with time := { ppsEdge := some (1, 2, 3), isSet := true, ppsOut := some 4,
                                                txts := [⟨0, 1, 2, 3, 4⟩] } } timePage O.TIME_PPS_OUT_CFG 0x80000001#32
     s.time.ppsEdge = some (1, 2, 3) ∧ isEnabled s timePage = true ∧ bit (regOf s timePage O.TIME_PPS_OUT_CFG) 31 = true ∧
       s.time.isSet = true ∧ s.time.ppsOut = some 4 ∧ s.time.txts = [⟨0, 1, 2, 3, 4⟩]) := by decide
theorem wit_IngressTables :
    writeReaches upNet 0 polPage O.POL_CMD = true ∧ regField upNet polPage O.POL_IDX 0 13 ≤ 4159 ∧
    4159 < regField (setReg upNet polPage O.POL_IDX 5000#32) polPage O.POL_IDX 0 13 ∧
    writeReaches upNet 0 swcPage O.SWC_WRED_CMD = true ∧ writeReaches upNet 0 swcPage O.SWC_QPROF = true ∧
    reservedQueue (regField upNet swcPage O.SWC_QPROF_IDX 0 8) = false ∧
    reservedQueue (regField (setReg upNet swcPage O.SWC_QPROF_IDX 50#32) swcPage O.SWC_QPROF_IDX 0 8) = true := by decide

/-- A part whose port 0 is up, with its scheduler enabled and a frame in its first queue. -/
def upEgress : State :=
  let s := upWith [0x020, swcPage, egsPage 0, 0x060]
  let s := { s with ports := Tab.empty.set 0 { subs := Tab.empty.set 0 { up := true } } }
  setFrames s (swcQueue 0 0) [{ len := 64 }]
theorem wit_EgressAndHistograms_EgressSelection :
    (subUp upEgress 0 0 = true ∧ sending upEgress 0 0 = false ∧ (subOf upEgress 0 0).pauseOut = [] ∧ upEgress.conns = .empty ∧
      accepting upEgress (egsPage 0) = true ∧ upEgress.egress = .empty ∧ gatesOn upEgress 0 = false ∧
      (subOf upEgress 0 0).pausedTill = none ∧ (subOf upEgress 0 0).prioTill = .empty ∧ 0 ∈ queuesOfSub upEgress 0 0 ∧
      headFrame upEgress 0 0 = some { len := 64 } ∧
      (queuesOfSub upEgress 0 0).all (fun p => p = 0 || (headFrame upEgress 0 p).isNone) = true) ∧
    (let s := updateSub upEgress 0 0 fun p => { p with pauseOut := [(none, 5)] }
     subUp s 0 0 = true ∧ sending s 0 0 = false ∧ (subOf s 0 0).pauseOut ≠ []) ∧
    isEnabled upEgress (egsPage 0) = true := by decide
theorem wit_GateLists :
    0x038 ∈ gatePages ∧ writeReaches upEgress 0 0x038 (gateBase 0x038) = true ∧ (gateOf upEgress 0x038).swapPending = false ∧
    upEgress.time.isSet = false ∧ ({ upEgress with time := { isSet := true } } : State).time.isSet = true ∧
    writeReaches upEgress 0 0x060 (gateBase 0x060) = true ∧
    (let s := setGate upEgress 0x038 { swapPending := true }
     (gateOf s 0x038).swapPending = true ∧ (gateOf s 0x038).swapAt ≤ devNs s ∧ isEnabled s 0x038 = true) ∧
    writeReaches upEgress 0 0x038 (gateBase 0x038 + 0x18) = true ∧ bit (regOf upEgress 0x038 (gateBase 0x038 + 0x08)) 8 = false ∧
    bit (regOf (setReg upEgress 0x038 (gateBase 0x038 + 0x08) 0x100#32) 0x038 (gateBase 0x038 + 0x08)) 8 = true := by decide
theorem wit_EgressAndHistograms_QueueHistograms :
    (let s := setReg upEgress (egsPage 0) O.EGS_HIST_CFG 0x80000001#32
     bit (regOf s (egsPage 0) O.EGS_HIST_CFG) 31 = true ∧ isEnabled s (egsPage 0) = true) ∧
    writeReaches upEgress 0 (egsPage 0) O.EGS_HIST_CMD = true := by decide

/-- A part whose slot link 3 is in a state. -/
def upLink (l : Link) : State :=
  let s := upWith [mlkPage 3]
  { s with links := Tab.empty.set 3 l, channels := Tab.empty.set 3 { pg := true } }
theorem wit_LinkTraining :
    ((linkOf (upLink { mrst := false }) 3).st = .down ∧ (linkOf (upLink { mrst := false }) 3).mrst = false ∧
      isEnabled (upLink { mrst := false }) (mlkPage 3) = true ∧ (chanOf (upLink { mrst := false }) 3).pg = true) ∧
    ((linkOf (upLink { st := .train, trainAt := some 0 }) 3).st = .train ∧
      (linkOf (upLink { st := .train, trainAt := some 0 }) 3).trainAt = some 0 ∧ (upLink { st := .train }).rules = false) ∧
    (linkOf (upLink { st := .active }) 3).st = .active ∧ linkActive (upLink { st := .active }) 3 = true ∧
    writeReaches (upLink { mrst := false }) 0 (mlkPage 3) O.MLK_SB_CTRL = true ∧
    ((linkOf (upLink {}) 3).mrst = true ∧ (upLink {}).time.now < (linkOf (upLink {}) 3).mrstAt + 80000) ∧
    (let s := { upLink { mrst := true, mrstDue := true } with time := { now := 80000 } }
     writeReaches s 0 (mlkPage 3) O.MLK_SB_CTRL = true ∧ (linkOf s 3).mrst = true ∧ (linkOf s 3).mrstAt + 80000 ≤ s.time.now ∧
     (linkOf s 3).mrstDue = true) := by decide
theorem wit_LinkFrames :
    (let l : Link := { st := .active, held := [⟨5, 1, 1, 0, 0⟩], rxSeq := 7, dataQueue := [1], credData := 1, ackAt := some 3 }
     let s := upLink l
     linkActive s 3 = true ∧ 0 ≤ claimOf s ∧ (∀ x ∈ afterSeq 4 (linkOf s 3).held, x.replays < 3) ∧
     wrapGap 12 6 (linkOf s 3).rxSeq ≤ 2048 ∧ 2048 < wrapGap 12 9 (linkOf s 3).rxSeq ∧ (linkOf s 3).nakSent = false ∧
     (linkOf s 3).ackAt = some 3) ∧
    (let s := upLink { st := .active, held := [⟨5, 1, 1, 3, 0⟩] }
     linkActive s 3 = true ∧ ∀ x ∈ (linkOf s 3).held, 3 ≤ x.replays) ∧
    (linkOf (upLink { st := .retrain }) 3).st = .retrain ∧ (linkOf (upLink { st := .retrain }) 3).retrainFails = 0 ∧
    1 ≤ (linkOf (upLink { st := .retrain, retrainFails := 1 }) 3).retrainFails ∧ (upLink {}).rules = false := by decide

theorem wit_ModuleCommandsAndTimeouts_ModuleCommands :
    mayIssue (upRules { st := .active, credCmd := 2 }) 3 9 0x01 {} = true ∧
    mayIssue (upRules { st := .active, credCmd := 2, waiting := [{ op := 0x03 }] }) 3 9 0x03 {} = true ∧
    mayIssue (upRules { st := .active, credCmd := 2, waiting := [{ op := 0x04 }] }) 3 9 0x04 {} = true ∧
    mayIssue (upRules { st := .active, credCmd := 2 }) 3 9 0x08 {} = true := by decide
theorem wit_ModuleCommandsAndTimeouts_ModuleTimeouts :
    (linkOf (upRules { tags := Tab.empty.set 5 { op := 0x01 } }) 3).tags.get 5 = some { op := 0x01 } ∧
    (upRules {}).rules = true ∧ (linkOf (upRules { tags := Tab.empty.set 5 { op := 0x04 } }) 3).tags.get 5 = some { op := 0x04 } ∧
    ((linkOf (upRules { tags := Tab.empty.set 5 { op := 0x04 } }) 3).waiting.filter fun w => w.programs {}) = [] := by decide

theorem wit_PlacementAndFlushes :
    (let s := { upGroup with commands := Tab.empty.set 1 aWrite }
     findCmd s 5 2 = some (1, aWrite) ∧ placeable s aWrite = true ∧ s.crypto.halted = false) ∧
    (let x := { aGroup with jrnlPage := [(1, 0)] }
     groupOf (setGroup upGroup 0 x) 0 = some x ∧ x.jrnlPage ≠ []) ∧
    (let x := aGroup.setMember 0 { slot := 0, log := some { num := 0 } }
     groupOf (setGroup upGroup 0 x) 0 = some x ∧ x.member 0 = some { slot := 0, log := some { num := 0 } }) := by decide
theorem wit_CodewordDecodes :
    (let j : DecodeJob := ⟨3, 9, 0, {}, 0, .host 1 0⟩
     let s := { upGroup with decodes := [j], commands := Tab.empty.set 1 aRead }
     (s.decodes.find? fun d => d.slot = 3 && d.tag = 9 && d.index = 0) = some j ∧ eccFor s 0 = some 0 ∧
     s.commands.get 1 = some aRead ∧ aRead.fetching = true ∧ aRead.want.contains 0 = true ∧ s.crypto.halted = false ∧
     climbOf s 3 j.addr = none ∧ 1 ≤ regField s (mlxPage 0) O.MLX_LADDER 0 4) := by decide
theorem wit_ParityJobs :
    (let f : Fold := ⟨1, 0, 0, 0, 0, [], [], .empty, none, .empty, false, [], false, [], 5, none⟩
     let s := { upGroup with folds := Tab.empty.set 7 f, pqeRun := Tab.empty.set 0 (.parity 7), pair := { role := .active, mirror := .mirroring } }
     s.pqeRun.get 0 = some (.parity 7) ∧ foldOf s 7 = some f ∧ durable s f.recNo = false) ∧
    (let m : Stripe := { ns := 1, zone := 0, q := 0, w := 4, dual := false, strips := .empty }
     let r : RowJob := { stripe := 0, map := m, row := 0, target := 3, need := .host 1 0, again := true, inputs := ((Tab.empty.set 0 []).set 1 []).set 2 [] }
     ((rowParts r).recover (dataStrips m.w m.dual) (roleOf m.w m.dual (keyStripe r.stripe) r.target)).isSome = true) ∧
    (let r : RowJob := { stripe := 0, map := { ns := 1, zone := 0, q := 0, w := 4, dual := false, strips := .empty }, row := 0, target := 0, need := .refill 1 0, again := true }
     let s := { upGroup with rowJobs := Tab.empty.set 2 r, pqeRun := Tab.empty.set 0 (.reconstruct 2) }
     s.pqeRun.get 0 = some (.reconstruct 2) ∧ s.rowJobs.get 2 = some r ∧ r.again = true) := by decide
theorem wit_CryptoJobs :
    (let c := { aRead with jobsLeft := 1, want := [], got := Tab.empty.set 0 (some []) }
     let s := { upGroup with commands := Tab.empty.set 1 c, crypto := { cores := Tab.empty.set 0 { job := some (⟨.xtsDecrypt, 1, 1, 0⟩, 9) } } }
     s.commands.get 1 = some c ∧ (coreOf s 0).job = some (⟨.xtsDecrypt, c.ns, 1, 0⟩, 9) ∧ c.fetching = true ∧
     c.got.get 0 = some (some []) ∧ c.want = [] ∧ c.jobsLeft = 1 ∧ (connOf s c.conn).sealed = false) ∧
    (let c := { aWrite with jobsLeft := 2 }
     let s := { upGroup with commands := Tab.empty.set 1 c, crypto := { cores := Tab.empty.set 0 { job := some (⟨.xtsEncrypt, 1, 1, 0⟩, 9) } } }
     (coreOf s 0).job = some (⟨.xtsEncrypt, c.ns, 1, 0⟩, 9) ∧ c.op ≠ 0x08 ∧ 1 < c.jobsLeft ∧
     stripeOf s c.ns c.zone (0 / spanSectors (zoneOf s c.ns c.zone).w (zoneOf s c.ns c.zone).dual) = none ∧
     (bufOf s c.ns c.zone).q = 0 / spanSectors (zoneOf s c.ns c.zone).w (zoneOf s c.ns c.zone).dual) ∧
    (let c := { aWrite with phase := .sealCheck, jobsLeft := 1 }
     let s := { upGroup with commands := Tab.empty.set 1 c, crypto := { cores := Tab.empty.set 0 { job := some (⟨.gcmOpen, 5, 1, 0⟩, 9) } } }
     (coreOf s 0).job = some (⟨.gcmOpen, c.conn, 1, 0⟩, 9) ∧ c.phase = .sealCheck) ∧
    (let c := { aRead with phase := .sealing, jobsLeft := 2 }
     let s := { upGroup with commands := Tab.empty.set 1 c, crypto := { cores := Tab.empty.set 0 { job := some (⟨.gcmSeal, 5, 1, 0⟩, 9) } } }
     (coreOf s 0).job = some (⟨.gcmSeal, c.conn, 1, 0⟩, 9) ∧ c.phase = .sealing ∧ 1 < c.jobsLeft) := by decide

/-- A log block of a module, full and obsolete. -/
def aLogBlock : EraseBlock := { st := .slc, use := .log, group := some 0, nextPage := 16, obsolete := 64, slc := true }
theorem wit_GroupCommands :
    writeReaches (upWith [zsqPage]) 0 zsqPage O.ZSQ_GRP_CMD = true ∧
    (let s := upWith [zsqPage]
     let s := setReg s zsqPage O.ZSQ_GRP_CFG (packWord [(24, 8), (20, 1), (5, 4)])
     let s := { s with modules := ⟨(List.range 8).map fun n => (n, aModule)⟩,
                       channels := ⟨(List.range 8).map fun n => (n, { present := true, identified := true })⟩ }
     let s := setReg (setReg s zsqPage O.ZSQ_GRP_SLOT 0x03020100#32) zsqPage (O.ZSQ_GRP_SLOT + 4) 0x07060504#32
     defineResult s (grpSel s) = 0) ∧
    defineResult upGroup (grpSel upGroup) ≠ 0 ∧ groupOf upGroup (grpSel upGroup) = some aGroup ∧
    zonesOn { upGroup with zones := .empty } (grpSel upGroup) = [] ∧ zonesOn upGroup (grpSel upGroup) ≠ [] ∧
    (∀ y ∈ aGroup.members.values, (chanOf upGroup y.slot).gateOn = false) ∧
    aGroup.w < 32 ∧ aGroup.jmem0 < 32 ∧ aGroup.jmem1 < 32 ∧ aGroup.lockTmo < 4 ∧ groupOf (upWith []) (grpSel (upWith [])) = none ∧
    writeReaches (upWith [zsqPage]) 0 zsqPage O.ZSQ_SPARE_LO = true ∧
    writeReaches (upWith [zsqPage]) 0 zsqPage O.ZSQ_SPARE_HI = true := by decide
theorem wit_LockSteppedRows :
    (let p : Place := ⟨3, {}, 0⟩
     let f : Fold := ⟨1, 0, 0, 0, 0, [], [], .empty, none, Tab.empty.set 0 p, true, [(0, 0)], true, [0], 0, none⟩
     let s := { upRules { st := .active, credCmd := 2 } with
       folds := Tab.empty.set (stripeKey 0 0) f, groups := upGroup.groups, channels := Tab.empty.set 3 { pwarn := true } }
     foldOf s (stripeKey 0 0) = some f ∧ f.rows.head? = some 0 ∧ s.time.now + 1600 ≤ 1600 ∧
     (rowTargets s (stripeKey 0 0) f 0).all (fun e => rowReady s f e.2 e.1 0) = false ∧
     groupOf s 0 = some aGroup ∧ f.places.get 0 = some p ∧ (chanOf s p.slot).pwarn = true ∧
     (rowTargets s (stripeKey 0 0) f 0).any (fun e => e.1 = 0) = true) ∧
    (let p : Place := ⟨3, {}, 0⟩
     let f : Fold := ⟨1, 0, 0, 0, 0, [], [], .empty, none, Tab.empty.set 0 p, true, [(0, 0)], true, [0], 0, none⟩
     let s := { upRules { st := .active, credCmd := 2 } with folds := Tab.empty.set (stripeKey 0 0) f }
     (rowTargets s (stripeKey 0 0) f 0).all (fun e => rowReady s f e.2 e.1 0) = true) := by decide
theorem wit_BlockUpkeep :
    (let s := { upGroup with modules := Tab.empty.set 0 aModule }
     s.modules.get 0 = some aModule ∧ aModule.table.wf = true ∧ worksBehind s = true ∧
     (groupOf s 0).bind (·.member 0) = some { slot := 0 } ∧ (aModule.block 0).nextPage ≠ 0 ∧ inSummer s 0 = true ∧
     (aModule.block 0).refreshDue = true ∧ aModule.pickFree = some 1 ∧
     ((slotMember s 0 0).any fun e => e.2.st.inactive) = false ∧
     10 * regField s (mlxPage 0) O.MLX_REFRESH_CFG 0 8 < 100000 ∧
     (extremeBlock true [(0, 900)]).map (·.1) = some 0 ∧ aGroup.member 1 = some { slot := 1 } ∧ aGroup.season = .summer) ∧
    (let mo := { aModule with table := Tab.empty.set 0 aLogBlock }
     let s := { upGroup with modules := Tab.empty.set 0 mo }
     oldestLog mo 0 = some (0, aLogBlock) ∧ mo.pages true ≤ aLogBlock.nextPage ∧
     regField s zsqPage O.ZSQ_LOG_CFG 24 8 * (aLogBlock.nextPage * mo.pageCws) ≤ aLogBlock.obsolete * 100 ∧
     (takePages s 0 0 .log true false (ceilDiv (logKeysIn s 0 (mo.place 0 0)).length mo.pageCws)).isSome = true) ∧
    (let x := { aGroup with season := .winter }
     groupOf (setGroup upGroup 0 x) 0 = some x ∧ x.lost = false ∧ x.wake = none) := by decide

/-- The group of upGroup with other values. -/
def withGroup (x : Group) : State := { setGroup upGroup 0 x with zones := .empty }
theorem wit_MembersAndRebuilds_MemberCommands :
    (let y : Member := { slot := 0, st := .out }
     (groupOf (withGroup (aGroup.setMember 0 y)) 0).bind (·.member 0) = some y) ∧
    (let s := upGroup
     writeReaches s 0 zsqPage O.ZSQ_MBR_CMD = true ∧ regField s zsqPage O.ZSQ_MBR_SEL 0 4 = 0 ∧ regField s zsqPage O.ZSQ_MBR_SEL 8 5 = 0 ∧
     groupOf s 0 = some aGroup ∧ 0 < aGroup.w ∧ aGroup.member 0 = some { slot := 0 } ∧
     (aGroup.setMember 0 { slot := 0, st := .failed }).beyond = false) ∧
    (let x := (aGroup.setMember 1 { slot := 1, st := .failed }).setMember 2 { slot := 2, st := .failed }
     x.member 0 = some { slot := 0 } ∧ (x.setMember 0 { slot := 0, st := .failed }).beyond = true) ∧
    groupOf (upWith [zsqPage]) 0 = none ∧
    (let s := setReg upGroup zsqPage O.ZSQ_MBR_SEL 0x400#32
     regField s zsqPage O.ZSQ_MBR_SEL 8 5 = 4 ∧ aGroup.w ≤ 4 ∧ writeReaches s 0 zsqPage O.ZSQ_MBR_CMD = true) := by decide
/-- A member under rebuild, the group with it, a stripe without its strip, and a state with them. -/
def aSweeper : Member := { slot := 0, st := .rebuilding, sweeping := true, stop := 9 }
def sweptGroup : Group := aGroup.setMember 0 aSweeper
def aStripe : Stripe := { ns := 1, zone := 0, q := 0, w := 4, dual := false }
def upSweep : State :=
  { setGroup upGroup 0 sweptGroup with modules := Tab.empty.set 0 aModule, stripes := Tab.empty.set (stripeKey 0 0) aStripe }
theorem wit_MembersAndRebuilds_RebuildSteps :
    (worksBehind upSweep = true ∧ groupOf upSweep 0 = some sweptGroup ∧ sweptGroup.season = .summer ∧ sweptGroup.lost = false ∧
     sweepers sweptGroup = [(0, aSweeper)] ∧ sweptGroup.member 0 = some aSweeper ∧ aSweeper.cursor + 1 < aSweeper.stop ∧
     aSweeper.dirty.contains 0 = false ∧ stripValid aSweeper aStripe 0 = false) ∧
    (setGroup upGroup 0 sweptGroup).stripes.get (stripeKey 0 0) = none ∧
    (let x := aGroup.setMember 0 { aSweeper with logRestore := true }
     (sweepers x).any (fun e => e.2.logRestore) = true) ∧
    upSweep.stripes.get (stripeKey 0 0) = some aStripe ∧
    (placeStrip upSweep 0 (zoneSlots upSweep 1 0) 0 0).1.isSome = true := by decide
theorem wit_MembersAndRebuilds_rows : (stripeRows.all fun r => rowNow upSweep 0 (stripeKey 0 0) aStripe 0 r []) = true := by decide
theorem wit_ReshapeSteps :
    writeReaches (withGroup aGroup) 0 zsqPage O.ZSQ_RSH_CMD = true ∧
    (let s := setReg (withGroup aGroup) zsqPage O.ZSQ_RSH_CFG (packWord [(24, 8), (20, 1)])
     let s := setReg (setReg s zsqPage O.ZSQ_GRP_SLOT 0x03020100#32) zsqPage (O.ZSQ_GRP_SLOT + 4) 0x07060504#32
     let s := { s with modules := ⟨(List.range 8).map fun n => (n, aModule)⟩ }
     reshapeResult s 0 8 1 ((List.range 8).map (slotArg s)) = 0) ∧
    reshapeResult (withGroup aGroup) 0 0 0 [] ≠ 0 ∧
    (let r : Reshape := { group := 0, w := 8, dual := false, slots := [], zones := [] }
     let s := { withGroup aGroup with reshape := some r }
     worksBehind s = true ∧ groupOf s 0 = some aGroup ∧ reshapeRuns s r = true) ∧
    (let r : Reshape := { group := 0, w := 8, dual := false, slots := [7], zones := [] }
     reshapeRuns { withGroup aGroup with reshape := some r } r = false) ∧
    (let r : Reshape := { group := 0, w := 8, dual := false, slots := [], zones := [zoneKey 1 0] }
     let s := { withGroup aGroup with reshape := some r }
     (zoneOf s 1 0).st = .empty ∧ reshapeRuns s r = true) ∧
    (let r : Reshape := { group := 0, w := 8, dual := false, slots := [], zones := [zoneKey 1 0] }
     let z : Zone := { st := .closed, group := some 0, w := 4, capacity := 4096, accepted := 4096, written := 4096 }
     let s := { upGroup with reshape := some r, zones := Tab.empty.set (zoneKey 1 0) z }
     (zoneOf s 1 0).group = some 0 ∧ r.bound / max 1 (spanSectors 8 false) < newStripes z (spanSectors 8 false) ∧ r.since < 63) := by decide
theorem wit_SeasonChanges :
    (let x := { aGroup with season := .winter, wake := some (.season, 0) }
     let s := withGroup x
     groupOf s 0 = some x ∧ s.rules = true ∧ firstFit s (wakeOrder s) = .group 0) ∧
    (let s := { withGroup aGroup with channels := Tab.empty.set 9 { ownWake := true } }
     firstFit s (wakeOrder s) = .slot 9 ∧ (chanOf s 9).st ≠ .ready) ∧
    (let x := { aGroup with season := .spring }
     (springSlots x)[x.ramped]? = some 0 ∧ (springSlots x).all (memberUp (withGroup x)) = false) ∧
    mayAutumn (withGroup aGroup) 0 aGroup = true ∧ mayAutumn upGroup 0 aGroup = false ∧
    (let x := { aGroup with season := .winter, wake := some (.demand, 0) }
     let s := setReg { withGroup x with time := { now := 800000000 } } zsqPage O.ZSQ_SEASON_CFG 0#32
     let s := setGroup s 1 { aGroup with members := .empty }
     roomWanted s = true ∧ autumnCandidates s ≠ []) ∧
    (let x := { aGroup with season := .autumn }
     autumnQuiet (withGroup x) 0 x = true) ∧
    (let x := { aGroup with season := .autumn, jrnlPage := [(1, 0)] }
     autumnQuiet (withGroup x) 0 x = false) ∧
    writeReaches upGroup 0 zsqPage O.ZSQ_SEASON_CMD = true := by decide

/-- A READ of 2 sectors of zone 0 of namespace 1. -/
def capRead : List Byte := capsuleBytes 0x01 7 1 1 0 0 2 0
theorem wit_HostReads_arrives : Arrives (upCapsule capRead) 5 (capsuleOf capRead) :=
  arrives_of (by decide) (by decide) (by decide) (by decide) (by decide) (by decide) (by decide) (by decide)
theorem wit_HostReads :
    (let s := upCapsule capRead
     let k := capsuleOf capRead
     capsulePasses s 5 k = true ∧ k.op = 0x01 ∧ zsqTakes s = true ∧ (zoneOf s k.ns k.zone).st ≠ .offline ∧
     (zoneOf s k.ns k.zone).group = some 0 ∧ inSummer s 0 = true ∧ (∀ i, i < k.len → sectorCase (zoneOf s k.ns k.zone) (k.offset + i) = .zeros) ∧
     (connOf s 5).sealed = false ∧ (nsOf s k.ns).cls ≠ .patrol) ∧
    (let p : Place := ⟨0, {}, 0⟩
     let st : Stripe := { ns := 1, zone := 0, q := 0, w := 4, dual := false, strips := ⟨[(0, p), (1, p), (2, p), (3, p)]⟩ }
     let z : Zone := { st := .closed, group := some 0, w := 4, capacity := 4096, accepted := 192, written := 192, extents := Tab.empty.set 0 0 }
     let s := upCapsule capRead
     let s := { s with zones := Tab.empty.set (zoneKey 1 0) z, stripes := Tab.empty.set (stripeKey 0 0) st
                       links := Tab.empty.set 0 { st := .active } }
     ∀ i, i < 2 → sectorCase z i = .data ∧ s.logMap.get (logKey 1 0 i) = none ∧
       sectorStripe s 1 0 i = some (stripeKey 0 0, i) ∧ s.stripes.get (stripeKey 0 0) = some st ∧
       st.strips.get (dataMember st.w st.dual 0 (i / 64)) = some p ∧ slotServes s 0 p.slot = true) ∧
    (let s := setGroup (upCapsule capRead) 0 { aGroup with season := .winter }
     capsulePasses s 5 (capsuleOf capRead) = true ∧ inSummer s 0 = false) := by decide
/-- A ZONE_REPORT, an IDENTIFY of each kind, and a GET_LOG of each log. -/
def capReport : List Byte := capsuleBytes 0x09 7 1 1 0 0 2 0
def capIdentify (cns ns : Nat) : List Byte := capsuleBytes 0x10 7 ns 0 0 0 1 cns
def capLog (log ns : Nat) : List Byte := capsuleBytes 0x11 7 ns 1 0 0 1 log
theorem wit_HostReports_arrives : Arrives (upCapsule capReport) 5 (capsuleOf capReport) :=
  arrives_of (by decide) (by decide) (by decide) (by decide) (by decide) (by decide) (by decide) (by decide)
theorem wit_HostReports :
    (capsulePasses (upCapsule capReport) 5 (capsuleOf capReport) = true ∧ (capsuleOf capReport).op = 0x09 ∧ zsqTakes (upCapsule capReport) = true) ∧
    (capsulePasses (upCapsule (capIdentify 0 0)) 5 (capsuleOf (capIdentify 0 0)) = true) ∧
    (capsulePasses (upCapsule (capIdentify 1 1)) 5 (capsuleOf (capIdentify 1 1)) = true ∧ (nsOf (upCapsule (capIdentify 1 1)) 1).st ≠ .unused) ∧
    (capsulePasses (upCapsule (capIdentify 1 2)) 5 (capsuleOf (capIdentify 1 2)) = true ∧ (nsOf (upCapsule (capIdentify 1 2)) 2).st = .unused) ∧
    (capsulePasses (upCapsule (capIdentify 2 0)) 5 (capsuleOf (capIdentify 2 0)) = true) ∧
    (capsulePasses (upCapsule (capLog 1 0)) 5 (capsuleOf (capLog 1 0)) = true) ∧
    (capsulePasses (upCapsule (capLog 2 0)) 5 (capsuleOf (capLog 2 0)) = true) ∧
    (capsulePasses (upCapsule (capLog 3 1)) 5 (capsuleOf (capLog 3 1)) = true) := by decide

/-- A WRITE and an APPEND of 8 sectors at offset 8 of zone 0, and a WRITE to the EMPTY zone 1. -/
def capWrite : List Byte := capsuleBytes 0x02 7 1 1 0 8 8 0
def capAppend : List Byte := capsuleBytes 0x03 7 1 1 0 0 8 0
def capWriteEmpty : List Byte := capsuleBytes 0x02 7 1 1 1 0 8 0
theorem wit_HostWrites_arrives : Arrives (upCapsule capWrite) 5 (capsuleOf capWrite) :=
  arrives_of (by decide) (by decide) (by decide) (by decide) (by decide) (by decide) (by decide) (by decide)
theorem wit_HostWrites :
    (let s := upCapsule capWrite
     capsulePasses s 5 (capsuleOf capWrite) = true ∧ zsqTakes s = true ∧ (capsuleOf capWrite).op = 0x02 ∧
     checkWrite s 5 1 0 false 8 8 = .accept none ∧ (zoneOf s 1 0).st = .opened ∧ checkWrite s 5 1 0 false 9 8 = .status 0x03 ∧
     (zoneOf s 1 0).group = some 0 ∧ inSummer s 0 = true) ∧
    (let s := upCapsule capAppend
     capsulePasses s 5 (capsuleOf capAppend) = true ∧ checkWrite s 5 1 0 true 0 8 = .accept none) ∧
    (let s := upCapsule capWriteEmpty
     let s := { s with namespaces := Tab.empty.set 1 { st := .active, zoneCount := 4, groupSet := 1 } }
     capsulePasses s 5 (capsuleOf capWriteEmpty) = true ∧ checkWrite s 5 1 1 false 0 8 = .accept (some 0) ∧
     groupOf s 0 = some aGroup ∧ aGroup.noRedundancy = false ∧ aGroup.lost = false) ∧
    (let s := { upCapsule capWrite with zones := Tab.empty.set (zoneKey 1 0) { st := .closed, capacity := 4096, accepted := 8 } }
     checkWrite s 5 1 0 false 8 8 = .accept none ∧ (zoneOf s 1 0).st = .closed ∧ (zoneOf s 1 0).group = none) ∧
    (let s := { upCapsule capWrite with commands := Tab.empty.set 1 { aWrite with phase := .windowWait } }
     nextForWindows s = some (1, { aWrite with phase := .windowWait }) ∧ accepting s stgPage = true ∧
     [4].length = ({ aWrite with phase := .windowWait } : Command).windowCount ∧ windowsUsed s + [4].length ≤ 16384 ∧
     keysFree s [4] = true ∧ (connOf s 5).st = .ready ∧ (connOf s 5).waiting = [] ∧ s.pair.role ≠ .isolated ∧
     (connOf s 5).nextEntry + 1 + 1 ≤ (connOf s 5).cqHead + 2 ^ (connOf s 5).cqShift) := by decide

/-- Capsules of the other opcodes, and one with an unlisted opcode. -/
def capRead7 : List Byte := capsuleBytes 0x01 7 1 1 0 0 2 0
def capFlush : List Byte := capsuleBytes 0x05 7 0 0 0 0 0 0
def capReset : List Byte := capsuleBytes 0x1F 7 0 0 0 0 0 0
def capDone : List Byte := capsuleBytes 0x04 2 0 0 0 0 0 0
def capUnknown : List Byte := capsuleBytes 0x77 7 0 0 0 0 0 0
theorem wit_CapsuleRefusals_arrives : Arrives (upCapsule capUnknown) 5 (capsuleOf capUnknown) :=
  arrives_of (by decide) (by decide) (by decide) (by decide) (by decide) (by decide) (by decide) (by decide)
theorem wit_CapsuleRefusals :
    (capsuleOf capUnknown).known = false ∧ zsqTakes (upCapsule capUnknown) = true ∧
    (let b := capsuleBytes 0x02 7 1 1 0 0 0 0
     intakeStatus (upCapsule b) 5 (capsuleOf b) = some 0x02 ∧ (capsuleOf b).op = 0x02 ∧ (capsuleOf b).arg = 0) ∧
    (let b := capsuleBytes 0x02 7 1 1 0 0 8 0
     let s := { upCapsule b with pair := { role := .standby } }
     intakeStatus s 5 (capsuleOf b) = none ∧ servesLittle s = true) ∧
    (let b := capsuleBytes 0x02 7 1 2 0 0 8 0
     intakeStatus (upCapsule b) 5 (capsuleOf b) = none ∧ servesLittle (upCapsule b) = false ∧
     tokenOk (upCapsule b) 5 (capsuleOf b) = false) ∧
    (let b := capsuleBytes 0x02 7 1 1 0 0 8 0
     let s := { upCapsule b with namespaces := Tab.empty.set 1 { st := .locked, zoneCount := 4 } }
     intakeStatus s 5 (capsuleOf b) = none ∧ tokenOk s 5 (capsuleOf b) = true ∧ nsStatus s (capsuleOf b) = some 0x07) := by decide
theorem wit_DataPhases_arrives : Arrives (upCapsule capFlush) 5 (capsuleOf capFlush) :=
  arrives_of (by decide) (by decide) (by decide) (by decide) (by decide) (by decide) (by decide) (by decide)
theorem wit_DataPhases :
    (let c := { aWrite with phase := .dataWait, deadline := some 9 }
     let s := { upCapsule capDone with commands := Tab.empty.set 1 c }
     (capsuleOf capDone).op = 0x04 ∧ intakeStatus s 5 (capsuleOf capDone) = none ∧ findCmd s 5 2 = some (1, c) ∧
     s.commands.get 1 = some c ∧ c.aborted = false ∧ (connOf s 5).st = .ready) ∧
    (let c := { aWrite with phase := .draining, windows := [4] }
     let s := { upCapsule capDone with commands := Tab.empty.set 1 c, regions := Tab.empty.set 4 { st := .valid, placed := 32768 } }
     findCmd s 5 2 = some (1, c) ∧ (∀ i ∈ c.windows, (regionOf s i).inflight = 0) ∧ windowsFull s c = true ∧ (connOf s 5).sealed = false ∧
     windowsFull { s with regions := .empty } c = false ∧ c.conn = 5) ∧
    (let c := { aWrite with phase := .summerWait }
     findCmd { upCapsule capDone with commands := Tab.empty.set 1 c } 5 2 = some (1, c)) ∧
    (let c := { aRead with phase := .summerWait }
     findCmd { upCapsule capDone with commands := Tab.empty.set 1 c } 5 3 = some (1, c)) ∧
    (capsulePasses (upCapsule capFlush) 5 (capsuleOf capFlush) = true ∧
     (cmdsWhere (upCapsule capFlush) fun d => d.conn = 5 && !d.orphan && (d.op = 0x02 || d.op = 0x03)) = [] ∧
     (upCapsule capFlush).commands.get 0 = none) ∧
    (let s := { upCapsule capFlush with commands := Tab.empty.set 1 aWrite }
     (cmdsWhere s fun d => d.conn = 5 && !d.orphan && (d.op = 0x02 || d.op = 0x03)) ≠ []) ∧
    (capsulePasses (upCapsule capReset) 5 (capsuleOf capReset) = true ∧ (∀ e ∈ (upCapsule capReset).commands.values, e.conn ≠ 5)) ∧
    (let s := { upCapsule capFlush with conns := Tab.empty.set 5 { st := .ready, heldCaps := [(capRead7, 0, 3)] }, boot := { act := .draining } }
     (connOf s 5).heldCaps = [(capRead7, 0, 3)] ∧ holdActive s = true) := by decide

/-- ZONE_MGMT with an action, and a token attach and detach. -/
def capMgmt (arg zone : Nat) : List Byte := capsuleBytes 0x08 7 1 1 zone 0 0 arg
def capToken (arg : Nat) : List Byte := capsuleBytes 0x18 7 0 0 0 0 0 arg
theorem wit_ZoneManagement_arrives : Arrives (upCapsule (capMgmt 0 1)) 5 (capsuleOf (capMgmt 0 1)) :=
  arrives_of (by decide) (by decide) (by decide) (by decide) (by decide) (by decide) (by decide) (by decide)
theorem wit_ZoneManagement :
    (capsulePasses (upCapsule (capMgmt 0 0)) 5 (capsuleOf (capMgmt 0 0)) = true ∧ (zoneOf (upCapsule (capMgmt 0 0)) 1 0).hold = none ∧
     (zoneOf (upCapsule (capMgmt 0 0)) 1 0).st = .opened ∧ openLimitReached (upCapsule (capMgmt 0 0)) = false) ∧
    (let s := { upCapsule (capMgmt 0 1) with namespaces := Tab.empty.set 1 { st := .active, zoneCount := 4, groupSet := 1 } }
     capsulePasses s 5 (capsuleOf (capMgmt 0 1)) = true ∧ chooseGroup s 1 = some 0 ∧ groupOf s 0 = some aGroup ∧
     aGroup.noRedundancy = false ∧ (zoneOf s 1 1).st = .empty ∧ (zoneOf s 1 1).group = none ∧
     openLimitReached (setReg s zsqPage O.ZSQ_OPEN_LIMIT 1#32) = true) ∧
    capsulePasses (upCapsule (capMgmt 1 0)) 5 (capsuleOf (capMgmt 1 0)) = true ∧
    capsulePasses (upCapsule (capMgmt 2 1)) 5 (capsuleOf (capMgmt 2 1)) = true ∧
    capsulePasses (upCapsule (capMgmt 3 1)) 5 (capsuleOf (capMgmt 3 1)) = true ∧
    (let s := { upCapsule (capMgmt 3 0) with zones := Tab.empty.set (zoneKey 1 0) { st := .full } }
     (zoneOf s 1 0).st ≠ .empty ∧ (zoneOf s 1 0).group = none ∧ zoneWrites s 1 0 = [] ∧ s.pair.mirror ≠ .mirroring ∧
     s.commands.get s.accepted = none ∧ capsulePasses s 5 (capsuleOf (capMgmt 3 0)) = true) ∧
    (let c : Command := { conn := 5, cid := 7, op := 0x08, ns := 1, zone := 0, arg := 2, phase := .holding, count := 1 }
     let s := { upCapsule [] with commands := Tab.empty.set 1 c
                                  zones := Tab.empty.set (zoneKey 1 0) { st := .opened, hold := some 1, written := 5, capacity := 9 } }
     (s.commands.entries.find? fun e => e.2.conn = 5 && e.2.cid = 7 && e.2.op = 0x08 && e.2.phase = .holding) = some (1, c) ∧
     s.commands.get 1 = some c ∧ (zoneOf s 1 0).hold = some 1 ∧ zoneWrites s 1 0 = [] ∧ c.stripesLeft = [] ∧ (connOf s 5).st = .ready ∧
     0 < (zoneOf s 1 0).written ∧ (zoneOf s 1 0).group = none ∧ s.pair.mirror ≠ .mirroring) ∧
    (let s := { upCapsule [] with namespaces := Tab.empty.set 1 { st := .retiring } }
     (nsOf s 1).st = .retiring ∧ zsqTakes s = true ∧ worksBehind s = true ∧ nextZone { s with zones := .empty } 1 = none ∧
     nextZone { s with zones := Tab.empty.set (zoneKey 1 0) { st := .full } } 1 = some 0) := by decide
theorem wit_AccessTokens_arrives : Arrives (upCapsule (capToken 1)) 5 (capsuleOf (capToken 1)) :=
  arrives_of (by decide) (by decide) (by decide) (by decide) (by decide) (by decide) (by decide) (by decide)
/-- A token for witnesses. -/
def aToken : List Byte :=
  leBytes 2 1 ++ leBytes 2 160 ++ leBytes 4 0 ++ leBytes 8 3 ++ leBytes 4 7 ++ leBytes 4 0 ++ leBytes 8 0 ++ leBytes 8 1000 ++ zeros 120
theorem wit_AccessTokens :
    capsulePasses (upCapsule (capToken 1)) 5 (capsuleOf (capToken 1)) = true ∧ (upCapsule (capToken 1)).time.isSet = false ∧
    capsulePasses (upCapsule (capToken 257)) 5 (capsuleOf (capToken 257)) = true ∧
    (let c : Command := { conn := 5, cid := 7, op := 0x18, arg := 1, phase := .tokenRead }
     let s := { upCapsule [] with commands := Tab.empty.set 1 c }
     findCmd s 5 7 = some (1, c) ∧ s.commands.get 1 = some c ∧ s.crypto.halted = false ∧ (connOf s 5).st = .ready ∧
     tokenFault s 5 aToken true = none ∧ tokenFault s 5 aToken false = some 2) := by decide

/-- A part whose connection 5 is READY on engine 0 with its context cached, and a region 4 of it. -/
def upNetConn (c : Conn) (r : Region) : State :=
  { upWith [xptPage 0, cmdPage] with
    conns := Tab.empty.set 5 { c with st := .ready }, regions := Tab.empty.set 4 r
    engines := Tab.empty.set 0 { cache := Tab.empty.set 0 5 } }
/-- A packet for that region. -/
def aPacket (psn : Nat) (off : Nat) : Packet := { qpn := 65541, psn := psn, key := 0x401#32, off := off }
def aRegion : Region := { st := .valid, owner := 5, kind := .window, len := 4096, canRead := true, canWrite := true, canFlush := true }
theorem wit_ReceivedRequests_pipeline : Pipeline (upNetConn {} aRegion) 5 (aPacket 0 0) :=
  ⟨by decide, by decide, by decide, by decide, by decide, by decide, by decide, by decide, by decide⟩
theorem wit_ReceivedRequests :
    keyCheck (upNetConn {} aRegion) 5 (aPacket 0 0).key .write 0 8 = some 4 ∧
    keyCheck (upNetConn {} aRegion) 5 (aPacket 0 0).key .write 4096 8 = none ∧
    keyCheck (upNetConn {} { aRegion with kind := .dram }) 5 (aPacket 0 0).key .write 4088 8 = some 4 ∧
    keyCheck (upNetConn {} { aRegion with kind := .ring }) 5 (aPacket 0 0).key .write 64 64 = some 4 ∧
    keyCheck (upNetConn {} aRegion) 5 (aPacket 0 0).key .read 0 4096 = some 4 ∧
    keyCheck (upNetConn {} aRegion) 5 (aPacket 0 0).key .flush 0 0 = some 4 ∧
    keyCheck (upNetConn {} {}) 5 (aPacket 0 0).key .read 0 8 = none ∧ keyCheck (upNetConn {} {}) 5 (aPacket 0 0).key .write 0 8 = none ∧
    (connOf (upNetConn {} aRegion) 5).ePsn = 0 ∧ (connOf (upNetConn {} aRegion) 5).slots.has 1 = false ∧
    (connOf (upNetConn { resources := [(2 ^ 24 - 1, 4, 0, 8, false)] } aRegion) 5).resources.find? (fun r => r.1 = 2 ^ 24 - 1) =
      some (2 ^ 24 - 1, 4, 0, 8, false) ∧
    psnPlace {} 4 = .ahead ∧ psnPlace {} (2 ^ 24 - 1) = .duplicate ∧
    (connOf (upNetConn { fetching := true, ackAt := some 3 } aRegion) 5).fetching = true ∧
    (upNetConn { fetching := true } aRegion).parked.getD 5 [] = [] ∧
    (connOf (upNetConn { slots := Tab.empty.set 1 0 } aRegion) 5).slots.has 1 = true ∧
    wrapGap 32 0 0 ≤ 0 ∧ wrapGap 32 0 1 = 1 := by decide
/-- A REQ for witnesses. -/
def aReq : CmReq :=
  { port := 0, sub := 0, serviceId := 0x5E1A489600000001, rc := true, mtu := 4096, hostQpn := 9, hostIp := 0xFFFF0A000001, udpPort := 50000
    psn := 7, retryCount := 7, priv := leBytes 1 1 ++ leBytes 1 0 ++ leBytes 1 10 ++ zeros 89, pointOk := true, ring := 3, ctag := 4 }
set_option maxRecDepth 20000 in
theorem wit_Connections_req : 
    duplicateReq (upNetConn {} {}) aReq = false ∧ rejectCode (upNetConn {} {}) aReq = none ∧ freeNumber (upNetConn {} {}) = some 0 ∧
    (chooseEngine (upNetConn {} {}) (flowHash aReq)).isSome = true ∧ regionFree (upNetConn {} {}) 3 = true ∧
    (aReq.priv.getD 1 0#8).toNat % 2 = 0 ∧ rejectCode (upNetConn {} {}) { aReq with mtu := 5 } = some 3 ∧
    duplicateReq (upNetConn { hostIp := 0xFFFF0A000001, hostQpn := 9, udpPort := 50000 } {}) aReq = true := by decide
theorem wit_Connections :
    (connOf { upNetConn {} {} with conns := Tab.empty.set 5 { st := .setup, deadline := some 4 } } 5).st = .setup ∧
    (let s := { upNetConn {} {} with conns := Tab.empty.set 5 { st := .closing, ownDreq := true, deadline := some 4 } }
     (connOf s 5).st = .closing ∧ (connOf s 5).ownDreq = true ∧ (connOf s 5).deadline = some 4) ∧
    (connOf { upNetConn {} {} with conns := Tab.empty.set 5 { deadline := some 4 } } 5).st = .free ∧
    (let s := setReg (upNetConn {} {}) (xptPage 0) O.XPT_RT_KEY 0x400#32
     writeReaches s 3 (xptPage 0) O.XPT_RT_CMD = true ∧ bit (regOf s (xptPage 0) O.XPT_RT_CMD) 31 = false ∧
     regField s (xptPage 0) O.XPT_RT_KEY 8 24 = 4 ∧ rtResult s 0 1 = 5 ∧ rtResult s 0 2 = 3 ∧ rtResult s 0 3 = 0 ∧
     rtResult { s with regions := Tab.empty.set 4 { st := .valid } } 0 2 = 0 ∧
     rtResult { s with conns := Tab.empty.set 0 { st := .ready } } 0 1 = 0) ∧
    (regionOf (upNetConn {} { st := .revoking, byPort := some 1 }) 4).st = .revoking := by decide
theorem wit_RequesterSide :
    (let s := upNetConn { nPsn := 3, retxAt := some 9 } {}
     (connOf s 5).st = .ready ∧ psnGap (connOf s 5).uPsn 2 < psnGap (connOf s 5).uPsn (connOf s 5).nPsn ∧
     psnGap (connOf s 5).uPsn (connOf s 5).nPsn ≤ psnGap (connOf s 5).uPsn 3 ∧ 0 < (connOf s 5).retriesLeft ∧
     (connOf s 5).retxAt = some 9 ∧ (connOf s 5).lastCut = none ∧ (connOf s 5).ordered = false) ∧
    (connOf (upNetConn { retriesLeft := 0, retxAt := some 9, ordered := true } {}) 5).retriesLeft = 0 ∧
    (let s := setReg (upNetConn { lastCut := some 0 } {}) (xptPage 0) O.XPT_CC_CFG 0x3200#32
     s.time.now - 0 < regField s (xptPage (connOf s 5).engine) O.XPT_CC_CFG 8 8 * 800) ∧
    (let c := { aRead with phase := .delivering }
     let s := { upNetConn {} {} with commands := Tab.empty.set 1 c }
     findCmd s 5 3 = some (1, c) ∧ s.commands.get 1 = some c) ∧
    (let c := { aRead with phase := .flushing, count := 2 }
     let s := { upNetConn {} {} with commands := Tab.empty.set 1 c }
     findCmd s 5 3 = some (1, c) ∧ 1 < c.count ∧ c.aborted = false ∧ c.op = 0x01) := by decide

/-- A part with PAIR enabled in a role. -/
def upPair (p : Pair) : State :=
  { upWith [pairPage, mlkPage 3] with pair := p, links := Tab.empty.set 3 { st := .active } }
/-- A heartbeat for witnesses. -/
def aHeartbeat (claim : Nat) (role : Role) (seq : Nat) : Heartbeat := { claim := claim, role := role, epoch := 4, lastSeq := seq, crc := 7, drill := 0 }
theorem wit_HeartbeatsAndClaims_paths :
    heartbeatsSent (upPair { bootAt := some 0, kicked := true }) = true ∧ heartbeatsSent (upPair {}) = false ∧
    writeReaches (upPair {}) 3 pairPage O.PAIR_KICK = true ∧ (upPair { kicked := true }).boot.act = .none ∧
    isEnabled (upPair {}) pairPage = true ∧ isEnabled State.reset pairPage = false ∧ roleOpen (upPair {}) = false ∧
    (aHeartbeat 0 .active 0).claim ≤ claimOf (upPair {}) ∧
    (upPair { role := .active }).rules = true ∧ claimOf (upPair { role := .active }) < (aHeartbeat 9 .active 0).claim ∧
    (aHeartbeat 0 .active 0).lastSeq = (upPair { role := .standby, mirror := .mirroring }).journalSeq ∧
    (aHeartbeat 0 .active 0).crc ≠ mirrorCrc (upPair { role := .standby, mirror := .mirroring }) ∧
    roleOpen { upPair {} with boot := { stage := 8 } } = true ∧ (upPair {}).secWait = [] ∧
    (aHeartbeat 0 .boot 0).lastSeq < ({ upPair {} with journalSeq := 5 } : State).journalSeq ∧
    (upPair {}).journalSeq < (aHeartbeat 0 .boot 3).lastSeq ∧
    countValid none (field (wireWordOf 5 2 9) 8 16) = true ∧ countValid (some 9) (field (wireWordOf 5 2 9) 8 16) = false ∧
    field (wireWordOf 5 2 9) 0 8 = crc8 0 (wireBytes (field (wireWordOf 5 2 9) 28 4) (field (wireWordOf 5 2 9) 24 4) (field (wireWordOf 5 2 9) 8 16)) ∧
    field (wireWordOf 5 2 9) 28 4 = 5 ∧
    field 0x52000001#32 0 8 ≠ crc8 0 (wireBytes (field 0x52000001#32 28 4) (field 0x52000001#32 24 4) (field 0x52000001#32 8 16)) := by decide
theorem wit_HeartbeatsAndClaims_loss :
    (upPair {}).pair.link.boundary.missed < 4 ∧
    ({ missed := 3 } : HbPath).boundary.missed = 4 ∧ 4 ≤ ({ missed := 3 } : HbPath).boundary.missed ∧
    bit (regOf (setReg (upPair { role := .standby }) pairPage O.PAIR_CFG 0#32) pairPage O.PAIR_CFG) 31 = false ∧
    bit (regOf (setReg (upPair { role := .standby }) pairPage O.PAIR_CFG 0x80000000#32) pairPage O.PAIR_CFG) 31 = true ∧
    activeSlots (upPair {}) = [3] ∧ (upPair { bootAt := some 3 }).pair.bootAt = some 3 ∧
    ({ upPair { wire := { ever := true }, peerClaim := 0, epoch := 2 } with boot := { stage := 8 } } : State).pair.peerClaim <
      claimOf ({ upPair { wire := { ever := true }, peerClaim := 0, epoch := 2 } with boot := { stage := 8 } } : State) ∧
    claimOf (upPair { peerClaim := 5 }) ≤ (upPair { peerClaim := 5 }).pair.peerClaim ∧
    linkActive (upPair {}) 3 = true ∧ (linkOf (upPair {}) 3).tags.get 2 = none ∧
    (let s := { upPair { role := .active, probes := [3, 4] } with
       links := Tab.empty.set 3 { st := .active, tags := Tab.empty.set 2 { op := 0x05, why := .probe } } }
     (linkOf s 3).tags.get 2 = some { op := 0x05, why := .probe } ∧ (∃ m ∈ s.pair.probes, m ≠ 3) ∧ s.rules = true) := by decide
theorem wit_MirrorAndTakeover_frames :
    isEnabled (upPair { role := .standby, mirror := .mirroring }) pairPage = true ∧
    (1 = (upPair { role := .standby, mirror := .mirroring }).journalSeq + 1 ∧ (upPair {}).pair.peerSeq ≠ 1) ∧
    (upPair { role := .standby, mirror := .syncing }).pair.early = [] ∧
    (upPair { role := .active, mirror := .syncing }).rules = true ∧ (upPair { role := .active, mirror := .syncing }).pair.sentSeq ≤ 0 ∧
    (upPair {}).rules = false ∧ (upPair {}).secWait = [] ∧
    (let b : PairBind := { ownPoint := 1, peerPoint := 2, peerHolds := false, peerHigher := true }
     ({ upPair {} with sec := { binding := some b } } : State).sec.binding = some b) ∧
    (upPair { role := .standby, mirror := .mirroring }).pair.barred = false ∧ isEnabled State.reset pairPage = false := by decide
theorem wit_MirrorAndTakeover_takeover :
    (upPair { role := .takingOver, confirmAt := some 5 }).pair.confirmAt = some 5 ∧ (upPair {}).pair.confirmAt = none ∧
    (upPair { role := .isolated }).die.claim ≤ claimOf (upPair { role := .isolated }) ∧ claimOf (upPair { role := .isolated }) < 9 ∧
    dieReachable { upPair {} with die := { linkUp := false } } = false ∧
    (let s := { upPair { epoch := 3 } with die := { claim := 5, owner := false, linkUp := true } }
     dieReachable s = true ∧ 4 ≤ s.die.claim ∧ 4 < claimOf s ∧ s.die.owner = false) ∧
    writeReaches (upPair {}) 3 pairPage O.PAIR_DRILL_CMD = true ∧ drillRefused (upPair {}) = 1 ∧
    drillRefused (upPair { role := .active, mirror := .mirroring, link := { ever := true }, wire := { ever := true } }) = 0 ∧
    holdDrained (upPair {}) = true ∧ holdDrained { upPair {} with commands := Tab.empty.set 1 aWrite } = false ∧
    (upPair { role := .standby, lostDeclared := true }).pair.barred = false ∧
    handoverOpen (upPair { role := .active, drill := .draining }) = true ∧ handoverOpen (upPair {}) = false ∧
    (upPair { role := .active, drill := .dwelling }).pair.drill = .dwelling ∧
    (upPair { drillDays := 6 }).pair.drillDays ≠ 0xFFFF ∧ (upPair { drillDays := 0xFFFF, mirrorDays := some 2 }).pair.mirrorDays = some 2 ∧
    regField (setReg (upPair { drillDays := 6 }) pairPage O.PAIR_DRILL_CFG 0x00030000#32) pairPage O.PAIR_DRILL_CFG 16 8 < min 0xFFFE (6 + 1) := by decide

theorem wit_StepsKeepInvariant : Inv State.reset ∧ ∃ t, step State.reset = .next t := ⟨⟨by decide, by decide⟩, _, rfl⟩
theorem wit_QuietCommandsFrame : reachesUnits (.rtu 5) = false ∧ reachesUnits .flr = true ∧ ∃ t, exec (.rtu 5) State.reset = .next t :=
  ⟨rfl, rfl, _, rfl⟩
theorem wit_StepRunsFrontCommand : State.reset.pending = [] := rfl

end Sys2Proof.Tests
end

/-! The scope of a step (R4): the command at the front of the queue runs on the state with the queue's rest, and on an
empty queue one period passes. -/
namespace Sys2Proof.Machine

/-- Taking the front command off the queue undoes putting it there. -/
@[simp] theorem tail_pending_cons (c : Instr) (s : State) : State.tail { s with pending := c :: s.pending } = s := rfl

theorem step_of_pending_cons {s : State} {c : Instr} {cs : List Instr} (h : s.pending = c :: cs) :
    step s = exec c s.tail := by
  rw [step, h]

theorem step_of_pending_nil {s : State} (h : s.pending = []) : step s = .next (elapse s 1) := by
  rw [step, h, idle]

@[simp] theorem elapse_now (s : State) (dt : Nat) : (elapse s dt).time.now = s.time.now + dt := rfl

/-- The passing of time moves the time base, the clocks and the page headers (R158, R419, R440) and nothing else. -/
theorem elapse_frame (s : State) (dt : Nat) :
    elapse s dt =
      { s with time := (elapse s dt).time, clk := (elapse s dt).clk, pages := (elapse s dt).pages } := rfl

/-- Settles O1: the front command is taken off before exec runs; on an empty queue the step is elapse by one period,
whose frame leaves all but the time base, the clocks and the page headers. -/
theorem stepRunsFrontCommand : Obligations.StepRunsFrontCommand := by
  intro c s
  constructor
  · have hfront := step_of_pending_cons (s := { s with pending := c :: s.pending }) rfl
    rwa [tail_pending_cons] at hfront
  · intro hempty
    exact ⟨elapse s 1, step_of_pending_nil hempty, elapse_now s 1, elapse_frame s 1⟩

end Sys2Proof.Machine
